-- ==== Sys2Proof/Word.lean ====
section
/-! DEFINITION. The plain types every other file uses: bytes, register words, 64-bit microcode words and sparse tables. -/

namespace Sys2Proof

/-- One byte, as DRAM, the journal and ADP data items hold it. -/
abbrev Byte := BitVec 8

/-- One 32-bit register or tunnel word (R497). -/
abbrev Word := BitVec 32

/-- One 64-bit microcode register, step instruction or Reckoner item. -/
abbrev Word64 := BitVec 64

/-- A sparse table: rising keys, each with its value; an unlisted key holds the table's default. -/
abbrev Tbl (α : Type) := List (Nat × α)

end Sys2Proof
end

