-- ==== Sys2Proof/Syntax.lean ====
section
/-! DEFINITION. The commands of the DN7680 block: one constructor for each row of the opcode table (spec/opcode_table.json),
each with the operands its rules speak of. -/

namespace Sys2Proof

/-- The header of an ADP control message with one item, as the MACs deliver it (Table 16.2, R468): port 0 is E0, 1 is E1;
`bytes` is the message's length. -/
structure Hdr where
  port : Nat
  session : Nat
  seq : Nat
  bytes : Nat := 32
deriving DecidableEq, Repr

/-- The value part of a data item (Table 16.4): type code and data, most significant byte first. -/
structure Data where
  ty : Nat
  bytes : List Byte
deriving DecidableEq, Repr

/-- How a command that has both a dictionary entry and a register bit reaches the block. -/
inductive Path where
  | od (h : Hdr) (d : Data)   -- a WRITE request with this one item
  | reg                       -- the register bit, already written
deriving DecidableEq, Repr

/-- How a bond frame arrives: on the BOND lines, with the fields that the command's operands give and `check` for its preamble and CRC-8 (Tables
2.2 and 2.3), or as the 32 bytes of a bond message, which say everything themselves (Table 2.9). -/
inductive Via where
  | lines
  | eth (msg : List Byte)
deriving DecidableEq, Repr

/-- A read item, a data item or a tunnel item of a message (Table 16.4). -/
structure ReadItem where
  idx : Nat
  sub : Nat
deriving DecidableEq, Repr

/-- A data item: index, sub-index and value. -/
structure DataItem where
  idx : Nat
  sub : Nat
  val : Data
deriving DecidableEq, Repr

/-- A tunnel item (R503): `width` 0 is 32 bits, 1 is 64, 2 is 16, 3 is 8; `count` counts 32-bit words. -/
structure TunnelItem where
  write : Bool
  inc : Bool
  width : Nat
  count : Nat
  addr : Nat
  words : List Nat := []
deriving DecidableEq, Repr

/-- One sample of a pin's comparator halves at a strobe: crossed `above` VOH, crossed `below` VOL (R147). -/
structure Halves where
  above : Bool
  below : Bool
deriving DecidableEq, Repr

/-- The commands. -/
inductive Instr where
  /-- CAL_RESTART (R48): TB_CTRL.cal_restart or OD 0x200A.00 restarts the initial skew calibration. -/
  | calRestart (path : Path)
  /-- TIMEKEEPER_SELECTION_WRITE (R590): OD 0x2003.00 is stored and applied to TB_CTRL at once or held pending. -/
  | timekeeperSelectionWrite (h : Hdr) (d : Data)
  /-- CHIP_NUMBER_WRITE (R87): OD 0x2002.00 sets or unassigns the chip number. -/
  | chipNumberWrite (h : Hdr) (d : Data)
  /-- BOND_SLOT_WRITE (R591): The bond ID, Quoin, member list or site mask of a slot is written. -/
  | bondSlotWrite (h : Hdr) (d : Data) (n sub : Nat)
  /-- BOND_FORM (R591): The form command of a bond slot is checked and starts formation. -/
  | bondForm (h : Hdr) (d : Data) (n : Nat)
  /-- BOND_DISSOLVE (R86): The dissolve command of a bond slot takes effect at each site's next step boundary. -/
  | bondDissolve (h : Hdr) (d : Data) (n : Nat)
  /-- BOND_RESUME (R83): The resume command of a REJOINED slot names the bonded step at which held sites rejoin. -/
  | bondResume (h : Hdr) (d : Data) (n : Nat)
  /-- K_RESET (R95): TLY_CTRL.k_reset or OD 0x2209.00 sets k to 1.000 and reloads the baselines. -/
  | kReset (path : Path)
  /-- BUDGET_WRITE (R120): The chip budget is written, clamped to 40 W to 240 W and stored. -/
  | budgetWrite (path : Path) (v : Nat)
  /-- ANALOG_RESERVE_WRITE (R97): The Precision analogue reserve is written. -/
  | analogReserveWrite (path : Path) (v : Nat)
  /-- MODE_CHANGE_COMMAND (R128): OD 0x1101.00 is checked and the MODE_CHANGE record is scheduled for T. -/
  | modeChangeCommand (h : Hdr) (d : Data)
  /-- STROBE_NOW (R164): Function 0x1F enters a LOAD_STROBE naming every channel at acceptance + 10 µs. -/
  | strobeNow (h : Hdr) (d : Data) (c : Nat)
  /-- TRIP_LATCH_CLEAR (R152): Software clears a pin trip latch through PCH_TRIP_LATCH or function 0x12. -/
  | tripLatchClear (path : Path) (c p : Nat) (holds : Bool)
  /-- PIN_REPAIR (R170): Function 0x16 starts the repair of a logical pin by the spare. -/
  | pinRepair (h : Hdr) (d : Data) (c : Nat)
  /-- SPARE_RELEASE (R173): Writing 0xFF to the repair command returns the pin to its own electronics. -/
  | spareRelease (h : Hdr) (c : Nat)
  /-- DERATED_RESTORE (R172): Function 0x19 restores a derated pin channel. -/
  | deratedRestore (h : Hdr) (d : Data) (c p : Nat)
  /-- ENVELOPE_WRITE (R165): The Owner writes and stores a pin channel's voltage or current envelope. -/
  | envelopeWrite (h : Hdr) (d : Data) (c n : Nat) (current : Bool)
  /-- APPLY_NOW (R201): TMG_CTRL.apply_now or function 0x6 takes a snapshot and applies it at once when not streaming. -/
  | applyNow (path : Path) (c : Nat)
  /-- TIMING_SET_WRITE (R182): A staged timing-set period or edge write is checked and stored. -/
  | timingSetWrite (h : Hdr) (d : Data) (c ss : Nat) (edges : Bool)
  /-- FIXTURE_DESKEW_WRITE (R204): Fixture deskew is stored and staged for the next apply boundary. -/
  | fixtureDeskewWrite (h : Hdr) (d : Data) (c pp : Nat)
  /-- DESCRIPTOR_WRITE (R214): Function 0x0 writes a segment descriptor after checks. -/
  | descriptorWrite (h : Hdr) (d : Data) (c : Nat)
  /-- JUMP_REQUEST (R223): Function 0x6 or PAT_CTRL.jreq raises a jump request for the latch. -/
  | jumpRequest (path : Path) (c : Nat)
  /-- APG_ENABLE_WRITE (R240): APG_CTRL.en or function 0xB enables or idles the APG. -/
  | apgEnableWrite (path : Path) (c : Nat) (on : Bool)
  /-- FAIL_BUFFER_READ_INDEX (R257): Function 0x7 moves the fail buffer read index and frees space. -/
  | failBufferReadIndex (h : Hdr) (d : Data) (c : Nat)
  /-- TALLY_CLEAR (R261): APG_TALLY_CLR or function 0xA clears a site's fail tally from the first vector 40 ns later. -/
  | tallyClear (path : Path) (c t : Nat)
  /-- THREAD_START (R268): Function 0x3 or a run bit starts a thread after the autonomy walk. -/
  | threadStart (path : Path) (k : Nat)
  /-- THREAD_STOP (R293): Function 0x4 or a cleared run bit stops a thread at its next boundary. -/
  | threadStop (path : Path) (k : Nat)
  /-- OWNER_HOLD (R294): Function 0x5 or SEQ_TCTRL.hold holds a thread at its next boundary. -/
  | ownerHold (path : Path) (k : Nat)
  /-- OWNER_RESUME (R294): Function 0x6 or SEQ_TCTRL.resume releases an Owner hold. -/
  | ownerResume (path : Path) (k : Nat)
  /-- SET_EVENT_FLAGS (R284): Function 0x8 or SEQ_TEVT.set sets a thread's event flags. -/
  | setEventFlags (path : Path) (k mask : Nat)
  /-- STEP_MEMORY_WRITE (R269): Step memory is written, and a thread held at the written word decodes again. -/
  | stepMemoryWrite (h : Hdr) (d : Data) (c : Nat)
  /-- THREAD_CONFIG_WRITE (R264): Function 0x1 writes a stopped thread's site, home and region. -/
  | threadConfigWrite (h : Hdr) (d : Data) (k : Nat)
  /-- SLOT_GRID_WRITE (R274): Function 0x2 sets the slot origin and pitch from the next boundary. -/
  | slotGridWrite (h : Hdr) (d : Data) (k : Nat)
  /-- WAIT_LIMIT_WRITE (R304): Function 0x9 stores the wait limit and writes SEQ_WLIMIT. -/
  | waitLimitWrite (h : Hdr) (d : Data) (c : Nat)
  /-- COURSE_RESTART (R298): Function 0xC or SEQ_CTRL.mc_restart reloads the control store after a machine check. -/
  | courseRestart (path : Path) (c : Nat)
  /-- CUSTOMER_IMAGE_LOAD (R301): OD 0x5A00.00 verifies and stores a customer microcode image. -/
  | customerImageLoad (h : Hdr) (d : Data)
  /-- CONTEXT_WRITE (R309): OD 0x6000.00 writes contexts into DRAM and every cache that holds them. -/
  | contextWrite (h : Hdr) (d : Data)
  /-- RING_ACKNOWLEDGE (R332): OD 0x6F02.00 acknowledges records and frees ring space. -/
  | ringAcknowledge (h : Hdr) (d : Data)
  /-- STAT_CLEAR (R324): RCK_CTRL.stat_clr or OD 0x6400+s.07 clears a site's accumulators. -/
  | statClear (path : Path) (site : Nat)
  /-- SMU_TRIP_LATCH_CLEAR (R358): Software clears an SMU trip latch. -/
  | smuTripLatchClear (path : Path) (m : Nat) (holds : Bool)
  /-- SMU_REPAIR (R363): OD 0x4400 starts the repair of an SMU by its quadrant spare, or releases it. -/
  | smuRepair (h : Hdr) (d : Data) (q : Nat)
  /-- SMU_RESTORE (R365): OD 0x4011 restores a derated SMU. -/
  | smuRestore (h : Hdr) (d : Data) (m : Nat)
  /-- SMU_FORCE_NOW (R342): OD 0x4403 enters SMU_FORCE records for a quadrant at acceptance + 10 µs. -/
  | smuForceNow (h : Hdr) (d : Data) (q : Nat)
  /-- SMU_ENVELOPE_WRITE (R367): OD 0x4009 or 0x400A stores an SMU envelope. -/
  | smuEnvelopeWrite (h : Hdr) (d : Data) (m : Nat) (current : Bool)
  /-- WAV_FLAG_CLEAR (R380): Function 0x0C or a W1C write clears a waveform flag latch. -/
  | wavFlagClear (path : Path) (w : Nat)
  /-- WAV_RESERVATION_WRITE (R387): OD 0x4880.00 writes the source and digitizer reservation masks. -/
  | wavReservationWrite (h : Hdr) (d : Data)
  /-- WAV_RESTORE (R391): Function 0x0F restores a derated waveform channel. -/
  | wavRestore (h : Hdr) (d : Data) (w : Nat)
  /-- WAV_ENVELOPE_WRITE (R392): Function 0x0B stores a waveform channel envelope. -/
  | wavEnvelopeWrite (h : Hdr) (d : Data) (w : Nat)
  /-- SOFTWARE_EVENT (R399): OD 0x7400+n.08 gives a software trigger event. -/
  | softwareEvent (h : Hdr) (d : Data) (n : Nat)
  /-- ARM_NOW (R405): OD 0x7008.00 enters an ACQ_ARM at acceptance + 10 µs. -/
  | armNow (h : Hdr) (d : Data)
  /-- DISARM_ALL (R406): ACQ_CTRL.disarm_all or OD 0x7002.00 disarms every unit. -/
  | disarmAll (path : Path)
  /-- ACQ_UNIT_ENABLE (R395): An acquisition unit enable is checked for buffer placement and calendar demand. -/
  | acqUnitEnable (path : Path) (u : Nat) (on : Bool)
  /-- ACQ_UNIT_CONFIG_WRITE (R397): A dictionary write of unit configuration is checked against the acquisition share. -/
  | acqUnitConfigWrite (h : Hdr) (d : Data) (u fn : Nat)
  /-- ACQ_READ_INDEX_WRITE (R396): The host moves a unit's read index and frees buffer space. -/
  | acqReadIndexWrite (path : Path) (u v : Nat)
  /-- CAPTURE_LOG_ACKNOWLEDGE (R419): OD 0x7005.00 acknowledges capture records. -/
  | captureLogAcknowledge (h : Hdr) (d : Data)
  /-- FLN_COUNTER_CLEAR (R436): OD 0x780A clears a lane's counters. -/
  | flnCounterClear (h : Hdr) (d : Data) (n : Nat)
  /-- EYE_SCAN_START (R439): OD 0x780D or FLN_SCAN_CFG.start starts an eye scan. -/
  | eyeScanStart (path : Path) (n : Nat)
  /-- FLN_RESTORE (R440): OD 0x7811 restores a derated lane. -/
  | flnRestore (h : Hdr) (d : Data) (n : Nat)
  /-- SER_APPEND (R447): Function 0x5 appends transmit entries. -/
  | serAppend (h : Hdr) (d : Data) (c : Nat)
  /-- SER_RX_REMOVE (R454): Function 0x7 removes receive entries. -/
  | serRxRemove (h : Hdr) (d : Data) (c : Nat)
  /-- SER_START_NOW (R449): Function 0x8 enters a SER_START at acceptance + 10 µs. -/
  | serStartNow (h : Hdr) (d : Data) (c : Nat)
  /-- SER_ABORT (R455): Function 0x9 ends the entry in progress and empties the transmit queue. -/
  | serAbort (h : Hdr) (d : Data) (c : Nat)
  /-- OPEN (R476): An OPEN request creates an Owner or Observer session. -/
  | adpOpen (port : Nat) (addr : List Byte) (seq role telPort : Nat) (bytes : Nat)
  /-- CLOSE (R478): A CLOSE request closes a session; for the Owner it is a lapse. -/
  | adpClose (h : Hdr)
  /-- RENEW (R478): A RENEW request renews the lease. -/
  | adpRenew (h : Hdr)
  /-- READ (R472): A READ request returns dictionary entries. -/
  | adpRead (h : Hdr) (items : List ReadItem)
  /-- WRITE (R472): A WRITE request writes dictionary entries that have no row of their own. -/
  | adpWrite (h : Hdr) (items : List DataItem)
  /-- TUNNEL (R503): A TUNNEL request reads or writes registers. -/
  | adpTunnel (h : Hdr) (items : List TunnelItem)
  /-- BULK_OPEN (R481): A BULK_OPEN request opens a bulk transfer. -/
  | bulkOpen (h : Hdr) (idx sub dir len arg : Nat)
  /-- BULK_CANCEL (R484): A BULK_CANCEL request abandons a transfer. -/
  | bulkCancel (h : Hdr) (id : Nat)
  /-- LEASE_RESUME (R480): OD 0x8011.00 releases the lapse hold. -/
  | leaseResume (h : Hdr) (d : Data)
  /-- AUTONOMOUS_RUN_WRITE (R479): OD 0x8010.00 sets autonomous run. -/
  | autonomousRunWrite (h : Hdr) (d : Data)
  /-- ALLOWLIST_WRITE (R487): OD 0x8013.00 stores the Owner allowlist for the next OPEN. -/
  | allowlistWrite (h : Hdr) (d : Data)
  /-- NETWORK_CONFIG_WRITE (R487): A VLAN, address, medium, PTP or MACsec enable setting is stored for the next start-up. -/
  | networkConfigWrite (h : Hdr) (d : Data) (idx p : Nat)
  /-- MACSEC_KEY_WRITE (R464): OD 0x800A installs a MACsec key. -/
  | macsecKeyWrite (h : Hdr) (d : Data) (p : Nat)
  /-- RESTORE_DEFAULTS (R495): OD 0x1010.00 marks Stored entries for restore at the next start-up. -/
  | restoreDefaults (h : Hdr) (d : Data)
  /-- FAULT_CLEAR (R517): FC_STATUS or OD 0x9003.00 clears source bits and their escalations. -/
  | faultClear (path : Path) (mask : Nat)
  /-- FIRST_FAULT_REARM (R517): FC_FIRST.valid or OD 0x9004.00 clears and re-arms the first-fault capture. -/
  | firstFaultRearm (path : Path)
  /-- FAULT_INJECT (R524): FC_INJ.go or OD 0x9008.00 presents an injected report. -/
  | faultInject (path : Path)
  /-- ESCALATION_TIME_WRITE (R538): OD 0x9005.00 stores the escalation time. -/
  | escalationTimeWrite (h : Hdr) (d : Data)
  /-- RESTORE_SITE (R523): OD 0x9031.ss restores a parked site. -/
  | restoreSite (h : Hdr) (d : Data) (site : Nat)
  /-- RESTORE_COURSE (R523): OD 0x9032.cc restores a derated Course. -/
  | restoreCourse (h : Hdr) (d : Data) (c : Nat)
  /-- BIST_START (R530): OD 0x9020.00 or BST_CTRL.start starts a BIST run. -/
  | bistStart (path : Path)
  /-- BIST_ABORT (R530): OD 0x9021.00 or BST_CTRL.abort ends the run INCOMPLETE. -/
  | bistAbort (path : Path)
  /-- FUSE_SOFT_REPAIR_MAP (R536): OD 0x9041.00 fuses soft repair entries into the repair field. -/
  | fuseSoftRepairMap (h : Hdr) (d : Data) (bad : List Nat)
  /-- HARD_PPR (R528): OD 0x9052.0n fuses listed rows into hard post-package repair. -/
  | hardPpr (h : Hdr) (d : Data) (n : Nat)
  /-- CAL_LOAD_DRAFT (R543): OD 0xA003.00 loads the draft from the set in force. -/
  | calLoadDraft (h : Hdr) (d : Data)
  /-- CAL_DRAFT_WRITE (R566): OD 0xA002.00 replaces the calibration draft. -/
  | calDraftWrite (h : Hdr) (d : Data)
  /-- CAL_COMMIT (R543): OD 0xA004.00 checks and commits the draft as a new generation. -/
  | calCommit (h : Hdr) (d : Data)
  /-- CAL_REF_MODE_WRITE (R547): OD 0xA005.00 sets the CAL_REF mode and force value. -/
  | calRefModeWrite (h : Hdr) (d : Data)
  /-- STANDARD_VALUE_WRITE (R549): OD 0xA006.00 sets the external standard's value. -/
  | standardValueWrite (h : Hdr) (d : Data)
  /-- CAL_RUN (R548): OD 0xA007.00 starts a calibration run of one class. -/
  | calRun (h : Hdr) (d : Data)
  /-- ROLLBACK_ADVANCE (R553): OD 0x8104.00 raises the anti-rollback counter. -/
  | rollbackAdvance (h : Hdr) (d : Data)
  /-- KEY_ENROL (R560): OD 0x8105.00 enrols or rotates the customer code-signing key. -/
  | keyEnrol (h : Hdr) (d : Data)
  /-- IDLE_BANK_LOAD (R554): OD 0x8107.00 loads and checks a firmware image into the idle bank. -/
  | idleBankLoad (h : Hdr) (d : Data)
  /-- FIRMWARE_SWITCH (R555): OD 0x8108.00 starts the hitless firmware switch. -/
  | firmwareSwitch (h : Hdr) (d : Data)
  /-- QUOTE_NONCE_WRITE (R559): OD 0x8102.00 sets the attestation nonce. -/
  | quoteNonceWrite (h : Hdr) (d : Data)
  /-- ATTESTATION_QUOTE (R559): A read of OD 0x8102.01 builds and signs an attestation quote. -/
  | attestationQuote (h : Hdr)
  /-- KEYSTONE_LOCKSTEP_DISAGREE (R12): The two cores of the active Keystone pair disagree; a Degraded fault from source 37 is reported and change-over to the standby pair begins. -/
  | keystoneLockstepDisagree
  /-- KEYSTONE_CHANGEOVER_COMPLETE (R12): The standby Keystone pair resumes service within 300 µs of the disagreement. -/
  | keystoneChangeoverComplete (dt : Nat)
  /-- KEYSTONE_SERVICE_RESUME (R469): ADP service resumes after an outage or switch-over and the buffered requests are processed in timestamp order with the LATE flag. -/
  | keystoneServiceResume (dt : Nat)
  /-- PLUMB_CHECK_START (R195): Plumb takes an idle pin channel, found with no record due within 20 µs, and switches it to the calibration bus. -/
  | plumbCheckStart (c p : Nat)
  /-- PLUMB_CHECK_COMPLETE (R196): A Plumb timing check ends with its averaged rise, fall and compare measurement. -/
  | plumbCheckComplete (c p : Nat) (rise fall cmp : Int)
  /-- PLUMB_CANDIDATE_CHECK (R197): The Keystone accepts a Plumb candidate as pending, or rejects it with an Advisory fault from source 55. -/
  | plumbCandidateCheck (c p : Nat)
  /-- COMPARATOR_SELF_CHECK (R28): The 10 s self-check of a comparator runs in an idle gap. -/
  | comparatorSelfCheck (c p : Nat) (result : Option Bool)
  /-- PLUMB_GAP_TIMEOUT (R30): A pin channel has had no 20 µs gap for 60 s, and an Advisory fault from source 55 is reported. -/
  | plumbGapTimeout (c p : Nat)
  /-- PATROL_SCRUB (R527): A patrol scrub pass corrects and writes back lines and counts corrected symbols. -/
  | patrolScrub (n : Nat) (rows : List Nat)
  /-- NVM_WEAR_LEVELLING (R564): Journal blocks are reclaimed or moved, and erased after an erase-intent record is written. -/
  | nvmWearLevelling (b : Nat) (bad : Bool)
  /-- SYNC_EDGE (R36): At each SYNC edge every chip sets domain time to N × 10⁹ + φ, applies the new trim and updates its time state. -/
  | syncEdge (capture : Nat)
  /-- REFCLK_LOSS (R58): REFCLK shows no edge for 40 ns; the PLL switches to the internal oscillator and the chip enters REF_HOLDOVER. -/
  | refclkLoss
  /-- REFCLK_STABLE (R60): REFCLK has been present and stable for 10 ms, so the return is armed for a free SYNC edge. -/
  | refclkStable
  /-- SYNC_ABSENT (R61): SYNC has been absent for 1.5 s; sync_present is cleared and an Advisory fault from source 40 is reported. -/
  | syncAbsent
  /-- TIMEKEEPER_ABSENT (R34): No PRESENCE from position tk_pos has arrived for 1 ms; the card loses its timekeeper and chips enter DOMAIN_HOLDOVER. -/
  | timekeeperAbsent
  /-- PTP_SYNC_RECEIVE (R35): The card timekeeper receives a PTP Sync message and updates its servo measurement. -/
  | ptpSyncReceive (port origin n phi : Nat) (trim : Int) (lock : Bool)
  /-- PTP_DELAY_REQ (R465): The timekeeper transmits a one-step Delay_Req event message. -/
  | ptpDelayReq (port : Nat)
  /-- PTP_SYNC_TIMEOUT (R36): A LOCKED timekeeper has had no PTP Sync message for 3 s and enters DOMAIN_HOLDOVER. -/
  | ptpSyncTimeout
  /-- DOMAIN_HOLDOVER_LIMIT (R62): Time in DOMAIN_HOLDOVER exceeds the limit; a Degraded fault is reported and cross-card bonds are treated as unreachable. -/
  | domainHoldoverLimit
  /-- PRESENCE_SEND (R45): A chip sends PRESENCE in its position slot, at least once every 100 µs. -/
  | presenceSend
  /-- LEADER_FRAMES_SEND (R35): The timekeeper broadcasts TIME, ALIGN and TRIM frames in the leader slot between SYNC + 100 ms and SYNC + 900 ms. -/
  | leaderFramesSend (cal : List (Nat × Int))
  /-- PRESENCE (R33): A PRESENCE frame is received and the card roster and timekeeper choice are updated. -/
  | presence (chip pos mode tstate : Nat) (unassigned sync : Bool) (check : Nat)
  /-- POS_CONFLICT (R43): The chip's own frame has failed its CRC in 16 consecutive cycles; pos_conflict is set. -/
  | posConflict
  /-- TIME (R36): A TIME frame carrying N and the lock flags is received for the next SYNC edge. -/
  | timeFrame (n : Nat) (unlocked holdover : Bool) (check : Nat)
  /-- ALIGN (R36): An ALIGN frame carrying φ is received for the next SYNC edge. -/
  | alignFrame (phiNs frac : Nat) (check : Nat)
  /-- TRIM (R36): A TRIM frame carrying the rate correction is received for the next SYNC edge. -/
  | trimFrame (trim : Int) (check : Nat)
  /-- CAL (R47): A CAL frame reporting the timekeeper's mean d_BA for a position is received. -/
  | calFrame (pos : Nat) (meas dab : Int) (check : Nat)
  /-- INITIAL_CALIBRATION_COMPLETE (R48): The 4,096 initial skew exchanges are complete and cal_valid is set. -/
  | initialCalibrationComplete (dab : Int)
  /-- LINES_EN_WRITE (R85): TB_CTRL.lines_en is cleared or set, stopping or restarting the BOND line engine. -/
  | linesEnWrite (on : Bool)
  /-- JOIN (R64): The Quoin receives a JOIN and judges the member's time state. -/
  | join (via : Via) (bond chip tstate : Nat) (sync : Bool) (check : Nat)
  /-- READY (R68): A member receives READY and takes it as its first grant. -/
  | ready (via : Via) (bond inst check : Nat)
  /-- BOND_READY_DEADLINE (R68): No READY has arrived 1 ms before the activation instant, and the slot becomes FORM_FAILED. -/
  | bondReadyDeadline (n : Nat)
  /-- BOND_ACTIVATION (R68): At the activation instant a member that received READY sets the slot ACTIVE. -/
  | bondActivation (n : Nat)
  /-- BEAT_SEND (R70): The Quoin sends a BEAT with grant horizon G every 100 µs. -/
  | beatSend (n : Nat)
  /-- BEAT (R70): A member receives a BEAT and takes its grant horizon, becoming REJOINED after a partition. -/
  | beat (via : Via) (bond inst check : Nat)
  /-- MEMBER_BEAT_SEND (R70): A member sends MEMBER_BEAT every 100 µs. -/
  | memberBeatSend (n : Nat)
  /-- MEMBER_BEAT (R72): The Quoin receives a MEMBER_BEAT from a member. -/
  | memberBeat (via : Via) (bond chip check : Nat)
  /-- MEMBER_ABSENT (R72): The Quoin has received no MEMBER_BEAT from a member for 300 µs and declares it absent. -/
  | memberAbsent (n chip : Nat)
  /-- DEFER (R74): A DEFER is received; if timely the step moves on every member, otherwise it becomes a split step. -/
  | defer (via : Via) (bond inst check : Nat)
  /-- SPLIT_SEND (R76): At t0 a member sends SPLIT for a split step. -/
  | splitSend (n t0 : Nat)
  /-- SPLIT (R76): A SPLIT is received; the step is marked INVALID, or the deferring member withdraws its deferred step. -/
  | split (via : Via) (bond inst check : Nat)
  /-- BOND_LATENCY_CHECK (R67): Each second the bond message latency is published and checked against 20 µs. -/
  | bondLatencyCheck
  /-- BOND_DISSOLVE_COMPLETE (R86): Every site of a dissolving slot has passed its boundary; the slot returns to EMPTY and leaves its groups. -/
  | bondDissolveComplete (n : Nat)
  /-- LAUNCH_RECORD_ENTRY (R55): A launch record enters its queue and is classed as on time, lead-short or LATE. -/
  | launchRecordEntry (queue target action : Nat) (chipWide : Bool) (site payload instNs instFrac : Nat)
  /-- LOAD_STROBE (R161): At its instant the strobe copies the selected staged groups to the active set of every named channel. -/
  | loadStrobe (c : Nat)
  /-- SEGMENT_START (R218): At its instant the record anchors the grid, clears the jump latch and makes its segment current, or stops the stream. -/
  | segmentStart (c : Nat)
  /-- MODE_CHANGE (R131): At T the limits, calendar shares and baseline change and outputs behave as Table 4.6 gives. -/
  | modeChange
  /-- SMU_FORCE (R343): At its instant the record copies the selected SMU groups and clamps, checks the reservation, changes range and slews. -/
  | smuForce (q : Nat)
  /-- SMU_RANGE_STEP (R346): A non-adjacent current-range change takes its next 20 µs step. -/
  | smuRangeStep (m : Nat)
  /-- SMU_APERTURE (R353): At its instant the record opens an SMU measurement aperture. -/
  | smuAperture (q : Nat)
  /-- WAV_START (R369): At its instant the record copies the source and digitizer groups of a waveform channel and starts them. -/
  | wavStart (hf : Nat)
  /-- WAV_STOP (R381): At its instant the record freezes, ramps or disconnects the source, or ends a capture. -/
  | wavStop (hf : Nat)
  /-- FLN_START (R426): At its instant the record copies a lane's transmit and receive groups, clears counters and opens or closes a gate. -/
  | flnStart
  /-- SER_START (R450): At its instant the record runs the next n entries of the serial transmit queue, or aborts. -/
  | serStart (c : Nat)
  /-- TRIG_OUT (R404): At its instant the record sets or pulses a TRIG_OUT ball. -/
  | trigOut
  /-- MARKER_OUT (R404): At its instant the record sets or pulses a MARKER ball selected for records. -/
  | markerOut
  /-- ACQ_ARM (R406): At its instant the record arms, re-arms or disarms an acquisition unit. -/
  | acqArm
  /-- ADMISSION_DECISION (R98): At its admission horizon the Tally admits or refuses a step against the budget and the SMU limit. -/
  | admissionDecision
  /-- BONDED_COMMIT (R78): At t0 − 5 µs a provisionally admitted bonded step becomes committed. -/
  | bondedCommit
  /-- STEP_END (R92): A step's interval ends or its thread leaves it early; the Tally releases its remaining cost. -/
  | stepEnd (k : Nat)
  /-- POWER_SAMPLE (R93): Every 10 µs the rails are sampled, P_meas formed, and B and k updated. -/
  | powerSample (rails : List (Int × Nat)) (delivered : Nat)
  /-- LEDGER_BIN_RETIRE (R91): At each 10 µs bin boundary the oldest bin retires and a new bin enters with the standing steps' sums. -/
  | ledgerBinRetire
  /-- THERMAL_SAMPLE (R107): Every 10 µs every sensor is sampled and Tmax recomputed. -/
  | thermalSample (readings : List Int)
  /-- LEVEL_DWELL_END (R110): A level's 10 ms dwell ends and a condition that persists takes effect. -/
  | levelDwellEnd (level : Nat)
  /-- THERMAL_HALT_END (R119): Tmax has stayed below 105 °C for 10 ms and the full start-up runs. -/
  | thermalHaltEnd
  /-- THROTTLE_UPDATE (R111): Every 100 µs the throttle multiplier m_q is computed from Tmax. -/
  | throttleUpdate
  /-- TEMPERATURE_CORRECTION_RECOMPUTE (R115): Every 1 ms the temperature corrections are recomputed and merged into pending correction sets. -/
  | temperatureCorrectionRecompute
  /-- TRIP (R150): A pin's trip filter asserts and its trip group is cut within 20 ns and latched. -/
  | trip (c p : Nat)
  /-- PMU_MEASUREMENT_COMPLETE (R159): A PMU aperture ends and its result goes to the Reckoner and function 0x14. -/
  | pmuMeasurementComplete (c n : Nat) (value : Int) (clamp : Bool)
  /-- REPAIR_SWAP_COMPLETE (R170): The site has held and the matrix swap completes; swap_done is set and admission resumes. -/
  | repairSwapComplete (c : Nat)
  /-- VECTOR_START (R179): A vector starts on the grid and its edges, compares, markers and context switch are placed. -/
  | vectorStart (c : Nat) (samples : List Halves)
  /-- JUMP_DECISION_POINT (R225): 256 vectors before a run's end, the latch decides jump or continuation and a snapshot is latched. -/
  | jumpDecisionPoint (c : Nat)
  /-- RUN_END (R225): A segment run ends and the stream continues, jumps, repeats or stops. -/
  | runEnd (c : Nat)
  /-- HEAD_FETCH_COMPLETE (R219): The head of a segment path is present in the refill buffer. -/
  | headFetchComplete (c seg : Nat)
  /-- REFILL_STARVE (R226): The next vector is not in the buffer at its slot; slots are skipped and sites marked STARVED. -/
  | refillStarve (c : Nat)
  /-- REFILL_RESUME (R226): The missing granule is complete and the stream resumes with the missing vector. -/
  | refillResume (c : Nat)
  /-- DRAM_LINE_RETRY (R527): A line the outer code cannot correct is read again and an Advisory is reported. -/
  | dramLineRetry (n pc bank row line tries : Nat) (ok : Bool)
  /-- APG_INSTRUCTION_END (R241): At the end of an instruction's vpi vectors the APG applies its address and data operations and evaluates flow. -/
  | apgInstructionEnd (c : Nat)
  /-- FC_RESTART (R257): APG_CTRL.fc_restart clears the FIRST_N count, lost count and capture queue. -/
  | fcRestart (c : Nat)
  /-- STEP_BOUNDARY (R293): At a step boundary the thread parks, machine-checks, holds or decodes its next step. -/
  | stepBoundary (k : Nat)
  /-- NOP (R272): Step opcode 0x00, or a cleared tmask bit, advances the step PC. -/
  | stepNop (k : Nat) (bad : Bool)
  /-- END (R273): Step opcode 0x01 ends the thread's program with a final result record. -/
  | progEnd (k : Nat) (bad : Bool)
  /-- HOLD (R269): Step opcode 0x02 empties the step queue and holds the site. -/
  | stepHold (k : Nat) (bad : Bool)
  /-- SLOT (R274): Step opcode 0x03 sets the slot pitch. -/
  | stepSlot (k : Nat) (bad : Bool)
  /-- RUN (R278): Step opcode 0x08 applies contexts with a strobe at T0 and starts a segment on the stream owner. -/
  | stepRun (k : Nat) (bad : Bool)
  /-- LEVEL (R315): Step opcode 0x09 applies contexts with one load strobe at T0. -/
  | stepLevel (k : Nat) (bad : Bool)
  /-- MEAS (R320): Step opcode 0x0A applies contexts and starts their apertures into result slots. -/
  | stepMeas (k : Nat) (bad : Bool)
  /-- BR (R291): Step opcode 0x10 branches on a condition, waiting for COMPLETE for result conditions. -/
  | stepBr (k : Nat) (bad : Bool)
  /-- LOOP (R273): Step opcode 0x11 counts a step loop counter down and branches. -/
  | stepLoop (k : Nat) (bad : Bool)
  /-- CALL (R273): Step opcode 0x12 pushes the step stack and branches. -/
  | stepCall (k : Nat) (bad : Bool)
  /-- RET (R273): Step opcode 0x13 pops the step stack. -/
  | stepRet (k : Nat) (bad : Bool)
  /-- JUMP (R273): Step opcode 0x18 raises a pattern jump request at T0 + offset. -/
  | stepJump (k : Nat) (bad : Bool)
  /-- TALCLR (R273): Step opcode 0x19 issues a tally clear at T0 + offset. -/
  | talclr (k : Nat) (bad : Bool)
  /-- BIN (R326): Step opcode 0x20 sets the site's bin and may end it. -/
  | stepBin (k : Nat) (bad : Bool)
  /-- POST (R329): Step opcode 0x21 posts a result record. -/
  | stepPost (k : Nat) (bad : Bool)
  /-- WAITEV (R273): Step opcode 0x28 holds until an event flag in its mask is set. -/
  | waitev (k : Nat) (bad : Bool)
  /-- DELAY (R275): Step opcode 0x30 moves the next step's earliest slot on. -/
  | stepDelay (k : Nat) (bad : Bool)
  /-- CUSTOMER_OPCODE (R281): A customer opcode dispatches to its routine in the customer region. -/
  | customerOpcode (k : Nat) (bad : Bool)
  /-- MOV (R284): ALU operation MOV. -/
  | mov (k : Nat)
  /-- ADD (R284): ALU operation ADD, setting C and V. -/
  | add (k : Nat)
  /-- SUB (R284): ALU operation SUB, setting C and V. -/
  | sub (k : Nat)
  /-- AND (R284): ALU operation AND. -/
  | aluAnd (k : Nat)
  /-- OR (R284): ALU operation OR. -/
  | aluOr (k : Nat)
  /-- XOR (R284): ALU operation XOR. -/
  | aluXor (k : Nat)
  /-- SHL (R284): ALU operation SHL. -/
  | shl (k : Nat)
  /-- SHR (R284): ALU operation SHR. -/
  | shr (k : Nat)
  /-- ASR (R284): ALU operation ASR. -/
  | asr (k : Nat)
  /-- CMP (R284): ALU operation CMP sets flags of A − B. -/
  | cmp (k : Nat)
  /-- TST (R284): ALU operation TST sets flags of A AND B. -/
  | tst (k : Nat)
  /-- MUL (R284): ALU operation MUL, low 64 bits of the signed product. -/
  | mul (k : Nat)
  /-- MULH (R284): ALU operation MULH, high 64 bits of the signed product. -/
  | mulh (k : Nat)
  /-- MIN (R284): ALU operation MIN, signed. -/
  | aluMin (k : Nat)
  /-- MAX (R284): ALU operation MAX, signed. -/
  | aluMax (k : Nat)
  /-- EXT (R284): ALU operation EXT extracts a bit field. -/
  | aluExt (k : Nat)
  /-- SEXT (R284): ALU operation SEXT sign-extends from a bit. -/
  | sext (k : Nat)
  /-- BSET (R284): ALU operation BSET sets a bit. -/
  | bset (k : Nat)
  /-- BCLR (R284): ALU operation BCLR clears a bit. -/
  | bclr (k : Nat)
  /-- CONT (R282): SEQ code CONT continues at NEXT. -/
  | cont (k : Nat) (bad : Bool)
  /-- BRANCH (R282): SEQ code BRANCH goes to NEXT when COND is true. -/
  | branch (k : Nat) (bad : Bool)
  /-- MICRO_CALL (R282): SEQ code CALL pushes the microstack and goes to NEXT. -/
  | microCall (k : Nat) (bad : Bool)
  /-- MICRO_RET (R282): SEQ code RET pops the microstack. -/
  | microRet (k : Nat) (bad : Bool)
  /-- COMMIT (R287): SEQ code COMMIT commits the routine and drains its outbox in order. -/
  | commit (k : Nat) (bad : Bool)
  /-- MICRO_END (R287): SEQ code END commits and ends the step instruction's routine. -/
  | microEnd (k : Nat) (bad : Bool)
  /-- ABORT (R282): SEQ code ABORT discards uncommitted effects and marks the step INVALID. -/
  | abort (k : Nat) (bad : Bool)
  /-- RDREG (R285): Unit operation RDREG reads a Course register. -/
  | rdreg (k : Nat)
  /-- WRREG (R508): Unit operation WRREG writes a Course register at commit. -/
  | wrreg (k : Nat)
  /-- CTXF (R311): Unit operation CTXF fetches and locks contexts in the cache. -/
  | ctxf (k : Nat)
  /-- CTXS (R316): Unit operation CTXS stages a next context. -/
  | ctxs (k : Nat)
  /-- CTXA (R314): Unit operation CTXA writes contexts into staged sets. -/
  | ctxa (k : Nat)
  /-- COST (R88): Unit operation COST forms c, d and s. -/
  | cost (k : Nat)
  /-- UNIT_SLOT (R285): Unit operation SLOT sets T0 to a slot. -/
  | unitSlot (k : Nat)
  /-- ADMIT (R285): Unit operation ADMIT requests admission at T0. -/
  | unitAdmit (k : Nat)
  /-- LAUNCH (R286): Unit operation LAUNCH buffers a launch record at T0 + B ticks. -/
  | launch (k : Nat)
  /-- RKRD (R319): Unit operation RKRD reads a Reckoner item and clears its ready flag. -/
  | rkrd (k : Nat)
  /-- RKWR (R326): Unit operation RKWR writes a Reckoner item. -/
  | rkwr (k : Nat)
  /-- UNIT_POST (R329): Unit operation POST posts a result record. -/
  | unitPost (k : Nat)
  /-- JREQ (R285): Unit operation JREQ raises a jump request on every Course of the site. -/
  | jreq (k : Nat)
  /-- TCLR (R261): Unit operation TCLR clears the site's tally. -/
  | tclr (k : Nat)
  /-- SPUSH (R447): Unit operation SPUSH appends a serial transmit entry or data word. -/
  | spush (k : Nat)
  /-- SPOP (R454): Unit operation SPOP takes the head receive entry, removed at commit. -/
  | spop (k : Nat)
  /-- EVSET (R285): Unit operation EVSET sets an event flag of a thread. -/
  | evset (k : Nat)
  /-- EVCLR (R403): Unit operation EVCLR clears an own event flag and the trigger-seen flag. -/
  | evclr (k : Nat)
  /-- SPC (R285): Unit operation SPC sets the step PC. -/
  | spc (k : Nat)
  /-- MOVS (R285): Unit operation MOVS reads a special. -/
  | movs (k : Nat)
  /-- MOVT (R285): Unit operation MOVT writes a writable special. -/
  | movt (k : Nat)
  /-- TIMER (R285): Unit operation TIMER sets the thread timer. -/
  | timer (k : Nat)
  /-- VCALL (R299): Unit operation VCALL commits and calls an exported vendor service. -/
  | vcall (k : Nat) (bad : Bool)
  /-- ISSUE (R299): Vendor service ISSUE fetches, costs, admits and strobes the step's contexts. -/
  | issue (k : Nat)
  /-- FINISH (R299): Vendor service FINISH waits for COMPLETE and ends the routine as END. -/
  | finish (k : Nat)
  /-- SEGSTART (R299): Vendor service SEGSTART commits a SEGMENT_START at T0 on the stream owner. -/
  | segstart (k : Nat)
  /-- WAIT_RELEASE (R292): A microword held in WAIT finds its COND true and acts. -/
  | waitRelease (k : Nat)
  /-- WAIT_LIMIT_TIMEOUT (R292): Counted waits exceed the wait limit; the routine aborts and a Site-fatal fault is reported. -/
  | waitLimitTimeout (k : Nat)
  /-- THREAD_TIMER_EXPIRY (R284): A thread timer expires and condition TIMER becomes true. -/
  | threadTimerExpiry (k : Nat)
  /-- PARITY_RELOAD_COMPLETE (R295): The failing word is reloaded from the shadow and the routine runs again. -/
  | parityReloadComplete (k : Nat) (bad : Bool)
  /-- SHADOW_UNCORRECTABLE (R297): A shadow word shows an uncorrectable error and is reloaded from its source. -/
  | shadowUncorrectable (addr : Nat)
  /-- CUSTOMER_IMAGE_COURSE_COPY (R302): Once no thread is in a customer routine, the Course copies the image and clears cust_block. -/
  | customerImageCourseCopy (c : Nat)
  /-- CTXF_PROCEED (R311): A waiting CTXF finds room and locks its entries. -/
  | ctxfProceed (c : Nat)
  /-- CONTEXT_FETCH_COMPLETE (R312): Missed contexts arrive in the cache. -/
  | contextFetchComplete (c : Nat)
  /-- CONTEXT_PREFETCH (R313): A context-form instruction near the decode queue head has its contexts prefetched. -/
  | contextPrefetch (k : Nat)
  /-- CACHE_FLUSH (R310): CTX_CTRL.flush invalidates every unlocked cache entry. -/
  | cacheFlush (c : Nat)
  /-- RESULT_ARRIVAL (R320): A measurement or fail count arrives in the site's Reckoner share. -/
  | resultArrival (site : Nat)
  /-- RESULT_RECORD_WRITE (R331): A posted record enters the ring with the next sequence number when room exists. -/
  | resultRecordWrite (k : Nat)
  /-- SMU_MONITOR_TRIP (R357): An SMU window monitor filter asserts and its action completes within 20 ns. -/
  | smuMonitorTrip (m : Nat)
  /-- SMU_MEASUREMENT_DELIVERY (R354): An SMU aperture ends and its mean reaches the slot within 2 µs. -/
  | smuMeasurementDelivery (m : Nat) (value : Int)
  /-- SMU_PULSE_END (R355): A pulse width elapses and the output returns to its base. -/
  | smuPulseEnd (m : Nat)
  /-- KELVIN_OPEN (R351): Force and sense differ by 500 mV for 100 µs and the SMU changes to local sense. -/
  | kelvinOpen (m : Nat)
  /-- SMU_DISSIPATION_SAMPLE (R350): Every 10 µs each SMU computes its stage dissipation. -/
  | smuDissipationSample (m : Nat) (current voltage : Int)
  /-- SMU_AUTOZERO_START (R362): Plumb starts an autozero check of an SMU in standby. -/
  | smuAutozeroStart (m : Nat)
  /-- SMU_AUTOZERO_COMPLETE (R362): An autozero result is accepted or rejected. -/
  | smuAutozeroComplete (m irange vrange : Nat) (iOff vOff : Int)
  /-- SMU_REPAIR_COMPLETE (R363): The SMU swap completes, swap_done is set and admission resumes. -/
  | smuRepairComplete (q : Nat)
  /-- WAV_UNDERRUN (R376): A stream sample is not available in time and playback holds. -/
  | wavUnderrun (w : Nat)
  /-- WAV_ONE_SHOT_DONE (R375): A one-shot source buffer reaches its end and done is set. -/
  | wavOneShotDone (w : Nat)
  /-- WAV_CAPTURE_END (R385): A digitizer capture takes its last sample. -/
  | wavCaptureEnd (w : Nat) (codes : List Int)
  /-- WAV_REDUCTION_DELIVERY (R385): The capture reduction reaches its Reckoner slot. -/
  | wavReductionDelivery (w : Nat)
  /-- WAV_CURRENT_LIMIT (R379): The source output reaches its current limit and flags ilim. -/
  | wavCurrentLimit (w : Nat) (inForce : Bool)
  /-- WAV_PLUMB_CHECK (R389): Plumb checks a waveform channel's gain and offset and accepts or rejects. -/
  | wavPlumbCheck (w : Nat) (result : Option (List Int))
  /-- TRIGGER_EVENT (R399): A trigger unit's source gives an event and the unit counts it. -/
  | triggerEvent (n at_ : Nat)
  /-- ACQ_SEGMENT_COMPLETE (R408): A segment's last post sample is stored and its capture record is queued. -/
  | acqSegmentComplete (u : Nat) (values : List Nat)
  /-- DEAD_TIME_END (R415): A triggered unit's dead time ends once its latency passes and its record has room. -/
  | deadTimeEnd (u : Nat)
  /-- SMU_INTERVAL_SAMPLE (R411): An armed SMU unit delivers one interval mean. -/
  | smuIntervalSample (n : Nat) (mean : Int)
  /-- FLN_GATE_OPEN (R437): A lane gate opens after its delay. -/
  | flnGateOpen (n : Nat)
  /-- FLN_GATE_CLOSE (R437): A lane gate closes on expiry, record, mode exit or rx_en 0, storing its result. -/
  | flnGateClose (n : Nat)
  /-- FLN_ADAPTATION_COMPLETE (R434): Receiver adaptation completes and adapted is set. -/
  | flnAdaptationComplete (n : Nat)
  /-- FLN_ADAPTATION_TIMEOUT (R434): Adaptation has not completed within 1 ms and adapt_fail is set. -/
  | flnAdaptationTimeout (n : Nat)
  /-- FLN_CHECKER_LOCK (R435): The checker locks after 1,024 error-free bits. -/
  | flnCheckerLock (n : Nat)
  /-- FLN_LOCK_LOSS (R435): 256 of 1,024 bits are in error and the checker loses lock. -/
  | flnLockLoss (n : Nat)
  /-- FLN_BIT_ERROR (R438): A counted bit error gives a trigger event. -/
  | flnBitError (n : Nat) (symbol : Bool)
  /-- EYE_SCAN_COMPLETE (R439): An eye scan finishes all its points, or aborts. -/
  | eyeScanComplete (n : Nat) (counts : List Nat)
  /-- SER_ENTRY_START (R451): A serial entry begins at I, asserting selects and launching its first group. -/
  | serEntryStart (c : Nat)
  /-- SER_ENTRY_END (R451): The selects deassert after the last sample edge and lag. -/
  | serEntryEnd (c : Nat) (rx : List Nat)
  /-- SER_TARGET_SELECT_ASSERT (R456): In the target role a select assertion starts the target template. -/
  | serTargetSelectAssert (c : Nat)
  /-- SER_TARGET_SELECT_RELEASE (R457): In the target role a select release ends the transfer, possibly out of step. -/
  | serTargetSelectRelease (c : Nat) (groups : List Nat)
  /-- BULK_DATA (R483): A bulk DATA frame is received. -/
  | bulkData (port session id frame offset : Nat) (last : Bool) (data : List Byte)
  /-- BULK_ACK (R483): A bulk ACK frame is received and missing frames are resent. -/
  | bulkAck (port session id next : Nat) (bitmap : List Nat)
  /-- BULK_ACK_TIMER (R483): 50 µs after the last unacknowledged arrival an ACK is sent. -/
  | bulkAckTimer (id : Nat)
  /-- BULK_RESEND_TIMER (R483): No ACK has advanced for 2 ms and frame next is resent. -/
  | bulkResendTimer (id : Nat)
  /-- BULK_END (R484): A transfer completes with END once all frames are acknowledged. -/
  | bulkEnd (id : Nat)
  /-- BULK_STALL_TIMEOUT (R484): A transfer without progress for 1 s ends BULK_ABANDONED. -/
  | bulkStallTimeout (id : Nat)
  /-- LEASE_LAPSE (R479): No valid Owner request for 1,500 ms; the lease lapses and threads may hold. -/
  | leaseLapse
  /-- OBSERVER_TIMEOUT (R478): An Observer session closes after 1,500 ms without a request. -/
  | observerTimeout (session : Nat)
  /-- MACSEC_INTEGRITY_FAIL (R464): A frame fails its MACsec check and is discarded with an Advisory. -/
  | macsecIntegrityFail (p : Nat)
  /-- LINK_DOWN (R462): A port loses its link; the down event is set and retraining starts. -/
  | linkDown (p : Nat)
  /-- LINK_UP (R462): A port completes link bring-up. -/
  | linkUp (p : Nat)
  /-- LLDP_TRANSMIT (R461): Every 30 s an LLDP frame is transmitted. -/
  | lldpTransmit
  /-- LLDP_RECEIVE (R461): An LLDP frame is received and the neighbour kept. -/
  | lldpReceive (p : Nat) (chassis portId : List Byte) (ttl : Nat)
  /-- TELEMETRY_SAMPLE (R485): Every 10 ms telemetry is sampled and sent to subscribers. -/
  | telemetrySample
  /-- STORED_VALUE_JOURNALED (R494): An RWS value's journal record is programmed and verified and the write is answered. -/
  | storedValueJournaled (bad : Bool)
  /-- REGISTER_WRITE (R500): A write to a register with no row of its own applies its fields under the access and CFG rules. -/
  | registerWrite (addr v : Nat)
  /-- FAULT_REPORT (R515): A source reports a fault to the collector. -/
  | faultReport (src sev det row : Nat)
  /-- FIRST_FAULT_WINDOW_CLOSE (R516): The first-fault window closes and the highest candidate is captured. -/
  | firstFaultWindowClose
  /-- ESCALATION_EXPIRY (R520): An escalation entry expires with its source bit set and its action is taken. -/
  | escalationExpiry
  /-- FC_OVF_CLEAR (R517): Writing 1 to FC_OVF.ovf clears the overflow and count. -/
  | fcOvfClear
  /-- COLLECTOR_SELF_CHECK (R524): Every 10 s each source path is checked on a shadow latch. -/
  | collectorSelfCheck (failing : List Nat)
  /-- FAULT_LOG_WRITE (R526): The Keystone writes a fault log record to the journal. -/
  | faultLogWrite
  /-- BIST_SLICE_START (R531): A slice of a sliced run starts in a gap of the target. -/
  | bistSliceStart
  /-- BIST_COMPLETE (R533): A run ends and its verdict is judged. -/
  | bistComplete (sig expected src det : Nat) (repairs : List Nat)
  /-- BIST_TIME_LIMIT (R531): A run exceeds its time limit and ends INCOMPLETE. -/
  | bistTimeLimit
  /-- CAL_RUN_COMPLETE (R549): A calibration run ends and writes its class into the draft. -/
  | calRunComplete (reading : Int)
  /-- SWITCH_LOADED (R555): The standby pair has verified and started the new firmware; STAGED or FAILED. -/
  | switchLoaded (ok : Bool)
  /-- SWITCH_QUIET_POINT (R555): At a quiet point, or after 100 ms by buffering, the active pair freezes and hands over. -/
  | switchQuietPoint
  /-- PROBATION_END (R555): Probation ends after 10 s and the boot record prefers the new bank. -/
  | probationEnd
  /-- SWITCH_REVERT (R556): The new firmware fails in probation and the old pair takes over. -/
  | switchRevert
  /-- POWER_ON_RESET_ASSERT (R575): A rail falls below power-good and the power-on reset asserts. -/
  | powerOnResetAssert (r : Nat) (mv : Int)
  /-- RESET_N_ASSERT (R577): RESET_N is held low for 1 µs and outputs go to their reset states. -/
  | resetNAssert
  /-- RESET_RELEASE (R576): At t0 POS_ID is sampled and the start-up sequence begins. -/
  | resetRelease (pos : Nat) (por : Bool) (rails : List (Int × Nat))
  /-- STARTUP_STEP_COMPLETE (R579): A start-up step completes and the next begins, ending in Safe. -/
  | startupStepComplete (dt : Nat) (bad repairs : List Nat)
  /-- RAIL_OUT_OF_RANGE (R574): A rail stays out of its range for 100 µs and a fault from source 43 is reported. -/
  | railOutOfRange (r : Nat)
  /-- ALIVE_TOGGLE (R583): The firmware toggles ALIVE every 500 µs. -/
  | aliveToggle
  /-- TAP_RESET (R585): TRST_N or Test-Logic-Reset resets the TAP and selects IDCODE. -/
  | tapReset
  /-- IDCODE (R585): Boundary-scan instruction IDCODE selects the identification register. -/
  | tapIdcode
  /-- SAMPLE_PRELOAD (R585): Boundary-scan instruction SAMPLE/PRELOAD selects the boundary register. -/
  | samplePreload (cells : List Nat)
  /-- EXTEST (R586): Boundary-scan instruction EXTEST drives balls from the boundary register while RESET_N is asserted. -/
  | tapExtest
  /-- CLAMP (R586): Boundary-scan instruction CLAMP holds balls while RESET_N is asserted. -/
  | tapClamp
  /-- HIGHZ (R586): Boundary-scan instruction HIGHZ floats balls while RESET_N is asserted. -/
  | tapHighz
  /-- BYPASS (R585): Boundary-scan instruction BYPASS selects the bypass register. -/
  | tapBypass
  /-- CAL_COMMIT_COMPLETE (R543): A running commit finishes its slot, marker and NVM-copy writes; the new generation is in force, CAL_STATUS.committed is set and committing clears. -/
  | calCommitComplete (bad : Nat)
  /-- HOLD_OFF_END (R417): A digitizer or fast-lane unit's time hold-off runs out at the accepted trigger's instant plus the hold-off value, and the unit leaves HOLDOFF to accept fires again. -/
  | holdOffEnd (u : Nat)
  /-- SMU_CLAMP (R349): An SMU's output reaches its clamp or fast limit under the die's load, the clamp loop takes control and clamp_any and the CLAMP mark follow. -/
  | smuClamp (m : Nat) (inForce : Bool)
  /-- WAV_INTERNAL_SAMPLE (R373): Every 25 ns on the channel's grid the source computes a sample through the generator, slew limiter and envelope clamp, setting env or clip flags when they act. -/
  | wavInternalSample (w : Nat)
  /-- PTP_DELAY_RESP_RECEIVE (R465): The timekeeper receives the Delay_Resp answering its Delay_Req and completes its path-delay measurement for the servo. -/
  | ptpDelayRespReceive (port received : Nat)
  /-- BIST_SLICE_COMPLETE (R531): A sliced BIST slice finishes within its 20 µs without being abandoned and the completed-slice count advances. -/
  | bistSliceComplete
deriving DecidableEq, Repr

end Sys2Proof
end

