-- ==== Sys2Proof/Config.lean ====
section
/-! DEFINITION. What an implementation fixes, and the values the spec leaves open: constants without a body. -/

namespace Sys2Proof.Config

/-- A value the spec leaves open: the n-th draw of a run (log entry 3). -/
opaque freeNat : Nat → Nat

/-- What a byte of DRAM reads as before anything has written it (log entry 4, DESIGN CHOICE). -/
def blankByte : Byte := 0

/-- The unit serial number, fused at manufacture (OD 0x1005.00). -/
opaque serial : Vector Byte 16

/-- The base MAC address, fused at manufacture (OD 0x8000.00, Table 16.1). -/
opaque macBase : Nat

/-- The OUI of the organisational LLDP TLV, fused at manufacture (Table 16.1). -/
opaque oui : Nat

/-- A timing path's factory values in a calibration set, whose inner layout the spec does not give (Table 19.1): path 32 c + p of the
active electronics or 1,024 + 32 c + p of the spare; `k` 0 rise, 1 fall_delta, 2 cmp; in signed ticks of the 16 bits that TMG_CORR_DRV and TMG_CORR_CMP show (log entry 8). -/
opaque factoryTiming : Tbl Byte → (path k : Nat) → BitVec 16

/-- A channel's temperature correction of a timing value at a region temperature in m°C (R115; log entry 8). -/
opaque tempTiming : Tbl Byte → (path k : Nat) → Int → Int

/-- An SMU's factory offset in a calibration set: `k` below 16 a current range in fA, from 16 on a voltage range in nV (log entry 8). -/
opaque factorySmu : Tbl Byte → (smu k : Nat) → Int

/-- A waveform channel's factory gain (`k` 0, 2) and offset (1, 3) of its source and digitizer, per source range for the source (log entry 8). -/
opaque factoryWav : Tbl Byte → (channel range k : Nat) → Int

/-- What a current range code that Table 5.6 reserves stands for, in µA (log entry 3). -/
opaque reservedRange : Nat → Nat

/-- What a reserved encoding or an operand the spec excludes stands for: `what` names the place, the list its operands (log entry 3). -/
opaque openNat : (what : Nat) → List Nat → Nat

/-- The Tally baseline of a mode in a calibration set, mW (Table 19.1; log entry 8). -/
opaque factoryBase : Tbl Byte → (mode : Nat) → Nat

/-- The Course regions adjacent to a Course's region on the die, which R108 names and no rule lists (log entry 3). -/
opaque adjacentCourses : Nat → List Nat

/-- SHA-512 of a byte string (R301, R539, R559): a fixed public function that no rule of the spec writes out (log entry 27). -/
opaque sha512Of : List Byte → Vector Byte 64

/-- Its 64 bytes. -/
def sha512 (l : List Byte) : List Byte := (sha512Of l).toList

/-- Whether an RSASSA-PSS signature verifies: modulus, signature, message (R300, R557; log entry 27). -/
opaque sigOk : (modulus signature message : List Byte) → Bool

/-- The factory's calibration set, generation 1 (R539; log entry 28). -/
opaque factorySet : Tbl Byte

/-- SHA-512 of the firmware image that the factory leaves in bank A (log entry 28). -/
opaque factoryDigest : Vector Byte 64

/-- SHA-512 of the vendor microcode of a firmware release (OD 0x5A02.00; log entry 27). -/
opaque vendorDigest : Nat → Vector Byte 64

/-- The 128 data bits of a vendor microword of a firmware release (R279, R303; log entry 27). -/
opaque vendorWord : (release addr : Nat) → Nat

/-- Bits [13:0] of a vendor opcode's dispatch entry in a firmware release (R280, R303; log entry 27). -/
opaque vendorEntry : (release opcode : Nat) → Nat

/-- The modulus of the Phibexa firmware key, held in the boot ROM (R550). -/
opaque fwKey : List Byte

/-- The certificate chain, written at manufacture (OD 0x8100.00). -/
opaque certChain : List Byte

/-- The bytes of the fuse control regions that the quote measures, whose layout no rule gives: generation markers, repair field,
enrolment digests and counter (Table 19.8; log entry 27). -/
opaque fuseImage : (markers repairs : List Nat) → (enrolled : List (List Byte)) → (counter : Nat) → List Byte

/-- A signature made with the identity key (R559). -/
opaque sign : List Byte → Vector Byte 512

/-- The draft after a channel calibration run of a class 3 to 7 (Table 19.5). -/
opaque calRun : (cls : Nat) → Tbl Byte → Tbl Byte

/-- The reference meter's voltage or current gain in a calibration set; the layout of Table 19.1 does not give its unit. -/
opaque meterGain : Tbl Byte → (current : Bool) → Int

/-- The reference meter's offset in a calibration set, in nV or fA. -/
opaque meterOffset : Tbl Byte → (current : Bool) → Int

/-- A set whose meter gain is `num / den` and whose meter offset is `offset`. -/
opaque setMeter : Tbl Byte → (current : Bool) → (num den offset : Int) → Tbl Byte

/-- A set whose internal references have been measured again on its meter (R549). -/
opaque measureRefs : Tbl Byte → Tbl Byte

/-- Details of the objects of a draft that have a coefficient outside its plausibility window (R546; log entry 8). -/
opaque implausible : (draft inForce : Tbl Byte) → List Nat

/-- A draft in which those objects keep every coefficient of the set in force (R546; log entry 8). -/
opaque keptBack : (draft inForce : Tbl Byte) → Tbl Byte

end Sys2Proof.Config
end

