-- ==== Sys2Proof/Machine/Regs.lean ====
section
/-! DEFINITION. The register maps of spec/02 to spec/20: every field of every register, with its block, offset, bits,
access code (Table 17.4) and reset value, and the rows by which an address finds its register (R497). -/

namespace Sys2Proof.Machine

/-- The field access codes of Table 17.4 (R499). No register carries WM bits. -/
inductive Acc where
  | ro | rw | w1c | sc | cfg
deriving DecidableEq, Repr

/-- A Reset column entry: a constant, or an expression evaluated for the instance (R498). -/
inductive Rst where
  | k (v : Nat)   -- the same in every instance
  | course        -- "This Course"
  | site          -- "8c + t"
  | region        -- "0x1000 × t"
  | chan          -- "Equals j" of the scrambler
  | edge          -- Table 6.2
deriving DecidableEq, Repr

/-- One register field: block code, offset of its register (of element 0 of an array), bits and access. -/
structure Fld where
  blk : Nat
  off : Nat
  lo  : Nat
  wid : Nat
  acc : Acc
  rst : Rst
deriving DecidableEq, Repr

/-- The selection field through which a register shows one element of a larger array. -/
inductive Win where
  | none | tmgSet | tmgSetPin | tmgEdge | tmgPin | apgProg | apgScr | fcSrc | pwrRail | flnUpat | acqUnit | trgUnit
deriving DecidableEq, Repr

/-- The enable that governs the CFG fields of a register (R500). -/
inductive CfgEn where
  | none | block | thread | tbLines | acqUnit | trgUnit
deriving DecidableEq, Repr

/-- One row of the register maps: instances `iLo` to `iHi` of block `blk` hold, from `off` at `stride`, `cnt` registers. -/
structure RegRow where
  blk : Nat
  off : Nat
  stride : Nat
  cnt : Nat
  iLo : Nat
  iHi : Nat
  win : Win
  cfg : CfgEn
  fields : List Fld
deriving DecidableEq, Repr

namespace F

def TB_CTRL_tk_pos : Fld := ⟨0x02, 0x000, 10, 6, .cfg, .k 0x0⟩
def TB_CTRL_tk_auto : Fld := ⟨0x02, 0x000, 9, 1, .cfg, .k 0x1⟩
def TB_CTRL_ptp_en : Fld := ⟨0x02, 0x000, 8, 1, .rw, .k 0x1⟩
def TB_CTRL_cal_restart : Fld := ⟨0x02, 0x000, 2, 1, .sc, .k 0x0⟩
def TB_CTRL_lines_en : Fld := ⟨0x02, 0x000, 0, 1, .rw, .k 0x1⟩
def TB_STATUS_time_state : Fld := ⟨0x02, 0x004, 29, 3, .ro, .k 0x0⟩
def TB_STATUS_tk_pos_eff : Fld := ⟨0x02, 0x004, 23, 6, .ro, .k 0x0⟩
def TB_STATUS_is_tk : Fld := ⟨0x02, 0x004, 22, 1, .ro, .k 0x0⟩
def TB_STATUS_cal_valid : Fld := ⟨0x02, 0x004, 21, 1, .ro, .k 0x0⟩
def TB_STATUS_sync_present : Fld := ⟨0x02, 0x004, 20, 1, .ro, .k 0x0⟩
def TB_STATUS_refclk_present : Fld := ⟨0x02, 0x004, 19, 1, .ro, .k 0x0⟩
def TB_STATUS_tk_absent : Fld := ⟨0x02, 0x004, 8, 1, .w1c, .k 0x0⟩
def TB_STATUS_pos_conflict : Fld := ⟨0x02, 0x004, 7, 1, .w1c, .k 0x0⟩
def TB_STATUS_frame_crc : Fld := ⟨0x02, 0x004, 6, 1, .w1c, .k 0x0⟩
def TB_STATUS_quoin_lost : Fld := ⟨0x02, 0x004, 5, 1, .w1c, .k 0x0⟩
def TB_STATUS_split : Fld := ⟨0x02, 0x004, 4, 1, .w1c, .k 0x0⟩
def TB_STATUS_late : Fld := ⟨0x02, 0x004, 3, 1, .w1c, .k 0x0⟩
def TB_STATUS_lead_short : Fld := ⟨0x02, 0x004, 2, 1, .w1c, .k 0x0⟩
def TB_STATUS_holdover : Fld := ⟨0x02, 0x004, 1, 1, .w1c, .k 0x0⟩
def TB_STATUS_cfg_ignored : Fld := ⟨0x02, 0x004, 0, 1, .w1c, .k 0x0⟩
def TB_SYNC_OFFSET_offset : Fld := ⟨0x02, 0x008, 0, 24, .ro, .k 0x0⟩
def TB_LATE_FIRST_valid : Fld := ⟨0x02, 0x00C, 31, 1, .w1c, .k 0x0⟩
def TB_LATE_FIRST_queue : Fld := ⟨0x02, 0x00C, 25, 6, .ro, .k 0x0⟩
def TB_LATE_FIRST_site : Fld := ⟨0x02, 0x00C, 17, 8, .ro, .k 0x0⟩
def TB_LATE_FIRST_chip_wide : Fld := ⟨0x02, 0x00C, 16, 1, .ro, .k 0x0⟩
def TB_LATE_FIRST_lateness : Fld := ⟨0x02, 0x00C, 0, 16, .ro, .k 0x0⟩
def TLY_CTRL_analog_reserve : Fld := ⟨0x03, 0x000, 8, 8, .rw, .k 0x14⟩
def TLY_CTRL_k_reset : Fld := ⟨0x03, 0x000, 1, 1, .sc, .k 0x0⟩
def TLY_BUDGET_budget_mw : Fld := ⟨0x03, 0x004, 0, 18, .rw, .k 0x35B60⟩
def TLY_STATUS_throttle_active : Fld := ⟨0x03, 0x008, 31, 1, .ro, .k 0x0⟩
def TLY_STATUS_smu_block : Fld := ⟨0x03, 0x008, 30, 1, .ro, .k 0x0⟩
def TLY_STATUS_k_sat : Fld := ⟨0x03, 0x008, 6, 1, .w1c, .k 0x0⟩
def TLY_STATUS_overrun : Fld := ⟨0x03, 0x008, 5, 1, .w1c, .k 0x0⟩
def TLY_STATUS_over_abs : Fld := ⟨0x03, 0x008, 4, 1, .w1c, .k 0x0⟩
def TLY_STATUS_smu_over : Fld := ⟨0x03, 0x008, 3, 1, .w1c, .k 0x0⟩
def TLY_STATUS_refused : Fld := ⟨0x03, 0x008, 2, 1, .w1c, .k 0x0⟩
def TLY_STATUS_released : Fld := ⟨0x03, 0x008, 1, 1, .w1c, .k 0x0⟩
def TLY_CORR_k : Fld := ⟨0x03, 0x00C, 0, 12, .ro, .k 0x400⟩
def TLY_BASE_base_mw : Fld := ⟨0x03, 0x010, 0, 18, .ro, .k 0x0⟩
def TLY_MEAS_p_meas_mw : Fld := ⟨0x03, 0x014, 0, 18, .ro, .k 0x0⟩
def TLY_MULT_m_q : Fld := ⟨0x03, 0x018, 0, 11, .ro, .k 0x400⟩
def THM_STATUS_tmax_src : Fld := ⟨0x04, 0x000, 16, 8, .ro, .k 0x0⟩
def THM_STATUS_sensor_fail : Fld := ⟨0x04, 0x000, 4, 1, .w1c, .k 0x0⟩
def THM_STATUS_first_set : Fld := ⟨0x04, 0x000, 3, 1, .ro, .k 0x0⟩
def THM_STATUS_shutdown : Fld := ⟨0x04, 0x000, 2, 1, .ro, .k 0x1⟩
def THM_STATUS_throttle : Fld := ⟨0x04, 0x000, 1, 1, .ro, .k 0x1⟩
def THM_STATUS_warning : Fld := ⟨0x04, 0x000, 0, 1, .ro, .k 0x1⟩
def THM_TMAX_tmax_mc : Fld := ⟨0x04, 0x004, 0, 32, .ro, .k 0x0⟩
def PCH_CTRL_selfchk_en : Fld := ⟨0x06, 0x000, 2, 1, .rw, .k 0x1⟩
def PCH_CTRL_en : Fld := ⟨0x06, 0x000, 0, 1, .rw, .k 0x0⟩
def PCH_STATUS_spare_busy : Fld := ⟨0x06, 0x004, 31, 1, .ro, .k 0x0⟩
def PCH_STATUS_spare_pos : Fld := ⟨0x06, 0x004, 26, 5, .ro, .k 0x0⟩
def PCH_STATUS_swap_done : Fld := ⟨0x06, 0x004, 5, 1, .w1c, .k 0x0⟩
def PCH_STATUS_selfchk_fail : Fld := ⟨0x06, 0x004, 4, 1, .w1c, .k 0x0⟩
def PCH_STATUS_range_held : Fld := ⟨0x06, 0x004, 3, 1, .w1c, .k 0x0⟩
def PCH_STATUS_env_clamp : Fld := ⟨0x06, 0x004, 2, 1, .w1c, .k 0x0⟩
def PCH_STATUS_trip_any : Fld := ⟨0x06, 0x004, 1, 1, .w1c, .k 0x0⟩
def PCH_STATUS_cfg_ignored : Fld := ⟨0x06, 0x004, 0, 1, .w1c, .k 0x0⟩
def PCH_TRIP_LATCH_latch : Fld := ⟨0x06, 0x008, 0, 32, .w1c, .k 0x0⟩
def PCH_DRV_LVL_vih : Fld := ⟨0x06, 0x100, 16, 16, .rw, .k 0x2EE0⟩
def PCH_DRV_LVL_vil : Fld := ⟨0x06, 0x100, 0, 16, .rw, .k 0x2EE0⟩
def PCH_TERM_LVL_vt : Fld := ⟨0x06, 0x104, 16, 16, .rw, .k 0x2EE0⟩
def PCH_TERM_LVL_vcom : Fld := ⟨0x06, 0x104, 0, 16, .rw, .k 0x2EE0⟩
def PCH_CMP_LVL_voh : Fld := ⟨0x06, 0x108, 16, 16, .rw, .k 0x2EE0⟩
def PCH_CMP_LVL_vol : Fld := ⟨0x06, 0x108, 0, 16, .rw, .k 0x2EE0⟩
def PCH_LOAD_load_en : Fld := ⟨0x06, 0x10C, 31, 1, .rw, .k 0x0⟩
def PCH_LOAD_ioh_ua : Fld := ⟨0x06, 0x10C, 16, 15, .rw, .k 0x0⟩
def PCH_LOAD_iol_ua : Fld := ⟨0x06, 0x10C, 0, 15, .rw, .k 0x0⟩
def PCH_PIN_CFG_idle : Fld := ⟨0x06, 0x110, 30, 2, .rw, .k 0x0⟩
def PCH_PIN_CFG_hyst : Fld := ⟨0x06, 0x110, 26, 4, .rw, .k 0x0⟩
def PCH_PMU_CFG_connect : Fld := ⟨0x06, 0x114, 31, 1, .rw, .k 0x0⟩
def PCH_PMU_CFG_fmode : Fld := ⟨0x06, 0x114, 30, 1, .rw, .k 0x0⟩
def PCH_PMU_CFG_range : Fld := ⟨0x06, 0x114, 27, 3, .rw, .k 0x4⟩
def PCH_PMU_CFG_iclamp_pct : Fld := ⟨0x06, 0x114, 20, 7, .rw, .k 0x6E⟩
def PCH_PMU_FORCE_force : Fld := ⟨0x06, 0x118, 0, 20, .rw, .k 0x2EE00⟩
def PCH_PMU_CLAMP_vclamp_hi : Fld := ⟨0x06, 0x11C, 16, 16, .rw, .k 0xFA00⟩
def PCH_PMU_CLAMP_vclamp_lo : Fld := ⟨0x06, 0x11C, 0, 16, .rw, .k 0x0⟩
def PCH_PMU_APER_delay_us : Fld := ⟨0x06, 0x120, 24, 8, .rw, .k 0x0⟩
def PCH_PMU_APER_aper : Fld := ⟨0x06, 0x120, 0, 24, .rw, .k 0x64⟩
def PCH_TRIP_CFG_trip_en : Fld := ⟨0x06, 0x124, 31, 1, .rw, .k 0x0⟩
def PCH_TRIP_CFG_cond : Fld := ⟨0x06, 0x124, 29, 2, .rw, .k 0x3⟩
def PCH_TRIP_CFG_clr_mode : Fld := ⟨0x06, 0x124, 28, 1, .rw, .k 0x0⟩
def PCH_TRIP_CFG_act : Fld := ⟨0x06, 0x124, 26, 2, .rw, .k 0x0⟩
def PCH_TRIP_CFG_filt_n : Fld := ⟨0x06, 0x124, 21, 5, .cfg, .k 0x5⟩
def PCH_TRIP_CFG_filt_m : Fld := ⟨0x06, 0x124, 17, 4, .cfg, .k 0x3⟩
def PCH_TRIP_GRP_grp : Fld := ⟨0x06, 0x128, 0, 32, .rw, .k 0x0⟩
def PCH_ENV_vmax : Fld := ⟨0x06, 0x12C, 16, 16, .ro, .k 0xFA00⟩
def PCH_ENV_vmin : Fld := ⟨0x06, 0x12C, 0, 16, .ro, .k 0x0⟩
def PCH_ENV_I_imax_ua : Fld := ⟨0x06, 0x130, 0, 16, .ro, .k 0x7D00⟩
def PCH_CH_STATE_derated : Fld := ⟨0x06, 0x134, 4, 1, .ro, .k 0x0⟩
def PCH_CH_STATE_spare : Fld := ⟨0x06, 0x134, 3, 1, .ro, .k 0x0⟩
def PCH_CH_STATE_pmu_conn : Fld := ⟨0x06, 0x134, 2, 1, .ro, .k 0x0⟩
def PCH_CH_STATE_tripped : Fld := ⟨0x06, 0x134, 1, 1, .ro, .k 0x0⟩
def PCH_CH_STATE_active : Fld := ⟨0x06, 0x134, 0, 1, .ro, .k 0x0⟩
def TMG_CTRL_plumb_idle_any : Fld := ⟨0x07, 0x000, 2, 1, .rw, .k 0x0⟩
def TMG_CTRL_apply_now : Fld := ⟨0x07, 0x000, 1, 1, .sc, .k 0x0⟩
def TMG_CTRL_plumb_en : Fld := ⟨0x07, 0x000, 0, 1, .rw, .k 0x1⟩
def TMG_STATUS_streaming : Fld := ⟨0x07, 0x004, 31, 1, .ro, .k 0x0⟩
def TMG_STATUS_pending : Fld := ⟨0x07, 0x004, 30, 1, .ro, .k 0x0⟩
def TMG_STATUS_edge_dropped : Fld := ⟨0x07, 0x004, 5, 1, .w1c, .k 0x0⟩
def TMG_STATUS_deskew_limit : Fld := ⟨0x07, 0x004, 4, 1, .w1c, .k 0x0⟩
def TMG_STATUS_plumb_reject : Fld := ⟨0x07, 0x004, 3, 1, .w1c, .k 0x0⟩
def TMG_STATUS_period_refused : Fld := ⟨0x07, 0x004, 2, 1, .w1c, .k 0x0⟩
def TMG_STATUS_applied : Fld := ⟨0x07, 0x004, 1, 1, .w1c, .k 0x0⟩
def TMG_WIN_set : Fld := ⟨0x07, 0x008, 8, 6, .rw, .k 0x0⟩
def TMG_WIN_pin : Fld := ⟨0x07, 0x008, 0, 5, .rw, .k 0x0⟩
def TMG_PERIOD_period : Fld := ⟨0x07, 0x00C, 0, 32, .rw, .k 0x1000⟩
def TMG_EDGE_offset : Fld := ⟨0x07, 0x010, 0, 32, .rw, .edge⟩
def TMG_PIN_CFG_cmp_mode : Fld := ⟨0x07, 0x024, 0, 1, .rw, .k 0x0⟩
def TMG_FIX_DRV_fix_drv : Fld := ⟨0x07, 0x028, 0, 18, .rw, .k 0x0⟩
def TMG_FIX_CMP_fix_cmp : Fld := ⟨0x07, 0x02C, 0, 18, .rw, .k 0x0⟩
def TMG_CORR_DRV_fall_delta : Fld := ⟨0x07, 0x030, 16, 16, .ro, .k 0x0⟩
def TMG_CORR_DRV_rise : Fld := ⟨0x07, 0x030, 0, 16, .ro, .k 0x0⟩
def TMG_CORR_CMP_cmp : Fld := ⟨0x07, 0x034, 0, 16, .ro, .k 0x0⟩
def TMG_PLUMB_last_result : Fld := ⟨0x07, 0x038, 24, 4, .ro, .k 0x0⟩
def TMG_PLUMB_age_s : Fld := ⟨0x07, 0x038, 0, 24, .ro, .k 0xFFFFFF⟩
def PAT_CTRL_jreq : Fld := ⟨0x08, 0x000, 1, 1, .sc, .k 0x0⟩
def PAT_CTRL_fail_jump_en : Fld := ⟨0x08, 0x000, 0, 1, .rw, .k 0x1⟩
def PAT_STATUS_streaming : Fld := ⟨0x08, 0x004, 31, 1, .ro, .k 0x0⟩
def PAT_STATUS_resident : Fld := ⟨0x08, 0x004, 30, 1, .ro, .k 0x0⟩
def PAT_STATUS_jlatch : Fld := ⟨0x08, 0x004, 29, 1, .ro, .k 0x0⟩
def PAT_STATUS_bad_link : Fld := ⟨0x08, 0x004, 16, 1, .w1c, .k 0x0⟩
def PAT_STATUS_cur_seg : Fld := ⟨0x08, 0x004, 4, 12, .ro, .k 0xFFF⟩
def PAT_STATUS_abort : Fld := ⟨0x08, 0x004, 3, 1, .w1c, .k 0x0⟩
def PAT_STATUS_starved : Fld := ⟨0x08, 0x004, 2, 1, .w1c, .k 0x0⟩
def PAT_STATUS_apg_absent : Fld := ⟨0x08, 0x004, 1, 1, .w1c, .k 0x0⟩
def PAT_STATUS_jump_taken : Fld := ⟨0x08, 0x004, 0, 1, .w1c, .k 0x0⟩
def PAT_LOOP_remaining : Fld := ⟨0x08, 0x008, 0, 32, .ro, .k 0x0⟩
def PAT_VIDX_vidx : Fld := ⟨0x08, 0x00C, 0, 32, .ro, .k 0x0⟩
def PAT_SKIP_LO_skip : Fld := ⟨0x08, 0x010, 0, 32, .ro, .k 0x0⟩
def PAT_SKIP_HI_skip : Fld := ⟨0x08, 0x014, 0, 32, .ro, .k 0x0⟩
def PAT_DEMAND_jump_lines : Fld := ⟨0x08, 0x018, 16, 16, .ro, .k 0x0⟩
def PAT_DEMAND_vec_lines : Fld := ⟨0x08, 0x018, 0, 16, .ro, .k 0xB4⟩
def PAT_VCNT_LO_vcnt : Fld := ⟨0x08, 0x01C, 0, 32, .ro, .k 0x0⟩
def PAT_VCNT_HI_vcnt : Fld := ⟨0x08, 0x020, 0, 32, .ro, .k 0x0⟩
def PAT_MARK_src : Fld := ⟨0x08, 0x000, 20, 6, .rw, .k 0x3F⟩
def PAT_MARK_offset : Fld := ⟨0x08, 0x000, 0, 18, .rw, .k 0x0⟩
def APG_CTRL_halt_jreq : Fld := ⟨0x09, 0x000, 3, 1, .rw, .k 0x1⟩
def APG_CTRL_carry_in : Fld := ⟨0x09, 0x000, 2, 1, .cfg, .k 0x0⟩
def APG_CTRL_fc_restart : Fld := ⟨0x09, 0x000, 1, 1, .sc, .k 0x0⟩
def APG_CTRL_en : Fld := ⟨0x09, 0x000, 0, 1, .rw, .k 0x0⟩
def APG_STATUS_running : Fld := ⟨0x09, 0x004, 31, 1, .ro, .k 0x0⟩
def APG_STATUS_halted : Fld := ⟨0x09, 0x004, 30, 1, .ro, .k 0x0⟩
def APG_STATUS_pc : Fld := ⟨0x09, 0x004, 20, 10, .ro, .k 0x0⟩
def APG_STATUS_chain_slip : Fld := ⟨0x09, 0x004, 5, 1, .w1c, .k 0x0⟩
def APG_STATUS_tally_ovf : Fld := ⟨0x09, 0x004, 4, 1, .w1c, .k 0x0⟩
def APG_STATUS_tally_lost : Fld := ⟨0x09, 0x004, 3, 1, .w1c, .k 0x0⟩
def APG_STATUS_fc_lost : Fld := ⟨0x09, 0x004, 2, 1, .w1c, .k 0x0⟩
def APG_STATUS_fc_done : Fld := ⟨0x09, 0x004, 1, 1, .w1c, .k 0x0⟩
def APG_STATUS_cfg_ignored : Fld := ⟨0x09, 0x004, 0, 1, .w1c, .k 0x0⟩
def APG_ENTRY_entry : Fld := ⟨0x09, 0x008, 0, 10, .cfg, .k 0x0⟩
def APG_PROG_SEL_addr : Fld := ⟨0x09, 0x00C, 0, 10, .rw, .k 0x0⟩
def APG_PROG_LO_instr : Fld := ⟨0x09, 0x010, 0, 32, .cfg, .k 0x0⟩
def APG_PROG_HI_instr : Fld := ⟨0x09, 0x014, 0, 32, .cfg, .k 0x0⟩
def APG_XMIN_x : Fld := ⟨0x09, 0x018, 0, 20, .cfg, .k 0x0⟩
def APG_XMAX_x : Fld := ⟨0x09, 0x01C, 0, 20, .cfg, .k 0xFFFFF⟩
def APG_XINIT_x : Fld := ⟨0x09, 0x020, 0, 20, .cfg, .k 0x0⟩
def APG_YRANGE_ymax : Fld := ⟨0x09, 0x024, 16, 16, .cfg, .k 0xFFFF⟩
def APG_YRANGE_ymin : Fld := ⟨0x09, 0x024, 0, 16, .cfg, .k 0x0⟩
def APG_YZINIT_zmax : Fld := ⟨0x09, 0x028, 24, 6, .cfg, .k 0x3F⟩
def APG_YZINIT_zinit : Fld := ⟨0x09, 0x028, 16, 6, .cfg, .k 0x0⟩
def APG_YZINIT_yinit : Fld := ⟨0x09, 0x028, 0, 16, .cfg, .k 0x0⟩
def APG_LCINIT_count : Fld := ⟨0x09, 0x02C, 0, 32, .cfg, .k 0x1⟩
def APG_DINIT_dinit : Fld := ⟨0x09, 0x03C, 0, 32, .cfg, .k 0x0⟩
def APG_TOPO_ymask : Fld := ⟨0x09, 0x040, 16, 16, .cfg, .k 0x0⟩
def APG_TOPO_xmask : Fld := ⟨0x09, 0x040, 0, 16, .cfg, .k 0x0⟩
def APG_UTBL_tbl : Fld := ⟨0x09, 0x044, 0, 16, .cfg, .k 0x0⟩
def APG_USEL_xs1 : Fld := ⟨0x09, 0x048, 13, 5, .cfg, .k 0x1⟩
def APG_USEL_xs0 : Fld := ⟨0x09, 0x048, 8, 5, .cfg, .k 0x0⟩
def APG_USEL_ys1 : Fld := ⟨0x09, 0x048, 4, 4, .cfg, .k 0x1⟩
def APG_USEL_ys0 : Fld := ⟨0x09, 0x048, 0, 4, .cfg, .k 0x0⟩
def APG_SCR_SEL_axis : Fld := ⟨0x09, 0x04C, 5, 1, .rw, .k 0x0⟩
def APG_SCR_SEL_bit : Fld := ⟨0x09, 0x04C, 0, 5, .rw, .k 0x0⟩
def APG_SCR_xor_en : Fld := ⟨0x09, 0x050, 15, 1, .cfg, .k 0x0⟩
def APG_SCR_xsrc : Fld := ⟨0x09, 0x050, 10, 5, .cfg, .k 0x0⟩
def APG_SCR_src : Fld := ⟨0x09, 0x050, 0, 5, .cfg, .chan⟩
def APG_FC_CFG_mode : Fld := ⟨0x09, 0x054, 30, 2, .cfg, .k 0x0⟩
def APG_FC_CFG_site_mask : Fld := ⟨0x09, 0x054, 22, 8, .cfg, .k 0xFF⟩
def APG_FC_CFG_first_n : Fld := ⟨0x09, 0x054, 10, 12, .cfg, .k 0x0⟩
def APG_FC_CFG_slots : Fld := ⟨0x09, 0x054, 0, 10, .cfg, .k 0x0⟩
def APG_FC_PINMASK_pins : Fld := ⟨0x09, 0x058, 0, 32, .rw, .k 0xFFFFFFFF⟩
def APG_FC_LOST_lost : Fld := ⟨0x09, 0x05C, 0, 32, .ro, .k 0x0⟩
def APG_TALLY_CFG_row_spares : Fld := ⟨0x09, 0x060, 8, 8, .rw, .k 0x0⟩
def APG_TALLY_CFG_col_spares : Fld := ⟨0x09, 0x060, 0, 8, .rw, .k 0x0⟩
def APG_TALLY_CLR_clr : Fld := ⟨0x09, 0x064, 0, 8, .sc, .k 0x0⟩
def APG_PINMAP_type : Fld := ⟨0x09, 0x080, 5, 3, .cfg, .k 0x0⟩
def APG_PINMAP_index : Fld := ⟨0x09, 0x080, 0, 5, .cfg, .k 0x0⟩
def SEQ_CTRL_stream_owner : Fld := ⟨0x0A, 0x000, 8, 3, .rw, .k 0x0⟩
def SEQ_CTRL_mc_restart : Fld := ⟨0x0A, 0x000, 2, 1, .sc, .k 0x0⟩
def SEQ_CTRL_en : Fld := ⟨0x0A, 0x000, 0, 1, .rw, .k 0x0⟩
def SEQ_STATUS_mc : Fld := ⟨0x0A, 0x004, 31, 1, .ro, .k 0x0⟩
def SEQ_STATUS_run_mask : Fld := ⟨0x0A, 0x004, 23, 8, .ro, .k 0x0⟩
def SEQ_STATUS_held_mask : Fld := ⟨0x0A, 0x004, 15, 8, .ro, .k 0x0⟩
def SEQ_STATUS_lq_full : Fld := ⟨0x0A, 0x004, 5, 1, .w1c, .k 0x0⟩
def SEQ_STATUS_cust_block : Fld := ⟨0x0A, 0x004, 4, 1, .ro, .k 0x0⟩
def SEQ_STATUS_wait_to : Fld := ⟨0x0A, 0x004, 3, 1, .w1c, .k 0x0⟩
def SEQ_STATUS_par_retry : Fld := ⟨0x0A, 0x004, 2, 1, .w1c, .k 0x0⟩
def SEQ_STATUS_start_refused : Fld := ⟨0x0A, 0x004, 1, 1, .w1c, .k 0x0⟩
def SEQ_STATUS_cfg_ignored : Fld := ⟨0x0A, 0x004, 0, 1, .w1c, .k 0x0⟩
def SEQ_TCTRL_resume : Fld := ⟨0x0A, 0x008, 16, 8, .sc, .k 0x0⟩
def SEQ_TCTRL_hold : Fld := ⟨0x0A, 0x008, 8, 8, .rw, .k 0x0⟩
def SEQ_TCTRL_run : Fld := ⟨0x0A, 0x008, 0, 8, .rw, .k 0x0⟩
def SEQ_WLIMIT_limit_us : Fld := ⟨0x0A, 0x00C, 0, 32, .rw, .k 0x2710⟩
def SEQ_MC_valid : Fld := ⟨0x0A, 0x010, 31, 1, .w1c, .k 0x0⟩
def SEQ_MC_disp : Fld := ⟨0x0A, 0x010, 30, 1, .ro, .k 0x0⟩
def SEQ_MC_thread : Fld := ⟨0x0A, 0x010, 27, 3, .ro, .k 0x0⟩
def SEQ_MC_uaddr : Fld := ⟨0x0A, 0x010, 14, 13, .ro, .k 0x0⟩
def SEQ_MC_opcode : Fld := ⟨0x0A, 0x010, 0, 8, .ro, .k 0x0⟩
def SEQ_PAR_CNT_retries : Fld := ⟨0x0A, 0x014, 0, 16, .ro, .k 0x0⟩
def SEQ_TCFG_home : Fld := ⟨0x0A, 0x040, 31, 1, .cfg, .k 0x1⟩
def SEQ_TCFG_home_course : Fld := ⟨0x0A, 0x040, 26, 5, .cfg, .course⟩
def SEQ_TCFG_site : Fld := ⟨0x0A, 0x040, 16, 8, .cfg, .site⟩
def SEQ_TCFG_entry : Fld := ⟨0x0A, 0x040, 0, 15, .cfg, .k 0x0⟩
def SEQ_TREGION_len : Fld := ⟨0x0A, 0x044, 16, 16, .cfg, .k 0x1000⟩
def SEQ_TREGION_base : Fld := ⟨0x0A, 0x044, 0, 15, .cfg, .region⟩
def SEQ_TSTAT_state : Fld := ⟨0x0A, 0x048, 29, 3, .ro, .k 0x0⟩
def SEQ_TSTAT_step_pc : Fld := ⟨0x0A, 0x048, 14, 15, .ro, .k 0x0⟩
def SEQ_TSTAT_opcode : Fld := ⟨0x0A, 0x048, 0, 8, .ro, .k 0x0⟩
def SEQ_TPITCH_pitch_ns : Fld := ⟨0x0A, 0x04C, 0, 32, .rw, .k 0x3E8⟩
def SEQ_TORG_LO_origin : Fld := ⟨0x0A, 0x050, 0, 32, .rw, .k 0x0⟩
def SEQ_TORG_HI_origin : Fld := ⟨0x0A, 0x054, 0, 32, .rw, .k 0x0⟩
def SEQ_TEVT_set : Fld := ⟨0x0A, 0x058, 4, 4, .sc, .k 0x0⟩
def SEQ_TEVT_flags : Fld := ⟨0x0A, 0x058, 0, 4, .w1c, .k 0x0⟩
def CTX_CTRL_pf_depth : Fld := ⟨0x0B, 0x000, 4, 4, .rw, .k 0x4⟩
def CTX_CTRL_pf_cust : Fld := ⟨0x0B, 0x000, 2, 1, .rw, .k 0x0⟩
def CTX_CTRL_flush : Fld := ⟨0x0B, 0x000, 1, 1, .sc, .k 0x0⟩
def CTX_CTRL_pf_en : Fld := ⟨0x0B, 0x000, 0, 1, .rw, .k 0x1⟩
def CTX_STATUS_locked : Fld := ⟨0x0B, 0x004, 16, 10, .ro, .k 0x0⟩
def CTX_STATUS_staged_drop : Fld := ⟨0x0B, 0x004, 1, 1, .w1c, .k 0x0⟩
def CTX_STATUS_lock_wait : Fld := ⟨0x0B, 0x004, 0, 1, .w1c, .k 0x0⟩
def CTX_HIT_LO_count : Fld := ⟨0x0B, 0x008, 0, 32, .ro, .k 0x0⟩
def CTX_HIT_HI_count : Fld := ⟨0x0B, 0x00C, 0, 32, .ro, .k 0x0⟩
def CTX_MISS_LO_count : Fld := ⟨0x0B, 0x010, 0, 32, .ro, .k 0x0⟩
def CTX_MISS_HI_count : Fld := ⟨0x0B, 0x014, 0, 32, .ro, .k 0x0⟩
def RCK_CTRL_stat_clr : Fld := ⟨0x0C, 0x000, 8, 8, .sc, .k 0x0⟩
def RCK_STATUS_ready_mask : Fld := ⟨0x0C, 0x004, 24, 8, .ro, .k 0x0⟩
def RCK_STATUS_post_hold : Fld := ⟨0x0C, 0x004, 16, 8, .ro, .k 0x0⟩
def RCK_STATUS_post_lost : Fld := ⟨0x0C, 0x004, 2, 1, .w1c, .k 0x0⟩
def RCK_STATUS_stat_sat : Fld := ⟨0x0C, 0x004, 1, 1, .w1c, .k 0x0⟩
def RCK_OWNER_own : Fld := ⟨0x0C, 0x008, 0, 32, .rw, .k 0x0⟩
def RCK_POST_post_mode : Fld := ⟨0x0C, 0x040, 30, 2, .rw, .k 0x0⟩
def RCK_POST_p2 : Fld := ⟨0x0C, 0x040, 18, 9, .rw, .k 0x102⟩
def RCK_POST_p1 : Fld := ⟨0x0C, 0x040, 9, 9, .rw, .k 0x101⟩
def RCK_POST_p0 : Fld := ⟨0x0C, 0x040, 0, 9, .rw, .k 0x100⟩
def RCK_RING_CFG_hwm_pct : Fld := ⟨0x0C, 0x000, 0, 8, .rw, .k 0x4B⟩
def RCK_RING_STATUS_full : Fld := ⟨0x0C, 0x004, 31, 1, .ro, .k 0x0⟩
def RCK_RING_STATUS_above_hwm : Fld := ⟨0x0C, 0x004, 30, 1, .ro, .k 0x0⟩
def RCK_RING_STATUS_hwm_hit : Fld := ⟨0x0C, 0x004, 1, 1, .w1c, .k 0x0⟩
def RCK_RING_STATUS_full_hit : Fld := ⟨0x0C, 0x004, 0, 1, .w1c, .k 0x0⟩
def RCK_WSEQ_LO_seq : Fld := ⟨0x0C, 0x008, 0, 32, .ro, .k 0x0⟩
def RCK_WSEQ_HI_seq : Fld := ⟨0x0C, 0x00C, 0, 32, .ro, .k 0x0⟩
def RCK_ASEQ_LO_seq : Fld := ⟨0x0C, 0x010, 0, 32, .ro, .k 0x0⟩
def RCK_ASEQ_HI_seq : Fld := ⟨0x0C, 0x014, 0, 32, .ro, .k 0x0⟩
def SMU_QCTRL_az_en : Fld := ⟨0x0D, 0x000, 2, 1, .rw, .k 0x1⟩
def SMU_QCTRL_en : Fld := ⟨0x0D, 0x000, 0, 1, .rw, .k 0x0⟩
def SMU_QSTATUS_spare_busy : Fld := ⟨0x0D, 0x004, 31, 1, .ro, .k 0x0⟩
def SMU_QSTATUS_spare_pos : Fld := ⟨0x0D, 0x004, 26, 5, .ro, .k 0x0⟩
def SMU_QSTATUS_pulse_ignored : Fld := ⟨0x0D, 0x004, 8, 1, .w1c, .k 0x0⟩
def SMU_QSTATUS_isum_clamp : Fld := ⟨0x0D, 0x004, 7, 1, .w1c, .k 0x0⟩
def SMU_QSTATUS_env_clamp : Fld := ⟨0x0D, 0x004, 6, 1, .w1c, .k 0x0⟩
def SMU_QSTATUS_kelvin_open : Fld := ⟨0x0D, 0x004, 5, 1, .w1c, .k 0x0⟩
def SMU_QSTATUS_az_reject : Fld := ⟨0x0D, 0x004, 4, 1, .w1c, .k 0x0⟩
def SMU_QSTATUS_swap_done : Fld := ⟨0x0D, 0x004, 3, 1, .w1c, .k 0x0⟩
def SMU_QSTATUS_trip_any : Fld := ⟨0x0D, 0x004, 2, 1, .w1c, .k 0x0⟩
def SMU_QSTATUS_clamp_any : Fld := ⟨0x0D, 0x004, 1, 1, .w1c, .k 0x0⟩
def SMU_QSTATUS_cfg_ignored : Fld := ⟨0x0D, 0x004, 0, 1, .w1c, .k 0x0⟩
def SMU_TRIP_LATCH_latch : Fld := ⟨0x0D, 0x008, 0, 32, .w1c, .k 0x0⟩
def SMU_CFG_connect : Fld := ⟨0x0D, 0x100, 31, 1, .rw, .k 0x0⟩
def SMU_CFG_fmode : Fld := ⟨0x0D, 0x100, 30, 1, .rw, .k 0x0⟩
def SMU_CFG_vrange : Fld := ⟨0x0D, 0x100, 28, 2, .rw, .k 0x0⟩
def SMU_CFG_irange : Fld := ⟨0x0D, 0x100, 24, 4, .rw, .k 0x5⟩
def SMU_CFG_pulse : Fld := ⟨0x0D, 0x100, 23, 1, .rw, .k 0x0⟩
def SMU_CFG_mon_en : Fld := ⟨0x0D, 0x100, 22, 1, .rw, .k 0x0⟩
def SMU_FORCE_CODE_force : Fld := ⟨0x0D, 0x104, 0, 24, .rw, .k 0x0⟩
def SMU_CLAMP_HI_clamp : Fld := ⟨0x0D, 0x108, 0, 24, .rw, .k 0x66666⟩
def SMU_CLAMP_LO_clamp : Fld := ⟨0x0D, 0x10C, 0, 24, .rw, .k 0xF9999A⟩
def SMU_MON_HI_mon : Fld := ⟨0x0D, 0x110, 0, 24, .rw, .k 0x466666⟩
def SMU_MON_LO_mon : Fld := ⟨0x0D, 0x114, 0, 24, .rw, .k 0xB9999A⟩
def SMU_MON_CFG_act : Fld := ⟨0x0D, 0x118, 30, 2, .rw, .k 0x0⟩
def SMU_MON_CFG_clr_mode : Fld := ⟨0x0D, 0x118, 29, 1, .rw, .k 0x0⟩
def SMU_MON_CFG_filt_n : Fld := ⟨0x0D, 0x118, 24, 5, .cfg, .k 0x5⟩
def SMU_MON_CFG_filt_m : Fld := ⟨0x0D, 0x118, 20, 4, .cfg, .k 0x3⟩
def SMU_MON_CFG_hyst : Fld := ⟨0x0D, 0x118, 16, 4, .rw, .k 0x0⟩
def SMU_PULSE_width_ns : Fld := ⟨0x0D, 0x11C, 0, 32, .rw, .k 0x1388⟩
def SMU_SLEW_slew_mv_us : Fld := ⟨0x0D, 0x120, 0, 16, .rw, .k 0x3E8⟩
def SMU_APER_ns : Fld := ⟨0x0D, 0x124, 0, 30, .rw, .k 0x3E8⟩
def SMU_APER_DLY_ns : Fld := ⟨0x0D, 0x128, 0, 30, .rw, .k 0x0⟩
def SMU_ENV_V_vmax_mv : Fld := ⟨0x0D, 0x12C, 16, 16, .ro, .k 0x3138⟩
def SMU_ENV_V_vmin_mv : Fld := ⟨0x0D, 0x12C, 0, 16, .ro, .k 0xCEC8⟩
def SMU_ENV_I_imax_ua : Fld := ⟨0x0D, 0x130, 0, 20, .ro, .k 0x44C00⟩
def SMU_STATE_derated : Fld := ⟨0x0D, 0x134, 5, 1, .ro, .k 0x0⟩
def SMU_STATE_spare : Fld := ⟨0x0D, 0x134, 4, 1, .ro, .k 0x0⟩
def SMU_STATE_kelvin_open : Fld := ⟨0x0D, 0x134, 3, 1, .ro, .k 0x0⟩
def SMU_STATE_tripped : Fld := ⟨0x0D, 0x134, 2, 1, .ro, .k 0x0⟩
def SMU_STATE_connected : Fld := ⟨0x0D, 0x134, 1, 1, .ro, .k 0x0⟩
def SMU_STATE_active : Fld := ⟨0x0D, 0x134, 0, 1, .ro, .k 0x0⟩
def WAV_HCTRL_plumb_en : Fld := ⟨0x0E, 0x000, 2, 1, .rw, .k 0x1⟩
def WAV_HCTRL_en : Fld := ⟨0x0E, 0x000, 0, 1, .rw, .k 0x0⟩
def WAV_HSTATUS_no_rsv : Fld := ⟨0x0E, 0x004, 5, 1, .w1c, .k 0x0⟩
def WAV_HSTATUS_plumb_reject : Fld := ⟨0x0E, 0x004, 4, 1, .w1c, .k 0x0⟩
def WAV_HSTATUS_env_clamp : Fld := ⟨0x0E, 0x004, 3, 1, .w1c, .k 0x0⟩
def WAV_HSTATUS_clip_any : Fld := ⟨0x0E, 0x004, 2, 1, .w1c, .k 0x0⟩
def WAV_HSTATUS_ilim_any : Fld := ⟨0x0E, 0x004, 1, 1, .w1c, .k 0x0⟩
def WAV_HSTATUS_underrun_any : Fld := ⟨0x0E, 0x004, 0, 1, .w1c, .k 0x0⟩
def WAV_FLAG_LATCH_latch : Fld := ⟨0x0E, 0x008, 0, 32, .w1c, .k 0x0⟩
def WAV_CFG_src_en : Fld := ⟨0x0E, 0x100, 31, 1, .rw, .k 0x0⟩
def WAV_CFG_dig_en : Fld := ⟨0x0E, 0x100, 30, 1, .rw, .k 0x0⟩
def WAV_CFG_kind : Fld := ⟨0x0E, 0x100, 28, 2, .rw, .k 0x2⟩
def WAV_CFG_buf_mode : Fld := ⟨0x0E, 0x100, 26, 2, .rw, .k 0x0⟩
def WAV_CFG_dig_in : Fld := ⟨0x0E, 0x100, 24, 2, .rw, .k 0x0⟩
def WAV_CFG_dig_range : Fld := ⟨0x0E, 0x100, 23, 1, .rw, .k 0x0⟩
def WAV_CFG_dig_filt : Fld := ⟨0x0E, 0x100, 22, 1, .rw, .k 0x0⟩
def WAV_CFG_reduce : Fld := ⟨0x0E, 0x100, 20, 2, .rw, .k 0x0⟩
def WAV_PINC_LO_inc : Fld := ⟨0x0E, 0x104, 0, 32, .rw, .k 0x0⟩
def WAV_PINC_HI_pofs : Fld := ⟨0x0E, 0x108, 16, 16, .rw, .k 0x0⟩
def WAV_PINC_HI_inc : Fld := ⟨0x0E, 0x108, 0, 16, .rw, .k 0x0⟩
def WAV_ENV_vmax_mv : Fld := ⟨0x0E, 0x10C, 16, 16, .ro, .k 0x2710⟩
def WAV_ENV_vmin_mv : Fld := ⟨0x0E, 0x10C, 0, 16, .ro, .k 0xD8F0⟩
def WAV_AMP_code : Fld := ⟨0x0E, 0x110, 0, 20, .rw, .k 0x0⟩
def WAV_OFS_code : Fld := ⟨0x0E, 0x114, 0, 20, .rw, .k 0x0⟩
def WAV_SLEW_STEP_code : Fld := ⟨0x0E, 0x120, 0, 20, .rw, .k 0x0⟩
def WAV_SRATE_rate : Fld := ⟨0x0E, 0x118, 0, 24, .rw, .k 0x3E8⟩
def WAV_DRATE_rate : Fld := ⟨0x0E, 0x11C, 0, 24, .rw, .k 0x3E8⟩
def WAV_SLEW_RATE_rate : Fld := ⟨0x0E, 0x124, 0, 26, .rw, .k 0x2625A00⟩
def WAV_CAPLEN_samples : Fld := ⟨0x0E, 0x128, 0, 32, .rw, .k 0x400⟩
def WAV_BUF_FIRST_lines : Fld := ⟨0x0E, 0x12C, 0, 30, .rw, .k 0x0⟩
def WAV_BUF_LEN_lines : Fld := ⟨0x0E, 0x130, 0, 30, .rw, .k 0x0⟩
def WAV_BUF_WR_index : Fld := ⟨0x0E, 0x134, 0, 32, .rw, .k 0x0⟩
def WAV_BUF_RD_index : Fld := ⟨0x0E, 0x138, 0, 32, .ro, .k 0x0⟩
def WAV_STATE_done : Fld := ⟨0x0E, 0x13C, 8, 1, .ro, .k 0x0⟩
def WAV_STATE_derated : Fld := ⟨0x0E, 0x13C, 7, 1, .ro, .k 0x0⟩
def WAV_STATE_env : Fld := ⟨0x0E, 0x13C, 6, 1, .ro, .k 0x0⟩
def WAV_STATE_clip : Fld := ⟨0x0E, 0x13C, 5, 1, .ro, .k 0x0⟩
def WAV_STATE_ilim : Fld := ⟨0x0E, 0x13C, 4, 1, .ro, .k 0x0⟩
def WAV_STATE_underrun : Fld := ⟨0x0E, 0x13C, 3, 1, .ro, .k 0x0⟩
def WAV_STATE_capturing : Fld := ⟨0x0E, 0x13C, 2, 1, .ro, .k 0x0⟩
def WAV_STATE_playing : Fld := ⟨0x0E, 0x13C, 1, 1, .ro, .k 0x0⟩
def WAV_STATE_connected : Fld := ⟨0x0E, 0x13C, 0, 1, .ro, .k 0x0⟩
def ACQ_CTRL_disarm_all : Fld := ⟨0x0F, 0x000, 1, 1, .sc, .k 0x0⟩
def ACQ_CTRL_en : Fld := ⟨0x0F, 0x000, 0, 1, .rw, .k 0x0⟩
def ACQ_STATUS_log_full : Fld := ⟨0x0F, 0x004, 31, 1, .ro, .k 0x0⟩
def ACQ_STATUS_cal_refused : Fld := ⟨0x0F, 0x004, 5, 1, .w1c, .k 0x0⟩
def ACQ_STATUS_no_rsv : Fld := ⟨0x0F, 0x004, 4, 1, .w1c, .k 0x0⟩
def ACQ_STATUS_clamp : Fld := ⟨0x0F, 0x004, 3, 1, .w1c, .k 0x0⟩
def ACQ_STATUS_ovf : Fld := ⟨0x0F, 0x004, 2, 1, .w1c, .k 0x0⟩
def ACQ_STATUS_missed : Fld := ⟨0x0F, 0x004, 1, 1, .w1c, .k 0x0⟩
def ACQ_STATUS_cfg_ignored : Fld := ⟨0x0F, 0x004, 0, 1, .w1c, .k 0x0⟩
def ACQ_USEL_unit : Fld := ⟨0x0F, 0x008, 0, 9, .rw, .k 0x0⟩
def ACQ_UCFG_en : Fld := ⟨0x0F, 0x00C, 31, 1, .rw, .k 0x0⟩
def ACQ_UCFG_rmode : Fld := ⟨0x0F, 0x00C, 29, 2, .cfg, .k 0x0⟩
def ACQ_UCFG_content : Fld := ⟨0x0F, 0x00C, 27, 2, .cfg, .k 0x0⟩
def ACQ_UCFG_overwrite : Fld := ⟨0x0F, 0x00C, 26, 1, .cfg, .k 0x0⟩
def ACQ_UCFG_interval_us : Fld := ⟨0x0F, 0x00C, 0, 20, .cfg, .k 0x3E8⟩
def ACQ_PRE_count : Fld := ⟨0x0F, 0x010, 0, 32, .rw, .k 0x0⟩
def ACQ_POST_count : Fld := ⟨0x0F, 0x014, 0, 32, .rw, .k 0x400⟩
def ACQ_BUF_FIRST_lines : Fld := ⟨0x0F, 0x018, 0, 30, .cfg, .k 0x0⟩
def ACQ_BUF_LEN_lines : Fld := ⟨0x0F, 0x01C, 0, 30, .cfg, .k 0x0⟩
def ACQ_WR_index : Fld := ⟨0x0F, 0x020, 0, 32, .ro, .k 0x0⟩
def ACQ_RD_index : Fld := ⟨0x0F, 0x024, 0, 32, .rw, .k 0x0⟩
def ACQ_USTAT_state : Fld := ⟨0x0F, 0x028, 29, 3, .ro, .k 0x0⟩
def ACQ_USTAT_clamp : Fld := ⟨0x0F, 0x028, 18, 1, .w1c, .k 0x0⟩
def ACQ_USTAT_ovf : Fld := ⟨0x0F, 0x028, 17, 1, .w1c, .k 0x0⟩
def ACQ_USTAT_incomplete : Fld := ⟨0x0F, 0x028, 16, 1, .w1c, .k 0x0⟩
def ACQ_USTAT_segs : Fld := ⟨0x0F, 0x028, 0, 16, .ro, .k 0x0⟩
def ACQ_EPRE_count : Fld := ⟨0x0F, 0x02C, 0, 32, .ro, .k 0x0⟩
def ACQ_EPOST_count : Fld := ⟨0x0F, 0x030, 0, 32, .ro, .k 0x0⟩
def ACQ_HOLDOFF_by_events : Fld := ⟨0x0F, 0x034, 31, 1, .rw, .k 0x0⟩
def ACQ_HOLDOFF_value : Fld := ⟨0x0F, 0x034, 0, 31, .rw, .k 0x0⟩
def ACQ_MISSED_value : Fld := ⟨0x0F, 0x038, 0, 32, .ro, .k 0x0⟩
def ACQ_HELD_value : Fld := ⟨0x0F, 0x03C, 0, 32, .ro, .k 0x0⟩
def ACQ_DEAD_value : Fld := ⟨0x0F, 0x040, 0, 32, .ro, .k 0x0⟩
def ACQ_DEAD_MAX_value : Fld := ⟨0x0F, 0x044, 0, 32, .ro, .k 0x0⟩
def ACQ_DEMAND_share : Fld := ⟨0x0F, 0x048, 16, 16, .ro, .k 0x0⟩
def ACQ_DEMAND_demand : Fld := ⟨0x0F, 0x048, 0, 16, .ro, .k 0x0⟩
def TRG_SEL_unit : Fld := ⟨0x10, 0x000, 0, 4, .rw, .k 0x0⟩
def TRG_CFG_en : Fld := ⟨0x10, 0x004, 31, 1, .rw, .k 0x0⟩
def TRG_CFG_src : Fld := ⟨0x10, 0x004, 24, 7, .cfg, .k 0x0⟩
def TRG_CFG_edge : Fld := ⟨0x10, 0x004, 22, 2, .cfg, .k 0x1⟩
def TRG_CFG_filt_n : Fld := ⟨0x10, 0x004, 17, 5, .cfg, .k 0x5⟩
def TRG_CFG_filt_m : Fld := ⟨0x10, 0x004, 13, 4, .cfg, .k 0x3⟩
def TRG_PARAM_bond : Fld := ⟨0x10, 0x008, 16, 16, .cfg, .k 0x0⟩
def TRG_PARAM_ftype : Fld := ⟨0x10, 0x008, 12, 4, .cfg, .k 0x0⟩
def TRG_PARAM_half : Fld := ⟨0x10, 0x008, 11, 1, .cfg, .k 0x0⟩
def TRG_PARAM_object : Fld := ⟨0x10, 0x008, 0, 10, .cfg, .k 0x0⟩
def TRG_COUNT_count : Fld := ⟨0x10, 0x00C, 0, 16, .cfg, .k 0x1⟩
def TRG_LEVEL_hyst : Fld := ⟨0x10, 0x010, 24, 8, .cfg, .k 0x1⟩
def TRG_LEVEL_level : Fld := ⟨0x10, 0x010, 0, 24, .cfg, .k 0x0⟩
def TRG_ROUTE_thr_en : Fld := ⟨0x10, 0x014, 31, 1, .rw, .k 0x0⟩
def TRG_ROUTE_course : Fld := ⟨0x10, 0x014, 26, 5, .rw, .k 0x0⟩
def TRG_ROUTE_tmask : Fld := ⟨0x10, 0x014, 18, 8, .rw, .k 0x0⟩
def TRG_ROUTE_evt_en : Fld := ⟨0x10, 0x014, 17, 1, .rw, .k 0x0⟩
def TRG_ROUTE_evt : Fld := ⟨0x10, 0x014, 15, 2, .rw, .k 0x0⟩
def TRG_STATUS_fired : Fld := ⟨0x10, 0x018, 0, 16, .w1c, .k 0x0⟩
def TRG_OUT_CFG_src : Fld := ⟨0x10, 0x040, 20, 6, .rw, .k 0x3F⟩
def TRG_OUT_CFG_width_ns : Fld := ⟨0x10, 0x040, 0, 20, .rw, .k 0x64⟩
def TRG_IN_CFG_invert : Fld := ⟨0x10, 0x050, 0, 1, .rw, .k 0x0⟩
def FLN_CTRL_en : Fld := ⟨0x11, 0x000, 0, 1, .rw, .k 0x0⟩
def FLN_STATUS_locked : Fld := ⟨0x11, 0x004, 16, 8, .ro, .k 0x0⟩
def FLN_STATUS_adapted : Fld := ⟨0x11, 0x004, 8, 8, .ro, .k 0x0⟩
def FLN_STATUS_flagged : Fld := ⟨0x11, 0x004, 0, 8, .w1c, .k 0x0⟩
def FLN_LCFG_tx_en : Fld := ⟨0x11, 0x100, 31, 1, .rw, .k 0x0⟩
def FLN_LCFG_rx_en : Fld := ⟨0x11, 0x100, 30, 1, .rw, .k 0x0⟩
def FLN_LCFG_pam4 : Fld := ⟨0x11, 0x100, 29, 1, .rw, .k 0x0⟩
def FLN_LCFG_pattern : Fld := ⟨0x11, 0x100, 24, 5, .rw, .k 0x5⟩
def FLN_LCFG_gray : Fld := ⟨0x11, 0x100, 23, 1, .rw, .k 0x1⟩
def FLN_LCFG_tx_inv : Fld := ⟨0x11, 0x100, 22, 1, .rw, .k 0x0⟩
def FLN_LCFG_rx_inv : Fld := ⟨0x11, 0x100, 21, 1, .rw, .k 0x0⟩
def FLN_LCFG_adapt_freeze : Fld := ⟨0x11, 0x100, 20, 1, .rw, .k 0x0⟩
def FLN_LCFG_manual_eq : Fld := ⟨0x11, 0x100, 19, 1, .rw, .k 0x0⟩
def FLN_RATE_rate_mbps : Fld := ⟨0x11, 0x104, 0, 17, .rw, .k 0x61A8⟩
def FLN_PPM_ppm : Fld := ⟨0x11, 0x108, 0, 16, .rw, .k 0x0⟩
def FLN_FFE_A_pre2 : Fld := ⟨0x11, 0x10C, 24, 8, .rw, .k 0x0⟩
def FLN_FFE_A_pre1 : Fld := ⟨0x11, 0x10C, 16, 8, .rw, .k 0x0⟩
def FLN_FFE_A_main : Fld := ⟨0x11, 0x10C, 8, 8, .rw, .k 0x7F⟩
def FLN_FFE_A_post1 : Fld := ⟨0x11, 0x10C, 0, 8, .rw, .k 0x0⟩
def FLN_FFE_B_post2 : Fld := ⟨0x11, 0x110, 0, 8, .rw, .k 0x0⟩
def FLN_AMP_amp_mv : Fld := ⟨0x11, 0x114, 0, 11, .rw, .k 0x320⟩
def FLN_SJ_sj_mui : Fld := ⟨0x11, 0x118, 21, 11, .rw, .k 0x0⟩
def FLN_SJ_sj_khz : Fld := ⟨0x11, 0x118, 0, 17, .rw, .k 0x3E8⟩
def FLN_RJ_rj_mui : Fld := ⟨0x11, 0x11C, 0, 6, .rw, .k 0x0⟩
def FLN_CTLE_peak : Fld := ⟨0x11, 0x120, 0, 7, .rw, .k 0x0⟩
def FLN_GATE_DLY_delay_us : Fld := ⟨0x11, 0x124, 0, 16, .rw, .k 0x0⟩
def FLN_GATE_WIN_window_us : Fld := ⟨0x11, 0x128, 0, 32, .rw, .k 0x0⟩
def FLN_UPAT_LEN_len : Fld := ⟨0x11, 0x12C, 0, 13, .rw, .k 0x40⟩
def FLN_UPAT_IDX_word : Fld := ⟨0x11, 0x130, 0, 7, .rw, .k 0x0⟩
def FLN_UPAT_data : Fld := ⟨0x11, 0x134, 0, 32, .rw, .k 0x0⟩
def FLN_LSTAT_tx_active : Fld := ⟨0x11, 0x138, 31, 1, .ro, .k 0x0⟩
def FLN_LSTAT_rx_active : Fld := ⟨0x11, 0x138, 30, 1, .ro, .k 0x0⟩
def FLN_LSTAT_adapted : Fld := ⟨0x11, 0x138, 29, 1, .ro, .k 0x0⟩
def FLN_LSTAT_locked : Fld := ⟨0x11, 0x138, 28, 1, .ro, .k 0x0⟩
def FLN_LSTAT_gate_open : Fld := ⟨0x11, 0x138, 27, 1, .ro, .k 0x0⟩
def FLN_LSTAT_derated : Fld := ⟨0x11, 0x138, 26, 1, .ro, .k 0x0⟩
def FLN_LSTAT_gate_unlocked : Fld := ⟨0x11, 0x138, 5, 1, .w1c, .k 0x0⟩
def FLN_LSTAT_lock_lost : Fld := ⟨0x11, 0x138, 4, 1, .w1c, .k 0x0⟩
def FLN_LSTAT_adapt_fail : Fld := ⟨0x11, 0x138, 3, 1, .w1c, .k 0x0⟩
def FLN_LSTAT_jit_clamp : Fld := ⟨0x11, 0x138, 2, 1, .w1c, .k 0x0⟩
def FLN_LSTAT_rate_adj : Fld := ⟨0x11, 0x138, 1, 1, .w1c, .k 0x0⟩
def FLN_BITS_LO_count : Fld := ⟨0x11, 0x13C, 0, 32, .ro, .k 0x0⟩
def FLN_BITS_HI_count : Fld := ⟨0x11, 0x140, 0, 32, .ro, .k 0x0⟩
def FLN_ERR_LO_count : Fld := ⟨0x11, 0x144, 0, 32, .ro, .k 0x0⟩
def FLN_ERR_HI_count : Fld := ⟨0x11, 0x148, 0, 32, .ro, .k 0x0⟩
def FLN_SYM_LO_count : Fld := ⟨0x11, 0x14C, 0, 32, .ro, .k 0x0⟩
def FLN_SYM_HI_count : Fld := ⟨0x11, 0x150, 0, 32, .ro, .k 0x0⟩
def FLN_UNLK_LO_count : Fld := ⟨0x11, 0x154, 0, 32, .ro, .k 0x0⟩
def FLN_UNLK_HI_count : Fld := ⟨0x11, 0x158, 0, 32, .ro, .k 0x0⟩
def FLN_SCAN_CFG_start : Fld := ⟨0x11, 0x15C, 31, 1, .sc, .k 0x0⟩
def FLN_SCAN_CFG_eye : Fld := ⟨0x11, 0x15C, 29, 2, .rw, .k 0x1⟩
def FLN_SCAN_CFG_dwell : Fld := ⟨0x11, 0x15C, 25, 4, .rw, .k 0x7⟩
def FLN_SCAN_STAT_state : Fld := ⟨0x11, 0x160, 29, 3, .ro, .k 0x0⟩
def FLN_SCAN_STAT_points : Fld := ⟨0x11, 0x160, 0, 15, .ro, .k 0x0⟩
def SER_CTRL_tgt_tpl : Fld := ⟨0x12, 0x000, 5, 4, .cfg, .k 0x0⟩
def SER_CTRL_cpol : Fld := ⟨0x12, 0x000, 4, 1, .cfg, .k 0x0⟩
def SER_CTRL_pin_mode : Fld := ⟨0x12, 0x000, 3, 1, .cfg, .k 0x0⟩
def SER_CTRL_role : Fld := ⟨0x12, 0x000, 2, 1, .cfg, .k 0x0⟩
def SER_CTRL_en : Fld := ⟨0x12, 0x000, 0, 1, .rw, .k 0x0⟩
def SER_STATUS_busy : Fld := ⟨0x12, 0x004, 31, 1, .ro, .k 0x0⟩
def SER_STATUS_err : Fld := ⟨0x12, 0x004, 7, 1, .w1c, .k 0x0⟩
def SER_STATUS_clk_adj : Fld := ⟨0x12, 0x004, 6, 1, .w1c, .k 0x0⟩
def SER_STATUS_start_late : Fld := ⟨0x12, 0x004, 5, 1, .w1c, .k 0x0⟩
def SER_STATUS_rx_ovf : Fld := ⟨0x12, 0x004, 4, 1, .w1c, .k 0x0⟩
def SER_STATUS_tx_under : Fld := ⟨0x12, 0x004, 3, 1, .w1c, .k 0x0⟩
def SER_STATUS_tx_ovf : Fld := ⟨0x12, 0x004, 2, 1, .w1c, .k 0x0⟩
def SER_STATUS_cfg_ignored : Fld := ⟨0x12, 0x004, 0, 1, .w1c, .k 0x0⟩
def SER_PIN_A_map : Fld := ⟨0x12, 0x008, 0, 30, .cfg, .k 0x0⟩
def SER_PIN_B_map : Fld := ⟨0x12, 0x00C, 0, 32, .cfg, .k 0x0⟩
def SER_PIN_C_map : Fld := ⟨0x12, 0x010, 0, 12, .cfg, .k 0x0⟩
def SER_CLK_half : Fld := ⟨0x12, 0x014, 0, 32, .cfg, .k 0x5000⟩
def SER_SDLY_samp_dly : Fld := ⟨0x12, 0x018, 0, 17, .cfg, .k 0x0⟩
def SER_SEL_pol : Fld := ⟨0x12, 0x01C, 28, 4, .cfg, .k 0x0⟩
def SER_SEL_gap : Fld := ⟨0x12, 0x01C, 16, 8, .cfg, .k 0x2⟩
def SER_SEL_lag : Fld := ⟨0x12, 0x01C, 8, 8, .cfg, .k 0x2⟩
def SER_SEL_lead : Fld := ⟨0x12, 0x01C, 0, 8, .cfg, .k 0x2⟩
def SER_QSTAT_rx : Fld := ⟨0x12, 0x020, 16, 9, .ro, .k 0x0⟩
def SER_QSTAT_tx : Fld := ⟨0x12, 0x020, 0, 9, .ro, .k 0x0⟩
def SER_RX_STAT_valid : Fld := ⟨0x12, 0x024, 31, 1, .ro, .k 0x0⟩
def SER_RX_STAT_last : Fld := ⟨0x12, 0x024, 30, 1, .ro, .k 0x0⟩
def SER_RX_STAT_short : Fld := ⟨0x12, 0x024, 29, 1, .ro, .k 0x0⟩
def SER_RX_STAT_long : Fld := ⟨0x12, 0x024, 28, 1, .ro, .k 0x0⟩
def SER_RX_STAT_trip : Fld := ⟨0x12, 0x024, 27, 1, .ro, .k 0x0⟩
def SER_RX_STAT_abort : Fld := ⟨0x12, 0x024, 26, 1, .ro, .k 0x0⟩
def SER_RX_STAT_tpl : Fld := ⟨0x12, 0x024, 22, 4, .ro, .k 0x0⟩
def SER_RX_STAT_phase : Fld := ⟨0x12, 0x024, 20, 2, .ro, .k 0x0⟩
def SER_RX_STAT_bits : Fld := ⟨0x12, 0x024, 0, 7, .ro, .k 0x0⟩
def SER_TPL_A_phase_hi : Fld := ⟨0x12, 0x100, 16, 16, .cfg, .k 0xC000⟩
def SER_TPL_A_phase_lo : Fld := ⟨0x12, 0x100, 0, 16, .cfg, .k 0xC000⟩
def SER_TPL_B_phase_hi : Fld := ⟨0x12, 0x104, 16, 16, .cfg, .k 0xC000⟩
def SER_TPL_B_phase_lo : Fld := ⟨0x12, 0x104, 0, 16, .cfg, .k 0xC000⟩
def SER_TPL_C_lmode : Fld := ⟨0x12, 0x108, 31, 1, .cfg, .k 0x0⟩
def SER_TPL_C_lsb_first : Fld := ⟨0x12, 0x108, 30, 1, .cfg, .k 0x0⟩
def SER_TPL_C_wbits : Fld := ⟨0x12, 0x108, 25, 5, .cfg, .k 0x7⟩
def SER_TPL_C_sel : Fld := ⟨0x12, 0x108, 21, 4, .cfg, .k 0x1⟩
def ETH_STATUS_ptp_blocked : Fld := ⟨0x13, 0x000, 11, 1, .ro, .k 0x0⟩
def ETH_STATUS_ptp_port : Fld := ⟨0x13, 0x000, 10, 1, .ro, .k 0x0⟩
def ETH_STATUS_e1_down_evt : Fld := ⟨0x13, 0x000, 9, 1, .w1c, .k 0x0⟩
def ETH_STATUS_e0_down_evt : Fld := ⟨0x13, 0x000, 8, 1, .w1c, .k 0x0⟩
def ETH_STATUS_e1_macsec : Fld := ⟨0x13, 0x000, 7, 1, .ro, .k 0x0⟩
def ETH_STATUS_e1_fec : Fld := ⟨0x13, 0x000, 6, 1, .ro, .k 0x0⟩
def ETH_STATUS_e1_an : Fld := ⟨0x13, 0x000, 5, 1, .ro, .k 0x0⟩
def ETH_STATUS_e1_up : Fld := ⟨0x13, 0x000, 4, 1, .ro, .k 0x0⟩
def ETH_STATUS_e0_macsec : Fld := ⟨0x13, 0x000, 3, 1, .ro, .k 0x0⟩
def ETH_STATUS_e0_fec : Fld := ⟨0x13, 0x000, 2, 1, .ro, .k 0x0⟩
def ETH_STATUS_e0_an : Fld := ⟨0x13, 0x000, 1, 1, .ro, .k 0x0⟩
def ETH_STATUS_e0_up : Fld := ⟨0x13, 0x000, 0, 1, .ro, .k 0x0⟩
def ADP_STATUS_owner_live : Fld := ⟨0x14, 0x000, 31, 1, .ro, .k 0x0⟩
def ADP_STATUS_autonomous : Fld := ⟨0x14, 0x000, 30, 1, .ro, .k 0x0⟩
def ADP_STATUS_lapse_hold : Fld := ⟨0x14, 0x000, 29, 1, .ro, .k 0x0⟩
def ADP_STATUS_observers : Fld := ⟨0x14, 0x000, 27, 2, .ro, .k 0x0⟩
def ADP_STATUS_replay : Fld := ⟨0x14, 0x000, 3, 1, .w1c, .k 0x0⟩
def ADP_STATUS_bulk_abandon : Fld := ⟨0x14, 0x000, 2, 1, .w1c, .k 0x0⟩
def ADP_STATUS_acl_reject : Fld := ⟨0x14, 0x000, 1, 1, .w1c, .k 0x0⟩
def ADP_STATUS_lapsed : Fld := ⟨0x14, 0x000, 0, 1, .w1c, .k 0x0⟩
def ADP_LEASE_left_ms : Fld := ⟨0x14, 0x004, 0, 16, .ro, .k 0x0⟩
def FC_STATUS_LO_status : Fld := ⟨0x15, 0x000, 0, 32, .w1c, .k 0x0⟩
def FC_STATUS_HI_status : Fld := ⟨0x15, 0x004, 0, 32, .w1c, .k 0x0⟩
def FC_FIRST_valid : Fld := ⟨0x15, 0x008, 31, 1, .w1c, .k 0x0⟩
def FC_FIRST_inj : Fld := ⟨0x15, 0x008, 30, 1, .ro, .k 0x0⟩
def FC_FIRST_inj_masked : Fld := ⟨0x15, 0x008, 29, 1, .ro, .k 0x0⟩
def FC_FIRST_sev : Fld := ⟨0x15, 0x008, 8, 2, .ro, .k 0x0⟩
def FC_FIRST_src : Fld := ⟨0x15, 0x008, 0, 6, .ro, .k 0x0⟩
def FC_FIRST_DET_detail : Fld := ⟨0x15, 0x00C, 0, 16, .ro, .k 0x0⟩
def FC_OVF_ovf : Fld := ⟨0x15, 0x010, 31, 1, .w1c, .k 0x0⟩
def FC_OVF_count : Fld := ⟨0x15, 0x010, 0, 16, .ro, .k 0x0⟩
def FC_INJ_go : Fld := ⟨0x15, 0x014, 31, 1, .sc, .k 0x0⟩
def FC_INJ_inj_esc : Fld := ⟨0x15, 0x014, 30, 1, .rw, .k 0x0⟩
def FC_INJ_detail : Fld := ⟨0x15, 0x014, 8, 16, .rw, .k 0x0⟩
def FC_INJ_sev : Fld := ⟨0x15, 0x014, 6, 2, .rw, .k 0x0⟩
def FC_INJ_src : Fld := ⟨0x15, 0x014, 0, 6, .rw, .k 0x0⟩
def FC_ESC_esc_us : Fld := ⟨0x15, 0x018, 0, 20, .rw, .k 0x7D0⟩
def FC_SEL_src : Fld := ⟨0x15, 0x01C, 0, 6, .rw, .k 0x0⟩
def FC_SRC_sev_max : Fld := ⟨0x15, 0x020, 30, 2, .ro, .k 0x0⟩
def FC_SRC_repeat : Fld := ⟨0x15, 0x020, 22, 8, .ro, .k 0x0⟩
def FC_SRC_esc_done : Fld := ⟨0x15, 0x020, 21, 1, .ro, .k 0x0⟩
def FC_SRC_esc_lost : Fld := ⟨0x15, 0x020, 20, 1, .ro, .k 0x0⟩
def FC_SRC_inj : Fld := ⟨0x15, 0x020, 19, 1, .ro, .k 0x0⟩
def FC_SRC_inj_masked : Fld := ⟨0x15, 0x020, 18, 1, .ro, .k 0x0⟩
def FC_SRC_detail : Fld := ⟨0x15, 0x020, 0, 16, .ro, .k 0x0⟩
def BST_CTRL_soft_rep : Fld := ⟨0x16, 0x000, 2, 1, .rw, .k 0x1⟩
def BST_CTRL_abort : Fld := ⟨0x16, 0x000, 1, 1, .sc, .k 0x0⟩
def BST_CTRL_start : Fld := ⟨0x16, 0x000, 0, 1, .sc, .k 0x0⟩
def BST_CFG_kind : Fld := ⟨0x16, 0x004, 8, 2, .rw, .k 0x2⟩
def BST_CFG_target : Fld := ⟨0x16, 0x004, 0, 6, .rw, .k 0x0⟩
def BST_STATUS_state : Fld := ⟨0x16, 0x008, 29, 3, .ro, .k 0x0⟩
def BST_STATUS_abandons : Fld := ⟨0x16, 0x008, 0, 16, .ro, .k 0x0⟩
def BST_PROG_count : Fld := ⟨0x16, 0x00C, 0, 32, .ro, .k 0x0⟩
def BST_DONE_count : Fld := ⟨0x16, 0x010, 0, 32, .ro, .k 0x0⟩
def BST_SIG_LO_sig : Fld := ⟨0x16, 0x014, 0, 32, .ro, .k 0x0⟩
def BST_SIG_HI_sig : Fld := ⟨0x16, 0x018, 0, 32, .ro, .k 0x0⟩
def BST_EXP_LO_sig : Fld := ⟨0x16, 0x01C, 0, 32, .ro, .k 0x0⟩
def BST_EXP_HI_sig : Fld := ⟨0x16, 0x020, 0, 32, .ro, .k 0x0⟩
def BST_LIMIT_limit_ms : Fld := ⟨0x16, 0x024, 0, 32, .rw, .k 0x2710⟩
def KEY_STATUS_switch_state : Fld := ⟨0x01, 0x000, 29, 3, .ro, .k 0x0⟩
def KEY_STATUS_pair : Fld := ⟨0x01, 0x000, 28, 1, .ro, .k 0x0⟩
def KEY_STATUS_bank : Fld := ⟨0x01, 0x000, 27, 1, .ro, .k 0x0⟩
def KEY_STATUS_standby_ok : Fld := ⟨0x01, 0x000, 26, 1, .ro, .k 0x0⟩
def KEY_STATUS_reverted : Fld := ⟨0x01, 0x000, 2, 1, .w1c, .k 0x0⟩
def KEY_STATUS_switched : Fld := ⟨0x01, 0x000, 1, 1, .w1c, .k 0x0⟩
def KEY_STATUS_change_over : Fld := ⟨0x01, 0x000, 0, 1, .w1c, .k 0x0⟩
def KEY_HANDOFF_last_us : Fld := ⟨0x01, 0x004, 0, 16, .ro, .k 0x0⟩
def CAL_STATUS_gen : Fld := ⟨0x17, 0x000, 16, 16, .ro, .k 0x0⟩
def CAL_STATUS_store : Fld := ⟨0x17, 0x000, 15, 1, .ro, .k 0x0⟩
def CAL_STATUS_slots_used : Fld := ⟨0x17, 0x000, 10, 5, .ro, .k 0x0⟩
def CAL_STATUS_absent : Fld := ⟨0x17, 0x000, 9, 1, .ro, .k 0x0⟩
def CAL_STATUS_committing : Fld := ⟨0x17, 0x000, 8, 1, .ro, .k 0x0⟩
def CAL_STATUS_run_busy : Fld := ⟨0x17, 0x000, 7, 1, .ro, .k 0x0⟩
def CAL_STATUS_flagged : Fld := ⟨0x17, 0x000, 2, 1, .w1c, .k 0x0⟩
def CAL_STATUS_committed : Fld := ⟨0x17, 0x000, 1, 1, .w1c, .k 0x0⟩
def CAL_STATUS_fallback : Fld := ⟨0x17, 0x000, 0, 1, .w1c, .k 0x0⟩
def CAL_REF_STATE_mode : Fld := ⟨0x17, 0x004, 0, 3, .ro, .k 0x0⟩
def SEC_STATUS_rollback : Fld := ⟨0x18, 0x000, 24, 7, .ro, .k 0⟩
def SEC_STATUS_enrolled : Fld := ⟨0x18, 0x000, 22, 2, .ro, .k 0⟩
def SEC_STATUS_bank_b_ok : Fld := ⟨0x18, 0x000, 21, 1, .ro, .k 0x0⟩
def SEC_STATUS_bank_a_ok : Fld := ⟨0x18, 0x000, 20, 1, .ro, .k 0x0⟩
def SEC_STATUS_key_mismatch : Fld := ⟨0x18, 0x000, 1, 1, .w1c, .k 0x0⟩
def SEC_STATUS_sig_fail : Fld := ⟨0x18, 0x000, 0, 1, .w1c, .k 0x0⟩
def NVM_STATUS_busy : Fld := ⟨0x19, 0x000, 31, 1, .ro, .k 0x0⟩
def NVM_STATUS_erasing : Fld := ⟨0x19, 0x000, 30, 1, .ro, .k 0x0⟩
def NVM_STATUS_free_blocks : Fld := ⟨0x19, 0x000, 0, 16, .ro, .k 0x0⟩
def NVM_WEAR_max_erase : Fld := ⟨0x19, 0x004, 0, 17, .ro, .k 0x0⟩
def CRS_STATE_derated : Fld := ⟨0x05, 0x000, 31, 1, .ro, .k 0x0⟩
def CRS_STATE_pe_powered : Fld := ⟨0x05, 0x000, 30, 1, .ro, .k 0x0⟩
def CRS_TEMP_temp_mc : Fld := ⟨0x05, 0x004, 0, 32, .ro, .k 0x0⟩
def CRS_PWR_pwr_mw : Fld := ⟨0x05, 0x008, 0, 18, .ro, .k 0x0⟩
def PWR_SEL_rail : Fld := ⟨0x1A, 0x000, 0, 4, .rw, .k 0x0⟩
def PWR_RAIL_in_range : Fld := ⟨0x1A, 0x004, 31, 1, .ro, .k 0x0⟩
def PWR_RAIL_power_good : Fld := ⟨0x1A, 0x004, 30, 1, .ro, .k 0x0⟩
def PWR_RAIL_v_mv : Fld := ⟨0x1A, 0x004, 0, 16, .ro, .k 0x0⟩
def PWR_RAIL_I_i_ma : Fld := ⟨0x1A, 0x008, 0, 20, .ro, .k 0x0⟩
def PWR_STATUS_out_now : Fld := ⟨0x1A, 0x00C, 16, 11, .ro, .k 0x0⟩
def PWR_STATUS_out_evt : Fld := ⟨0x1A, 0x00C, 0, 11, .w1c, .k 0x0⟩

end F

/-- The register map of the KEY_ block. -/
def rowsKEY : List RegRow := [
  ⟨0x01, 0x000, 0, 1, 0, 0, .none, .none, [F.KEY_STATUS_switch_state, F.KEY_STATUS_pair, F.KEY_STATUS_bank, F.KEY_STATUS_standby_ok, F.KEY_STATUS_reverted, F.KEY_STATUS_switched, F.KEY_STATUS_change_over]⟩,
  ⟨0x01, 0x004, 0, 1, 0, 0, .none, .none, [F.KEY_HANDOFF_last_us]⟩]

/-- The register map of the TB_ block. -/
def rowsTB : List RegRow := [
  ⟨0x02, 0x000, 0, 1, 0, 0, .none, .tbLines, [F.TB_CTRL_tk_pos, F.TB_CTRL_tk_auto, F.TB_CTRL_ptp_en, F.TB_CTRL_cal_restart, F.TB_CTRL_lines_en]⟩,
  ⟨0x02, 0x004, 0, 1, 0, 0, .none, .none, [F.TB_STATUS_time_state, F.TB_STATUS_tk_pos_eff, F.TB_STATUS_is_tk, F.TB_STATUS_cal_valid, F.TB_STATUS_sync_present, F.TB_STATUS_refclk_present, F.TB_STATUS_tk_absent, F.TB_STATUS_pos_conflict, F.TB_STATUS_frame_crc, F.TB_STATUS_quoin_lost, F.TB_STATUS_split, F.TB_STATUS_late, F.TB_STATUS_lead_short, F.TB_STATUS_holdover, F.TB_STATUS_cfg_ignored]⟩,
  ⟨0x02, 0x008, 0, 1, 0, 0, .none, .none, [F.TB_SYNC_OFFSET_offset]⟩,
  ⟨0x02, 0x00C, 0, 1, 0, 0, .none, .none, [F.TB_LATE_FIRST_valid, F.TB_LATE_FIRST_queue, F.TB_LATE_FIRST_site, F.TB_LATE_FIRST_chip_wide, F.TB_LATE_FIRST_lateness]⟩]

/-- The register map of the TLY_ block. -/
def rowsTLY : List RegRow := [
  ⟨0x03, 0x000, 0, 1, 0, 0, .none, .none, [F.TLY_CTRL_analog_reserve, F.TLY_CTRL_k_reset]⟩,
  ⟨0x03, 0x004, 0, 1, 0, 0, .none, .none, [F.TLY_BUDGET_budget_mw]⟩,
  ⟨0x03, 0x008, 0, 1, 0, 0, .none, .none, [F.TLY_STATUS_throttle_active, F.TLY_STATUS_smu_block, F.TLY_STATUS_k_sat, F.TLY_STATUS_overrun, F.TLY_STATUS_over_abs, F.TLY_STATUS_smu_over, F.TLY_STATUS_refused, F.TLY_STATUS_released]⟩,
  ⟨0x03, 0x00C, 0, 1, 0, 0, .none, .none, [F.TLY_CORR_k]⟩,
  ⟨0x03, 0x010, 0, 1, 0, 0, .none, .none, [F.TLY_BASE_base_mw]⟩,
  ⟨0x03, 0x014, 0, 1, 0, 0, .none, .none, [F.TLY_MEAS_p_meas_mw]⟩,
  ⟨0x03, 0x018, 0, 1, 0, 0, .none, .none, [F.TLY_MULT_m_q]⟩]

/-- The register map of the THM_ block. -/
def rowsTHM : List RegRow := [
  ⟨0x04, 0x000, 0, 1, 0, 0, .none, .none, [F.THM_STATUS_tmax_src, F.THM_STATUS_sensor_fail, F.THM_STATUS_first_set, F.THM_STATUS_shutdown, F.THM_STATUS_throttle, F.THM_STATUS_warning]⟩,
  ⟨0x04, 0x004, 0, 1, 0, 0, .none, .none, [F.THM_TMAX_tmax_mc]⟩]

/-- The register map of the CRS_ block. -/
def rowsCRS : List RegRow := [
  ⟨0x05, 0x000, 0, 1, 0, 31, .none, .none, [F.CRS_STATE_derated, F.CRS_STATE_pe_powered]⟩,
  ⟨0x05, 0x004, 0, 1, 0, 31, .none, .none, [F.CRS_TEMP_temp_mc]⟩,
  ⟨0x05, 0x008, 0, 1, 0, 31, .none, .none, [F.CRS_PWR_pwr_mw]⟩]

/-- The register map of the PCH_ block. -/
def rowsPCH : List RegRow := [
  ⟨0x06, 0x000, 0, 1, 0, 31, .none, .none, [F.PCH_CTRL_selfchk_en, F.PCH_CTRL_en]⟩,
  ⟨0x06, 0x004, 0, 1, 0, 31, .none, .none, [F.PCH_STATUS_spare_busy, F.PCH_STATUS_spare_pos, F.PCH_STATUS_swap_done, F.PCH_STATUS_selfchk_fail, F.PCH_STATUS_range_held, F.PCH_STATUS_env_clamp, F.PCH_STATUS_trip_any, F.PCH_STATUS_cfg_ignored]⟩,
  ⟨0x06, 0x008, 0, 1, 0, 31, .none, .none, [F.PCH_TRIP_LATCH_latch]⟩,
  ⟨0x06, 0x100, 64, 33, 0, 31, .none, .none, [F.PCH_DRV_LVL_vih, F.PCH_DRV_LVL_vil]⟩,
  ⟨0x06, 0x104, 64, 33, 0, 31, .none, .none, [F.PCH_TERM_LVL_vt, F.PCH_TERM_LVL_vcom]⟩,
  ⟨0x06, 0x108, 64, 33, 0, 31, .none, .none, [F.PCH_CMP_LVL_voh, F.PCH_CMP_LVL_vol]⟩,
  ⟨0x06, 0x10C, 64, 33, 0, 31, .none, .none, [F.PCH_LOAD_load_en, F.PCH_LOAD_ioh_ua, F.PCH_LOAD_iol_ua]⟩,
  ⟨0x06, 0x110, 64, 33, 0, 31, .none, .none, [F.PCH_PIN_CFG_idle, F.PCH_PIN_CFG_hyst]⟩,
  ⟨0x06, 0x114, 64, 33, 0, 31, .none, .none, [F.PCH_PMU_CFG_connect, F.PCH_PMU_CFG_fmode, F.PCH_PMU_CFG_range, F.PCH_PMU_CFG_iclamp_pct]⟩,
  ⟨0x06, 0x118, 64, 33, 0, 31, .none, .none, [F.PCH_PMU_FORCE_force]⟩,
  ⟨0x06, 0x11C, 64, 33, 0, 31, .none, .none, [F.PCH_PMU_CLAMP_vclamp_hi, F.PCH_PMU_CLAMP_vclamp_lo]⟩,
  ⟨0x06, 0x120, 64, 33, 0, 31, .none, .none, [F.PCH_PMU_APER_delay_us, F.PCH_PMU_APER_aper]⟩,
  ⟨0x06, 0x124, 64, 33, 0, 31, .none, .block, [F.PCH_TRIP_CFG_trip_en, F.PCH_TRIP_CFG_cond, F.PCH_TRIP_CFG_clr_mode, F.PCH_TRIP_CFG_act, F.PCH_TRIP_CFG_filt_n, F.PCH_TRIP_CFG_filt_m]⟩,
  ⟨0x06, 0x128, 64, 33, 0, 31, .none, .none, [F.PCH_TRIP_GRP_grp]⟩,
  ⟨0x06, 0x12C, 64, 33, 0, 31, .none, .none, [F.PCH_ENV_vmax, F.PCH_ENV_vmin]⟩,
  ⟨0x06, 0x130, 64, 33, 0, 31, .none, .none, [F.PCH_ENV_I_imax_ua]⟩,
  ⟨0x06, 0x134, 64, 33, 0, 31, .none, .none, [F.PCH_CH_STATE_derated, F.PCH_CH_STATE_spare, F.PCH_CH_STATE_pmu_conn, F.PCH_CH_STATE_tripped, F.PCH_CH_STATE_active]⟩]

/-- The register map of the TMG_ block. -/
def rowsTMG : List RegRow := [
  ⟨0x07, 0x000, 0, 1, 0, 31, .none, .none, [F.TMG_CTRL_plumb_idle_any, F.TMG_CTRL_apply_now, F.TMG_CTRL_plumb_en]⟩,
  ⟨0x07, 0x004, 0, 1, 0, 31, .none, .none, [F.TMG_STATUS_streaming, F.TMG_STATUS_pending, F.TMG_STATUS_edge_dropped, F.TMG_STATUS_deskew_limit, F.TMG_STATUS_plumb_reject, F.TMG_STATUS_period_refused, F.TMG_STATUS_applied]⟩,
  ⟨0x07, 0x008, 0, 1, 0, 31, .none, .none, [F.TMG_WIN_set, F.TMG_WIN_pin]⟩,
  ⟨0x07, 0x00C, 0, 1, 0, 31, .tmgSet, .none, [F.TMG_PERIOD_period]⟩,
  ⟨0x07, 0x010, 4, 5, 0, 31, .tmgEdge, .none, [F.TMG_EDGE_offset]⟩,
  ⟨0x07, 0x024, 0, 1, 0, 31, .tmgSetPin, .none, [F.TMG_PIN_CFG_cmp_mode]⟩,
  ⟨0x07, 0x028, 0, 1, 0, 31, .tmgPin, .none, [F.TMG_FIX_DRV_fix_drv]⟩,
  ⟨0x07, 0x02C, 0, 1, 0, 31, .tmgPin, .none, [F.TMG_FIX_CMP_fix_cmp]⟩,
  ⟨0x07, 0x030, 0, 1, 0, 31, .tmgPin, .none, [F.TMG_CORR_DRV_fall_delta, F.TMG_CORR_DRV_rise]⟩,
  ⟨0x07, 0x034, 0, 1, 0, 31, .tmgPin, .none, [F.TMG_CORR_CMP_cmp]⟩,
  ⟨0x07, 0x038, 0, 1, 0, 31, .tmgPin, .none, [F.TMG_PLUMB_last_result, F.TMG_PLUMB_age_s]⟩]

/-- The register map of the PAT_ block. -/
def rowsPAT : List RegRow := [
  ⟨0x08, 0x000, 0, 1, 0, 31, .none, .none, [F.PAT_CTRL_jreq, F.PAT_CTRL_fail_jump_en]⟩,
  ⟨0x08, 0x004, 0, 1, 0, 31, .none, .none, [F.PAT_STATUS_streaming, F.PAT_STATUS_resident, F.PAT_STATUS_jlatch, F.PAT_STATUS_bad_link, F.PAT_STATUS_cur_seg, F.PAT_STATUS_abort, F.PAT_STATUS_starved, F.PAT_STATUS_apg_absent, F.PAT_STATUS_jump_taken]⟩,
  ⟨0x08, 0x008, 0, 1, 0, 31, .none, .none, [F.PAT_LOOP_remaining]⟩,
  ⟨0x08, 0x00C, 0, 1, 0, 31, .none, .none, [F.PAT_VIDX_vidx]⟩,
  ⟨0x08, 0x010, 0, 1, 0, 31, .none, .none, [F.PAT_SKIP_LO_skip]⟩,
  ⟨0x08, 0x014, 0, 1, 0, 31, .none, .none, [F.PAT_SKIP_HI_skip]⟩,
  ⟨0x08, 0x018, 0, 1, 0, 31, .none, .none, [F.PAT_DEMAND_jump_lines, F.PAT_DEMAND_vec_lines]⟩,
  ⟨0x08, 0x01C, 0, 1, 0, 31, .none, .none, [F.PAT_VCNT_LO_vcnt]⟩,
  ⟨0x08, 0x020, 0, 1, 0, 31, .none, .none, [F.PAT_VCNT_HI_vcnt]⟩,
  ⟨0x08, 0x000, 4, 4, 32, 32, .none, .none, [F.PAT_MARK_src, F.PAT_MARK_offset]⟩]

/-- The register map of the APG_ block. -/
def rowsAPG : List RegRow := [
  ⟨0x09, 0x000, 0, 1, 0, 31, .none, .block, [F.APG_CTRL_halt_jreq, F.APG_CTRL_carry_in, F.APG_CTRL_fc_restart, F.APG_CTRL_en]⟩,
  ⟨0x09, 0x004, 0, 1, 0, 31, .none, .none, [F.APG_STATUS_running, F.APG_STATUS_halted, F.APG_STATUS_pc, F.APG_STATUS_chain_slip, F.APG_STATUS_tally_ovf, F.APG_STATUS_tally_lost, F.APG_STATUS_fc_lost, F.APG_STATUS_fc_done, F.APG_STATUS_cfg_ignored]⟩,
  ⟨0x09, 0x008, 0, 1, 0, 31, .none, .block, [F.APG_ENTRY_entry]⟩,
  ⟨0x09, 0x00C, 0, 1, 0, 31, .none, .none, [F.APG_PROG_SEL_addr]⟩,
  ⟨0x09, 0x010, 0, 1, 0, 31, .apgProg, .block, [F.APG_PROG_LO_instr]⟩,
  ⟨0x09, 0x014, 0, 1, 0, 31, .apgProg, .block, [F.APG_PROG_HI_instr]⟩,
  ⟨0x09, 0x018, 0, 1, 0, 31, .none, .block, [F.APG_XMIN_x]⟩,
  ⟨0x09, 0x01C, 0, 1, 0, 31, .none, .block, [F.APG_XMAX_x]⟩,
  ⟨0x09, 0x020, 0, 1, 0, 31, .none, .block, [F.APG_XINIT_x]⟩,
  ⟨0x09, 0x024, 0, 1, 0, 31, .none, .block, [F.APG_YRANGE_ymax, F.APG_YRANGE_ymin]⟩,
  ⟨0x09, 0x028, 0, 1, 0, 31, .none, .block, [F.APG_YZINIT_zmax, F.APG_YZINIT_zinit, F.APG_YZINIT_yinit]⟩,
  ⟨0x09, 0x02C, 4, 4, 0, 31, .none, .block, [F.APG_LCINIT_count]⟩,
  ⟨0x09, 0x03C, 0, 1, 0, 31, .none, .block, [F.APG_DINIT_dinit]⟩,
  ⟨0x09, 0x040, 0, 1, 0, 31, .none, .block, [F.APG_TOPO_ymask, F.APG_TOPO_xmask]⟩,
  ⟨0x09, 0x044, 0, 1, 0, 31, .none, .block, [F.APG_UTBL_tbl]⟩,
  ⟨0x09, 0x048, 0, 1, 0, 31, .none, .block, [F.APG_USEL_xs1, F.APG_USEL_xs0, F.APG_USEL_ys1, F.APG_USEL_ys0]⟩,
  ⟨0x09, 0x04C, 0, 1, 0, 31, .none, .none, [F.APG_SCR_SEL_axis, F.APG_SCR_SEL_bit]⟩,
  ⟨0x09, 0x050, 0, 1, 0, 31, .apgScr, .block, [F.APG_SCR_xor_en, F.APG_SCR_xsrc, F.APG_SCR_src]⟩,
  ⟨0x09, 0x054, 0, 1, 0, 31, .none, .block, [F.APG_FC_CFG_mode, F.APG_FC_CFG_site_mask, F.APG_FC_CFG_first_n, F.APG_FC_CFG_slots]⟩,
  ⟨0x09, 0x058, 0, 1, 0, 31, .none, .none, [F.APG_FC_PINMASK_pins]⟩,
  ⟨0x09, 0x05C, 0, 1, 0, 31, .none, .none, [F.APG_FC_LOST_lost]⟩,
  ⟨0x09, 0x060, 0, 1, 0, 31, .none, .none, [F.APG_TALLY_CFG_row_spares, F.APG_TALLY_CFG_col_spares]⟩,
  ⟨0x09, 0x064, 0, 1, 0, 31, .none, .none, [F.APG_TALLY_CLR_clr]⟩,
  ⟨0x09, 0x080, 4, 32, 0, 31, .none, .block, [F.APG_PINMAP_type, F.APG_PINMAP_index]⟩]

/-- The register map of the SEQ_ block. -/
def rowsSEQ : List RegRow := [
  ⟨0x0A, 0x000, 0, 1, 0, 31, .none, .none, [F.SEQ_CTRL_stream_owner, F.SEQ_CTRL_mc_restart, F.SEQ_CTRL_en]⟩,
  ⟨0x0A, 0x004, 0, 1, 0, 31, .none, .none, [F.SEQ_STATUS_mc, F.SEQ_STATUS_run_mask, F.SEQ_STATUS_held_mask, F.SEQ_STATUS_lq_full, F.SEQ_STATUS_cust_block, F.SEQ_STATUS_wait_to, F.SEQ_STATUS_par_retry, F.SEQ_STATUS_start_refused, F.SEQ_STATUS_cfg_ignored]⟩,
  ⟨0x0A, 0x008, 0, 1, 0, 31, .none, .none, [F.SEQ_TCTRL_resume, F.SEQ_TCTRL_hold, F.SEQ_TCTRL_run]⟩,
  ⟨0x0A, 0x00C, 0, 1, 0, 31, .none, .none, [F.SEQ_WLIMIT_limit_us]⟩,
  ⟨0x0A, 0x010, 0, 1, 0, 31, .none, .none, [F.SEQ_MC_valid, F.SEQ_MC_disp, F.SEQ_MC_thread, F.SEQ_MC_uaddr, F.SEQ_MC_opcode]⟩,
  ⟨0x0A, 0x014, 0, 1, 0, 31, .none, .none, [F.SEQ_PAR_CNT_retries]⟩,
  ⟨0x0A, 0x040, 32, 8, 0, 31, .none, .thread, [F.SEQ_TCFG_home, F.SEQ_TCFG_home_course, F.SEQ_TCFG_site, F.SEQ_TCFG_entry]⟩,
  ⟨0x0A, 0x044, 32, 8, 0, 31, .none, .thread, [F.SEQ_TREGION_len, F.SEQ_TREGION_base]⟩,
  ⟨0x0A, 0x048, 32, 8, 0, 31, .none, .none, [F.SEQ_TSTAT_state, F.SEQ_TSTAT_step_pc, F.SEQ_TSTAT_opcode]⟩,
  ⟨0x0A, 0x04C, 32, 8, 0, 31, .none, .none, [F.SEQ_TPITCH_pitch_ns]⟩,
  ⟨0x0A, 0x050, 32, 8, 0, 31, .none, .none, [F.SEQ_TORG_LO_origin]⟩,
  ⟨0x0A, 0x054, 32, 8, 0, 31, .none, .none, [F.SEQ_TORG_HI_origin]⟩,
  ⟨0x0A, 0x058, 32, 8, 0, 31, .none, .none, [F.SEQ_TEVT_set, F.SEQ_TEVT_flags]⟩]

/-- The register map of the CTX_ block. -/
def rowsCTX : List RegRow := [
  ⟨0x0B, 0x000, 0, 1, 0, 31, .none, .none, [F.CTX_CTRL_pf_depth, F.CTX_CTRL_pf_cust, F.CTX_CTRL_flush, F.CTX_CTRL_pf_en]⟩,
  ⟨0x0B, 0x004, 0, 1, 0, 31, .none, .none, [F.CTX_STATUS_locked, F.CTX_STATUS_staged_drop, F.CTX_STATUS_lock_wait]⟩,
  ⟨0x0B, 0x008, 0, 1, 0, 31, .none, .none, [F.CTX_HIT_LO_count]⟩,
  ⟨0x0B, 0x00C, 0, 1, 0, 31, .none, .none, [F.CTX_HIT_HI_count]⟩,
  ⟨0x0B, 0x010, 0, 1, 0, 31, .none, .none, [F.CTX_MISS_LO_count]⟩,
  ⟨0x0B, 0x014, 0, 1, 0, 31, .none, .none, [F.CTX_MISS_HI_count]⟩]

/-- The register map of the RCK_ block. -/
def rowsRCK : List RegRow := [
  ⟨0x0C, 0x000, 0, 1, 0, 31, .none, .none, [F.RCK_CTRL_stat_clr]⟩,
  ⟨0x0C, 0x004, 0, 1, 0, 31, .none, .none, [F.RCK_STATUS_ready_mask, F.RCK_STATUS_post_hold, F.RCK_STATUS_post_lost, F.RCK_STATUS_stat_sat]⟩,
  ⟨0x0C, 0x008, 4, 4, 0, 31, .none, .none, [F.RCK_OWNER_own]⟩,
  ⟨0x0C, 0x040, 4, 8, 0, 31, .none, .none, [F.RCK_POST_post_mode, F.RCK_POST_p2, F.RCK_POST_p1, F.RCK_POST_p0]⟩,
  ⟨0x0C, 0x000, 0, 1, 32, 32, .none, .none, [F.RCK_RING_CFG_hwm_pct]⟩,
  ⟨0x0C, 0x004, 0, 1, 32, 32, .none, .none, [F.RCK_RING_STATUS_full, F.RCK_RING_STATUS_above_hwm, F.RCK_RING_STATUS_hwm_hit, F.RCK_RING_STATUS_full_hit]⟩,
  ⟨0x0C, 0x008, 0, 1, 32, 32, .none, .none, [F.RCK_WSEQ_LO_seq]⟩,
  ⟨0x0C, 0x00C, 0, 1, 32, 32, .none, .none, [F.RCK_WSEQ_HI_seq]⟩,
  ⟨0x0C, 0x010, 0, 1, 32, 32, .none, .none, [F.RCK_ASEQ_LO_seq]⟩,
  ⟨0x0C, 0x014, 0, 1, 32, 32, .none, .none, [F.RCK_ASEQ_HI_seq]⟩]

/-- The register map of the SMU_ block. -/
def rowsSMU : List RegRow := [
  ⟨0x0D, 0x000, 0, 1, 0, 3, .none, .none, [F.SMU_QCTRL_az_en, F.SMU_QCTRL_en]⟩,
  ⟨0x0D, 0x004, 0, 1, 0, 3, .none, .none, [F.SMU_QSTATUS_spare_busy, F.SMU_QSTATUS_spare_pos, F.SMU_QSTATUS_pulse_ignored, F.SMU_QSTATUS_isum_clamp, F.SMU_QSTATUS_env_clamp, F.SMU_QSTATUS_kelvin_open, F.SMU_QSTATUS_az_reject, F.SMU_QSTATUS_swap_done, F.SMU_QSTATUS_trip_any, F.SMU_QSTATUS_clamp_any, F.SMU_QSTATUS_cfg_ignored]⟩,
  ⟨0x0D, 0x008, 0, 1, 0, 3, .none, .none, [F.SMU_TRIP_LATCH_latch]⟩,
  ⟨0x0D, 0x100, 64, 33, 0, 3, .none, .none, [F.SMU_CFG_connect, F.SMU_CFG_fmode, F.SMU_CFG_vrange, F.SMU_CFG_irange, F.SMU_CFG_pulse, F.SMU_CFG_mon_en]⟩,
  ⟨0x0D, 0x104, 64, 33, 0, 3, .none, .none, [F.SMU_FORCE_CODE_force]⟩,
  ⟨0x0D, 0x108, 64, 33, 0, 3, .none, .none, [F.SMU_CLAMP_HI_clamp]⟩,
  ⟨0x0D, 0x10C, 64, 33, 0, 3, .none, .none, [F.SMU_CLAMP_LO_clamp]⟩,
  ⟨0x0D, 0x110, 64, 33, 0, 3, .none, .none, [F.SMU_MON_HI_mon]⟩,
  ⟨0x0D, 0x114, 64, 33, 0, 3, .none, .none, [F.SMU_MON_LO_mon]⟩,
  ⟨0x0D, 0x118, 64, 33, 0, 3, .none, .block, [F.SMU_MON_CFG_act, F.SMU_MON_CFG_clr_mode, F.SMU_MON_CFG_filt_n, F.SMU_MON_CFG_filt_m, F.SMU_MON_CFG_hyst]⟩,
  ⟨0x0D, 0x11C, 64, 33, 0, 3, .none, .none, [F.SMU_PULSE_width_ns]⟩,
  ⟨0x0D, 0x120, 64, 33, 0, 3, .none, .none, [F.SMU_SLEW_slew_mv_us]⟩,
  ⟨0x0D, 0x124, 64, 33, 0, 3, .none, .none, [F.SMU_APER_ns]⟩,
  ⟨0x0D, 0x128, 64, 33, 0, 3, .none, .none, [F.SMU_APER_DLY_ns]⟩,
  ⟨0x0D, 0x12C, 64, 33, 0, 3, .none, .none, [F.SMU_ENV_V_vmax_mv, F.SMU_ENV_V_vmin_mv]⟩,
  ⟨0x0D, 0x130, 64, 33, 0, 3, .none, .none, [F.SMU_ENV_I_imax_ua]⟩,
  ⟨0x0D, 0x134, 64, 33, 0, 3, .none, .none, [F.SMU_STATE_derated, F.SMU_STATE_spare, F.SMU_STATE_kelvin_open, F.SMU_STATE_tripped, F.SMU_STATE_connected, F.SMU_STATE_active]⟩]

/-- The register map of the WAV_ block. -/
def rowsWAV : List RegRow := [
  ⟨0x0E, 0x000, 0, 1, 0, 1, .none, .none, [F.WAV_HCTRL_plumb_en, F.WAV_HCTRL_en]⟩,
  ⟨0x0E, 0x004, 0, 1, 0, 1, .none, .none, [F.WAV_HSTATUS_no_rsv, F.WAV_HSTATUS_plumb_reject, F.WAV_HSTATUS_env_clamp, F.WAV_HSTATUS_clip_any, F.WAV_HSTATUS_ilim_any, F.WAV_HSTATUS_underrun_any]⟩,
  ⟨0x0E, 0x008, 0, 1, 0, 1, .none, .none, [F.WAV_FLAG_LATCH_latch]⟩,
  ⟨0x0E, 0x100, 64, 32, 0, 1, .none, .none, [F.WAV_CFG_src_en, F.WAV_CFG_dig_en, F.WAV_CFG_kind, F.WAV_CFG_buf_mode, F.WAV_CFG_dig_in, F.WAV_CFG_dig_range, F.WAV_CFG_dig_filt, F.WAV_CFG_reduce]⟩,
  ⟨0x0E, 0x104, 64, 32, 0, 1, .none, .none, [F.WAV_PINC_LO_inc]⟩,
  ⟨0x0E, 0x108, 64, 32, 0, 1, .none, .none, [F.WAV_PINC_HI_pofs, F.WAV_PINC_HI_inc]⟩,
  ⟨0x0E, 0x10C, 64, 32, 0, 1, .none, .none, [F.WAV_ENV_vmax_mv, F.WAV_ENV_vmin_mv]⟩,
  ⟨0x0E, 0x110, 64, 32, 0, 1, .none, .none, [F.WAV_AMP_code]⟩,
  ⟨0x0E, 0x114, 64, 32, 0, 1, .none, .none, [F.WAV_OFS_code]⟩,
  ⟨0x0E, 0x120, 64, 32, 0, 1, .none, .none, [F.WAV_SLEW_STEP_code]⟩,
  ⟨0x0E, 0x118, 64, 32, 0, 1, .none, .none, [F.WAV_SRATE_rate]⟩,
  ⟨0x0E, 0x11C, 64, 32, 0, 1, .none, .none, [F.WAV_DRATE_rate]⟩,
  ⟨0x0E, 0x124, 64, 32, 0, 1, .none, .none, [F.WAV_SLEW_RATE_rate]⟩,
  ⟨0x0E, 0x128, 64, 32, 0, 1, .none, .none, [F.WAV_CAPLEN_samples]⟩,
  ⟨0x0E, 0x12C, 64, 32, 0, 1, .none, .none, [F.WAV_BUF_FIRST_lines]⟩,
  ⟨0x0E, 0x130, 64, 32, 0, 1, .none, .none, [F.WAV_BUF_LEN_lines]⟩,
  ⟨0x0E, 0x134, 64, 32, 0, 1, .none, .none, [F.WAV_BUF_WR_index]⟩,
  ⟨0x0E, 0x138, 64, 32, 0, 1, .none, .none, [F.WAV_BUF_RD_index]⟩,
  ⟨0x0E, 0x13C, 64, 32, 0, 1, .none, .none, [F.WAV_STATE_done, F.WAV_STATE_derated, F.WAV_STATE_env, F.WAV_STATE_clip, F.WAV_STATE_ilim, F.WAV_STATE_underrun, F.WAV_STATE_capturing, F.WAV_STATE_playing, F.WAV_STATE_connected]⟩]

/-- The register map of the ACQ_ block. -/
def rowsACQ : List RegRow := [
  ⟨0x0F, 0x000, 0, 1, 0, 0, .none, .none, [F.ACQ_CTRL_disarm_all, F.ACQ_CTRL_en]⟩,
  ⟨0x0F, 0x004, 0, 1, 0, 0, .none, .none, [F.ACQ_STATUS_log_full, F.ACQ_STATUS_cal_refused, F.ACQ_STATUS_no_rsv, F.ACQ_STATUS_clamp, F.ACQ_STATUS_ovf, F.ACQ_STATUS_missed, F.ACQ_STATUS_cfg_ignored]⟩,
  ⟨0x0F, 0x008, 0, 1, 0, 0, .none, .none, [F.ACQ_USEL_unit]⟩,
  ⟨0x0F, 0x00C, 0, 1, 0, 0, .acqUnit, .acqUnit, [F.ACQ_UCFG_en, F.ACQ_UCFG_rmode, F.ACQ_UCFG_content, F.ACQ_UCFG_overwrite, F.ACQ_UCFG_interval_us]⟩,
  ⟨0x0F, 0x010, 0, 1, 0, 0, .acqUnit, .none, [F.ACQ_PRE_count]⟩,
  ⟨0x0F, 0x014, 0, 1, 0, 0, .acqUnit, .none, [F.ACQ_POST_count]⟩,
  ⟨0x0F, 0x018, 0, 1, 0, 0, .acqUnit, .acqUnit, [F.ACQ_BUF_FIRST_lines]⟩,
  ⟨0x0F, 0x01C, 0, 1, 0, 0, .acqUnit, .acqUnit, [F.ACQ_BUF_LEN_lines]⟩,
  ⟨0x0F, 0x020, 0, 1, 0, 0, .acqUnit, .none, [F.ACQ_WR_index]⟩,
  ⟨0x0F, 0x024, 0, 1, 0, 0, .acqUnit, .none, [F.ACQ_RD_index]⟩,
  ⟨0x0F, 0x028, 0, 1, 0, 0, .acqUnit, .none, [F.ACQ_USTAT_state, F.ACQ_USTAT_clamp, F.ACQ_USTAT_ovf, F.ACQ_USTAT_incomplete, F.ACQ_USTAT_segs]⟩,
  ⟨0x0F, 0x02C, 0, 1, 0, 0, .acqUnit, .none, [F.ACQ_EPRE_count]⟩,
  ⟨0x0F, 0x030, 0, 1, 0, 0, .acqUnit, .none, [F.ACQ_EPOST_count]⟩,
  ⟨0x0F, 0x034, 0, 1, 0, 0, .acqUnit, .none, [F.ACQ_HOLDOFF_by_events, F.ACQ_HOLDOFF_value]⟩,
  ⟨0x0F, 0x038, 0, 1, 0, 0, .acqUnit, .none, [F.ACQ_MISSED_value]⟩,
  ⟨0x0F, 0x03C, 0, 1, 0, 0, .acqUnit, .none, [F.ACQ_HELD_value]⟩,
  ⟨0x0F, 0x040, 0, 1, 0, 0, .acqUnit, .none, [F.ACQ_DEAD_value]⟩,
  ⟨0x0F, 0x044, 0, 1, 0, 0, .acqUnit, .none, [F.ACQ_DEAD_MAX_value]⟩,
  ⟨0x0F, 0x048, 0, 1, 0, 0, .none, .none, [F.ACQ_DEMAND_share, F.ACQ_DEMAND_demand]⟩]

/-- The register map of the TRG_ block. -/
def rowsTRG : List RegRow := [
  ⟨0x10, 0x000, 0, 1, 0, 0, .none, .none, [F.TRG_SEL_unit]⟩,
  ⟨0x10, 0x004, 0, 1, 0, 0, .trgUnit, .trgUnit, [F.TRG_CFG_en, F.TRG_CFG_src, F.TRG_CFG_edge, F.TRG_CFG_filt_n, F.TRG_CFG_filt_m]⟩,
  ⟨0x10, 0x008, 0, 1, 0, 0, .trgUnit, .trgUnit, [F.TRG_PARAM_bond, F.TRG_PARAM_ftype, F.TRG_PARAM_half, F.TRG_PARAM_object]⟩,
  ⟨0x10, 0x00C, 0, 1, 0, 0, .trgUnit, .trgUnit, [F.TRG_COUNT_count]⟩,
  ⟨0x10, 0x010, 0, 1, 0, 0, .trgUnit, .trgUnit, [F.TRG_LEVEL_hyst, F.TRG_LEVEL_level]⟩,
  ⟨0x10, 0x014, 0, 1, 0, 0, .trgUnit, .none, [F.TRG_ROUTE_thr_en, F.TRG_ROUTE_course, F.TRG_ROUTE_tmask, F.TRG_ROUTE_evt_en, F.TRG_ROUTE_evt]⟩,
  ⟨0x10, 0x018, 0, 1, 0, 0, .none, .none, [F.TRG_STATUS_fired]⟩,
  ⟨0x10, 0x040, 4, 4, 0, 0, .none, .none, [F.TRG_OUT_CFG_src, F.TRG_OUT_CFG_width_ns]⟩,
  ⟨0x10, 0x050, 4, 4, 0, 0, .none, .none, [F.TRG_IN_CFG_invert]⟩]

/-- The register map of the FLN_ block. -/
def rowsFLN : List RegRow := [
  ⟨0x11, 0x000, 0, 1, 0, 0, .none, .none, [F.FLN_CTRL_en]⟩,
  ⟨0x11, 0x004, 0, 1, 0, 0, .none, .none, [F.FLN_STATUS_locked, F.FLN_STATUS_adapted, F.FLN_STATUS_flagged]⟩,
  ⟨0x11, 0x100, 128, 8, 0, 0, .none, .none, [F.FLN_LCFG_tx_en, F.FLN_LCFG_rx_en, F.FLN_LCFG_pam4, F.FLN_LCFG_pattern, F.FLN_LCFG_gray, F.FLN_LCFG_tx_inv, F.FLN_LCFG_rx_inv, F.FLN_LCFG_adapt_freeze, F.FLN_LCFG_manual_eq]⟩,
  ⟨0x11, 0x104, 128, 8, 0, 0, .none, .none, [F.FLN_RATE_rate_mbps]⟩,
  ⟨0x11, 0x108, 128, 8, 0, 0, .none, .none, [F.FLN_PPM_ppm]⟩,
  ⟨0x11, 0x10C, 128, 8, 0, 0, .none, .none, [F.FLN_FFE_A_pre2, F.FLN_FFE_A_pre1, F.FLN_FFE_A_main, F.FLN_FFE_A_post1]⟩,
  ⟨0x11, 0x110, 128, 8, 0, 0, .none, .none, [F.FLN_FFE_B_post2]⟩,
  ⟨0x11, 0x114, 128, 8, 0, 0, .none, .none, [F.FLN_AMP_amp_mv]⟩,
  ⟨0x11, 0x118, 128, 8, 0, 0, .none, .none, [F.FLN_SJ_sj_mui, F.FLN_SJ_sj_khz]⟩,
  ⟨0x11, 0x11C, 128, 8, 0, 0, .none, .none, [F.FLN_RJ_rj_mui]⟩,
  ⟨0x11, 0x120, 128, 8, 0, 0, .none, .none, [F.FLN_CTLE_peak]⟩,
  ⟨0x11, 0x124, 128, 8, 0, 0, .none, .none, [F.FLN_GATE_DLY_delay_us]⟩,
  ⟨0x11, 0x128, 128, 8, 0, 0, .none, .none, [F.FLN_GATE_WIN_window_us]⟩,
  ⟨0x11, 0x12C, 128, 8, 0, 0, .none, .none, [F.FLN_UPAT_LEN_len]⟩,
  ⟨0x11, 0x130, 128, 8, 0, 0, .none, .none, [F.FLN_UPAT_IDX_word]⟩,
  ⟨0x11, 0x134, 128, 8, 0, 0, .flnUpat, .none, [F.FLN_UPAT_data]⟩,
  ⟨0x11, 0x138, 128, 8, 0, 0, .none, .none, [F.FLN_LSTAT_tx_active, F.FLN_LSTAT_rx_active, F.FLN_LSTAT_adapted, F.FLN_LSTAT_locked, F.FLN_LSTAT_gate_open, F.FLN_LSTAT_derated, F.FLN_LSTAT_gate_unlocked, F.FLN_LSTAT_lock_lost, F.FLN_LSTAT_adapt_fail, F.FLN_LSTAT_jit_clamp, F.FLN_LSTAT_rate_adj]⟩,
  ⟨0x11, 0x13C, 128, 8, 0, 0, .none, .none, [F.FLN_BITS_LO_count]⟩,
  ⟨0x11, 0x140, 128, 8, 0, 0, .none, .none, [F.FLN_BITS_HI_count]⟩,
  ⟨0x11, 0x144, 128, 8, 0, 0, .none, .none, [F.FLN_ERR_LO_count]⟩,
  ⟨0x11, 0x148, 128, 8, 0, 0, .none, .none, [F.FLN_ERR_HI_count]⟩,
  ⟨0x11, 0x14C, 128, 8, 0, 0, .none, .none, [F.FLN_SYM_LO_count]⟩,
  ⟨0x11, 0x150, 128, 8, 0, 0, .none, .none, [F.FLN_SYM_HI_count]⟩,
  ⟨0x11, 0x154, 128, 8, 0, 0, .none, .none, [F.FLN_UNLK_LO_count]⟩,
  ⟨0x11, 0x158, 128, 8, 0, 0, .none, .none, [F.FLN_UNLK_HI_count]⟩,
  ⟨0x11, 0x15C, 128, 8, 0, 0, .none, .none, [F.FLN_SCAN_CFG_start, F.FLN_SCAN_CFG_eye, F.FLN_SCAN_CFG_dwell]⟩,
  ⟨0x11, 0x160, 128, 8, 0, 0, .none, .none, [F.FLN_SCAN_STAT_state, F.FLN_SCAN_STAT_points]⟩]

/-- The register map of the SER_ block. -/
def rowsSER : List RegRow := [
  ⟨0x12, 0x000, 0, 1, 0, 31, .none, .block, [F.SER_CTRL_tgt_tpl, F.SER_CTRL_cpol, F.SER_CTRL_pin_mode, F.SER_CTRL_role, F.SER_CTRL_en]⟩,
  ⟨0x12, 0x004, 0, 1, 0, 31, .none, .none, [F.SER_STATUS_busy, F.SER_STATUS_err, F.SER_STATUS_clk_adj, F.SER_STATUS_start_late, F.SER_STATUS_rx_ovf, F.SER_STATUS_tx_under, F.SER_STATUS_tx_ovf, F.SER_STATUS_cfg_ignored]⟩,
  ⟨0x12, 0x008, 0, 1, 0, 31, .none, .block, [F.SER_PIN_A_map]⟩,
  ⟨0x12, 0x00C, 0, 1, 0, 31, .none, .block, [F.SER_PIN_B_map]⟩,
  ⟨0x12, 0x010, 0, 1, 0, 31, .none, .block, [F.SER_PIN_C_map]⟩,
  ⟨0x12, 0x014, 0, 1, 0, 31, .none, .block, [F.SER_CLK_half]⟩,
  ⟨0x12, 0x018, 0, 1, 0, 31, .none, .block, [F.SER_SDLY_samp_dly]⟩,
  ⟨0x12, 0x01C, 0, 1, 0, 31, .none, .block, [F.SER_SEL_pol, F.SER_SEL_gap, F.SER_SEL_lag, F.SER_SEL_lead]⟩,
  ⟨0x12, 0x020, 0, 1, 0, 31, .none, .none, [F.SER_QSTAT_rx, F.SER_QSTAT_tx]⟩,
  ⟨0x12, 0x024, 0, 1, 0, 31, .none, .none, [F.SER_RX_STAT_valid, F.SER_RX_STAT_last, F.SER_RX_STAT_short, F.SER_RX_STAT_long, F.SER_RX_STAT_trip, F.SER_RX_STAT_abort, F.SER_RX_STAT_tpl, F.SER_RX_STAT_phase, F.SER_RX_STAT_bits]⟩,
  ⟨0x12, 0x100, 16, 15, 0, 31, .none, .block, [F.SER_TPL_A_phase_hi, F.SER_TPL_A_phase_lo]⟩,
  ⟨0x12, 0x104, 16, 15, 0, 31, .none, .block, [F.SER_TPL_B_phase_hi, F.SER_TPL_B_phase_lo]⟩,
  ⟨0x12, 0x108, 16, 15, 0, 31, .none, .block, [F.SER_TPL_C_lmode, F.SER_TPL_C_lsb_first, F.SER_TPL_C_wbits, F.SER_TPL_C_sel]⟩]

/-- The register map of the ETH_ block. -/
def rowsETH : List RegRow := [
  ⟨0x13, 0x000, 0, 1, 0, 0, .none, .none, [F.ETH_STATUS_ptp_blocked, F.ETH_STATUS_ptp_port, F.ETH_STATUS_e1_down_evt, F.ETH_STATUS_e0_down_evt, F.ETH_STATUS_e1_macsec, F.ETH_STATUS_e1_fec, F.ETH_STATUS_e1_an, F.ETH_STATUS_e1_up, F.ETH_STATUS_e0_macsec, F.ETH_STATUS_e0_fec, F.ETH_STATUS_e0_an, F.ETH_STATUS_e0_up]⟩]

/-- The register map of the ADP_ block. -/
def rowsADP : List RegRow := [
  ⟨0x14, 0x000, 0, 1, 0, 0, .none, .none, [F.ADP_STATUS_owner_live, F.ADP_STATUS_autonomous, F.ADP_STATUS_lapse_hold, F.ADP_STATUS_observers, F.ADP_STATUS_replay, F.ADP_STATUS_bulk_abandon, F.ADP_STATUS_acl_reject, F.ADP_STATUS_lapsed]⟩,
  ⟨0x14, 0x004, 0, 1, 0, 0, .none, .none, [F.ADP_LEASE_left_ms]⟩]

/-- The register map of the FC_ block. -/
def rowsFC : List RegRow := [
  ⟨0x15, 0x000, 0, 1, 0, 0, .none, .none, [F.FC_STATUS_LO_status]⟩,
  ⟨0x15, 0x004, 0, 1, 0, 0, .none, .none, [F.FC_STATUS_HI_status]⟩,
  ⟨0x15, 0x008, 0, 1, 0, 0, .none, .none, [F.FC_FIRST_valid, F.FC_FIRST_inj, F.FC_FIRST_inj_masked, F.FC_FIRST_sev, F.FC_FIRST_src]⟩,
  ⟨0x15, 0x00C, 0, 1, 0, 0, .none, .none, [F.FC_FIRST_DET_detail]⟩,
  ⟨0x15, 0x010, 0, 1, 0, 0, .none, .none, [F.FC_OVF_ovf, F.FC_OVF_count]⟩,
  ⟨0x15, 0x014, 0, 1, 0, 0, .none, .none, [F.FC_INJ_go, F.FC_INJ_inj_esc, F.FC_INJ_detail, F.FC_INJ_sev, F.FC_INJ_src]⟩,
  ⟨0x15, 0x018, 0, 1, 0, 0, .none, .none, [F.FC_ESC_esc_us]⟩,
  ⟨0x15, 0x01C, 0, 1, 0, 0, .none, .none, [F.FC_SEL_src]⟩,
  ⟨0x15, 0x020, 0, 1, 0, 0, .fcSrc, .none, [F.FC_SRC_sev_max, F.FC_SRC_repeat, F.FC_SRC_esc_done, F.FC_SRC_esc_lost, F.FC_SRC_inj, F.FC_SRC_inj_masked, F.FC_SRC_detail]⟩]

/-- The register map of the BST_ block. -/
def rowsBST : List RegRow := [
  ⟨0x16, 0x000, 0, 1, 0, 0, .none, .none, [F.BST_CTRL_soft_rep, F.BST_CTRL_abort, F.BST_CTRL_start]⟩,
  ⟨0x16, 0x004, 0, 1, 0, 0, .none, .none, [F.BST_CFG_kind, F.BST_CFG_target]⟩,
  ⟨0x16, 0x008, 0, 1, 0, 0, .none, .none, [F.BST_STATUS_state, F.BST_STATUS_abandons]⟩,
  ⟨0x16, 0x00C, 0, 1, 0, 0, .none, .none, [F.BST_PROG_count]⟩,
  ⟨0x16, 0x010, 0, 1, 0, 0, .none, .none, [F.BST_DONE_count]⟩,
  ⟨0x16, 0x014, 0, 1, 0, 0, .none, .none, [F.BST_SIG_LO_sig]⟩,
  ⟨0x16, 0x018, 0, 1, 0, 0, .none, .none, [F.BST_SIG_HI_sig]⟩,
  ⟨0x16, 0x01C, 0, 1, 0, 0, .none, .none, [F.BST_EXP_LO_sig]⟩,
  ⟨0x16, 0x020, 0, 1, 0, 0, .none, .none, [F.BST_EXP_HI_sig]⟩,
  ⟨0x16, 0x024, 0, 1, 0, 0, .none, .none, [F.BST_LIMIT_limit_ms]⟩]

/-- The register map of the CAL_ block. -/
def rowsCAL : List RegRow := [
  ⟨0x17, 0x000, 0, 1, 0, 0, .none, .none, [F.CAL_STATUS_gen, F.CAL_STATUS_store, F.CAL_STATUS_slots_used, F.CAL_STATUS_absent, F.CAL_STATUS_committing, F.CAL_STATUS_run_busy, F.CAL_STATUS_flagged, F.CAL_STATUS_committed, F.CAL_STATUS_fallback]⟩,
  ⟨0x17, 0x004, 0, 1, 0, 0, .none, .none, [F.CAL_REF_STATE_mode]⟩]

/-- The register map of the SEC_ block. -/
def rowsSEC : List RegRow := [
  ⟨0x18, 0x000, 0, 1, 0, 0, .none, .none, [F.SEC_STATUS_rollback, F.SEC_STATUS_enrolled, F.SEC_STATUS_bank_b_ok, F.SEC_STATUS_bank_a_ok, F.SEC_STATUS_key_mismatch, F.SEC_STATUS_sig_fail]⟩]

/-- The register map of the NVM_ block. -/
def rowsNVM : List RegRow := [
  ⟨0x19, 0x000, 0, 1, 0, 0, .none, .none, [F.NVM_STATUS_busy, F.NVM_STATUS_erasing, F.NVM_STATUS_free_blocks]⟩,
  ⟨0x19, 0x004, 0, 1, 0, 0, .none, .none, [F.NVM_WEAR_max_erase]⟩]

/-- The register map of the PWR_ block. -/
def rowsPWR : List RegRow := [
  ⟨0x1A, 0x000, 0, 1, 0, 0, .none, .none, [F.PWR_SEL_rail]⟩,
  ⟨0x1A, 0x004, 0, 1, 0, 0, .pwrRail, .none, [F.PWR_RAIL_in_range, F.PWR_RAIL_power_good, F.PWR_RAIL_v_mv]⟩,
  ⟨0x1A, 0x008, 0, 1, 0, 0, .pwrRail, .none, [F.PWR_RAIL_I_i_ma]⟩,
  ⟨0x1A, 0x00C, 0, 1, 0, 0, .none, .none, [F.PWR_STATUS_out_now, F.PWR_STATUS_out_evt]⟩]

/-- The register map of a block code (Table 17.3); reserved codes have none. -/
def blockRows (blk : Nat) : List RegRow :=
  match blk with
  | 0x01 => rowsKEY
  | 0x02 => rowsTB
  | 0x03 => rowsTLY
  | 0x04 => rowsTHM
  | 0x05 => rowsCRS
  | 0x06 => rowsPCH
  | 0x07 => rowsTMG
  | 0x08 => rowsPAT
  | 0x09 => rowsAPG
  | 0x0A => rowsSEQ
  | 0x0B => rowsCTX
  | 0x0C => rowsRCK
  | 0x0D => rowsSMU
  | 0x0E => rowsWAV
  | 0x0F => rowsACQ
  | 0x10 => rowsTRG
  | 0x11 => rowsFLN
  | 0x12 => rowsSER
  | 0x13 => rowsETH
  | 0x14 => rowsADP
  | 0x15 => rowsFC
  | 0x16 => rowsBST
  | 0x17 => rowsCAL
  | 0x18 => rowsSEC
  | 0x19 => rowsNVM
  | 0x1A => rowsPWR
  | _ => []

/-- Instances of a block code and the offset of its last register, in an instance (Table 17.3). -/
def blockLast (blk inst : Nat) : Option Nat :=
  match blk with
  | 0x01 => if inst = 0 then some 0x004 else .none
  | 0x02 => if inst = 0 then some 0x00C else .none
  | 0x03 => if inst = 0 then some 0x018 else .none
  | 0x04 => if inst = 0 then some 0x004 else .none
  | 0x05 => if inst < 32 then some 0x008 else .none
  | 0x06 => if inst < 32 then some 0x934 else .none
  | 0x07 => if inst < 32 then some 0x038 else .none
  | 0x08 => if inst < 32 then some 0x020 else if inst = 32 then some 0x00C else .none
  | 0x09 => if inst < 32 then some 0x0FC else .none
  | 0x0A => if inst < 32 then some 0x138 else .none
  | 0x0B => if inst < 32 then some 0x014 else .none
  | 0x0C => if inst < 32 then some 0x05C else if inst = 32 then some 0x014 else .none
  | 0x0D => if inst < 4 then some 0x934 else .none
  | 0x0E => if inst < 2 then some 0x8FC else .none
  | 0x0F => if inst = 0 then some 0x048 else .none
  | 0x10 => if inst = 0 then some 0x05C else .none
  | 0x11 => if inst = 0 then some 0x4E0 else .none
  | 0x12 => if inst < 32 then some 0x1E8 else .none
  | 0x13 => if inst = 0 then some 0x000 else .none
  | 0x14 => if inst = 0 then some 0x004 else .none
  | 0x15 => if inst = 0 then some 0x020 else .none
  | 0x16 => if inst = 0 then some 0x024 else .none
  | 0x17 => if inst = 0 then some 0x004 else .none
  | 0x18 => if inst = 0 then some 0x000 else .none
  | 0x19 => if inst = 0 then some 0x004 else .none
  | 0x1A => if inst = 0 then some 0x00C else .none
  | _ => .none

end Sys2Proof.Machine
end

