-- ==== Sys2Proof/Machine/State.lean ====
section
/-! DEFINITION. The state of the DN7680, block by block, as plain data, with its reset value; and the reasons a step can stop. -/

namespace Sys2Proof.Machine

/-- What a bond frame or bond message says (Tables 2.3 and 2.9), before its bits are laid out. `inst` and `phi` are in ticks; the lines
carry the low 32 bits of an instant's nanoseconds (R44). -/
inductive Frame where
  | presence (chip pos mode tstate : Nat) (unassigned sync : Bool)
  | defer (bond : Nat) (inst : Nat)
  | split (bond : Nat) (inst : Nat)
  | beat (bond : Nat) (inst : Nat)
  | memberBeat (bond chip : Nat)
  | time (n : Nat) (unlocked holdover : Bool)
  | align (phi : Nat)
  | trim (t : Int)
  | calReport (pos : Nat) (meas : Int)
  | join (bond chip tstate : Nat) (sync : Bool) (inst : Nat)   -- `inst`: the activation instant, which a JOIN message carries
  | ready (bond : Nat) (inst : Nat)
deriving DecidableEq, Repr

/-- A bond's medium: the card's BOND lines, or the bond messages of R65. -/
inductive Medium where
  | lines | eth
deriving DecidableEq, Repr

/-- One response to an ADP request (Table 16.2): the data items and tunnel words it carries, each as bytes, MSB first. -/
structure Response where
  port : Nat
  kind : Nat := 0                -- the request's message type (Table 16.3)
  session : Nat
  seq : Nat
  status : Nat
  items : Nat
  beyond : Bool := false
  replay : Bool := false
  late : Bool := false
  body : List (List Byte) := []
deriving DecidableEq, Repr

/-- Everything the block sends through its lines and ports, in order of sending: the model's record of its own output. -/
inductive OutMsg where
  | line (lines start word : Nat)   -- a 64-bit frame on each BOND line of the mask `lines`, from domain instant `start` on (R40, R41)
  | bondMsg (port udp : Nat) (group msg : List Byte)   -- a bond message's datagram: UDP port, multicast group, payload (R65)
  | response (r : Response)
  | telemetry (port session tseq part : Nat) (body : List Byte)
  | bulkData (port session transfer frame offset : Nat) (last : Bool) (data : List Byte)
  | bulkAck (port session transfer next : Nat) (bitmap : List Nat)
  | bulkEnd (port session transfer frames bytes status : Nat)
  | lldp (port : Nat) (chassis portId : List Byte) (ttl : Nat) (name org : List Byte)   -- an LLDP frame's fields (Table 16.1)
  | delayReq (port : Nat)
deriving DecidableEq, Repr

/-- The W1C bits that the hardware has set at one local instant (R509): a clear at that instant leaves them set. -/
structure SetNow where
  inst : Nat := 0              -- the instant, in local ticks
  bits : List Nat := []        -- the bits, by field key and bit number
deriving DecidableEq, Repr

/-- A background check that holds a pin channel (R28, R195): 0 Plumb, 1 comparator self-check. -/
structure ChanCheck where
  kind : Nat
  started : Nat
  restore : Option Nat := none   -- local instant at which an abandoned check has restored the channel
deriving DecidableEq, Repr

/-- A request the MACs buffer while the Keystone serves none (R469). -/
structure Buffered where
  ingress : Nat
  port : Nat
  bytes : Nat
  cmd : Instr
deriving DecidableEq, Repr

/-- The Keystone (R12, R25) and the background checks it runs. -/
structure Keystone where
  running : Bool := false        -- firmware runs (Table 20.8 step 3)
  outage : Bool := false         -- a change-over, freeze or loss of firmware service
  outageAt : Nat := 0
  changing : Bool := false       -- the other pair has still to take over (R12)
  buffered : List Buffered := []
  serving : Option Nat := none   -- ingress of the buffered request being served
  reqKind : Nat := 0             -- message type of the request being carried out
  checks : Tbl ChanCheck := []   -- by linear channel 33 c + p
  gapAt : Tbl Nat := []          -- latest 20 µs gap of a Course's launch queue, local ticks (R30)
  lastGap : Tbl Nat := []        -- when a channel's want of gaps was last reported, local ticks (R30)
  lastSelf : Tbl Nat := []       -- latest comparator self-check
  wearRuns : Nat := 0
  patrols : Nat := 0
deriving DecidableEq, Repr

/-- The pieces of a TIME, ALIGN and TRIM set received since the last SYNC edge (R36); complete when all three are there. -/
structure RxSet where
  time : Option (Nat × Bool × Bool) := none   -- N, unlocked, holdover
  align : Option Nat := none                  -- φ in ticks
  trim : Option Int := none
deriving DecidableEq, Repr

/-- One chip of the card roster (R33, OD 0x200B.00). -/
structure RosterEntry where
  chip : Nat
  mode : Nat
  tstate : Nat
  unassigned : Bool
  sync : Bool
  heard : Nat        -- local instant of its latest PRESENCE
deriving DecidableEq, Repr

/-- The time base of chapter 2 beyond its TB_ registers. Instants and times are in ticks of 1/4,096 ns; `loc`, `calAt`, `lastPtp`,
`refLossAt`, `holdoverAt`, `lastSync` and a roster entry's `heard` are local instants. -/
structure TimeBase where
  loc : Nat := 0               -- timing-plane ticks since reset (R32)
  dom : Nat := 0               -- domain time (R31); counted from reset in UNSET (R63)
  acc : Nat := 0               -- sub-tick remainder, in units of 2^-40 (R31)
  edgeAt : Nat := 0            -- domain instant of the last SYNC edge, from which the line cycles run (R40)
  trim : Int := 0              -- units of 2^-40 in force
  n : Nat := 0                 -- domain second number in force (R35)
  phi : Nat := 0               -- φ in force, ticks
  rx : RxSet := {}
  crcSinceEdge : Bool := false
  skewPending : Int := 0       -- θ still to be subtracted at SYNC edges (R47, R37)
  calRunning : Bool := false
  calAt : Nat := 0             -- local instant at which the initial calibration began (R48)
  linesAt : Nat := 0           -- local instant at which the line engine last came up
  reports : List Int := []     -- the latest 64 mean d_BA reported in CAL, newest first: 64 × 64 = 4,096 exchanges (R47)
  booked : List Nat := []      -- starts of this chip's position slots that bond frames will fill (R40, R46)
  lastPresence : Option Nat := none   -- start of the latest PRESENCE sent (R45)
  servoN : Nat := 0
  servoPhi : Nat := 0
  servoTrim : Int := 0
  servoLock : Bool := false
  servoFresh : Bool := false   -- the servo has given values since the last SYNC edge (R35)
  servoOffset : Int := 0       -- OD 0x2004.00, ticks
  lastPtp : Option Nat := none -- local instant of the last PTP Sync
  delayReqAt : Option Nat := none
  pathDelay : Int := 0
  refStable : Bool := false    -- the return of R60 is armed
  refLossAt : Option Nat := none
  priorState : Nat := 0        -- time state before REF_HOLDOVER, kept up under it (R58, R60)
  holdoverAt : Option Nat := none   -- entry to DOMAIN_HOLDOVER (R62)
  limitPassed : Bool := false
  lastSync : Option Nat := none     -- local instant of the last SYNC edge
  selPending : Option (Bool × Nat) := none   -- timekeeper selection held pending (R590)
  tkGone : Bool := false       -- no PRESENCE from tk_pos for 1 ms (R34)
  tkReturn : Bool := false     -- PRESENCE of tk_pos came back; it serves at the next edge (R34)
  syncGone : Bool := false     -- the absence of SYNC has been found (R61)
  ptpPort : Option Nat := none -- port on which PTP ran last (R465)
  syncDiff : Int := 0          -- ingress less origin of the last PTP Sync, ticks (R35)
  roster : Tbl RosterEntry := []
  lateCount : Nat := 0
  leadShort : Nat := 0
  crcCount : Nat := 0
  posId : Nat := 0             -- POS_ID as sampled at t0
deriving DecidableEq, Repr

/-- One launch record (Table 2.4) as it waits in its queue: `inst` is its whole instant (R51), `entered` the instant it
entered, and `exec` the instant at which it executes once R53 and R56 have been applied. -/
structure LaunchRec where
  inst : Nat
  target : Nat
  action : Nat
  chipWide : Bool
  site : Nat
  payload : Nat
  entered : Nat
  exec : Nat
  late : Bool
  lateness : Nat := 0      -- what TB_LATE_FIRST captures of a LATE record, ticks (R53, R56)
  thread : Nat := 0        -- issuing thread 8c + t
  step : Option Nat := none   -- T0 of that thread's current step as the record entered, so that marks reach it (R56)
deriving DecidableEq, Repr

/-- A line of a bond slot's partition log (R81): kind 0 last grant, 1 PARTITION step, 2 unanswered DEFER, 3 hold. -/
structure PartLog where
  kind : Nat
  bond : Nat
  inst : Nat
deriving DecidableEq, Repr

/-- What the Quoin, or any member, knows of another member of the bond. -/
structure MemberInfo where
  joined : Bool := false
  tstate : Nat := 0
  sync : Bool := false
  lastBeat : Nat := 0       -- domain instant of its latest MEMBER_BEAT
  absent : Bool := false
deriving DecidableEq, Repr

/-- Bond slot states of OD 0x2100+n.05. -/
inductive SlotState where
  | empty | defined | forming | active | held | rejoined | formFailed
deriving DecidableEq, Repr

/-- One bond slot (OD 0x2100+n). -/
structure BondSlot where
  id : Nat := 0
  quoin : Nat := 0xFFFFFFFF
  members : List Nat := []
  sites : List Nat := []          -- site mask as the sites in it, ascending
  st : SlotState := .empty
  medium : Medium := .lines
  activation : Nat := 0
  ready : Bool := false
  grant : Nat := 0                -- latest grant horizon G
  lastRx : Nat := 0               -- when the latest BEAT (or READY) was received
  info : Tbl MemberInfo := []     -- by chip number
  beatAt : Option Nat := none     -- instant of the latest beat this chip sent (R70)
  dissolving : Bool := false
  passed : List Nat := []         -- sites past the dissolve boundary (R86)
  resumeAt : Option Nat := none
  latMax : Nat := 0
  latSum : Nat := 0
  latN : Nat := 0
  latMaxPub : Nat := 0
  latMeanPub : Nat := 0
  splits : Nat := 0
  log : List PartLog := []
  deferSent : List Nat := []      -- t0 of steps this member deferred
  ownDefers : List (Nat × Nat × Nat) := []   -- the thread, t0 and end of each step of this chip that its DEFER named (R77)
  deferRx : List Nat := []        -- t0 of steps others deferred in time
  splitSent : List Nat := []
  seen : List (Nat × Nat) := []   -- (frame type, instant) already acted on (R46)
  unanswered : List Nat := []     -- DEFERs sent since the Quoin's last BEAT (R81)
deriving DecidableEq, Repr

/-- The bond engine's part that belongs to no slot: bond-message sequence numbers (R65, R66). -/
structure BondNet where
  seq : Nat := 0
  accepted : List (Nat × Nat × Nat) := []   -- sender, seq, instant
deriving DecidableEq, Repr

/-- One admitted step's cost in the ledger (R90): it occupies every bin that overlaps [t0, t1); `t1 = none` is open-ended. -/
structure LedgerEntry where
  thread : Nat
  t0 : Nat
  t1 : Option Nat
  c : Nat
  s : Nat
deriving DecidableEq, Repr

/-- The Tally's state beyond its registers (chapter 3). Powers in mW. -/
structure Tally where
  entries : List LedgerEntry := []
  base : List Nat := [0, 0, 0, 0, 0, 0]     -- one baseline per mode (R93)
  kRun : Nat := 0                           -- consecutive samples with r above 2.000 (R94)
  pWin : List Nat := []                     -- P_meas of the last 100 samples, newest first (R96)
  sWin : List Nat := []                     -- SMU stage dissipation of the chip at the last 100 samples, newest first (R96, R350)
  refusals : Nat := 0
  releases : Nat := 0
  conds : Nat := 0                          -- conditions that hold: bit 0 k_sat, 1 overrun, 2 over_abs, 3 smu_over
deriving DecidableEq, Repr

/-- One thermal level: when it last changed, so that its 10 ms dwell can be judged (R110). -/
structure Therm where
  samples : Tbl (List Int) := []            -- last four readings of each sensor, newest first, m°C
  failed : List Nat := []                   -- failed sensors, ascending (R108)
  tmax : Int := 0                           -- m°C
  changed : List (Option Nat) := [none, none, none]   -- local instants of the levels' last changes
  halted : Bool := false
  belowSince : Option Nat := none           -- Tmax below 105 °C since (R119)
  thermN : Bool := false                    -- THERM_N driven low
  haltCount : Nat := 0
  lastHalt : Option (Nat × Int × Nat) := none   -- instant, Tmax, sensor
  corrCount : Nat := 0                      -- recomputations of the temperature corrections (R115)
deriving DecidableEq, Repr

/-- Modes (Table 4.1). -/
inductive Mode where
  | safe | survey | precision | throughput | lineRate | stress
deriving DecidableEq, Repr

/-- A mode change that has been accepted and is pending (R128, R132); `t = none` while T is not yet set. -/
structure ModePending where
  target : Mode
  t : Option Nat
  accepted : Nat
  entered : Bool := false     -- its record stands in queue 39 (R130); `t` is then the instant at which it executes
  starved : Bool := false     -- its record has been refused a credit (R21)
deriving DecidableEq, Repr

/-- The mode and what belongs to a change of mode (chapter 4). -/
structure ModeState where
  mode : Mode := .safe
  pend : List ModePending := []             -- accepted changes, in order of acceptance
  settle : Option (Nat × Nat) := none       -- [T, T + s) of the latest change (R129)
  safeCause : Nat := 0
  safeAt : Nat := 0
  quietCount : Nat := 0
  quietTotal : Nat := 0                     -- ticks
  quiet : List (Nat × Nat) := []            -- quiet apertures not yet over, merged (R134)
  limitCount : Nat := 0
  changes : Nat := 0
  flnFrom : Nat := 0                        -- earliest FLN_START instant (Table 4.6)
deriving DecidableEq, Repr

/-- What a pin channel's driver does at the ball (R143, R175). -/
inductive Drive where
  | off | low | high
deriving DecidableEq, Repr

/-- A PMU measurement under way (R159): its aperture in local ticks (R32) and the result slot it fills, if any. -/
structure PmuMeas where
  openAt : Nat
  closeAt : Nat
  slot : Option Nat
  thread : Option Nat
  quiet : Bool
deriving DecidableEq, Repr

/-- One pin channel beyond its PCH_ registers, by 33 c + p; p = 32 is the spare electronics. -/
structure PinChan where
  drive : Drive := .off
  above : Bool := false
  below : Bool := false
  tripCond : Bool := false      -- the trip filter's condition holds now
  cutBy : List Nat := []        -- tripping pins of the Course whose latch cuts this channel
  waitOn : Bool := false        -- off after a trip until its next drive-on (R152)
  loadOff : Bool := false       -- a trip turned the load off
  pmuOff : Bool := false        -- a trip disconnected the PMU
  trips : Nat := 0
  clamps : Nat := 0
  held : Nat := 0
  lastPmu : Int := 0
  pmuClamp : Bool := false
  meas : Option PmuMeas := none
  filtAt : Nat := 0             -- local instant at which the trip filter was enabled last (R149)
  pmuTurn : Nat := 0            -- local instant at which the latest PMU connection or disconnection is complete (R155)
  strobed : List (Fld × Nat) := []   -- values strobed while a repair swap runs (R164)
  strobedMeas : Bool := false   -- a measurement strobed while a repair swap runs
  lastHigh : Bool := false      -- the level driven last: VIL after reset or parking (R208)
  lastPair : Option Halves := none    -- latest compare sample since the anchor (E glyph, R210)
  corr : Int := 0               -- region temperature for which the level correction in force was computed, m°C (R115)
  corrPend : Option Int := none -- that of a level correction that is pending (R116, R162)
deriving DecidableEq, Repr

/-- A repair or release under way on a Course (R170, R173). -/
structure RepairRun where
  pin : Nat
  release : Bool
  began : Nat        -- local instant
deriving DecidableEq, Repr

/-- The pin channels (chapter 5). -/
structure Pins where
  ch : Tbl PinChan := []
  repair : Tbl RepairRun := []        -- by Course
deriving DecidableEq, Repr

/-- One channel's timing values in ticks: rise, fall_delta and cmp (R193). -/
structure Corr where
  rise : Int := 0
  fall : Int := 0
  cmp : Int := 0
deriving DecidableEq, Repr

/-- A channel's internal correction beyond the one in force, by 32 c + p; the one in force stands in TMG_CORR_DRV and TMG_CORR_CMP. -/
structure ChanTim where
  plumb : Corr := {}                 -- part of the latest accepted Plumb measurement
  temp : Corr := {}                  -- temperature part (R115, R198)
  pend : Option Corr := none
  latched : Option Corr := none
  cand : Option Corr := none         -- a Plumb measurement not yet judged (R197)
  acceptedAt : Option Nat := none    -- domain instant
  acceptedLoc : Option Nat := none
  rejects : Nat := 0
deriving DecidableEq, Repr

/-- A driver edge that has been placed and not yet acted: its corrected instant in local ticks, and what it does to the driver. -/
structure PlacedEdge where
  pin : Nat
  at_ : Int
  act : Option Drive   -- none: drive-on at the level driven last
  ser : Bool := false  -- an edge of the serial engine
  vec : Nat := 0       -- slot of the vector that placed it
deriving DecidableEq, Repr

/-- The snapshot taken for one SEGMENT_START (R200): the staged copy, and the correction sets pending or latched, by pin. -/
structure StartSnap where
  exec : Nat             -- domain instant at which the record executes
  copy : Tbl Nat
  corr : Tbl Corr
deriving DecidableEq, Repr

/-- A Course's timing beyond its TMG_ registers: the snapshots of R200, and the placed driver edges in order of action. -/
structure CourseTim where
  snap : Option (Tbl Nat) := none    -- of a jump decision point, for the end of its run
  starts : List StartSnap := []      -- of SEGMENT_STARTs that execute within 64 ns
  edges : List PlacedEdge := []
deriving DecidableEq, Repr

/-- Edge timing (chapter 6). -/
structure Timing where
  ch : Tbl ChanTim := []
  co : Tbl CourseTim := []
deriving DecidableEq, Repr

/-- What a run does at its end, as its decision point chose it (R225). -/
inductive RunNext where
  | jump (seg : Nat)
  | go (seg : Nat)       -- the next segment, 0xFFF for a stop
  | again                -- the next run of the same segment
deriving DecidableEq, Repr

/-- One pin's compare in a vector: its sample, whether it failed, and when. -/
structure Verdict where
  pin : Nat
  pair : Halves
  fail : Bool
  algo : Bool                        -- a B glyph
  at_ : Int                          -- corrected instant of its E3, or of its E4 in window mode
  site : Option Nat := none          -- the site that owns the pin
deriving DecidableEq, Repr

/-- The vector in progress: what its compares will give when its slot ends, as far as no new anchor has cut it (R181). -/
structure HeldVec where
  slot : Nat                         -- its start: local ticks, and domain ticks
  dom : Nat
  seg : Nat
  vcnt : Nat
  marked : Bool                      -- cap
  ckpt : Bool
  failJump : Bool                    -- the segment's fail_jump
  row : Nat                          -- the generator's outputs in it (Table 8.4)
  col : Nat
  bank : Nat
  pc : Nat
  idle : Bool                        -- generator idle or halted
  tal : Bool                         -- fails enter the tally
  vs : List Verdict
deriving DecidableEq, Repr

/-- A Course's vector stream beyond its PAT_ registers (chapter 7). Instants are local ticks. -/
structure Stream where
  next : Nat := 0                    -- start of the next vector slot
  acc : Nat := 0                     -- the same instant in the 64-bit grid accumulator (R180)
  held : Option HeldVec := none      -- the vector in progress
  anchor : Nat := 0
  started : Bool := false            -- a vector of the current run is in progress
  runs : Nat := 0                    -- runs left, 0 for endless
  endless : Bool := false
  decided : Option RunNext := none
  req : List Nat := []               -- instants of jump requests not yet sampled
  lastPeriod : Nat := 0              -- period of the last complete vector
  starving : Bool := false
  resumeAt : Option Nat := none      -- earliest slot after the missing granule is complete
  heads : List Nat := []             -- segments of the prefetched chain
  got : List Nat := []               -- segments whose head a queued SEGMENT_START has fetched (R219)
  whole : Bool := false              -- the resident segment stands whole in the current half (R215)
  headOk : Bool := true              -- the head of the segment just started is complete
  jumps : Nat := 0
  wild : Option Nat := none          -- instant at which the host rewrote records of the stream, which are open from then on (R2)
  sMask : Nat := 0                   -- pins whose glyph in the vector in progress is S
deriving DecidableEq, Repr

/-- One MARKER ball (R229): its level, and the instants at which it will change. -/
structure MarkerBall where
  high : Bool := false
  rises : Nat := 0                   -- local instant of its latest rise
  due : List (Int × Bool) := []      -- changes not yet made, in order
  src : Nat := 63                    -- selection in force until the next rise (R230)
  offset : Int := 0
deriving DecidableEq, Repr

/-- Pattern streaming (chapter 7). -/
structure Pattern where
  st : Tbl Stream := []
  desc : Tbl (List Byte) := []       -- by 4,096 c + segment ID
  marker : Tbl MarkerBall := []
  markBits : Tbl Nat := []           -- marker bits of the vector in progress, by Course
deriving DecidableEq, Repr

/-- A fail record waiting in the capture queue (Table 8.4, byte for byte). -/
abbrev FailRec := List Byte

/-- One cell of the fail tally (R258): site, bank, pin row, pin column, logical pin and Course. -/
structure Cell where
  site : Nat
  bank : Nat
  row : Nat
  col : Nat
  pin : Nat
  course : Nat
deriving DecidableEq, Repr

/-- One Course's APG, fail capture and fail tally beyond the APG_ registers (chapter 8). -/
structure Apg where
  x : Nat := 0
  y : Nat := 0
  z : Nat := 0
  ax : Nat := 0
  ay : Nat := 0
  d : Nat := 0
  lc : List Nat := [0, 0, 0, 0]
  cx : Bool := false                 -- carry flags of the latest update
  cy : Bool := false
  cz : Bool := false
  cax : Bool := false
  cay : Bool := false
  live : Bool := false               -- loaded at an anchor while enabled, and not idle since (R240)
  slip : Bool := false               -- out of step with its chain (R252)
  left : Nat := 0                    -- vectors left of the instruction in progress
  idx : Nat := 0                     -- vectors run since the anchor
  ended : Nat := 0                   -- local instant at which the latest of them ends
  bfails : List (Int × Bool) := []   -- instants of B-glyph fails not yet evaluated, and whether an earlier instruction left them (R250)
  tq : Nat := 0                      -- tally events waiting at the guaranteed rate (R259)
  tqAt : Nat := 0                    -- local instant at which `tq` was reckoned
  queue : List FailRec := []
  lostBefore : Bool := false         -- the next record carries flag bit 1
  taken : Nat := 0                   -- records accepted under FIRST_N
  drainAt : Nat := 0                 -- local instant up to which the queue has drained
  loHeld : Nat := 0                  -- APG_PROG_LO held for its commit half (R502)
  cells : List Cell := []
  sites : Tbl Nat := []              -- flags of a site: bit 0 overflow, bit 1 lost
  clr : List (Nat × Nat) := []       -- tally clears not yet in effect: the site, and the instant from which each takes effect
deriving DecidableEq, Repr

/-- Why a thread holds (Table 9.11), in the order of the table. -/
inductive HoldSrc where
  | empty | ringFull | repair | bond | lapse | owner | safe
  | machineCheck   -- a Course of the site is machine-checked (R296)
deriving DecidableEq, Repr

/-- How far an admission request has come (R78, R100). -/
inductive StepSt where
  | requested | refused | provisional | committed | launched | ended | deferred | withdrawn
deriving DecidableEq, Repr

/-- What a step does once admitted: the vendor opcodes of Table 9.3, or a routine's own launches. -/
inductive StepKind where
  | run (seg : Nat) | level | meas (slot : Nat) | waitev (mask timeout : Nat) | routine | issue
deriving DecidableEq, Repr

/-- A step that requested admission (R290). Times in ticks; `d = none` is open-ended. -/
structure Step where
  opcode : Nat
  spc : Nat
  kind : StepKind
  t0 : Nat
  c : Nat
  d : Option Nat
  smu : Nat
  analogue : Bool
  bslot : Option Nat
  ctx : Nat
  count : Nat
  st : StepSt := .requested
  marks : Nat := 0              -- Table 10.8
  late : Bool := false
  deferred : Bool := false
  split : Bool := false
  clamp : Bool := false
  fails : Bool := false
  waiting : List Nat := []      -- Reckoner items whose results have not arrived (R321)
  complete : Bool := false
  source : Nat := 0           -- t0 at which a DEFER moved it (R74)
  lateReq : Bool := false     -- the request reached the Tally after its horizon (R22)
  failN : Nat := 0            -- its fail count once a later step has been launched
deriving DecidableEq, Repr

/-- A buffered effect of a routine's outbox (Table 9.8). -/
inductive Effect where
  | wrreg (blk word val : Nat)
  | ctxs (n : Nat)
  | ctxa (first count : Nat)
  | admission (t0 c : Nat) (d : Option Nat) (smu : Nat) (analogue : Bool) (bslot : Option Nat)
  | launch (inst queue target action : Nat) (chipWide : Bool) (payload : Nat)
  | rkwr (item val : Nat)
  | post
  | jreq
  | tclr
  | spush (tpl : Nat) (val : Nat)
  | spop
  | evset (thread flag : Nat)
  | evclr (flag : Nat)
  | spc (v : Nat)
  | movt (sp val : Nat)
  | timer (at_ : Nat)
deriving DecidableEq, Repr

/-- Where a thread stands inside its current microword (R283). -/
inductive Phase where
  | idle | wait | alu | unit | seq
deriving DecidableEq, Repr

/-- The part of a thread's state that stays uncommitted until its routine commits (R287). -/
structure MicroRegs where
  g : List Word64 := List.replicate 16 0
  z : Bool := false
  n : Bool := false
  c : Bool := false
  v : Bool := false
  ustack : List Nat := []
  t0 : Nat := 0                 -- whole nanoseconds
  cost : Option (Nat × Option Nat × Nat × Bool) := none   -- what COST formed for the next ADMIT: c, d (ns), s, analogue
deriving DecidableEq, Repr

/-- What a home thread sends over the site link (R265): an instruction, or a step whose contexts its receiver applies when it runs on. -/
inductive LinkMsg where
  | instr (w : Nat)
  | step (st : Step)
deriving DecidableEq, Repr

/-- One thread of a Course (R284), beyond its SEQ_ registers. -/
structure Thread where
  m : MicroRegs := {}
  com : MicroRegs := {}         -- as last committed, restored when a routine is discarded
  opr : Nat := 0
  tmask : Nat := 0xFF
  lc : List Nat := [0, 0, 0, 0]
  sstack : List Nat := []
  timer : Option Nat := none
  timerDone : Bool := false
  upc : Nat := 0
  rstart : Nat := 0             -- first microword of the routine in progress
  phase : Phase := .idle
  outbox : List Effect := []
  waitSince : Option Nat := none
  waitSum : Nat := 0
  retried : Bool := false       -- the routine runs again after a parity error (R295)
  stall : Option Nat := none    -- microaddress being reloaded
  service : Option Nat := none  -- exported vendor service in progress (R299)
  ctxf : Option (Nat × Nat) := none
  nextCtx : Option Nat := none
  ctxTaken : Bool := false
  step : Option Step := none          -- the step launched last
  nxt : List Step := []               -- steps that requested admission and have not been launched, oldest first
  olds : List Step := []              -- earlier steps whose results are not complete
  decided : Option Bool := none       -- outcome of the latest request
  dec : Bool := false                 -- a step instruction has been decoded and has not acted
  pcSet : Bool := false               -- the step PC has been set by the instruction itself
  asked : Bool := false               -- this step instruction has requested admission
  urgent : Bool := false              -- its step is admitted and its routine's launch records are not yet committed (R266)
  fetched : List (Nat × Nat) := []    -- the decode queue: step addresses and words, next first, at most 16 (R270)
  pastEnd : Bool := false             -- the step PC has run off the end of a region of all 32,768 words (R269)
  link : List LinkMsg := []   -- what the site's home thread sent, oldest first (R265)
  issued : List Nat := []     -- T0 (ns) of steps of the home thread's routines, admitted and not yet taken (R265)
  needT0 : Bool := false      -- a non-home thread has passed the request whose T0 its home thread is to send
  restAt : Nat := 0          -- local instant at which the thread came to rest last (R170)
  prevEnd : Nat := 0            -- end of the preceding admitted step, ticks
  delay : Nat := 0              -- DELAY slots pending
  gap : Bool := false
  holds : List HoldSrc := []
  stopReq : Bool := false
  parked : Bool := false
  pitchNext : Option Nat := none      -- new pitch, taken at the next boundary (R274)
  originNext : Option Nat := none
  orgHi : Nat := 0                    -- SEQ_TORG_HI held until LO commits (R502)
  posts : Nat := 0                    -- records posted by the current step instruction
  trigSeen : Bool := false
  wild : Option Nat := none           -- after a host error of its site: the draw that what the thread reads from then on follows (R269, R273, R283, R289)
  waitUntil : Option Nat := none      -- WAITEV time-out
deriving DecidableEq, Repr

/-- The control store and its shadow (R279, R280, R295): microwords with their parity bits as 144-bit numbers, dispatch entries as 16-bit ones. -/
structure Store where
  words : Tbl Nat := []         -- by microaddress; an unlisted word is the vendor bank's, or a zero word of the customer region
  disp : Tbl Nat := []          -- by opcode; an unlisted entry is the vendor bank's, or an entry that is not valid
  vendor : Nat := 0             -- digest of the firmware bank that the vendor region was loaded from, as a number
deriving DecidableEq, Repr

/-- A customer image in force (R300 to R302). -/
structure CustImage where
  version : Nat := 0
  signed : Bool := false
  digest : List Byte := List.replicate 64 0
deriving DecidableEq, Repr

/-- The sequencers: per thread, per Course and shared (chapter 9). -/
structure Sequencers where
  th : Tbl Thread := []         -- by 8c + t
  stepMem : Tbl Nat := []       -- by 32,768 c + address
  store : Tbl Store := []       -- control store of each Course
  shadow : Store := {}
  cust : CustImage := {}
  custPend : Option CustImage := none
  custDone : List Nat := []     -- Courses that hold the pending image
  retries : Tbl Nat := []       -- OD +0xD.00, by Course
  turn : Tbl Nat := []          -- by Course: the thread that has had the latest turn (R266), + 1
deriving DecidableEq, Repr

/-- One entry of a Course's context cache (R310): who holds it locked, and whether a CTXS stage locks it. -/
structure CacheEntry where
  ctx : Nat
  data : List Byte
  lockers : List Nat := []       -- threads (0 to 7) holding it by CTXF
  staged : List Nat := []        -- threads holding it as their staged next context
  next : Option (List Byte) := none   -- a table write that waits for the lock's release (R309)
deriving DecidableEq, Repr

/-- A CTXF that waits for entries (R311). -/
structure CtxWait where
  thread : Nat
  first : Nat
  count : Nat
deriving DecidableEq, Repr

/-- One Course's context cache; entries from least to most recently used. -/
structure Cache where
  entries : List CacheEntry := []
  waiting : List CtxWait := []
  missing : List Nat := []       -- contexts missed and not yet arrived (R312)
  prefetches : Nat := 0
deriving DecidableEq, Repr

/-- One result record before it has a sequence number, and in the ring (Table 10.7). -/
structure ResRec where
  seq : Nat := 0
  t0 : Nat
  gsite : Nat
  bin : Nat
  marks : Nat
  kind : Nat
  opcode : Nat
  spc : Nat
  steps : Nat
  fails : Nat
  failsCum : Nat
  p0 : Nat
  p1 : Nat
  p2 : Nat
deriving DecidableEq, Repr

/-- One result on its way to a site's Reckoner share (R320, R321). `order` is its place among equal instants (R326): 0 for a
fail count, then PMU results by pin, then SMU, waveform and fast-lane results by number (the object codes of `rk.slotOf`). -/
structure Arrival where
  site : Nat
  at_ : Nat
  order : Nat
  slot : Option Nat := none
  item : Option Nat := none
  value : Int := 0
  clamp : Bool := false
  pins : Nat := 0            -- failing pins of the home Course, for a fail count
  t0 : Nat := 0              -- start of the vector, for a fail count
  ckpt : Bool := false       -- a checkpoint that follows the counts forwarded before it (R205)
deriving DecidableEq, Repr

/-- The contexts' caches, the Reckoner and the result ring (chapter 10). -/
structure Reckoner where
  caches : Tbl Cache := []
  items : Tbl Nat := []              -- by 8,192 × site + item, 64-bit values
  ready : List Nat := []             -- 8,192 × site + item whose ready flag is set
  ckpt : List Nat := []              -- sites with a checkpoint count not yet read
  tested : Tbl Bool := []            -- by site: outcome of the last limit test
  latch : Tbl Nat := []              -- by 32 × site + k: sh latched by accumulator k
  stopAsked : List Nat := []         -- sites a failed test with stop ends at their next boundary
  slotOf : Tbl Nat := []             -- result slot given to an object by the site's MEAS: by 65,536 × site + object, slot + 1
  posts : Tbl (List ResRec) := []    -- post queue of each thread 8c + t
  ring : List ResRec := []
  discarded : Nat := 0
  same : Tbl (Nat × Nat) := []       -- by 8,192 × site + item, for items 2, 8 and 9: local instant of the last update that R326 protects, and the increments of that instant
  inbox : List Arrival := []         -- what is on its way to a site, not yet taken in
deriving DecidableEq, Repr

/-- An SMU aperture that is open, or its result on the way (R353, R354). Instants are local ticks (R32). -/
structure SmuAper where
  openAt : Nat
  closeAt : Nat
  site : Nat
  slot : Option Nat
  alt : Bool
  quiet : Bool
  clamp : Bool := false        -- a clamp, fast limit or kelvin_open was in force during it
  interval : Bool := false     -- an acquisition interval (R411), delivered to the unit
deriving DecidableEq, Repr

/-- A stretch of an SMU's output: from a local instant on it moves from one value to another, nV in FV or fA in FI, at a rate in mV/µs, of which 0
stands for a step (R343). -/
structure Ramp where
  at_ : Nat
  from_ : Int
  dest : Int
  rate : Nat
deriving DecidableEq, Repr

/-- One SMU, by number: 0 to 127 logical, 128 + q the spare electronics of quadrant q. -/
structure SmuCh where
  owner : Option Nat := none
  rangeNow : Nat := 5                -- current range in use while a change steps through (R346)
  stepAt : Option Nat := none        -- local instant at which the next range step is taken
  vholdEnd : Option Nat := none      -- end of the 30 µs hold of a voltage-range change (R347)
  base : Int := 0                    -- base force code (R355)
  path : List Ramp := []             -- how the output comes to it, oldest stretch first (R343, R344, R347)
  pulseEnd : Option Nat := none      -- end of the pulse in progress
  cut : Bool := false                -- a latched trip with act 2 or 3 cut it (R358)
  discAt : Option Nat := none        -- the output switch opens at this local instant (R137, R344, R357)
  trippedAt : Option Nat := none     -- local instant of the latest trip (R359)
  monAt : Nat := 0                   -- local instant at which the monitor was enabled last (R149, R356)
  clamped : Bool := false            -- a clamp or fast limit is in force
  aper : List SmuAper := []          -- apertures open or on their way, oldest first
  last : Int := 0                    -- OD 0x400D
  lastClamp : Bool := false
  trips : Nat := 0
  envClamps : Nat := 0
  dissWin : List Nat := []           -- stage dissipation of the last 100 samples, newest first, mW
  pendForce : Option Int := none     -- region temperature, m°C, of a force half that waits for the next SMU_FORCE (R115, R361)
  pendMeas : Option Int := none      -- the same of a measure half that waits for the next aperture
  corrForce : Int := 0               -- the same of the halves in force
  corrMeas : Int := 0
  azRun : Option Nat := none         -- an autozero check began at this local instant
  restore : Nat := 0                 -- local instant by which an abandoned check has restored the unit (R28)
  azI : Tbl Int := []                -- current offsets in force by range, fA, where an autozero has been accepted
  azV : Tbl Int := []                -- voltage offsets in force by range, nV
  azAt : Option Nat := none          -- last accepted autozero
  azRejects : Nat := 0
  monCond : Bool := false            -- the monitor filter's condition holds
deriving DecidableEq, Repr

/-- The SMUs (chapter 11). -/
structure Smus where
  ch : Tbl SmuCh := []
  repair : Tbl RepairRun := []       -- by quadrant
deriving DecidableEq, Repr

/-- A digitizer capture (R385). Instants are domain ticks. -/
structure Capture where
  start : Nat                  -- local instant
  len : Nat
  fs : Nat
  site : Nat
  slot : Option Nat
  quiet : Bool
  armed : Bool                 -- its length is that of the armed unit's segments (R410)
  isOpen : Bool := true        -- still sampling; a capture that has ended waits for its samples
deriving DecidableEq, Repr

/-- A finished capture whose reduction is on its way (R385). -/
structure Reduction where
  site : Nat
  slot : Option Nat
  due : Nat                    -- local instant
  value : Int
  sat : Bool
deriving DecidableEq, Repr

/-- One waveform channel. Source values are in 1/16 of a code step (R374). -/
structure WavCh where
  owner : Option Nat := none
  phase : Nat := 0                   -- 48 bits
  anchor : Nat := 0                  -- local instant of the sample grid's anchor (R382)
  n : Nat := 0                       -- internal samples computed since the anchor
  out : Int := 0                     -- slew limiter's output
  gen : Int := 0                     -- generator output
  dac : Int := 0                     -- the limiter's output in the envelope
  frozen : Bool := false             -- WAV_STOP froze the generator
  toZero : Bool := false             -- ramping to 0 V
  openAfter : Bool := false          -- the switch opens when the ramp ends
  safeRamp : Bool := false           -- ramping at 1 V/µs (R137)
  held : Bool := false               -- holding after an underrun
  lateHead : Bool := false           -- the WAV_START that plays entered its queue less than 1 µs before it acted (R376)
  flagAt : Option Nat := none        -- local instant of the last set of the channel's latch bit (R380)
  sample : Nat := 0                  -- next user sample
  played : Bool := false             -- one-shot buffer finished
  caps : List Capture := []          -- captures whose samples have not been taken in, oldest first
  red : List Reduction := []
  lastRed : Int := 0                 -- OD 0x480A
  envClamps : Nat := 0
  pendSrc : Option Int := none       -- region temperature, m°C, of a source correction that waits (R115, R388)
  pendDig : Option Int := none       -- the same of a digitizer correction
  corrSrc : Int := 0                 -- the same of the corrections in force
  corrDig : Int := 0
  plumbRun : Option Nat := none
  restore : Nat := 0                -- local instant by which an abandoned check has restored the channel (R28)
  plumbAt : Option Nat := none
  plumbRejects : Nat := 0
  plumbVals : Tbl Int := []          -- accepted terms in force, by 4 × digitizer range + term
  pincLo : Nat := 0                  -- WAV_PINC_LO held until HI commits (R502)
deriving DecidableEq, Repr

/-- The waveform channels (chapter 12). -/
structure Wavs where
  ch : Tbl WavCh := []
  srcMask : Nat := 0                 -- OD 0x4880.00
  digMask : Nat := 0
deriving DecidableEq, Repr

/-- What an arm or its segment has gathered (R405 to R417). Instants are domain ticks. -/
structure Arm where
  at_ : Nat
  tunit : Nat
  imm : Bool
  nseg : Nat
  evtEn : Bool
  evt : Nat
  thread : Option Nat          -- the thread that committed the record
  site : Nat
  clampFlag : Bool
  t0 : Nat := 0                -- T0 of the committing thread's current step
  loc : Nat := 0               -- local tick of the arm instant
deriving DecidableEq, Repr

/-- A sample that a unit took while its trigger was not decided (R400): its instant and index, whether it has a place in the pre area, and its
bytes. -/
structure PreSample where
  at_ : Nat
  idx : Nat
  ok : Bool
  data : List Byte
deriving DecidableEq, Repr

/-- One acquisition unit (Table 13.1). -/
structure AcqUnit where
  arm : Option Arm := none
  start : Nat := 0                   -- buffer index of the segment's pre area
  count : Nat := 0                   -- samples taken since the arm or capture start
  pre : List (Nat × Nat) := []       -- instant and index of the pre samples kept, newest first, at most parea
  preN : Nat := 0                    -- pre samples taken in this segment
  trig : Option Nat := none          -- accepted trigger's instant
  post : Nat := 0                    -- post samples stored
  firstAt : Nat := 0                 -- oldest stored sample's instant
  firstIdx : Nat := 0
  lastAt : Nat := 0                  -- instant of the last post sample
  ovf : Bool := false
  deadFrom : Option Nat := none
  deadEnd : Nat := 0                 -- earliest end of the dead time
  holdTo : Nat := 0                  -- hold-off by time runs to this instant
  holdN : Nat := 0                   -- fires still to be ignored
  missedRec : Nat := 0               -- missed since the trigger of the segment in progress: they go into the next record (R416)
  missedOf : Nat := 0                -- missed before it, which its own record tells
  hist : List PreSample := []        -- samples since the pre area began, newest first: a trigger may prove to lie before some of them (R400)
  filed : Nat := 0
  fill : Nat := 0                    -- unread positions behind the write index (R396)
  lost : Nat := 0                    -- post samples of this segment discarded (R396)
  stamp : Nat := 0                   -- time state at the trigger, and 8 where captures of it are UNALIGNED (R420, R421)
deriving DecidableEq, Repr

/-- One trigger unit beyond its TRG_ registers. -/
structure TrigUnit where
  events : Nat := 0                  -- counted toward the next fire
  lastEvent : Option Nat := none     -- domain instant of the latest event
  lastFire : Nat := 0
  frame : Option (Nat × Nat × Nat) := none   -- type, bond and instant of the last bond frame taken as an event
  fires : Nat := 0
deriving DecidableEq, Repr

/-- A TRIG_OUT ball (R404). -/
structure TrigBall where
  high : Bool := false
  until_ : Option Nat := none        -- a pulse ends at this domain instant
deriving DecidableEq, Repr

/-- A capture record (Table 13.6), byte for byte after its sequence number. -/
structure CapRec where
  seq : Nat
  body : List Byte
deriving DecidableEq, Repr

/-- Triggers and acquisition (chapter 13). -/
structure Acquisition where
  un : Tbl AcqUnit := []
  trg : Tbl TrigUnit := []
  balls : Tbl TrigBall := []
  log : List CapRec := []
  queue : List CapRec := []          -- on-die queue of 512
  wseq : Nat := 0
  aseq : Nat := 0
deriving DecidableEq, Repr

/-- An open or opening gate of a lane (R437). Instants are local. -/
structure Gate where
  openAt : Nat
  closeAt : Option Nat
  site : Nat
  slot : Option Nat
  err0 : Int := 0            -- the counters at its opening, less what a clear has taken since
  bits0 : Int := 0
  unlk0 : Int := 0
deriving DecidableEq, Repr

/-- One fast lane. Instants are local. -/
structure Lane where
  owner : Option Nat := none
  adaptFrom : Option Nat := none     -- adaptation began at this instant
  adaptedAt : Nat := 0               -- and last completed at this one
  unlockAt : Nat := 0                -- the checker has been without lock from here
  seedAt : Nat := 0                  -- by this instant the transmitter has sent `seedSent`, since its pattern's seed
  seedSent : Nat := 0                -- in 10⁻⁷ Mbit/s × ticks
  rxCopyAt : Nat := 0
  adaptLate : Bool := false          -- the 1 ms of R434 has passed without adaptation
  ctrAt : Nat := 0                   -- instant up to which the counters stand
  bitRem : Nat := 0                  -- remainders of the bit count and of the unlocked time (ticks)
  unlkRem : Nat := 0
  gate : Option Gate := none         -- the open gate
  waiting : List Gate := []          -- gates that wait out their delay, in the order they open
  scanEye : Nat := 1                 -- eye and dwell code of the scan, as they stood at its start
  scanD : Nat := 7
  scanAt : Nat := 0                  -- the scan's points run from this instant
  txPat : Nat := 5                   -- active pattern and gray of each direction
  rxPat : Nat := 5
  txGray : Bool := true
  rxGray : Bool := true
  manual : List Byte := []           -- copied manual equaliser (OD 0x780C layout)
  lastErr : Nat := 0                 -- OD 0x7810
  lastBits : Nat := 0
  txUpat : List Nat := []            -- active user pattern words
  rxUpat : List Nat := []
  txLen : Nat := 64
  rxLen : Nat := 64
  scan : List Nat := []              -- mismatch counts of the points completed
deriving DecidableEq, Repr

/-- A transmit entry (R447): its template, continue flag and data words. -/
structure TxEntry where
  tpl : Nat
  cont : Bool
  data : List Word64
  at_ : Nat := 0       -- local instant of the SPUSH that opened it; 0 for one of the host's
deriving DecidableEq, Repr

/-- A receive entry (R454) with the status SER_RX_STAT shows. -/
structure RxEntry where
  data : Nat
  bits : Nat
  tpl : Nat
  phase : Nat
  last : Bool := false
  short : Bool := false
  long : Bool := false
  trip : Bool := false
  abort : Bool := false
deriving DecidableEq, Repr

/-- The entry that runs (R451), from I to its deassertion. Instants are local ticks. -/
structure SerRun where
  entry : TxEntry
  start : Nat
  h : Nat              -- half-period in force
  finish : Nat
deriving DecidableEq, Repr

/-- One Course's serial engine beyond its SER_ registers. -/
structure SerEngine where
  txq : List TxEntry := []
  rxq : List RxEntry := []
  run : Option SerRun := none
  todo : Nat := 0                    -- entries a SER_START still has to run
  nextAt : Nat := 0                  -- earliest start of the next entry, local ticks
  sel : Bool := false                -- target role: SEL0 asserted and its transfer under way
  selSeen : Bool := false            -- target role: SEL0 has been deasserted since the role was enabled
  tgt : Option TxEntry := none       -- target role: the entry whose data the transfer sends
  want : Tbl Drive := []             -- by pin: what the engine drives, whether it reaches the pin or not (R443)
  isOpen : Bool := false             -- the last entry queued may still grow (R447)
  ran : Nat := 0
  shorts : Nat := 0
  longs : Nat := 0
  txLost : Nat := 0
  rxLost : Nat := 0
deriving DecidableEq, Repr

/-- An ADP session (R476): at most one Owner and three Observers. Instants are ingress instants in local ticks. -/
structure Session where
  id : Nat
  owner : Bool
  addr : List Byte                  -- source address, 16 bytes
  telPort : Nat                     -- 0 for none
  renewed : Nat                     -- latest valid request
  port : Nat                        -- port of the latest valid request (R468)
  high : Option Nat := none         -- highest seq used (R474)
  cache : List (Nat × Response) := []   -- at most 64, oldest first
deriving DecidableEq, Repr

/-- One bulk transfer (R481 to R484). `dir` 0 moves bytes to the DN7680, 1 from it. -/
structure Transfer where
  id : Nat
  session : Nat
  idx : Nat
  sub : Nat
  dir : Nat
  len : Nat
  arg : Nat
  next : Nat := 0                   -- lowest frame not yet acknowledged (or expected, when receiving)
  sent : Nat := 0                   -- frames sent at least once
  got : List Nat := []              -- frames above `next` that have arrived, ascending
  sinceAck : Nat := 0               -- frames that arrived since the last ACK
  lastArr : Nat := 0                -- local instant of the last unacknowledged arrival
  sentAt : Tbl Nat := []            -- local instant at which each frame from `next` on was last sent
  progress : Nat := 0               -- local instant of the last progress
  moved : Nat := 0
  buf : Tbl Byte := []              -- data of a BLOB entry until the whole has arrived
  src : List Byte := []             -- the BLOB being sent
deriving DecidableEq, Repr

/-- The ADP server beyond its registers (chapter 16). -/
structure Adp where
  sessions : List Session := []
  transfers : List Transfer := []
  lapses : Nat := 0                 -- OD 0x8014.00
  lastLapse : Nat := 0              -- OD 0x8015.00, ticks
  tseq : Nat := 0
  beyond : Nat := 0                 -- OD 0xC001.00
  unaligned : Nat := 0
  narrow : Nat := 0
deriving DecidableEq, Repr

/-- A MACsec key (OD 0x800A.0p). -/
structure SecKey where
  an : Nat
  sak : List Byte
  ssci : Nat
  salt : List Byte
deriving DecidableEq, Repr

/-- One Ethernet port beyond ETH_STATUS. -/
structure Port where
  tx : Option SecKey := none
  rx : Option SecKey := none
  discards : Nat := 0               -- the count of OD 0x8006.0p that the commands move (log entry 30)
  chassis : List Byte := []         -- neighbour (OD 0x8007.0p)
  portId : List Byte := []
  ttl : Nat := 0
  ttlAt : Nat := 0                  -- local instant at which `ttl` was received
deriving DecidableEq, Repr

/-- A journal record being programmed (R494), with the response or the END that waits for it. -/
structure JournalRec where
  key : Nat
  val : List Byte
  resp : Option Response := none
  told : Option OutMsg := none      -- the END of a transfer that waits for it
deriving DecidableEq, Repr

/-- The Ethernet ports and the network settings in force since the last start-up (R487). -/
structure EthState where
  p0 : Port := {}
  p1 : Port := {}
  inForce : Tbl (List Byte) := []
  jrn : List JournalRec := []       -- records not yet verified, oldest first
  restore : Bool := false           -- OD 0x1010.00 marked (R495)
deriving DecidableEq, Repr

/-- One report gathered by an open first-fault window (R516). -/
structure Cand where
  src : Nat
  sev : Nat
  detail : Nat
  inj : Bool
  masked : Bool := false
  row : Nat := 0        -- class DRAM: the full row address (Table 18.7)
deriving DecidableEq, Repr

/-- One entry of the escalation queue (R519); a Chip-critical entry is keyed by its source alone. -/
structure EscEntry where
  src : Nat
  sev : Nat
  detail : Nat
  inj : Bool
  expiry : Nat
  row : Nat := 0
deriving DecidableEq, Repr

/-- One fault log record (Tables 18.4 and 18.7); `arg` is bytes 20 to 31. -/
structure LogRec where
  inst : Nat
  src : Nat
  sev : Nat
  detail : Nat
  kind : Nat
  flags : Nat
  startups : Nat
  arg : List Byte
deriving DecidableEq, Repr

/-- The fault collector and the fault log beyond the FC_ registers (chapter 18). -/
structure Collector where
  winAt : Option Nat := none          -- domain instant at which the first-fault window opened
  winLoc : Nat := 0                   -- the same in local ticks
  cands : List Cand := []
  firstAt : Nat := 0                  -- TIME80 stamp of OD 0x9001.00
  rearm : Tbl (Nat × Nat) := []       -- per source, local instants of its clear and at which its latch is armed again (R517)
  firstRearm : Nat × Nat := (0, 0)    -- the same for FC_FIRST
  esc : List EscEntry := []           -- at most 64
  shadowBad : List Nat := []          -- source paths that fail the shadow-latch check (R524)
  log : List LogRec := []             -- newest last, at most 4,096
  queued : List LogRec := []          -- at most 64, while the Keystone is out (R526)
  written : Nat := 0
  lost : Nat := 0
  lostFlag : Bool := false            -- the next record carries flag bit 2
  parked : List Nat := []             -- parked sites (OD 0x9030.00), ascending
  parking : List Nat := []            -- sites whose park has begun and not finished (R521)
  derated : List Nat := []            -- derated Courses (OD 0x9033.00), ascending
deriving DecidableEq, Repr

/-- A BIST run in progress (R529, R530). -/
structure BistRun where
  kind : Nat
  target : Nat
  started : Nat          -- local ticks
  slice : Bool := false  -- a slice is in progress
  restore : Nat := 0     -- local instant by which an abandoned slice has restored its block (R531)
  soft : Bool := true
deriving DecidableEq, Repr

/-- The last BIST run (OD 0x9022.00). -/
structure BistLast where
  kind : Nat := 0
  target : Nat := 0
  verdict : Nat := 0
  prog : Nat := 0
  done : Nat := 0
  sig : Nat := 0
  expSig : Nat := 0
  abandons : Nat := 0
  endAt : Nat := 0
deriving DecidableEq, Repr

/-- One DRAM stack's error counts, row lists and repair resources (R527, R528). -/
structure DramStack where
  corrected : Nat := 0
  retries : Nat := 0
  uncorrectable : Nat := 0
  cands : List Nat := []           -- PPR candidate rows, Stored
  patrol : Tbl (List Nat) := []    -- per row, instants of patrol passes that corrected symbols
  remapped : List Nat := []        -- rows remapped by soft repair at start-up
  hard : List Nat := []            -- rows fused into hard repair
  trained : Bool := false
deriving DecidableEq, Repr

/-- Self-test and repair beyond the BST_ registers (chapter 18). -/
structure Bist where
  run : Option BistRun := none
  last : BistLast := {}
  softMap : List Nat := []
  fuseField : List (Nat × Bool) := []   -- entry, valid; at most 512
  startTested : Nat := 0
  startRepaired : Nat := 0
  startBad : Nat := 0
  drams : Tbl DramStack := []
  corrupt : Tbl Nat := []               -- lines the outer code cannot correct, by how many retries they need
deriving DecidableEq, Repr

/-- A calibration set: its bytes (Table 19.1), sparse over zero, and its generation (R539). -/
structure CalSet where
  gen : Nat
  data : Tbl Byte
deriving DecidableEq, Repr

/-- A fuse generation slot (R540): markers, and whether its digest matches what it holds. -/
structure CalSlot where
  set : CalSet
  sound : Bool
  valid : Bool
  revoked : Bool
deriving DecidableEq, Repr

/-- A calibration run in progress (R548). -/
structure CalRunState where
  cls : Nat
  started : Nat
deriving DecidableEq, Repr

/-- A commit in progress (Table 19.2). -/
structure CalCommitState where
  set : CalSet
  started : Nat
  flagged : List Nat        -- details of the objects kept back (R546)
deriving DecidableEq, Repr

/-- Calibration (chapter 19). -/
structure Calib where
  slots : List CalSlot := [⟨⟨1, Config.factorySet⟩, true, true, false⟩]
  nvm : Option (CalSet × Bool) := some (⟨1, Config.factorySet⟩, true)     -- the NVM copy and whether its CRC passes
  force : Option CalSet := none            -- the set in force
  draft : Tbl Byte := []
  refMode : Nat := 0                       -- OD 0xA005.00
  refForce : Int := 0
  standard : Int := 0
  run : Option CalRunState := none
  lastRun : Nat × Nat × Nat := (0, 0, 0)   -- class, outcome, end instant
  commit : Option CalCommitState := none
  report : Nat × Nat × List Nat := (0, 0, [])   -- result, generation, objects
  m0 : Int := 0
  m1 : Int := 0
  reserved : Bool := false
deriving DecidableEq, Repr

/-- One firmware bank (Table 19.6): what it holds and whether it passed its last check (R551). -/
structure FwBank where
  release : Nat := 0
  rollback : Nat := 0
  loaded : Bool := false            -- holds an image; an empty bank reads as release 0
  pass : Bool := false
  digest : List Byte := List.replicate 64 0   -- SHA-512 of the image; zeros for an empty or failed bank (R559)
deriving DecidableEq, Repr

/-- Firmware banks, boot record, keys and attestation (chapter 19). -/
structure Trust where
  banks : List FwBank := [{ release := 0x00040000, loaded := true, pass := true, digest := Config.factoryDigest.toList }, {}]
  preferred : Nat := 0
  rollback : Nat := 0               -- fuse counter (R553)
  bootA : Nat := 0
  bootB : Nat := 0
  bank : Nat := 0                   -- bank in force
  recovery : Bool := false          -- the recovery service runs (R552)
  probationEnd : Option Nat := none
  freezeAt : Option Nat := none
  loadAt : Option Nat := none       -- local instant at which LOADING began (R555, step 1)
  stagedAt : Option Nat := none
  buffering : Bool := false         -- new requests are buffered to make a quiet point (R555)
  vendorRelease : Nat := 0          -- vendor microcode in force (OD 0x5A02.00)
  vendorPend : Option Nat := none   -- new vendor microcode waiting for Safe (R303)
  keys : List (List Byte) := []     -- enrolled moduli, oldest first, at most two
  nonce : List Byte := List.replicate 32 0
deriving DecidableEq, Repr

/-- One journal block (R562, R564). -/
structure NvmBlock where
  erases : Nat := 0
  used : Nat := 0                   -- pages written since the last erase, of 256
  retired : Bool := false
deriving DecidableEq, Repr

/-- One journal page (Table 19.10): where it stands, its jseq, its part number and its data bytes, least significant first. -/
structure JPage where
  block : Nat
  jseq : Nat
  part : Nat
  data : List Byte                  -- at most 236
deriving DecidableEq, Repr

/-- The NVM journal (R562 to R565). -/
structure Nvm where
  blocks : Tbl NvmBlock := []       -- of 3,072
  intents : List Nat := []          -- blocks named by an erase intent not yet done
  jseq : Nat := 0
  pages : Tbl (List JPage) := []    -- by journal key: the pages of its record in force
  openBlock : Option Nat := none    -- the block that takes new pages
  eraseOf : Option Nat := none      -- the block being erased
deriving DecidableEq, Repr

/-- One supply rail (Table 20.5): millivolts, milliamperes, and since when it lies outside its operating range. -/
structure Rail where
  mv : Int := 0
  ma : Nat := 0
  outSince : Option Nat := none     -- local instant
  outTold : Bool := false           -- this stay outside has been reported (R574)
deriving DecidableEq, Repr

/-- Supplies, resets, start-up and the status balls (chapter 20). -/
structure Power where
  powered : Bool := false           -- the power-on reset has released
  resetLow : Bool := false          -- RESET_N is asserted
  rails : Tbl Rail := []
  railCount : Tbl Nat := []         -- OD 0xB103.00
  startStep : Nat := 0              -- step of Table 20.8 in progress; 0 before t0, 11 when Safe is entered
  t0 : Nat := 0                     -- local instant of reset release
  startups : Nat := 0
  cause : Nat := 0
  startDone : Nat := 0              -- local instant at which the last start-up completed
  startUsed : Nat := 0              -- local ticks that the steps of this start-up have taken, at most 1.5 s (R579)
  alive : Bool := false             -- ALIVE's level
  aliveAt : Nat := 0                -- local instant of its last toggle
  waitLogged : Bool := false        -- the thermal wait of R113 is in the fault log
deriving DecidableEq, Repr

/-- The IEEE 1149.1 port (R585, R586). -/
structure Tap where
  ir : Nat := 1                     -- IDCODE at Test-Logic-Reset
  boundary : Tbl Nat := []          -- 3,129 cells
  dr : Nat := 0x27680A3F            -- what the selected data register holds
  captured : Nat := 0x27680A3F      -- what it captured last, to be shifted out at TDO
  driving : Nat := 0                -- 0 none, 1 EXTEST, 2 CLAMP, 3 HIGHZ
deriving DecidableEq, Repr

/-- Why a command ends in a fault. No command of this block does: every failure the spec describes is an effect on State. -/
inductive Fault where
  /-- kept so that the type has a member: no command raises it, since the spec lets no command of this block stop (safe) -/
  | noSuchAddress
deriving DecidableEq, Repr

/-- Why a command is refused. -/
inductive Refusal where
  /-- raised by the dispatch for a command that has no meaning yet; every command has one (safe) -/
  | notModelled (mnemonic : String)
deriving DecidableEq, Repr

/-- The state of the whole block and the queue of commands that wait, oldest first. -/
structure State where
  /-- every register field at the value it last took (R497, R499); an unlisted field holds its Reset value -/
  regs : Tbl Nat := []
  /-- the W1C bits set by hardware at the present instant (R509) -/
  hw : SetNow := {}
  /-- the active sets behind staged registers; an unlisted field holds its Reset value -/
  act : Tbl Nat := []
  /-- the DRAM spaces, by byte address (line × 64 + offset); an unlisted byte reads as `Config.blankByte` -/
  mem : List Host.Cell := []
  /-- dictionary entries that no register and no other field holds, by index × 256 + sub-index -/
  dict : Tbl (List Byte) := []
  /-- journal copies of RWS values, restored at start-up (R494) -/
  stored : Tbl (List Byte) := []
  /-- counter of the free values drawn so far; the model's own field -/
  freeCtr : Nat := 0
  /-- what the block has sent on its lines and ports, oldest first -/
  out : List OutMsg := []
  /-- time base -/
  tb : TimeBase := {}
  /-- bond slots -/
  bonds : Tbl BondSlot := []
  /-- bond-message sequence numbers -/
  net : BondNet := {}
  /-- launch queues 0 to 39, oldest first -/
  lq : Tbl (List LaunchRec) := []
  /-- per queue: instant, execution instant and lateness of the last record that left it -/
  lqLast : Tbl (Nat × Nat × Bool) := []
  /-- Tally -/
  tally : Tally := {}
  /-- thermal control -/
  thm : Therm := {}
  /-- operating mode -/
  md : ModeState := {}
  /-- sequencers -/
  seq : Sequencers := {}
  /-- fault collector -/
  fc : Collector := {}
  /-- self-test and repair -/
  bist : Bist := {}
  /-- contexts' caches, Reckoner, result ring -/
  rk : Reckoner := {}
  /-- Keystone service and background checks -/
  ks : Keystone := {}
  /-- calibration -/
  cal : Calib := {}
  /-- firmware, keys and attestation -/
  tr : Trust := {}
  /-- NVM journal -/
  nvm : Nvm := {}
  /-- supplies, reset and start-up -/
  pw : Power := {}
  /-- boundary scan -/
  tap : Tap := {}
  /-- pin channels -/
  pin : Pins := {}
  /-- ADP sessions, transfers and counts -/
  adp : Adp := {}
  /-- Ethernet ports, network settings and the journal records in progress -/
  eth : EthState := {}
  /-- edge timing -/
  tmg : Timing := {}
  /-- pattern streaming -/
  pat : Pattern := {}
  /-- algorithmic pattern generators, by Course -/
  apg : Tbl Apg := []
  /-- source-measure units -/
  smu : Smus := {}
  /-- waveform channels -/
  wav : Wavs := {}
  /-- acquisition and triggers -/
  acq : Acquisition := {}
  /-- fast lanes -/
  fln : Tbl Lane := []
  /-- serial engines, by Course -/
  ser : Tbl SerEngine := []
  /-- commands waiting, first in first out -/
  pending : List Instr := []
deriving DecidableEq, Repr

/-- The block at power-on reset: every register at its Reset value, nothing in memory, every output parked, mode Safe
(R139, R498); a value the spec does not state is named in the assumption log. -/
def State.reset : State := {}

end Sys2Proof.Machine
end

