-- ==== Sys2Proof/Machine/Journal.lean ====
section
/-! DEFINITION. The pages of the NVM journal: blocks, records and their layout (R562 to R564). -/

namespace Sys2Proof.Machine

/-- Division rounded up. -/
def ceilDiv (a b : Nat) : Nat := (a + b - 1) / b
/-- A number from bytes, least significant first (R6). -/
def leNat : List Byte → Nat
  | [] => 0
  | b :: t => b.toNat + 256 * leNat t

/-- A number as `n` bytes, least significant first (R6). -/
def toLe : Nat → Nat → List Byte
  | 0, _ => []
  | n + 1, x => BitVec.ofNat 8 x :: toLe n (x / 256)

/-- Journal blocks (Table 19.9). -/
def journalBlocks : Nat := 3072
/-- Pages of a block. -/
def blockPages : Nat := 256

/-- A journal block. -/
def State.block (s : State) (b : Nat) : NvmBlock := Tbl.get s.nvm.blocks {} b
/-- Changes a journal block. -/
def State.modBlock (s : State) (b : Nat) (f : NvmBlock → NvmBlock) : State :=
  { s with nvm := { s.nvm with blocks := Tbl.set s.nvm.blocks {} b (f (s.block b)) } }

/-- The lowest block, from `n` up, that a table of blocks does not list: one never used. -/
def freshFrom : Tbl NvmBlock → Nat → Nat
  | [], n => n
  | (k, _) :: t, n => if k = n then freshFrom t (n + 1) else if k < n then freshFrom t n else n

/-- The listed free block with the fewest erases. -/
def leastFree (l : Tbl NvmBlock) : Option Nat :=
  (l.foldl (fun (m : Option (Nat × Nat)) (e : Nat × NvmBlock) =>
    if e.2.used = 0 ∧ !e.2.retired then
      match m with
      | some x => if e.2.erases < x.2 then some (e.1, e.2.erases) else m
      | none => some (e.1, e.2.erases)
    else m) none).map (·.1)

/-- The free block with the lowest erase count (R564). -/
def State.nextBlock (s : State) : Option Nat :=
  let f := freshFrom s.nvm.blocks 0
  if f < journalBlocks then some f else leastFree s.nvm.blocks

/-- Free journal blocks. -/
def State.freeBlocks (s : State) : Nat :=
  journalBlocks - (s.nvm.blocks.filter (fun (e : Nat × NvmBlock) => decide (e.2.used ≠ 0) || e.2.retired)).length

/-- Live pages of a block. -/
def State.livePages (s : State) (b : Nat) : Nat :=
  s.nvm.pages.foldl (fun a (e : Nat × List JPage) => a + (e.2.filter (fun p => p.block == b)).length) 0

/-- Highest erase count of any journal block. -/
def State.maxErase (s : State) : Nat := s.nvm.blocks.foldl (fun m (e : Nat × NvmBlock) => max m e.2.erases) 0
/-- Lowest erase count of any journal block. -/
def State.minErase (s : State) : Nat :=
  if freshFrom s.nvm.blocks 0 < journalBlocks then 0
  else s.nvm.blocks.foldl (fun m (e : Nat × NvmBlock) => min m e.2.erases) s.maxErase

/-- Takes a page: in the open block while it has room, else in the free block with the lowest erase count. Its block and its jseq. -/
def State.takePage (s : State) : Option (Nat × Nat) × State :=
  let room := match s.nvm.openBlock with
    | some b => if (s.block b).used < blockPages ∧ !(s.block b).retired then some b else s.nextBlock
    | none => s.nextBlock
  match room with
  | none => (none, s)
  | some b =>
    (some (b, s.nvm.jseq),
      ({ s with nvm := { s.nvm with openBlock := some b, jseq := s.nvm.jseq + 1 } }).modBlock b (fun x => { x with used := x.used + 1 }))

/-- Data bytes of a page (Table 19.10). -/
def pageBytes : Nat := 236

/-- The parts of a record, at least one. -/
def partsOf (l : List Byte) : List (List Byte) :=
  (List.range (max 1 (ceilDiv l.length pageBytes))).map (fun k => (l.drop (pageBytes * k)).take pageBytes)

/-- Programs pages with the parts of a record, from part `n` on: consecutive jseq values (R563). -/
def State.putPages (s : State) (acc : List JPage) (n : Nat) : List (List Byte) → List JPage × State
  | [] => (acc, s)
  | d :: t =>
    match s.takePage with
    | (some (b, q), s) => State.putPages s (acc ++ [⟨b, q, n, d⟩]) (n + 1) t
    | (none, s) => (acc, s)

/-- Programs a record: once all its pages are there they are the live ones of its key (R563). -/
def State.program (s : State) (key : Nat) (data : List Byte) : State :=
  let (l, s) := s.putPages [] 0 (partsOf data)
  if l.length < (partsOf data).length then s else { s with nvm := { s.nvm with pages := Tbl.put s.nvm.pages key l } }

/-- Journal keys of the records that are no dictionary values: kind × 2³² + the key of Table 19.10. -/
def jKey (kind k : Nat) : Nat := kind * 4294967296 + k

/-- A record's kind (Table 19.10), by its journal key. -/
def jKind (key : Nat) : Nat :=
  let idx := key / 256
  if 4294967296 ≤ key then key / 4294967296
  else if idx = 0x5A00 then 3
  else if idx = 0x8105 then 5
  else if idx = 0x4401 ∨ (0x3000 ≤ idx ∧ idx < 0x3400 ∧ idx % 32 = 0x17) then 6
  else if idx = 0x9051 then 7
  else if idx = 0x800A then 11
  else 1

/-- One bit of the CRC-32 of IEEE 802.3, polynomial 0x04C1_1DB7 taken least significant bit first (R540). -/
def crcBit (c : Nat) : Nat := if c.testBit 0 then (c / 2) ^^^ 0xEDB88320 else c / 2
/-- CRC-32 of bytes (R540). -/
def crc32 (l : List Byte) : Nat :=
  (l.foldl (fun c b => (List.range 8).foldl (fun c _ => crcBit c) (c ^^^ b.toNat)) 0xFFFFFFFF) ^^^ 0xFFFFFFFF

/-- A page as it is programmed, one of `parts` (Table 19.10). -/
def JPage.bytes (p : JPage) (key parts : Nat) : List Byte :=
  let b := toLe 2 0x4A50 ++ toLe 1 (jKind key) ++ toLe 1 (if p.part + 1 = parts then 1 else 0) ++ toLe 4 key ++ toLe 4 p.jseq ++ toLe 2 p.part ++
    toLe 2 parts ++ p.data ++ List.replicate (pageBytes - p.data.length) 0
  b ++ toLe 4 (crc32 b)

end Sys2Proof.Machine
end

