-- ==== Sys2Proof/Machine/Ops.lean ====
section
/-! DEFINITION. The named operations every meaning is written with: register fields, DRAM, time, free values, fault
reports and the fault log, marks. -/

namespace Sys2Proof.Machine

/-! ### Units (R8): a tick is 1/4,096 ns -/

/-- Nanoseconds as ticks. -/
def ns (n : Nat) : Nat := n * 4096
/-- Microseconds as ticks. -/
def us (n : Nat) : Nat := n * 4096000
/-- Milliseconds as ticks. -/
def ms (n : Nat) : Nat := n * 4096000000
/-- Picoseconds as ticks, rounded to the nearest tick (R8). -/
def psToTicks (p : Nat) : Nat := (p * 4096 + 500) / 1000
/-- Ticks as picoseconds, rounded to nearest. -/
def ticksToPs (t : Nat) : Nat := (t * 1000 + 2048) / 4096
/-- One timing-plane cycle, 156.25 ps (R31). -/
def cycle : Nat := 640

/-! ### Register fields (R497 to R499) -/

/-- The key of a field of instance `i`, element `n` of its array or window. -/
def fkey (f : Fld) (i n : Nat) : Nat :=
  (((f.blk * 65536 + f.off) * 32 + f.lo) * 64 + i) * 1048576 + n

/-- The Reset value of a field of instance `i`, element `n` (R498). -/
def rstVal (f : Fld) (i n : Nat) : Nat :=
  match f.rst with
  | .k v => v
  | .course => i
  | .site => 8 * i + n
  | .region => 0x1000 * n
  | .chan => n % 32
  | .edge => match n % 5 with | 0 => 0 | 1 => 0 | 2 => 3072 | _ => 2048

/-- A register field's value. -/
def State.fld (s : State) (f : Fld) (i : Nat := 0) (n : Nat := 0) : Nat :=
  Tbl.get s.regs (rstVal f i n) (fkey f i n) % 2 ^ f.wid

/-- Gives a register field a value, cut to the field's width. -/
def State.setFld (s : State) (f : Fld) (i n v : Nat) : State :=
  { s with regs := Tbl.set s.regs (rstVal f i n) (fkey f i n) (v % 2 ^ f.wid) }

/-- A one-bit field as a truth value. -/
def State.bit (s : State) (f : Fld) (i : Nat := 0) (n : Nat := 0) : Bool := s.fld f i n % 2 == 1

/-- Notes that the hardware sets bit `k` of a field now, where the field is W1C (R509). -/
def State.noteSet (s : State) (f : Fld) (i n k : Nat) : SetNow :=
  if f.acc != .w1c then s.hw
  else if s.hw.inst = s.tb.loc then { s.hw with bits := (64 * fkey f i n + k) :: s.hw.bits }
  else ⟨s.tb.loc, [64 * fkey f i n + k]⟩

/-- Whether the hardware has set bit `k` of a W1C field at this very instant: a clear leaves it set (R509). -/
def State.heldBit (s : State) (f : Fld) (i n k : Nat) : Bool := s.hw.inst == s.tb.loc && s.hw.bits.contains (64 * fkey f i n + k)

/-- Sets or clears a one-bit field. -/
def State.setBit (s : State) (f : Fld) (i n : Nat) (b : Bool) : State :=
  { s.setFld f i n b.toNat with hw := if b then s.noteSet f i n 0 else s.hw }

/-- Bit `k` of a wider field. -/
def State.bitOf (s : State) (f : Fld) (i n k : Nat) : Bool := (s.fld f i n).testBit k

/-- A number with bit `k` set. -/
def setBitAt (x k : Nat) : Nat := x ||| 2 ^ k
/-- A number with bit `k` cleared. -/
def clrBitAt (x k : Nat) : Nat := if x.testBit k then x - 2 ^ k else x
/-- The bits of `x` that `m` does not hold. -/
def clrMask (x m : Nat) : Nat := x - (x &&& m)
/-- The numbers of the bits set below `w`, ascending. -/
def bitsOf (w x : Nat) : List Nat := (List.range w).filter (fun k => x.testBit k)
/-- The number whose set bits are listed. -/
def maskOf (l : List Nat) : Nat := l.foldl setBitAt 0

/-- Sets one bit of a field. -/
def State.setBitIn (s : State) (f : Fld) (i n k : Nat) : State :=
  { s.setFld f i n (setBitAt (s.fld f i n) k) with hw := s.noteSet f i n k }
/-- The bits of `v` that a software clear of a W1C field takes away: those the hardware does not set at the same instant (R509). -/
def State.softClear (s : State) (f : Fld) (i n v : Nat) : Nat := maskOf ((bitsOf f.wid v).filter (fun k => !s.heldBit f i n k))

/-- Clears one bit of a field. -/
def State.clrBitIn (s : State) (f : Fld) (i n k : Nat) : State := s.setFld f i n (clrBitAt (s.fld f i n) k)

/-- The active value behind a staged field. -/
def State.actFld (s : State) (f : Fld) (i : Nat := 0) (n : Nat := 0) : Nat :=
  Tbl.get s.act (rstVal f i n) (fkey f i n) % 2 ^ f.wid

/-- Makes a value active. -/
def State.setAct (s : State) (f : Fld) (i n v : Nat) : State :=
  { s with act := Tbl.set s.act (rstVal f i n) (fkey f i n) (v % 2 ^ f.wid) }

/-- Copies staged fields to the active set. -/
def State.copyActive (s : State) (fs : List Fld) (i n : Nat) : State :=
  fs.foldl (fun s f => s.setAct f i n (s.fld f i n)) s

/-- A 64-bit counter held in a LO and HI pair (R501). -/
def State.pair (s : State) (lo hi : Fld) (i : Nat := 0) (n : Nat := 0) : Nat :=
  s.fld lo i n + 4294967296 * s.fld hi i n

/-- Writes a LO and HI pair. -/
def State.setPair (s : State) (lo hi : Fld) (i n v : Nat) : State :=
  (s.setFld lo i n (v % 4294967296)).setFld hi i n (v / 4294967296)

/-- A counter that saturates at `2^w - 1`. -/
def satInc (w x : Nat) : Nat := if x + 1 < 2 ^ w then x + 1 else 2 ^ w - 1

/-- Two's complement of width `w` read as an integer. -/
def toSigned (w x : Nat) : Int := if x % 2 ^ w < 2 ^ (w - 1) then (x % 2 ^ w : Nat) else (x % 2 ^ w : Nat) - (2 ^ w : Nat)
/-- An integer as two's complement of width `w`. -/
def ofSigned (w : Nat) (x : Int) : Nat := (x % (2 ^ w : Nat)).toNat
/-- An integer kept between two limits. -/
def clampInt (lo hi x : Int) : Int := if x < lo then lo else if hi < x then hi else x
/-- A number kept between two limits. -/
def clampNat (lo hi x : Nat) : Nat := if x < lo then lo else if hi < x then hi else x
/-- Bits [hi:lo] of a number. -/
def bitsAt (x hi lo : Nat) : Nat := x / 2 ^ lo % 2 ^ (hi - lo + 1)
/-- Division of integers rounded up, for a positive divisor. -/
def ceilDivInt (a b : Int) : Int := -((-a) / b)
/-- Inserts a number into an ascending list without repeats. -/
def insertAsc (l : List Nat) (x : Nat) : List Nat :=
  match l with
  | [] => [x]
  | y :: t => if x = y then l else if x < y then x :: l else y :: insertAsc t x
/-- Takes a number out of a list. -/
def removeNat (l : List Nat) (x : Nat) : List Nat := l.filter (fun y => y != x)

/-! ### DRAM (R205 and the spaces of the chapters) -/

/-- The canonical form of DRAM: addresses rising, no byte listed that an unlisted address would read as. -/
def Memory.wf (m : List Host.Cell) : Bool := Tbl.wf m Config.blankByte

/-- One byte of DRAM. -/
def State.byte (s : State) (a : Nat) : Byte := Tbl.get s.mem Config.blankByte a

/-- Writes one byte of DRAM. -/
def State.setByte (s : State) (a : Nat) (b : Byte) : State := { s with mem := Tbl.set s.mem Config.blankByte a b }

/-- `n` bytes of DRAM from an address, lowest address first. -/
def State.bytes (s : State) (a n : Nat) : List Byte := (List.range n).map (fun k => s.byte (a + k))

/-- Writes bytes from an address up. -/
def State.setBytes (s : State) (a : Nat) : List Byte → State
  | [] => s
  | b :: t => State.setBytes (s.setByte a b) (a + 1) t

/-- Whether a DRAM line is uncorrectable: since its read failed three retries the host has not rewritten it (R228). -/
def State.corruptLine (s : State) (line : Nat) : Bool := (Tbl.find s.bist.corrupt line).isSome

/-- The host writes whole DRAM lines from a line on: what could not be corrected there is gone (R228). -/
def State.writeLines (s : State) (line : Nat) (b : List Byte) : State :=
  let n := (b.length + 63) / 64
  let s := { s with bist := { s.bist with
    corrupt := s.bist.corrupt.filter (fun (e : Nat × Nat) => decide (e.1 < line) || decide (line + n ≤ e.1)) } }
  s.setBytes (64 * line) b

/-- A number from bytes, most significant first (R6). -/
def beNat (l : List Byte) : Nat := l.foldl (fun a b => a * 256 + b.toNat) 0

/-- A number as `n` bytes, most significant first (R6). -/
def toBe (n x : Nat) : List Byte := (toLe n x).reverse

/-- A TIME80 on the wire, as ticks: its fraction bits [3:0] are ignored (R8). -/
def timeTicks (b : List Byte) : Nat := beNat (b.take 8) * 4096 + beNat ((b.drop 8).take 2) / 16
/-- An instant in ticks as a TIME80, most significant byte first (R7, R8). -/
def time80 (t : Nat) : List Byte := toBe 8 (t / 4096) ++ toBe 2 (t % 4096 * 16)

/-! ### Free values (log entry 3) -/

/-- Draws a value the spec leaves open, below `m`. -/
def State.draw (s : State) (m : Nat) : Nat × State :=
  (Config.freeNat s.freeCtr % m, { s with freeCtr := s.freeCtr + 1 })

/-! ### Time (R31, R63; log entry 5) -/

/-- The rate of domain time, in units of 2⁻⁴⁰ per local tick (R31). -/
def State.rate (s : State) : Nat := (1099511627776 + s.tb.trim).toNat

/-- The local ticks that pass until domain time, with the remainder its accumulator holds, has come to `t` (R31). -/
def State.ticksTo (s : State) (t : Nat) : Nat := ceilDiv ((t - s.tb.dom) * 1099511627776 - s.tb.acc) s.rate

/-- Lets time pass until domain time reaches `t`; an instant already past changes nothing. Local ticks pass at the untrimmed rate
(R32), and what the last of them adds beyond `t` stays in the accumulator (R31). -/
def State.reach (s : State) (t : Nat) : State :=
  if t ≤ s.tb.dom then s
  else
    { s with tb := { s.tb with
        dom := t
        loc := s.tb.loc + s.ticksTo t
        acc := s.tb.acc + s.ticksTo t * s.rate - (t - s.tb.dom) * 1099511627776 } }

/-- The local instant at which domain time will reach `t` under the trim in force. -/
def State.locAt (s : State) (t : Nat) : Nat := if t ≤ s.tb.dom then s.tb.loc - (s.tb.dom - t) else s.tb.loc + s.ticksTo t
/-- The domain time at local instant `l` under the trim in force. -/
def State.domAt (s : State) (l : Nat) : Nat :=
  if l ≤ s.tb.loc then s.tb.dom - (s.tb.loc - l) else s.tb.dom + ((l - s.tb.loc) * s.rate + s.tb.acc) / 1099511627776

/-- Lets `d` local ticks pass (R31): domain time gains `d` × (1 + trim), with its remainder carried in the accumulator. -/
def State.pass (s : State) (d : Nat) : State :=
  let g : Int := (d : Int) * (1099511627776 + s.tb.trim) + s.tb.acc
  { s with tb := { s.tb with
      loc := s.tb.loc + d
      dom := s.tb.dom + (g / 1099511627776).toNat
      acc := (g % 1099511627776).toNat } }

/-- Lets time pass until local tick `t`. -/
def State.reachLoc (s : State) (t : Nat) : State := s.pass (t - s.tb.loc)

/-- Lets time pass to the next local instant that is a multiple of `p`. -/
def State.nextLoc (s : State) (p : Nat) : State := s.reachLoc ((s.tb.loc / p + 1) * p)

/-- The first timing-plane cycle boundary at or after `t`. -/
def cycleUp (t : Nat) : Nat := ceilDiv t cycle * cycle

/-- Domain time now. -/
def State.now (s : State) : Nat := s.tb.dom
/-- Domain time now in whole nanoseconds. -/
def State.nowNs (s : State) : Nat := s.tb.dom / 4096

/-- Records something the block sends. -/
def State.send (s : State) (m : OutMsg) : State := { s with out := s.out ++ [m] }

/-- Whether the BOND line engine runs (R85): TB_CTRL.lines_en is 1, and start-up has set the block enables (step 9 of Table 20.8). -/
def State.linesUp (s : State) : Bool := s.bit F.TB_CTRL_lines_en && decide (10 ≤ s.pw.startStep)

/-! ### Fault reports (R513 to R519) -/

/-- Severities (R513). -/
def sevAdvisory : Nat := 0
/-- Degraded. -/
def sevDegraded : Nat := 1
/-- Site-fatal. -/
def sevSite : Nat := 2
/-- Chip-critical. -/
def sevChip : Nat := 3

/-- A fault detail: class in bits [15:12], object in bits [11:0] (R514). -/
def detail (cls obj : Nat) : Nat := cls * 4096 + obj % 4096
/-- Detail classes of Table 18.2. -/
def clsNone : Nat := 0
def clsPin : Nat := 1
def clsSite : Nat := 2
def clsSmu : Nat := 3
def clsWave : Nat := 4
def clsLane : Nat := 5
def clsDram : Nat := 6
def clsPort : Nat := 7
def clsSensor : Nat := 8
def clsBond : Nat := 9
def clsBlock : Nat := 10
def clsUnit : Nat := 11
def clsRail : Nat := 12
def clsSource : Nat := 13

/-- FC_STATUS as one 64-bit mask (OD 0x9000.00). -/
def State.faultMask (s : State) : Nat := s.pair F.FC_STATUS_LO_status F.FC_STATUS_HI_status

/-- Whether a source's FC_STATUS bit is set. -/
def State.srcSet (s : State) (src : Nat) : Bool := s.faultMask.testBit src

/-- Whether FAULT_N is driven low (R518): it follows FC_STATUS except while RESET_N is asserted, and is
low in the recovery service (R552). -/
def State.faultN (s : State) : Bool := (s.faultMask != 0 || s.tr.recovery) && !s.pw.resetLow && s.pw.powered

/-- Adds one report to those not captured (R516). -/
def State.overflow (s : State) (n : Nat) : State :=
  if n = 0 then s
  else
    let c := s.fld F.FC_OVF_count + n
    (s.setBit F.FC_OVF_ovf 0 0 true).setFld F.FC_OVF_count 0 0 (if c < 65536 then c else 65535)

/-- A fault log record as it is stored (Table 18.4). -/
def LogRec.bytes (r : LogRec) : List Byte :=
  toLe 2 (r.inst % 4096 * 16) ++ toLe 8 (r.inst / 4096) ++ toLe 1 r.src ++ toLe 1 r.sev ++ toLe 2 r.detail ++ toLe 1 r.kind ++ toLe 1 r.flags ++
    toLe 4 r.startups ++ (r.arg ++ List.replicate (12 - r.arg.length) 0)

/-- Writes a record into the fault log's ring of 4,096, a page of the journal each (R526, R563). -/
def State.writeLog (s : State) (r : LogRec) : State :=
  let l := s.fc.log ++ [r]
  let s := s.program (jKey 4 (s.fc.written % 4096)) r.bytes
  { s with fc := { s.fc with log := if l.length > 4096 then l.drop (l.length - 4096) else l, written := s.fc.written + 1 } }

/-- A record of the fault log with its instant: written, or queued while the Keystone is out (`out`), 64 at most. The first one after lost records
carries flag bit 2 (R526). -/
def State.logAt (s : State) (out : Bool) (inst kind src sev det flags : Nat) (arg : List Byte) : State :=
  let flags := if s.fc.lostFlag then flags ||| 4 else flags
  let r : LogRec := ⟨inst, src, sev, det, kind, flags, s.pw.startups, arg ++ List.replicate (12 - arg.length) 0⟩
  if !out then { s with fc := { s.fc with lostFlag := false } }.writeLog r
  else if s.fc.queued.length < 64 then { s with fc := { s.fc with queued := s.fc.queued ++ [r], lostFlag := false } }
  else { s with fc := { s.fc with lost := s.fc.lost + 1, lostFlag := true } }

/-- Whether the Keystone is out: no firmware runs, or the pairs change over (R526). -/
def State.logOut (s : State) : Bool := s.ks.outage || !s.ks.running

/-- A record of the fault log at the present instant (R526). -/
def State.logFault (s : State) (kind src sev det flags : Nat) (arg : List Byte) : State := s.logAt s.logOut s.now kind src sev det flags arg

/-- The mean SMU stage dissipation over the last 1 ms, mW (R350, OD 0x2208.00): of the chip's dissipation at each 10 µs sample. -/
def State.smuTotal (s : State) : Nat :=
  if s.tally.sWin.isEmpty then 0 else s.tally.sWin.foldl (· + ·) 0 / s.tally.sWin.length

/-- Writes the oldest record queued (R526). -/
def State.flushLog (s : State) : State :=
  match s.fc.queued with
  | [] => s
  | r :: rest => { s with fc := { s.fc with queued := rest } }.writeLog r

/-- Writes every record that waited (R526). -/
def State.flushAll (s : State) : State := (List.range 64).foldl (fun s _ => s.flushLog) s

/-- The length of a majority filter: N, of which 0 acts as 1 (R149). -/
def filtLen (n : Nat) : Nat := max 1 n
/-- The samples out of window that it takes to assert: M, of which 0 acts as 1 and more than the effective N as that N (R149). -/
def filtNeed (n m : Nat) : Nat := min (max 1 m) (filtLen n)

/-- A repair's record (Tables 18.4 and 18.7): the repaired object, the action and, for DRAM, the row. -/
def State.logRepair (s : State) (src det action row : Nat) : State :=
  s.logFault 5 src 0 det 0 (toLe 2 det ++ [BitVec.ofNat 8 action, 0] ++ toLe 8 row)

/-- The better of two first-fault candidates: higher severity, then lower source (R516). -/
def Cand.better (a b : Cand) : Cand :=
  if a.sev > b.sev then a else if b.sev > a.sev then b else if a.src ≤ b.src then a else b

/-- The arg field of a first fault or an escalation (Table 18.7): the row of a DRAM fault. -/
def rowArg (det row : Nat) : List Byte := if det / 4096 = 6 then toLe 8 row else []

/-- Closes the first-fault window: captures the highest candidate and counts the others (R516). -/
def State.closeWindow (s : State) : State :=
  match s.fc.winAt, s.fc.cands with
  | some t, c :: cs =>
    let b := cs.foldl Cand.better c
    -- the stamp is accurate to ±2 ns
    let (d, s) := s.draw 16385
    let t := t + d - 8192
    let s := s.setBit F.FC_FIRST_valid 0 0 true
    let s := s.setBit F.FC_FIRST_inj 0 0 b.inj
    let s := s.setBit F.FC_FIRST_inj_masked 0 0 b.masked
    let s := s.setFld F.FC_FIRST_sev 0 0 b.sev
    let s := s.setFld F.FC_FIRST_src 0 0 b.src
    let s := s.setFld F.FC_FIRST_DET_detail 0 0 b.detail
    let s := s.overflow cs.length
    let s := { s with fc := { s.fc with winAt := none, cands := [], firstAt := t } }
    s.logAt s.logOut t 0 b.src b.sev b.detail (b.inj.toNat + 2 * b.masked.toNat) (rowArg b.detail b.row)
  | _, _ => { s with fc := { s.fc with winAt := none, cands := [] } }

/-- Adds a candidate to the open window; a real and an injected report of one source count as one real candidate (R525). -/
def State.addCand (s : State) (c : Cand) : State :=
  match s.fc.cands.find? (fun x => x.src == c.src && x.inj != c.inj) with
  | some x =>
    let real := if c.inj then x else c
    let s := (s.setBit F.FC_SRC_inj_masked 0 c.src true).setFld F.FC_SRC_detail 0 c.src real.detail
    { s with fc := { s.fc with cands := s.fc.cands.map (fun y => if y == x then { real with masked := true } else y) } }
  | none => { s with fc := { s.fc with cands := s.fc.cands ++ [c] } }

/-- Whether a first-fault window that is open still has passed its 2.6 ns (R516). -/
def State.firstOver (s : State) : Bool := s.fc.winAt.isSome && decide (10649 < s.tb.loc - s.fc.winLoc)
/-- Closes a first-fault window that has passed its 2.6 ns. -/
def State.firstDue (s : State) : State := if s.firstOver then s.closeWindow else s

/-- The first-fault capture's part of a report that arrives `dt` ticks after the present instant (R516, R517). -/
def State.firstFault (s : State) (c : Cand) (dt : Nat) : State :=
  let t := s.tb.loc + dt
  -- a window left open past 2.6 ns has closed by itself
  let s := if s.fc.winAt.isSome && t - s.fc.winLoc > 10649 then s.closeWindow else s
  if s.bit F.FC_FIRST_valid then s.overflow 1
  else if s.fc.firstRearm.1 < t ∧ t < s.fc.firstRearm.2 then s.overflow 1
  else
    match s.fc.winAt with
    | none =>
      { s with fc := { s.fc with winAt := some (s.now + dt), winLoc := t, cands := [c] } }
    | some _ =>
      if t - s.fc.winLoc ≤ 8192 then s.addCand c
      else
        -- from 2.0 ns to 2.6 ns candidacy is unspecified: a free choice
        let (b, s) := s.draw 2
        if b = 1 then s.addCand c else s.closeWindow.overflow 1

/-- The escalation time in force, in ticks (R519). -/
def State.escTime (s : State) : Nat := us (clampNat 100 1000000 (s.fld F.FC_ESC_esc_us))

/-- The escalation queue's part of a report (R519). -/
def State.openEsc (s : State) (src sev det : Nat) (inj : Bool) (dt row : Nat) : State :=
  if sev = 0 then s
  else if s.fc.esc.any (fun e => e.src == src && e.sev == sev && (sev == 3 || e.detail == det)) then s
  else if s.fc.esc.length ≥ 64 then s.setBit F.FC_SRC_esc_lost 0 src true
  else { s with fc := { s.fc with esc := s.fc.esc ++ [⟨src, sev, det, inj, s.tb.loc + dt + s.escTime, row⟩] } }

/-- A report reaches the collector `dt` ticks after the present instant (R515 to R517, R519): the one way a fault is raised. -/
def State.reportAt (s : State) (src sev det : Nat) (inj esc : Bool) (dt : Nat) (row : Nat := 0) : State :=
  if src ≥ 63 then s                                         -- source 63 never reports (R513)
  else if (Tbl.get s.fc.rearm (0, 0) src).1 < s.tb.loc + dt ∧ s.tb.loc + dt < (Tbl.get s.fc.rearm (0, 0) src).2 then s -- lost (R517)
  else
    let s := if src < 32 then s.setBitIn F.FC_STATUS_LO_status 0 0 src
             else s.setBitIn F.FC_STATUS_HI_status 0 0 (src - 32)
    let s := s.setFld F.FC_SRC_sev_max 0 src (max sev (s.fld F.FC_SRC_sev_max 0 src))
    let s := s.setFld F.FC_SRC_repeat 0 src (satInc 8 (s.fld F.FC_SRC_repeat 0 src))
    let s := s.setFld F.FC_SRC_detail 0 src det
    let s := if inj then s.setBit F.FC_SRC_inj 0 src true else s
    let s := s.firstFault ⟨src, sev, det, inj, false, row⟩ dt
    if esc then s.openEsc src sev det inj dt row else s

/-- A block reports a fault now. -/
def State.report (s : State) (src sev det : Nat) : State := s.reportAt src sev det false true 0

/-- Whether a source reports at this very instant. -/
def State.srcNow (s : State) (src : Nat) : Bool :=
  if src < 32 then s.heldBit F.FC_STATUS_LO_status 0 0 src else s.heldBit F.FC_STATUS_HI_status 0 0 (src - 32)

/-- Clears the FC_STATUS bits of a mask, with all R517 clears beside them; a bit set at this very instant stays (R509). Each latch re-arms
within 40 ns. -/
def State.clearSources (s : State) (m : Nat) : State :=
  let srcs := (bitsOf 64 m).filter (fun k => s.faultMask.testBit k && !s.srcNow k)
  let s := s.setPair F.FC_STATUS_LO_status F.FC_STATUS_HI_status 0 0 (clrMask s.faultMask (maskOf srcs))
  let s := srcs.foldl (fun s k =>
    let s := s.setFld F.FC_SRC_sev_max 0 k 0
    let s := s.setFld F.FC_SRC_repeat 0 k 0
    let s := s.setBit F.FC_SRC_esc_done 0 k false
    let s := s.setBit F.FC_SRC_esc_lost 0 k false
    let s := s.setBit F.FC_SRC_inj 0 k false
    s.setBit F.FC_SRC_inj_masked 0 k false) s
  let (d, s) := s.draw 163841
  { s with fc := { s.fc with
      esc := s.fc.esc.filter (fun e => !(srcs.contains e.src))
      rearm := srcs.foldl (fun t k => Tbl.set t (0, 0) k (s.tb.loc, s.tb.loc + d)) s.fc.rearm } }

end Sys2Proof.Machine
end

