-- ==== Sys2Proof/Machine/Entries.lean ====
section
/-! DEFINITION. The dictionary entry behind each command that the host writes, and the BIST target whose block an entry or a register
belongs to (Tables 17.1, 17.3 and 18.5). -/

namespace Sys2Proof.Machine

/-- Whether a BIST target takes part in an exclusive run in progress (R529, R532): kind 0 covers every target of Table 18.5. -/
def State.bistExcl (s : State) (t : Nat) : Bool :=
  match s.bist.run with
  | some r => r.kind == 0 || (r.kind == 1 && r.target == t)
  | none => false

/-- The local instant by which an abandoned check has restored its channel: within 1 µs, where in it is open (R28; log entry 35). -/
def State.restoreBy (s : State) : Nat × State :=
  let (d, s) := s.draw (us 1 + 1)
  (s.tb.loc + d, s)

/-- A restore still under way. -/
def State.stillRestoring (s : State) (r : Nat) : Option Nat := if s.tb.loc < r then some r else none

/-- A request for a block abandons the BIST slice it is in: when the block will have been restored (R531). -/
def State.abandonSlice (s : State) (target : Nat) : State × Option Nat :=
  match s.bist.run with
  | some x =>
    if x.slice && x.target == target then
      let (r, s) := s.restoreBy
      let s := { s with bist := { s.bist with run := some { x with slice := false, restore := r } } }
      (s.setFld F.BST_STATUS_abandons 0 0 (satInc 16 (s.fld F.BST_STATUS_abandons)), some r)
    else (s, if x.target = target then s.stillRestoring x.restore else none)
  | none => (s, none)

/-- A request for a block, if it is a BIST target's, comes (R531). -/
def State.bistRequest (s : State) (t : Option Nat) : State :=
  match t with
  | some t => (s.abandonSlice t).1
  | none => s

/-- Index and sub-index of the entry that a host-write command writes. -/
def instrEntry : Instr → Option (Nat × Nat)
  | .acqUnitEnable _ u _ => some (0x7100 + u, 1)
  | .acqUnitConfigWrite _ _ u fn => some (0x7100 + u, fn)
  | .acqReadIndexWrite _ u _ => some (0x7100 + u, 2)
  | .softwareEvent _ _ n => some (0x7400 + n, 8)
  | .armNow _ _ => some (0x7008, 0)
  | .disarmAll _ => some (0x7002, 0)
  | .captureLogAcknowledge _ _ => some (0x7005, 0)
  | .failBufferReadIndex _ _ c => some (0x5607 + 16 * c, 0)
  | .tallyClear _ c t => some (0x560A + 16 * c, t)
  | .apgEnableWrite _ c _ => some (0x560B + 16 * c, 0)
  | .contextWrite _ _ => some (0x6000, 0)
  | .hardPpr _ _ n => some (0x9052, n)
  | .flnCounterClear _ _ n => some (0x780A, n)
  | .eyeScanStart _ n => some (0x780D, n)
  | .flnRestore _ _ n => some (0x7811, n)
  | .jumpRequest _ c => some (0x5106 + 8 * c, 0)
  | .descriptorWrite _ _ c => some (0x5100 + 8 * c, 0)
  | .tripLatchClear _ c p _ => some (0x3012 + 32 * c, p)
  | .strobeNow _ _ c => some (0x301F + 32 * c, 0)
  | .envelopeWrite _ _ c n current => some ((if current then 0x3011 else 0x3010) + 32 * c, n)
  | .pinRepair _ _ c => some (0x3016 + 32 * c, 32)
  | .spareRelease _ c => some (0x3016 + 32 * c, 32)
  | .deratedRestore _ _ c p => some (0x3019 + 32 * c, p)
  | .ringAcknowledge _ _ => some (0x6F02, 0)
  | .statClear _ site => some (0x6400 + site, 7)
  | .threadStart _ k => some (0x5803 + 16 * (k / 8), k % 8)
  | .threadStop _ k => some (0x5804 + 16 * (k / 8), k % 8)
  | .ownerHold _ k => some (0x5805 + 16 * (k / 8), k % 8)
  | .ownerResume _ k => some (0x5806 + 16 * (k / 8), k % 8)
  | .setEventFlags _ k _ => some (0x5808 + 16 * (k / 8), k % 8)
  | .courseRestart _ c => some (0x580C + 16 * c, 0)
  | .stepMemoryWrite _ _ c => some (0x5800 + 16 * c, 0)
  | .threadConfigWrite _ _ k => some (0x5801 + 16 * (k / 8), k % 8)
  | .slotGridWrite _ _ k => some (0x5802 + 16 * (k / 8), k % 8)
  | .waitLimitWrite _ _ c => some (0x5809 + 16 * c, 0)
  | .serAppend _ _ c => some (0x7C05 + 16 * c, 0)
  | .serRxRemove _ _ c => some (0x7C07 + 16 * c, 0)
  | .serStartNow _ _ c => some (0x7C08 + 16 * c, 0)
  | .serAbort _ _ c => some (0x7C09 + 16 * c, 0)
  | .smuTripLatchClear _ m _ => some (0x400B, m)
  | .smuRepair _ _ q => some (0x4400, q)
  | .smuRestore _ _ m => some (0x4011, m)
  | .smuForceNow _ _ q => some (0x4403, q)
  | .smuEnvelopeWrite _ _ m current => some (if current then 0x400A else 0x4009, m)
  | .kReset _ => some (0x2209, 0)
  | .budgetWrite _ _ => some (0x2200, 0)
  | .analogReserveWrite _ _ => some (0x2201, 0)
  | .calRestart _ => some (0x200A, 0)
  | .timekeeperSelectionWrite _ _ => some (0x2003, 0)
  | .timingSetWrite _ _ c ss edges => some ((if edges then 0x5401 else 0x5400) + 16 * c, ss)
  | .fixtureDeskewWrite _ _ c pp => some (0x5402 + 16 * c, pp)
  | .applyNow _ c => some (0x5406 + 16 * c, 0)
  | .wavFlagClear _ w => some (0x480C, w)
  | .wavReservationWrite _ _ => some (0x4880, 0)
  | .wavRestore _ _ w => some (0x480F, w)
  | .wavEnvelopeWrite _ _ w => some (0x480B, w)
  | _ => none

/-- The BIST target that holds a dictionary entry's block (Tables 17.1 and 18.5). -/
def odTarget (idx sub : Nat) : Option Nat :=
  if idx = 0x2003 ∨ idx = 0x2005 ∨ idx = 0x200A then some 39
  else if 0x2200 ≤ idx ∧ idx < 0x2300 then some 41
  else if 0x3000 ≤ idx ∧ idx < 0x3400 then some ((idx - 0x3000) / 32)
  else if 0x4000 ≤ idx ∧ idx < 0x4400 then some (44 + (if sub < 128 then sub / 32 else sub - 128))
  else if 0x4400 ≤ idx ∧ idx < 0x4404 then some (44 + sub)
  else if 0x4800 ≤ idx ∧ idx < 0x4880 then some (48 + sub / 32)
  else if 0x5100 ≤ idx ∧ idx < 0x5200 then some ((idx - 0x5100) / 8)
  else if 0x5400 ≤ idx ∧ idx < 0x5600 then some ((idx - 0x5400) / 16)
  else if 0x5600 ≤ idx ∧ idx < 0x5800 then some ((idx - 0x5600) / 16)
  else if 0x5800 ≤ idx ∧ idx < 0x5A00 then some ((idx - 0x5800) / 16)
  else if 0x6000 ≤ idx ∧ idx < 0x6400 then some 59
  else if 0x6400 ≤ idx ∧ idx < 0x7000 then some 58
  else if 0x7000 ≤ idx ∧ idx < 0x7800 then some 57
  else if 0x7800 ≤ idx ∧ idx < 0x7C00 then some 50
  else if 0x7C00 ≤ idx ∧ idx < 0x7E00 then some ((idx - 0x7C00) / 16)
  else if 0x9050 ≤ idx ∧ idx < 0x9053 then some (32 + sub)
  else none

/-- The BIST target that holds a register block's instance (Tables 17.3 and 18.5). -/
def regTarget (blk i : Nat) : Option Nat :=
  match blk with
  | 0x02 => some 39 | 0x03 => some 41
  | 0x05 => some i | 0x06 => some i | 0x07 => some i | 0x09 => some i | 0x0A => some i | 0x12 => some i
  | 0x08 => if i < 32 then some i else none
  | 0x0B => some 59 | 0x0C => some 58
  | 0x0D => some (44 + i) | 0x0E => some (48 + i)
  | 0x0F => some 57 | 0x10 => some 57 | 0x11 => some 50
  | _ => none

/-- Whether an exclusive BIST run has the block of an entry. -/
def State.entryBusy (s : State) (e : Option (Nat × Nat)) : Bool :=
  match e with
  | some (idx, sub) => (match odTarget idx sub with | some t => s.bistExcl t | none => false)
  | none => false

end Sys2Proof.Machine
end

