-- ==== Sys2Proof/Machine/Marks.lean ====
section
/-! DEFINITION. Threads, sites and the marks of steps (R264, R265, R319, R328): shared by every block that touches a step. -/

namespace Sys2Proof.Machine

/-- The thread 8c + t. -/
def State.thr (s : State) (k : Nat) : Thread := Tbl.get s.seq.th {} k
/-- Gives the thread 8c + t a value. -/
def State.setThr (s : State) (k : Nat) (x : Thread) : State :=
  { s with seq := { s.seq with th := Tbl.set s.seq.th {} k x } }
/-- Changes the thread 8c + t. -/
def State.modThr (s : State) (k : Nat) (f : Thread → Thread) : State := s.setThr k (f (s.thr k))
/-- Changes the current step of a thread, if it has one. -/
def State.modStep (s : State) (k : Nat) (f : Step → Step) : State :=
  s.modThr k (fun x => { x with step := x.step.map f })

/-- A thread's site number (R264). -/
def State.siteOf (s : State) (k : Nat) : Nat := s.fld F.SEQ_TCFG_site (k / 8) (k % 8)
/-- Whether a thread is its site's home thread. -/
def State.isHome (s : State) (k : Nat) : Bool := s.bit F.SEQ_TCFG_home (k / 8) (k % 8)
/-- Thread states of SEQ_TSTAT.state. -/
def stStopped : Nat := 0
def stRunning : Nat := 1
def stWaiting : Nat := 2
def stHeld : Nat := 3
def stEnded : Nat := 4
def stTimedOut : Nat := 5
def stMachineCheck : Nat := 6

/-- A thread's state code. -/
def State.tstate (s : State) (k : Nat) : Nat := s.fld F.SEQ_TSTAT_state (k / 8) (k % 8)
/-- A thread's step PC. -/
def State.spc (s : State) (k : Nat) : Nat := s.fld F.SEQ_TSTAT_step_pc (k / 8) (k % 8)
/-- Sets a thread's step PC. -/
def State.setSpc (s : State) (k v : Nat) : State := s.setFld F.SEQ_TSTAT_step_pc (k / 8) (k % 8) v

/-- A site has reached its step boundary: bonds being dissolved take note (R86). -/
def State.passBonds (s : State) (site : Nat) : State :=
  { s with bonds := s.bonds.map (fun (e : Nat × BondSlot) =>
      (e.1, if e.2.dissolving && e.2.sites.contains site && !e.2.passed.contains site then { e.2 with passed := e.2.passed ++ [site] } else e.2)) }

/-- Sets a thread's state code, and with it the Course's run and held masks; a home thread that comes to rest is at its site's boundary. -/
def State.setTstate (s : State) (k v : Nat) : State :=
  let c := k / 8
  let t := k % 8
  let s := s.setFld F.SEQ_TSTAT_state c t v
  let run := v == stRunning || v == stWaiting || v == stHeld
  let s := if run || !s.isHome k then s else s.passBonds (s.siteOf k)
  let s := if v == stRunning || v == stWaiting then s else s.modThr k (fun x => { x with restAt := s.tb.loc })
  let s := if run then s.setBitIn F.SEQ_STATUS_run_mask c 0 t else s.clrBitIn F.SEQ_STATUS_run_mask c 0 t
  let s := if run then s.setBitIn F.SEQ_TCTRL_run c 0 t else s.clrBitIn F.SEQ_TCTRL_run c 0 t
  if v == stHeld then s.setBitIn F.SEQ_STATUS_held_mask c 0 t else s.clrBitIn F.SEQ_STATUS_held_mask c 0 t

/-- Whether a thread runs its program (SEQ_TCTRL.run). -/
def State.running (s : State) (k : Nat) : Bool := s.bitOf F.SEQ_TCTRL_run (k / 8) 0 (k % 8)

/-- The home thread of a site (R264): the site's own number first, as SEQ_TCFG resets. -/
def State.homeOf (s : State) (site : Nat) : Option Nat :=
  let p := fun k => s.isHome k && s.siteOf k == site
  if p site && site < 256 then some site else (List.range 256).find? p

/-- The home Course of a site (R264). -/
def State.homeCourse (s : State) (site : Nat) : Option Nat := (s.homeOf site).map (· / 8)

/-- The home thread of a thread's site. -/
def State.homeThr (s : State) (k : Nat) : Nat := (s.homeOf (s.siteOf k)).getD k

/-- The threads of a site, on every Course it spans. -/
def State.threadsOf (s : State) (site : Nat) : List Nat := (List.range 256).filter (fun k => s.siteOf k == site)

/-- A Reckoner item of a site (R319). -/
def State.item (s : State) (site i : Nat) : Nat := Tbl.get s.rk.items 0 (8192 * site + i)
/-- Writes a Reckoner item of a site. -/
def State.setItem (s : State) (site i v : Nat) : State :=
  { s with rk := { s.rk with items := Tbl.set s.rk.items 0 (8192 * site + i) (v % 18446744073709551616) } }

/-- Marks of Table 10.8. -/
def mkInvalid : Nat := 0x001
def mkStarved : Nat := 0x002
def mkLate : Nat := 0x004
def mkSplit : Nat := 0x008
def mkAborted : Nat := 0x010
def mkDerated : Nat := 0x020
def mkClamp : Nat := 0x040
def mkTrip : Nat := 0x080
def mkOutLimit : Nat := 0x100
def mkTally : Nat := 0x200
def mkPartition : Nat := 0x400
def mkChainSlip : Nat := 0x800

/-- Marks with INVALID beside any invalidating one (Table 10.8). -/
def withInvalid (m : Nat) : Nat := if m &&& 0x3E == 0 then m else m ||| mkInvalid

/-- Sets marks of a site's current step: items 0x000 and 0x001, or 0x001 alone where there is no current step (R328). -/
def State.markSite (s : State) (site m : Nat) : State :=
  let m := withInvalid m
  let s := s.setItem site 1 (s.item site 1 ||| m)
  match s.homeOf site with
  | none => s
  | some k =>
    match (s.thr k).step with
    | none => s
    | some _ =>
      let s := s.setItem site 0 (s.item site 0 ||| m)
      s.modStep k (fun st => { st with marks := st.marks ||| m, late := st.late || m.testBit 2 })

/-- The end of a step's interval, none where it is open-ended. -/
def Step.end? (st : Step) : Option Nat := st.d.map (fun d => st.t0 + d)

/-- The end of a thread's steps: none is committed, and the current one has ended. -/
def State.stepsOver (s : State) (k : Nat) : Bool :=
  let x := s.thr k
  x.nxt.all (fun b => b.st != .committed) &&
    (match x.step with
      | some a => a.st != .launched || (match a.end? with | some e => decide (e ≤ s.now) | none => false)
      | none => true)

/-- Whether a site holds: each of its threads stands still, and the last of its committed steps is over. -/
def State.siteStill (s : State) (site : Nat) : Bool :=
  (s.threadsOf site).all (fun t => s.tstate t != stRunning && s.tstate t != stWaiting && s.stepsOver t)

/-- The local instant of that hold, `from_` at the earliest: when the last thread came to rest or the last step ended. -/
def State.stillSince (s : State) (site from_ : Nat) : Nat :=
  (s.threadsOf site).foldl (fun m t =>
    max m (max (s.thr t).restAt (match (s.thr t).step.bind Step.end? with | some e => s.locAt e | none => 0))) from_

/-- Sets marks of the current step of every site that has one. -/
def State.markAll (s : State) (m : Nat) : State :=
  s.seq.th.foldl (fun s e => if e.2.step.isSome && s.isHome e.1 then s.markSite (s.siteOf e.1) m else s) s

/-- The current step of a thread (R290): the most recent that requested admission. -/
def Thread.cur (x : Thread) : Option Step := x.nxt.getLast?.orElse (fun _ => x.step)

/-- Whether a thread keeps a step of T0 `t0`: not yet launched, launched, or ended with results to come. -/
def Thread.holdsStep (x : Thread) (t0 : Nat) : Bool := (x.nxt ++ x.step.toList ++ x.olds).any (fun a => a.t0 == t0)

/-- Marks a thread's step of T0 `t0`: before its launch on the step, on the launched one as R328 says, on an earlier one in item 0x001. -/
def State.markAt (s : State) (k t0 m : Nat) : State :=
  let m := withInvalid m
  let f (a : Step) : Step := if a.t0 = t0 then { a with marks := a.marks ||| m, late := a.late || m.testBit 2 } else a
  let x := s.thr k
  let s := s.setThr k { x with nxt := x.nxt.map f, olds := x.olds.map f }
  let site := s.siteOf k
  if x.step.any (fun a => a.t0 == t0) then s.markSite site m
  else if x.olds.any (fun a => a.t0 == t0) then s.setItem site 1 (s.item site 1 ||| m)
  else s

/-- Marks a thread's current step (R290): the latest it asked for, or the one launched last. -/
def State.markCur (s : State) (k m : Nat) : State :=
  match (s.thr k).nxt.getLast? with
  | some a => s.markAt k a.t0 m
  | none => s.markSite (s.siteOf k) m

/-- Marks the current step of a thread whose uncommitted requests are about to be dropped: the mark of one that will never launch stays in item
0x001. -/
def State.markDropped (s : State) (k m : Nat) : State :=
  match (s.thr k).nxt.getLast? with
  | some a => if a.st == .committed then s.markCur k m else let site := s.siteOf k; s.setItem site 1 (s.item site 1 ||| withInvalid m)
  | none => s.markCur k m

/-- The thread that owns a pin of a Course (R318). -/
def State.pinOwner (s : State) (c p : Nat) : Option Nat :=
  let w := s.fld F.RCK_OWNER_own c (p / 8)
  let nib := bitsAt w (4 * (p % 8) + 3) (4 * (p % 8))
  if nib ≥ 8 then some (8 * c + nib % 8) else none

/-- The pins of a Course a thread owns. -/
def State.pinsOwned (s : State) (k : Nat) : List Nat :=
  (List.range 32).filter (fun p => s.pinOwner (k / 8) p == some k)

/-- Sets marks for the site that owns a pin. -/
def State.markPin (s : State) (c p m : Nat) : State :=
  match s.pinOwner c p with
  | some k => s.markSite (s.siteOf k) m
  | none => s

/-- Whether a site owns a derated pin channel (R171). -/
def State.deratedSite (s : State) (site : Nat) : Bool :=
  (s.threadsOf site).any (fun k => (s.pinsOwned k).any (fun p => s.bit F.PCH_CH_STATE_derated (k / 8) p))

/-! ### Bond slots -/

/-- Bond slot n. -/
def State.bond (s : State) (n : Nat) : BondSlot := Tbl.get s.bonds {} n
/-- Gives bond slot n a value. -/
def State.setBond (s : State) (n : Nat) (b : BondSlot) : State := { s with bonds := Tbl.set s.bonds {} n b }
/-- Changes bond slot n. -/
def State.modBond (s : State) (n : Nat) (f : BondSlot → BondSlot) : State := s.setBond n (f (s.bond n))

/-- Adds a line to slot n's partition log (R81), once. -/
def State.partLog (s : State) (n kind inst : Nat) : State :=
  s.modBond n (fun b =>
    let e : PartLog := ⟨kind, b.id, inst⟩
    if b.log.contains e then b else { b with log := b.log ++ [e] })

/-- A bonded step launched with the PARTITION mark goes to its slot's log (R81, R82). -/
def State.logPartition (s : State) (b : Step) : State :=
  match b.bslot with
  | some n => if b.marks.testBit 10 then s.partLog n 1 b.t0 else s
  | none => s

/-! ### Launches -/

/-- Releases what is left of a thread's step that ended at `t` (R92): every bin that starts at or after the end. -/
def State.ledgerEnd (s : State) (k t0 t : Nat) : State :=
  { s with tally := { s.tally with entries := s.tally.entries.map (fun e =>
      if e.thread = k ∧ e.t0 = t0 then
        { e with t1 := some (match e.t1 with | some x => min x t | none => t) }
      else e) } }

/-- Releases what is left of every step of a thread at `t`; those that would begin later leave the ledger (R92, R118, R138). -/
def State.ledgerCut (s : State) (k t : Nat) : State :=
  { s with tally := { s.tally with entries := (s.tally.entries.filter (fun e => !(e.thread == k && decide (t ≤ e.t0)))).map (fun e =>
      if e.thread = k then { e with t1 := some (match e.t1 with | some x => min x t | none => t) } else e) } }

/-- An open-ended step ends at `t`: its interval is known from then on, and its cost goes with it (R88, R92). -/
def State.closeStep (s : State) (k : Nat) (a : Step) (t : Nat) : Step × State :=
  if a.d.isNone then ({ a with d := some (t - a.t0) }, s.ledgerEnd k a.t0 t) else (a, s)

/-- Launches a committed step whose T0 has come: it becomes the site's current step, and items 0x000, 0x008 and 0x00B restart (R328). The
step before it has ended, an open-ended one at this launch; while its results are not complete it is kept beside (R321). An open-ended step of
a thread that has come to rest meets no later boundary of it and ends as it launches (R88; log entry 48). -/
def State.launchStep (s : State) (k : Nat) (b : Step) (rest : List Step) : State :=
  let site := s.siteOf k
  let (old, s) := match (s.thr k).step with
    | some a => if a.st == StepSt.launched then (let (a, s) := s.closeStep k a b.t0; (some a, s)) else (some a, s)
    | none => (none, s)
  let (b, s) := if s.running k && !(s.thr k).parked then (b, s) else s.closeStep k b b.t0
  let x := s.thr k
  let olds := match old with
    | some a => if a.complete then x.olds else x.olds ++ [{ a with st := .ended, failN := s.item site 8 }]
    | none => x.olds
  let s := (s.setThr k { x with step := some { b with st := .launched }, nxt := rest, olds }).logPartition b
  if s.isHome k then
    let s := (((s.setItem site 0 0).setItem site 8 0).setItem site 0x00B 0).setItem site 3 (s.item site 3 + 1)
    let s := if b.marks = 0 then s else (s.setItem site 0 b.marks).setItem site 1 (s.item site 1 ||| b.marks)
    if s.deratedSite site then s.markSite site mkDerated else s
  else s

/-- Launches every committed step of a thread whose T0 has come, oldest first. -/
def State.launchThread (k : Nat) : Nat → State → State
  | 0, s => s
  | n + 1, s =>
    match (s.thr k).nxt with
    | b :: rest => if b.st == .committed && decide (b.t0 ≤ s.now) then State.launchThread k n (s.launchStep k b rest) else s
    | [] => s

/-- Launches every committed step whose T0 has come. -/
def State.launchDue (s : State) : State :=
  s.seq.th.foldl (fun s (e : Nat × Thread) => s.launchThread e.1 e.2.nxt.length) s

/-- Adds a hold source to a thread (R294); the thread holds at its next boundary. -/
def State.addHold (s : State) (k : Nat) (h : HoldSrc) : State :=
  s.modThr k (fun x => if x.holds.contains h then x else { x with holds := x.holds ++ [h] })

/-- Releases a hold source; a thread all of whose sources have released runs on from its boundary (R294). -/
def State.dropHold (s : State) (k : Nat) (h : HoldSrc) : State :=
  let s := s.modThr k (fun x => { x with holds := x.holds.filter (fun y => y != h) })
  if s.tstate k == stHeld && (s.thr k).holds.isEmpty && !(s.thr k).parked then s.setTstate k stRunning else s

/-- Object codes by which a MEAS gives out result slots (R320); their order is that of R326. -/
def objPmu (c p : Nat) : Nat := 0x1000 + 32 * c + p
/-- An SMU's object code. -/
def objSmu (n : Nat) : Nat := 0x2000 + n
/-- A waveform channel's object code. -/
def objWav (n : Nat) : Nat := 0x3000 + n
/-- A fast lane's object code. -/
def objFln (n : Nat) : Nat := 0x4000 + n

/-- The result slot a site's MEAS has given an object. -/
def State.slotFor (s : State) (site obj : Nat) : Option Nat :=
  match Tbl.find s.rk.slotOf (65536 * site + obj) with
  | some k => some (k - 1)
  | none => none

/-- A measurement has started for a site: its result is outstanding for the current step (R321). -/
def State.expectResult (s : State) (site obj : Nat) : State :=
  match s.homeOf site with
  | none => s
  | some k => s.modStep k (fun st => { st with waiting := if st.waiting.contains obj then st.waiting else st.waiting ++ [obj] })

/-- Puts a result on its way to a site's Reckoner share. -/
def State.postArrival (s : State) (a : Arrival) : State :=
  { s with rk := { s.rk with inbox := s.rk.inbox ++ [a] } }

/-- The accepted mode changes whose instants are set, as instants and modes. -/
def State.changesAhead (s : State) : List (Nat × Mode) :=
  s.md.pend.filterMap (fun p => p.t.map (fun t => (t, p.target)))

/-- The mode that will be in force at an instant. -/
def State.modeAt (s : State) (t : Nat) : Mode :=
  s.changesAhead.foldl (fun m e => if e.1 ≤ t then e.2 else m) s.md.mode

/-- The quiet bit of the PIN context that a channel's PMU settings came from, held as a field of its own beside the PCH_ registers: set where none
has cleared it (R134). -/
def fldQuiet : Fld := ⟨0x06, 0xF4, 0, 1, .rw, .k 1⟩

/-- Whether a load strobe that waits with meas set will measure channel `n` quietly, within 10 µs from now (R134, R159). -/
def State.strobeQuiet (s : State) (c n payload exec : Nat) : Bool :=
  let pmu := payload.testBit 11
  let f (x : Fld) : Nat := if pmu then s.fld x c n else s.actFld x c n
  payload.testBit 9 && payload.testBit (if n < 32 then 14 + n else 46) && s.fld fldQuiet c n == 1 && decide (f F.PCH_PMU_CFG_range ≤ 1) &&
    (if pmu then s.fld F.PCH_PMU_CFG_connect c n == 1 else s.bit F.PCH_CH_STATE_pmu_conn c n) &&
    decide (exec + us (f F.PCH_PMU_APER_delay_us) ≤ s.now + us 10)

/-- Whether a record that waits in a launch queue starts a quiet measurement within 10 µs from now: an SMU aperture, a digitizer capture, or a pin's
measurement on the two lowest ranges. -/
def State.recQuiet (s : State) (q : Nat) (r : LaunchRec) : Bool :=
  decide (r.exec ≤ s.now + us 10) && s.modeAt r.exec == .precision &&
    (if q < 32 then r.action == 0x01 && (List.range 33).any (fun n => s.strobeQuiet q n r.payload r.exec)
     else if q < 36 then r.action == 0x11 && r.payload.testBit 38
     else decide (q < 38) && r.action == 0x20 && r.payload.testBit 45 && r.payload.testBit 34)

/-- Whether a quiet aperture is in progress: one runs from 10 µs before its measurement's start (R134). -/
def State.inQuiet (s : State) : Bool :=
  s.md.quiet.any (fun q => decide (q.1 ≤ s.tb.loc) && decide (s.tb.loc < q.2)) ||
    s.lq.any (fun (e : Nat × List LaunchRec) => e.2.any (fun r => s.recQuiet e.1 r))

/-- Adds a quiet aperture, in local ticks; those that overlap or touch merge into one, and the count and total time follow (R134, R136). -/
def State.addQuiet (s : State) (a b : Nat) : State :=
  let meet := s.md.quiet.filter (fun q => decide (q.1 ≤ b) && decide (a ≤ q.2))
  let rest := s.md.quiet.filter (fun q => !(decide (q.1 ≤ b) && decide (a ≤ q.2)))
  let lo := meet.foldl (fun m q => min m q.1) a
  let hi := meet.foldl (fun m q => max m q.2) b
  let old := meet.foldl (fun n q => n + (q.2 - q.1)) 0
  { s with md := { s.md with
      quiet := rest ++ [(lo, hi)]
      quietCount := s.md.quietCount + 1 - meet.length
      quietTotal := s.md.quietTotal + (hi - lo) - old } }

/-- Mode codes of Table 4.1. -/
def Mode.code : Mode → Nat
  | .safe => 0 | .survey => 1 | .precision => 2 | .throughput => 3 | .lineRate => 4 | .stress => 5

/-- Whether the chip is in Safe; in Thermal Halt the mode reads Safe too (R139). -/
def State.inSafe (s : State) : Bool := s.md.mode == .safe

/-- A host error confined to a thread's site (R2, R3): from here on the thread reads an open program. -/
def State.goWild (s : State) (k : Nat) : State :=
  let (v, s) := s.draw 18446744073709551616
  s.modThr k (fun x => { x with wild := some v, fetched := [] })

/-- The chip number (OD 0x2002.00), 0xFFFF_FFFF when unassigned (R87). -/
def State.chipNumber (s : State) : Nat :=
  match Tbl.find s.dict 0x200200 with
  | some b => beNat b
  | none => 0xFFFFFFFF

/-- Whether the chip number is unassigned. -/
def State.unassigned (s : State) : Bool := s.chipNumber == 0xFFFFFFFF
/-- The 18-bit chip field of frames and records (R87). -/
def State.chip18 (s : State) : Nat := if s.unassigned then 0x3FFFF else s.chipNumber % 262144

end Sys2Proof.Machine
end

