-- ==== Sys2Proof/Machine/Adp.lean ====
section
/-! DEFINITION. The ADP server's shared part: sessions, the replay cache, the checks of a request and of a written item, the
answers, and the journal of Stored values (R468 to R479, R490 to R494). -/

namespace Sys2Proof.Machine

/-! ### Error codes (Table 16.5) -/

def eOk : Nat := 0x0000
def eNoObject : Nat := 0x0001
def eNoSubindex : Nat := 0x0002
def eType : Nat := 0x0003
def eLength : Nat := 0x0004
def eReadOnly : Nat := 0x0005
def eNotOwner : Nat := 0x0006
def eNoSession : Nat := 0x0007
def eSessionFull : Nat := 0x0008
def eOwnerPresent : Nat := 0x0009
def eStaleSeq : Nat := 0x000A
def eMalformed : Nat := 0x000B
def eAccessDenied : Nat := 0x000C
def eBulkLimit : Nat := 0x000D
def eBulkAbandoned : Nat := 0x000E
def eBusyBist : Nat := 0x000F
def eBlockEnabled : Nat := 0x0010
def eCalendarFull : Nat := 0x0020
def eAutonomyShort : Nat := 0x0021
def eHorizonPassed : Nat := 0x0022
def eModeTransition : Nat := 0x0023
def eModePending : Nat := 0x0024
def eModeConflict : Nat := 0x0025
def eFaultActive : Nat := 0x0026
def eRepairRate : Nat := 0x0027
def eSpareBusy : Nat := 0x0028
def eSpareAssigned : Nat := 0x0029
def eSegmentShort : Nat := 0x002A
def eAddrRange : Nat := 0x002B
def eSegmentBusy : Nat := 0x002C
def eSignature : Nat := 0x0030

/-- Type codes (R471). -/
def tBool : Nat := 1
def tU8 : Nat := 2
def tU16 : Nat := 3
def tU32 : Nat := 4
def tU64 : Nat := 5
def tI32 : Nat := 6
def tI64 : Nat := 7
def tTime80 : Nat := 8
def tBlob : Nat := 9

/-- Bytes of a fixed-size type; BLOBs have their entry's own layout. -/
def tySize (ty : Nat) : Nat :=
  match ty with
  | 1 => 1 | 2 => 1 | 3 => 2 | 4 => 4 | 5 => 8 | 6 => 4 | 7 => 8 | 8 => 10 | _ => 0

/-- A written unsigned value. -/
def dNat (d : Sys2Proof.Data) : Nat := beNat d.bytes
/-- A written two's complement value (R491). -/
def dInt (d : Sys2Proof.Data) : Int := toSigned (8 * d.bytes.length) (beNat d.bytes)
/-- A written BOOL: any non-zero value stores 1 (R491). -/
def dFlag (d : Sys2Proof.Data) : Bool := decide (beNat d.bytes ≠ 0)
/-- A written TIME80 as ticks. -/
def dTime (d : Sys2Proof.Data) : Nat := timeTicks d.bytes
/-- Field of a BLOB whose fields are each MSB first (R471). -/
def dSub (d : Sys2Proof.Data) (off n : Nat) : Nat := beNat ((d.bytes.drop off).take n)

/-! ### Sessions -/

/-- The session with an ID. -/
def State.session (s : State) (id : Nat) : Option Session := s.adp.sessions.find? (fun x => x.id == id)
/-- The live Owner session. -/
def State.owner (s : State) : Option Session := s.adp.sessions.find? (fun x => x.owner)
/-- Whether a session is the Owner's. -/
def State.isOwner (s : State) (id : Nat) : Bool :=
  match s.session id with
  | some x => x.owner
  | none => false

/-- ADP_STATUS follows the sessions. -/
def State.showSessions (s : State) : State :=
  let s := s.setBit F.ADP_STATUS_owner_live 0 0 s.owner.isSome
  s.setFld F.ADP_STATUS_observers 0 0 (s.adp.sessions.filter (fun x => !x.owner)).length

/-- The lease period: a session lapses 1,500 ms after its latest valid request (R478). -/
def leaseTicks : Nat := ms 1500

/-- The port of a session's latest valid request, on which its telemetry and bulk frames go out (R468). -/
def State.portOf (s : State) (id : Nat) : Nat := match s.session id with | some x => x.port | none => 0

/-- Abandons a session's bulk transfers (R484): each ends BULK_ABANDONED. -/
def State.abandonTransfers (s : State) (p : Transfer → Bool) : State :=
  let gone := s.adp.transfers.filter p
  let s := { s with adp := { s.adp with transfers := s.adp.transfers.filter (fun t => !p t) } }
  let s := gone.foldl (fun s t => s.send (.bulkEnd (s.portOf t.session) t.session t.id t.next t.moved eBulkAbandoned)) s
  if gone.isEmpty then s else s.setBit F.ADP_STATUS_bulk_abandon 0 0 true

/-- Closes a session: its transfers end and its telemetry stops with it. -/
def State.closeSession (s : State) (id : Nat) : State :=
  let s := s.abandonTransfers (fun t => t.session == id)
  let s := { s with adp := { s.adp with sessions := s.adp.sessions.filter (fun x => x.id != id) } }
  s.showSessions

/-- The Owner lease lapses at local instant `at_` (R479). -/
def State.lapse (s : State) (at_ : Nat) : State :=
  match s.owner with
  | none => s
  | some o =>
    let s := s.closeSession o.id
    let s := { s with adp := { s.adp with lapses := s.adp.lapses + 1, lastLapse := s.tb.dom - (s.tb.loc - at_) } }
    let s := s.setBit F.ADP_STATUS_lapsed 0 0 true
    let s := s.report 53 sevAdvisory (detail clsNone 0)
    if s.bit F.ADP_STATUS_autonomous then s
    else
      let run := (List.range 256).filter (fun k => s.running k)
      let s := run.foldl (fun s k => s.addHold k .lapse) s
      s.setBit F.ADP_STATUS_lapse_hold 0 0 true

/-- Ends every session whose deadline lies before local instant `t` (R478). -/
def State.expireSessions (s : State) (t : Nat) : State :=
  let late := s.adp.sessions.filter (fun x => decide (x.renewed + leaseTicks < t))
  late.foldl (fun s x => if x.owner then s.lapse (x.renewed + leaseTicks) else s.closeSession x.id) s

/-- Changes one session. -/
def State.modSession (s : State) (id : Nat) (f : Session → Session) : State :=
  { s with adp := { s.adp with sessions := s.adp.sessions.map (fun x => if x.id = id then f x else x) } }

/-! ### Answers -/

/-- A response with no items of its own yet. -/
def State.response (s : State) (h : Hdr) (status items : Nat) (body : List (List Byte)) : Response :=
  { port := h.port, kind := s.ks.reqKind, session := h.session, seq := h.seq, status, items, body, late := s.ks.serving.isSome }

/-- Sends a response and keeps it in its session's replay cache (R474). -/
def State.sendResponse (s : State) (r : Response) : State :=
  let s := s.modSession r.session (fun x =>
    let c := x.cache ++ [(r.seq, r)]
    { x with cache := if c.length > 64 then c.drop (c.length - 64) else c })
  s.send (.response r)

/-- Answers a request. -/
def State.answer (s : State) (h : Hdr) (status items : Nat) (body : List (List Byte)) : State :=
  s.sendResponse (s.response h status items body)

/-- The ingress instant of the request being carried out (R469, R478). -/
def State.ingress (s : State) : Nat := s.ks.serving.getD s.tb.loc

/-- The message type of a request (Table 16.3): one that writes an item is a WRITE. -/
def reqKind (i : Instr) : Nat :=
  match i with
  | .adpOpen .. => 0x01 | .adpClose .. => 0x02 | .adpRenew .. => 0x03 | .adpRead .. => 0x10 | .adpTunnel .. => 0x18
  | .bulkOpen .. => 0x30 | .bulkCancel .. => 0x31
  | _ => 0x11

/-- The message type that answers carry while a request is carried out. -/
def State.asking (s : State) (n : Nat) : State := { s with ks := { s.ks with reqKind := n } }

/-- Requests reach the server at once, or wait in their port's 4 MiB buffer while the Keystone serves none (R469); those beyond it, and those
that arrive while no firmware runs, are discarded. -/
def State.gate (s : State) (i : Instr) (port bytes : Nat) (k : State → State) : State :=
  if !s.ks.running && !s.tr.recovery then s
  else if (s.ks.outage || s.tr.buffering) && s.ks.serving.isNone then
    let held := (s.ks.buffered.filter (fun b => b.port == port)).foldl (fun a b => a + b.bytes) 0
    if held + bytes ≤ 4194304 then
      { s with ks := { s.ks with buffered := s.ks.buffered ++ [⟨s.tb.loc, port, bytes, i⟩] } }
    else s
  else (k (s.asking (reqKind i))).asking s.ks.reqKind

/-- The part of a request that comes before its items: buffering in an outage (R469), the session (R476), the replay cache
and stale numbers (R474), and the lease (R478). `k` carries the request out. -/
def State.request (s : State) (i : Instr) (h : Hdr) (k : State → State) : State :=
  s.gate i h.port h.bytes (fun s =>
    let t := s.ingress
    let s := s.expireSessions t
    match s.session h.session with
    | none => s.send (.response (s.response h eNoSession 0 []))
    | some x =>
      match x.cache.find? (fun c => c.1 == h.seq) with
      | some c =>
        let s := s.modSession x.id (fun x => { x with renewed := max x.renewed t, port := h.port })
        let s := s.setBit F.ADP_STATUS_replay 0 0 true
        s.send (.response { c.2 with port := h.port, replay := true, late := c.2.late || s.ks.serving.isSome })
      | none =>
        let d := match x.high with
          | some hi => (hi + 4294967296 - h.seq % 4294967296) % 4294967296
          | none => 0
        if x.high.isSome ∧ 64 ≤ d ∧ d ≤ 2147483648 then s.answer h eStaleSeq 0 []
        else
          let up := x.high.isNone || decide (2147483648 < d)
          k (s.modSession x.id (fun x => { x with
            renewed := max x.renewed t, port := h.port, high := if up then some (h.seq % 4294967296) else x.high })))

/-! ### Written items (R472, R490) -/

/-- A written item's checks of type, length and right, then its own effect with its code (R490, steps 3, 5, 6 and 7). -/
def State.item490 (s : State) (h : Hdr) (d : Sys2Proof.Data) (ty : Nat) (len : Nat → Bool) (enabled : Bool)
    (own : State → State × Nat) : State × Nat :=
  if d.ty ≠ ty then (s, eType)
  else if (if ty = tBlob then len d.bytes.length else d.bytes.length == tySize ty) = false then (s, eLength)
  else if !s.isOwner h.session then (s, eNotOwner)
  else if enabled then (s, eBlockEnabled)
  else own s

/-- A host error in a written value that R3 does not name: the command has no effect, and whether its answer is OK or ADDR_RANGE is open (DESIGN
CHOICE, log entry 46). -/
def State.hostErr (s : State) : State × Nat :=
  let (k, s) := s.draw 2
  (s, if k = 0 then eOk else eAddrRange)

/-- Any BLOB length. -/
def anyLen (_ : Nat) : Bool := true

/-- Journals a Stored value (R494): the record is programmed; STORED_VALUE_JOURNALED verifies it. -/
def State.journal (s : State) (key : Nat) (v : List Byte) : State :=
  { s with eth := { s.eth with jrn := s.eth.jrn ++ [{ key, val := v }] } }

/-- Answers a WRITE: at once, or with the last of the journal records it started (R494). `n` is how many records were in
progress before it. -/
def State.answerWrite (s : State) (n : Nat) (h : Hdr) (status items : Nat) : State :=
  if s.eth.jrn.length ≤ n then s.answer h status items []
  else
    let r := s.response h status items []
    { s with eth := { s.eth with jrn := s.eth.jrn.dropLast ++ (s.eth.jrn.getLast?.map (fun j => { j with resp := some r })).toList } }

/-- Carries out a written item unless an exclusive BIST run has its block (R532): BUSY_BIST then takes the place of the entry's own
checks and effect (R490, step 7). A slice of the block is abandoned (R531). -/
def State.bistGuard (s : State) (e : Option (Nat × Nat)) (w : State → State × Nat) : State × Nat :=
  let s := s.bistRequest (e.bind (fun e => odTarget e.1 e.2))
  let r := w s
  if s.entryBusy e && !([eType, eLength, eReadOnly, eNotOwner, eBlockEnabled].contains r.2) then (s, eBusyBist) else r

/-- A request that writes one item; the recovery service lists none of these entries (R552). -/
def State.hostItem (s : State) (i : Instr) (h : Hdr) (w : State → State × Nat) : State :=
  s.request i h (fun s =>
    let (s', c) := if s.tr.recovery then (s, eNoObject) else s.bistGuard (instrEntry i) w
    s'.answerWrite s.eth.jrn.length h c (if c = 0 then 1 else 0))

/-- A command that is both a dictionary entry and a register bit. -/
def State.viaPath (s : State) (i : Instr) (p : Path) (w : Hdr → Sys2Proof.Data → State → State × Nat) (r : State → State) : State :=
  match p with
  | .od h d => s.hostItem i h (w h d)
  | .reg => r s

/-- A data item (Table 16.4). -/
def dataItem (idx sub ty : Nat) (b : List Byte) : List Byte := toBe 2 idx ++ toBe 1 sub ++ toBe 1 ty ++ toBe 2 b.length ++ b

/-- A dictionary key: index × 256 + sub-index. -/
def odKey (idx sub : Nat) : Nat := idx * 256 + sub

/-- An entry's value where it has no register: what was written, or its Default. -/
def State.od (s : State) (idx sub : Nat) (dflt : List Byte) : List Byte := Tbl.get s.dict dflt (odKey idx sub)
/-- Gives a Volatile entry its value. -/
def State.setOd (s : State) (idx sub : Nat) (v : List Byte) : State := { s with dict := Tbl.put s.dict (odKey idx sub) v }
/-- Writes an RWS entry: its value and its journal record. -/
def State.storeOd (s : State) (idx sub : Nat) (v : List Byte) : State := (s.setOd idx sub v).journal (odKey idx sub) v

end Sys2Proof.Machine
end

