-- ==== Sys2Proof/Machine/Calendar.lean ====
section
/-! DEFINITION. The limits of each mode (Table 4.2), the bandwidth calendar (Table 7.4) and what it admits (R234 to R236, R397). -/

namespace Sys2Proof.Machine

/-- The mode with a code; codes 6 and 7 are reserved. -/
def modeOf : Nat → Option Mode
  | 0 => some .safe | 1 => some .survey | 2 => some .precision | 3 => some .throughput | 4 => some .lineRate
  | 5 => some .stress | _ => none

/-- The smallest vector period of a mode in ticks; in Safe the 250 ps of R182. -/
def minPeriod : Mode → Nat
  | .safe => 1024 | .survey => 4096 | .precision => 4096 | .throughput => 2048 | .lineRate => 1024 | .stress => 40960

/-- Courses that may capture raw at once. -/
def rawLimit : Mode → Nat
  | .survey => 32 | .precision => 32 | .throughput => 32 | .lineRate => 16 | .safe => 0 | .stress => 0

/-- The longest SMU aperture of a mode in ticks (the shortest is 1 µs). -/
def smuAperMax : Mode → Nat
  | .throughput => ms 100 | .lineRate => ms 10 | _ => ms 1000

/-- Vector slots per Course in a 640 ns frame. -/
def vecShare : Mode → Nat
  | .safe => 0 | .survey => 180 | .precision => 180 | .throughput => 360 | .lineRate => 720 | .stress => 18
/-- Acquisition slots. -/
def acqShare : Mode → Nat
  | .safe => 0 | .survey => 4000 | .precision => 4000 | .throughput => 6000 | .lineRate => 4000 | .stress => 200
/-- Reserve slots. -/
def reserveShare : Mode → Nat
  | .safe => 28155 | .survey => 18395 | .precision => 18395 | .throughput => 10635 | .lineRate => 1115 | .stress => 27379
/-- The jump pool: the reserve less its floor of 200 slots (R233). -/
def jumpPool (m : Mode) : Nat := reserveShare m - 200

/-! ### Descriptors (Table 7.3) -/

/-- A Course's descriptor of a segment, 32 zero bytes where none was written. -/
def State.desc (s : State) (c seg : Nat) : List Byte := Tbl.get s.pat.desc (List.replicate 32 0) (4096 * c + seg)
/-- DRAM line of the first granule. -/
def descStart (b : List Byte) : Nat := leNat (b.take 4) % 1073741824
/-- Length in granules. -/
def descLen (b : List Byte) : Nat := leNat ((b.drop 4).take 4)
/-- Runs, 0 for endless. -/
def descLoops (b : List Byte) : Nat := leNat ((b.drop 8).take 4)
/-- Continuation. -/
def descNext (b : List Byte) : Nat := leNat ((b.drop 12).take 2) % 4096
/-- Jump target. -/
def descJump (b : List Byte) : Nat := leNat ((b.drop 14).take 2) % 4096
/-- Valid flag. -/
def descValid (b : List Byte) : Bool := (leNat ((b.drop 16).take 1)).testBit 0
/-- fail_jump flag. -/
def descFail (b : List Byte) : Bool := (leNat ((b.drop 16).take 1)).testBit 1
/-- Whether the segment plays from the buffer (R215). -/
def descResident (b : List Byte) : Bool := decide (descLen b ≤ 113)

/-- Whether a segment ID names a valid descriptor. -/
def State.segValid (s : State) (c seg : Nat) : Bool := decide (seg < 4095) && descValid (s.desc c seg)

/-- Granules of the head of a path (R216): at most 16, following continuations. -/
def State.headLen (s : State) (c : Nat) : Nat → Nat → Nat
  | 0, _ => 16
  | n + 1, seg =>
    if s.segValid c seg = false then 0
    else
      let d := s.desc c seg
      if descLoops d = 0 then 16
      else
        let l := descLen d * descLoops d
        if l ≥ 16 then 16 else min 16 (l + s.headLen c n (descNext d))

/-- The smallest period among a Course's 64 timing sets, as staged (R234). -/
def State.minSet (s : State) (c : Nat) : Nat :=
  (List.range 64).foldl (fun m k => min m (s.fld F.TMG_PERIOD_period c k)) 4294967295

/-- Vector demand of a Course in slots (R234). -/
def State.vecDemand (s : State) (c : Nat) : Nat := ceilDiv 737280 (s.minSet c)

/-- Granules of the longest head among a segment's continuations (R216): the repeat of a segment that loops, whose head a resident segment does
not need, and its `next` unless it loops for ever. -/
def State.contLen (s : State) (c : Nat) (d : List Byte) : Nat :=
  max (if descLoops d = 1 ∨ descResident d then 0 else 16) (if descLoops d = 0 then 0 else s.headLen c 3 (descNext d))

/-- Jump overhead of a Course in slots (R235). -/
def State.jumpLines (s : State) (c : Nat) : Nat :=
  let p := s.minSet c
  let mine := s.pat.desc.filter (fun e => decide (e.1 / 4096 = c) && descValid e.2)
  mine.foldl (fun excess e =>
    let d := e.2
    if descJump d = 0xFFF then excess
    else
      let h := max (s.contLen c d) (s.headLen c 3 (descJump d))
      max excess (ceilDiv (18 * h * 2621440) (p * (descLen d * 64)))) 0

/-- Jump overhead of all Courses: OD 0x5002.00. -/
def State.jumpUse (s : State) : Nat := (List.range 32).foldl (fun a c => a + s.jumpLines c) 0

/-- Whether an acquisition unit is enabled. -/
def State.unitEn (s : State) (u : Nat) : Bool := s.bit F.ACQ_UCFG_en 0 u

/-- Raw capture demand of a Course. -/
def State.rawDemand (s : State) (c : Nat) : Nat := ceilDiv 163840 (s.minSet c)

/-- Bits set in a number of at most 64 bits. -/
def popcount (x : Nat) : Nat := (bitsOf 64 x).length

/-- Enabled raw capture units. -/
def State.rawUnits (s : State) : Nat := ((List.range 32).filter (fun u => s.unitEn u)).length

/-- The acquisition demand in slots per frame (R397). -/
def State.acqDemand (s : State) : Nat :=
  let en := (List.range 264).filter (fun u => s.unitEn u)
  let log := if en.any (fun u => decide (u < 32 ∨ 64 ≤ u)) then 8 else 0
  let crs := (List.range 32).foldl (fun a c =>
    a + (if s.unitEn c then s.rawDemand c else 0) + s.fld F.APG_FC_CFG_slots c) 0
  log + crs + popcount s.wav.srcMask + popcount s.wav.digMask
    + 140 * (en.filter (fun u => decide (128 ≤ u ∧ u ≤ 135))).length
    + (en.filter (fun u => decide (136 ≤ u))).length

/-- Whether the jump overhead and the acquisition demand fit a mode's shares (R236, R397). In Safe nothing is checked. -/
def State.fits (s : State) (m : Mode) : Bool :=
  m == .safe ||
    (decide (s.jumpUse ≤ jumpPool m) && decide (s.acqDemand ≤ acqShare m) && decide (s.rawUnits ≤ rawLimit m))

/-- Whether every configuration fits a mode (R128): no timing set below its minimum period, and the shares. -/
def State.fitsMode (s : State) (m : Mode) : Bool :=
  m == .safe || ((List.range 32).all (fun c => decide (minPeriod m ≤ s.minSet c)) && s.fits m)

/-- Counts an item the mode's limits clamp or ignore: OD 0x1106.00 (R125). -/
def State.countLimit (s : State) : State := { s with md := { s.md with limitCount := s.md.limitCount + 1 } }

end Sys2Proof.Machine
end

