-- ==== Sys2Proof/Machine/Launch.lean ====
section
/-! DEFINITION. Launch queues: entry, LATE and held-back records, and taking the record whose instant has come (R50 to R57). -/

namespace Sys2Proof.Machine

/-- Records a launch queue holds (Table 2.5). -/
def lqDepth (q : Nat) : Nat := if q < 32 then 4096 else 1024

/-- The records waiting in a queue, oldest first. -/
def State.queue (s : State) (q : Nat) : List LaunchRec := Tbl.get s.lq [] q
/-- Gives a queue its records. -/
def State.setQueue (s : State) (q : Nat) (l : List LaunchRec) : State := { s with lq := Tbl.set s.lq [] q l }

/-- Free places of a queue (R18): its credits. -/
def State.credits (s : State) (q : Nat) : Nat := lqDepth q - (s.queue q).length

/-- The unique instant with the 40 low bits of nanoseconds `n40` within ±2³⁹ ns of now (R51), in ticks. -/
def State.resolve40 (s : State) (n40 frac : Nat) : Nat :=
  let base := s.nowNs / 1099511627776 * 1099511627776 + n40 % 1099511627776
  let nsv :=
    if base + 549755813888 ≤ s.nowNs then base + 1099511627776
    else if s.nowNs + 549755813888 < base ∧ base ≥ 1099511627776 then base - 1099511627776
    else base
  nsv * 4096 + frac % 4096

/-- The unique instant with the low 32 bits of nanoseconds `n32` within ±2.147 s of now (R44), in ticks. -/
def State.resolve32 (s : State) (n32 : Nat) : Nat :=
  let base := s.nowNs / 4294967296 * 4294967296 + n32 % 4294967296
  let nsv :=
    if base + 2147483648 ≤ s.nowNs then base + 4294967296
    else if s.nowNs + 2147483648 < base ∧ base ≥ 4294967296 then base - 4294967296
    else base
  nsv * 4096

/-- Marks the step that a record belongs to: that of its issuing thread as it entered its queue, or, where no such step is kept any more, its
site's current step; every site's for a chip-wide record (R56, R140). -/
def State.markRec (s : State) (r : LaunchRec) (m : Nat) : State :=
  if r.chipWide then s.markAll m
  else
    match r.step with
    | some t0 => if (s.thr (s.homeThr r.thread)).holdsStep t0 then s.markAt (s.homeThr r.thread) t0 m else s.markSite r.site m
    | none => s.markSite r.site m

/-- Marks the step that a discarded record belongs to; a chip-wide record belongs to none. -/
def State.markOf (s : State) (r : LaunchRec) (m : Nat) : State := if r.chipWide then s else s.markRec r m

/-- What the execution of a LATE record brings (R56, items 2 to 5; Table 2.7). -/
def State.lateRecord (s : State) (q : Nat) (r : LaunchRec) : State :=
  let s := s.markRec r mkLate
  let s := { s with tb := { s.tb with lateCount := s.tb.lateCount + 1 } }
  let s := s.setBit F.TB_STATUS_late 0 0 true
  let s :=
    if s.bit F.TB_LATE_FIRST_valid then s
    else
      let s := s.setBit F.TB_LATE_FIRST_valid 0 0 true
      let s := s.setFld F.TB_LATE_FIRST_queue 0 0 q
      let s := s.setFld F.TB_LATE_FIRST_site 0 0 r.site
      let s := s.setBit F.TB_LATE_FIRST_chip_wide 0 0 r.chipWide
      s.setFld F.TB_LATE_FIRST_lateness 0 0 (min 65535 (r.lateness / 4096))
  s.report 39 sevDegraded (if r.chipWide then detail clsNone 0 else detail clsSite r.site)

/-- The block a launch queue serves, as a BIST target (Table 18.5). -/
def queueTarget (q : Nat) : Nat := if q < 32 then q else if q < 36 then 44 + (q - 32) else if q < 38 then 48 + (q - 36) else if q = 38 then 50 else 57

/-- The channels of its Course that a record is for, 32 being the spare: those a strobe names (Table 5.7), or every pin for streams and
serial entries. -/
def recPins (action payload : Nat) : List Nat :=
  if action = 0x01 then (List.range 33).filter (fun p => payload.testBit (14 + p)) else List.range 32

/-- The later of two instants that may be absent. -/
def laterOf (a b : Option Nat) : Option Nat :=
  match a, b with
  | some x, some y => some (max x y)
  | some x, none => some x
  | none, b => b

/-- Abandons the background check of a channel (R28): when it will have been restored, if it is not yet. -/
def State.abandonCheck (s : State) (c p : Nat) : State × Option Nat :=
  match Tbl.find s.ks.checks (33 * c + p) with
  | none => (s, none)
  | some k =>
    match k.restore with
    | some r => (s, s.stillRestoring r)
    | none =>
      let (r, s) := s.restoreBy
      let s := { s with ks := { s.ks with checks := Tbl.put s.ks.checks (33 * c + p) { k with restore := some r } } }
      (if k.kind = 0 ∧ p < 32 then s.setFld F.TMG_PLUMB_last_result c p 3 else s, some r)

/-- Abandons the autozero of an SMU (R362). -/
def State.abandonAz (s : State) (m : Nat) : State × Option Nat :=
  let x := Tbl.get s.smu.ch {} m
  if x.azRun.isSome then
    let (r, s) := s.restoreBy
    ({ s with smu := { s.smu with ch := Tbl.set s.smu.ch {} m { x with azRun := none, restore := r } } }, some r)
  else (s, s.stillRestoring x.restore)

/-- Abandons the Plumb check of a waveform channel (R389). -/
def State.abandonWavCheck (s : State) (w : Nat) : State × Option Nat :=
  let x := Tbl.get s.wav.ch {} w
  if x.plumbRun.isSome then
    let (r, s) := s.restoreBy
    ({ s with wav := { s.wav with ch := Tbl.set s.wav.ch {} w { x with plumbRun := none, restore := r } } }, some r)
  else (s, s.stillRestoring x.restore)

/-- Abandons every background check that a record disturbs, and a BIST slice of its block (R28, R531): when all will have been restored. -/
def State.abandonFor (s : State) (q target action payload : Nat) : State × Option Nat :=
  let (s, a) :=
    if q < 32 then
      (recPins action payload).foldl (fun a p => let (s, b) := a.1.abandonCheck q p; (s, laterOf a.2 b)) (s, none)
    else if q < 36 then s.abandonAz (if target < 32 then 32 * (q - 32) + target else 128 + (q - 32))
    else if q < 38 then s.abandonWavCheck (32 * (q - 36) + target % 32)
    else (s, none)
  let (s, b) := s.abandonSlice (queueTarget q)
  (s, laterOf a b)

/-- Records of two sites for one shared instrument at one instant: a host error, confined to the instrument (R14). -/
def clashes (q inst target : Nat) (chipWide : Bool) (site : Nat) (e : LaunchRec) : Bool :=
  decide (32 ≤ q) && decide (q < 39) && !chipWide && !e.chipWide && e.site != site && e.inst == inst && e.target == target

/-- Such records carry open payloads. -/
def State.clashed (s : State) (p : LaunchRec → Bool) : List LaunchRec → List LaunchRec × State
  | [] => ([], s)
  | e :: t =>
    if p e then
      let (v, s) := s.draw (2 ^ 47)
      let (l, s) := State.clashed s p t
      ({ e with payload := v } :: l, s)
    else
      let (l, s) := State.clashed s p t
      (e :: l, s)

/-! ### Entry -/

/-- The actions that the instruments of a queue know (Tables 2.5 and 2.6); MODE_CHANGE is the Keystone's own (R127). -/
def queueActions (q : Nat) : List Nat :=
  if q < 32 then [0x01, 0x02, 0x38] else if q < 36 then [0x10, 0x11] else if q < 38 then [0x20, 0x21] else if q = 38 then [0x30]
  else [0x40, 0x41, 0x48]

/-- A reserved action code, or one that its queue's instruments do not know, is UNPREDICTABLE and confined to the instrument addressed (R2 to
R4): what the record does there is a free choice among the actions of its queue and none at all (log entry 43). -/
def State.settleAction (s : State) (q action payload : Nat) : Option (Nat × Nat) × State :=
  let l := queueActions q
  if l.contains action then (some (action, payload), s)
  else
    let (k, s) := s.draw (l.length + 1)
    match l[k]? with
    | none => (none, s)
    | some a =>
      let (p, s) := s.draw (2 ^ 47)
      (some (a, p), s)

/-- How a record that enters a queue at `at_` will execute (R53, R55, R56, R28). -/
structure Placing where
  exec : Nat
  late : Bool
  lateness : Nat
  leadShort : Bool
deriving DecidableEq, Repr

/-- Places a record behind its predecessor: `restore` is the instant by which a check that it ends will have restored its channel. The lateness
of a record that is LATE only through R28 is that of a held-back one (DESIGN CHOICE, log entry 35). -/
def State.place (s : State) (q inst at_ : Nat) (restore : Option Nat) : Placing :=
  let prev : Option (Nat × Nat × Bool) :=
    match (s.queue q).getLast? with
    | some p => some (p.inst, p.exec, p.exec != p.inst)
    | none => Tbl.find s.lqLast q
  let after := decide (inst < at_ + ns 64)
  let exec0 := if after then cycleUp (at_ + ns 64) else inst
  let blocked := match restore with | some r => decide (inst < r) | none => false
  let exec1 := if blocked then max exec0 (cycleUp (restore.getD 0)) else exec0
  let held := match prev with
    | some (pi, pe, moved) => decide (inst < pi) || (moved && decide (inst / cycle ≤ pe / cycle))
    | none => false
  let exec := match prev with
    | some (_, pe, _) => if held then max exec1 ((pe / cycle + 1) * cycle) else max exec1 pe
    | none => exec1
  { exec
    late := after || blocked || held
    lateness := if after && !held then at_ - inst else exec - inst
    leadShort := !after && !held && decide (inst < at_ + us 2) }

/-- A lead-short record is counted as it enters (R55). -/
def State.noteLead (s : State) (p : Placing) : State :=
  if p.leadShort then ({ s with tb := { s.tb with leadShort := s.tb.leadShort + 1 } }).setBit F.TB_STATUS_lead_short 0 0 true else s

/-- The Keystone enters the MODE_CHANGE records of the pending changes, in order, 2 µs before their instants (R130); one without a credit is
a Mortar fault, told once, and waits for its credit (R21). A change takes place when its record executes (R53). -/
def State.enterModes : List ModePending → State → List ModePending × State
  | [], s => ([], s)
  | p :: l, s =>
    let t := p.t.getD 0
    if p.entered || p.t.isNone || decide (s.now + us 2 < t) then
      let (l, s) := State.enterModes l s
      (p :: l, s)
    else if s.credits 39 = 0 then
      let s := if p.starved then s else s.report 38 sevChip (detail clsNone 0)
      let (l, s) := State.enterModes l s
      ({ p with starved := true } :: l, s)
    else
      let at_ := if p.starved then s.now else min s.now (t - us 2)
      let e := s.place 39 t at_ none
      let r : LaunchRec := ⟨t, 0, 0x04, true, 0, p.target.code * 2 ^ 44, at_, e.exec, e.late, e.lateness, 256, none⟩
      let s := (s.setQueue 39 (s.queue 39 ++ [r])).noteLead e
      let (l, s) := State.enterModes l s
      ({ p with entered := true, t := some e.exec } :: l, s)

/-- The MODE_CHANGE records that the Keystone has entered by now. -/
def State.modeEntry (s : State) : State :=
  let (l, s) := State.enterModes s.md.pend s
  { s with md := { s.md with pend := l } }

/-- A pin channel's launch queue holds no record due within the next 20 µs: the gap of R28, noted for R30. -/
def State.noteGap (s : State) (c : Nat) : State :=
  match s.queue c with
  | r :: _ => if s.now + us 20 ≤ r.exec then { s with ks := { s.ks with gapAt := Tbl.put s.ks.gapAt c s.tb.loc } } else s
  | [] => { s with ks := { s.ks with gapAt := Tbl.put s.ks.gapAt c s.tb.loc } }

/-- A record enters its queue now (R50 to R56), its instant cut to the 40 bits of Table 2.4 and read back as R51 reads it. A producer without
a credit is the Mortar fault of R21. -/
def State.enterRecord (s : State) (q inst target action : Nat) (chipWide : Bool) (site payload thread : Nat) : State :=
  let s := if q = 39 then s.modeEntry else if q < 32 then s.noteGap q else s
  if s.bistExcl (queueTarget q) then if chipWide then s else s.report 56 sevSite (detail clsSite site)
  else if s.credits q = 0 then s.report 38 sevChip (detail clsNone 0)
  else
    match s.settleAction q action payload with
    | (none, s) => s
    | (some (action, payload), s) =>
      let inst := s.resolve40 (inst / 4096) (inst % 4096)
      let (s, restore) := s.abandonFor q target action payload
      let e := s.place q inst s.now (restore.map s.domAt)
      let clash := clashes q inst target chipWide site
      let (old, s) := s.clashed clash (s.queue q)
      let (payload, s) := if (s.queue q).any clash then s.draw (2 ^ 47) else (payload, s)
      let step := if thread < 256 then ((s.thr (s.homeThr thread)).cur).map (fun a => a.t0) else none
      let r : LaunchRec := ⟨inst, target, action, chipWide, site, payload, s.now, e.exec, e.late, e.lateness, thread, step⟩
      (s.setQueue q (old ++ [r])).noteLead e

/-- LAUNCH_RECORD_ENTRY: a producer enters a record (Table 2.4). Only the Keystone enters MODE_CHANGE records (R127). -/
def execLaunchRecordEntry (queue target action : Nat) (chipWide : Bool) (site payload instNs instFrac : Nat) (s : State) :
    Host.Outcome State Fault Refusal :=
  if queue ≥ 40 ∨ action = 0x04 ∨ s.thm.halted then .next s
  else .next (s.enterRecord queue (instNs % 2 ^ 40 * 4096 + instFrac % 4096) (target % 64) action chipWide (site % 256)
    (payload % 2 ^ 47) ((s.homeOf (site % 256)).getD (site % 256)))

/-! ### Execution -/

/-- A gap of 20 µs between a Course's record and the one before it (R30): it lasted until 20 µs before the record executes. -/
def State.gapBefore (s : State) (q exec : Nat) : State :=
  let from_ := ((Tbl.find s.lqLast q).map (fun e => e.2.1)).getD 0
  if q < 32 && decide (from_ + us 20 ≤ exec) then { s with ks := { s.ks with gapAt := Tbl.put s.ks.gapAt q (s.locAt (exec - us 20)) } } else s

/-- The record at the head of a queue, when it carries the action and no MODE_CHANGE must act before it (R54); with the
state in which its instant has come, it has left the queue and, where it is LATE, that has been noted (R56). -/
def State.takeHead (s : State) (q action : Nat) : Option (LaunchRec × State) :=
  match s.queue q with
  | [] => none
  | r :: rest =>
    if r.action ≠ action then none
    else if s.md.pend.any (fun p => match p.t with | some t => decide (t ≤ r.exec) | none => false) then none
    else
      let s := (s.gapBefore q r.exec).reach r.exec
      let s := s.setQueue q rest
      let s := { s with lqLast := Tbl.put s.lqLast q (r.inst, r.exec, r.exec != r.inst) }
      let s := s.launchDue
      some (r, if r.late then s.lateRecord q r else s)

/-- A record for a DUT-facing target is discarded in Safe, and counted (R137); one that belongs to a site's step marks it ABORTED (R140). -/
def State.discardInSafe (s : State) (r : LaunchRec) : State :=
  let s := { s with md := { s.md with limitCount := s.md.limitCount + 1 } }
  if r.chipWide then s else s.markRec r mkAborted

end Sys2Proof.Machine
end

