-- ==== Sys2Proof/Machine/Acquisition.lean ====
section
/-! DEFINITION. Acquisition units, trigger units, the TRIG_OUT and MARKER balls and the capture log (R393 to R422). -/

namespace Sys2Proof.Machine

/-! ### Units and their buffers (R393 to R396) -/

/-- An acquisition unit. -/
def State.unit (s : State) (u : Nat) : AcqUnit := Tbl.get s.acq.un {} u
/-- Changes an acquisition unit. -/
def State.modUnit (s : State) (u : Nat) (f : AcqUnit → AcqUnit) : State :=
  { s with acq := { s.acq with un := Tbl.set s.acq.un {} u (f (s.unit u)) } }

/-- Bytes of a unit's sample (Table 13.1). -/
def sampleSize (u : Nat) : Nat := if u < 32 then 4 else if u < 64 then 32 else if u < 128 then 4 else 8
/-- Capacity of a unit's buffer in samples. -/
def State.bufCap (s : State) (u : Nat) : Nat := 64 / sampleSize u * s.fld F.ACQ_BUF_LEN_lines 0 u
/-- Byte address of a buffer position. -/
def State.bufAddr (s : State) (u pos : Nat) : Nat := 64 * s.fld F.ACQ_BUF_FIRST_lines 0 u + sampleSize u * pos
/-- Lines of the pattern space in force: OD 0x5000.00 in GiB (48 until a start-up takes another). -/
def State.patLines (s : State) : Nat := beNat (Tbl.get s.eth.inForce [48#8] 0x500000) * 16777216
/-- Whether a unit's buffer is at least one line and lies in the acquisition space (R394, R395). -/
def State.bufPlaced (s : State) (u : Nat) : Bool :=
  decide (1 ≤ s.fld F.ACQ_BUF_LEN_lines 0 u) && decide (s.patLines ≤ s.fld F.ACQ_BUF_FIRST_lines 0 u) &&
    decide (s.fld F.ACQ_BUF_FIRST_lines 0 u + s.fld F.ACQ_BUF_LEN_lines 0 u ≤ 1064304640)

/-- The write index moves on by `n` positions, which become unread. -/
def State.moveWr (s : State) (u n : Nat) : State :=
  let cap := max 1 (s.bufCap u)
  (s.setFld F.ACQ_WR_index 0 u ((s.fld F.ACQ_WR_index 0 u + n) % cap)).modUnit u (fun x => { x with fill := min cap (x.fill + n) })

/-- The host's read index moves to `v`: the positions between are free (R396). -/
def State.moveRd (s : State) (u v : Nat) : State :=
  let cap := max 1 (s.bufCap u)
  let freed := (v % cap + cap - s.fld F.ACQ_RD_index 0 u % cap) % cap
  (s.setFld F.ACQ_RD_index 0 u v).modUnit u (fun x => { x with fill := x.fill - freed })

/-- How far a position lies behind the read index; below the fill it is unread. -/
def State.behind (s : State) (u pos : Nat) : Nat :=
  let cap := max 1 (s.bufCap u)
  (pos + cap - s.fld F.ACQ_RD_index 0 u % cap) % cap

/-- Whether a unit records: an enabled unit, or fail capture that is not off (R254). -/
def State.unitRecords (s : State) (u : Nat) : Bool :=
  if 32 ≤ u ∧ u < 64 then s.fld F.APG_FC_CFG_mode (u - 32) != 0 else s.unitEn u

/-- Whether another recording unit's buffer overlaps a unit's: a host error, whose samples are open (R395). -/
def State.bufClash (s : State) (u : Nat) : Bool :=
  let lo := s.fld F.ACQ_BUF_FIRST_lines 0 u
  let hi := lo + s.fld F.ACQ_BUF_LEN_lines 0 u
  (List.range 264).any (fun v =>
    let b := s.fld F.ACQ_BUF_FIRST_lines 0 v
    let n := s.fld F.ACQ_BUF_LEN_lines 0 v
    v != u && n != 0 && decide (b < hi) && decide (lo < b + n) && s.unitRecords v)

/-- What a unit stores for a sample: the sample, or open bytes where its buffer overlaps another's. -/
def State.sampleOr (s : State) (u : Nat) (b : List Byte) : List Byte × State :=
  if s.bufClash u then
    let (x, s) := s.draw (256 ^ b.length)
    (toLe b.length x, s)
  else (b, s)

/-- Stores a sample at a position, or discards it there (R396); whether it was stored. -/
def State.putSample (s : State) (u pos : Nat) (b : List Byte) : State × Bool :=
  let (b, s) := s.sampleOr u b
  let pos := pos % max 1 (s.bufCap u)
  if s.behind u pos < (s.unit u).fill then
    if s.bit F.ACQ_UCFG_overwrite 0 u then
      let s := s.moveRd u ((pos + 1) % max 1 (s.bufCap u))
      (s.setBytes (s.bufAddr u pos) b, true)
    else
      let s := s.modUnit u (fun x => { x with ovf := true })
      ((s.setBit F.ACQ_STATUS_ovf 0 0 true).setBit F.ACQ_USTAT_ovf 0 u true, false)
  else (s.setBytes (s.bufAddr u pos) b, true)

/-! ### Fail buffers: units 32 to 63 (R256, R257) -/

/-- A Course's generator. -/
def State.apgOf (s : State) (c : Nat) : Apg := Tbl.get s.apg {} c
/-- Changes a Course's generator. -/
def State.modApg (s : State) (c : Nat) (f : Apg → Apg) : State := { s with apg := Tbl.set s.apg {} c (f (s.apgOf c)) }

/-- Writes records to the fail buffer, unit 32 + c. -/
def State.putFails (s : State) (c : Nat) : List FailRec → State
  | [] => s
  | r :: l =>
    let u := 32 + c
    let (r, s) := s.sampleOr u r
    State.putFails ((s.setBytes (s.bufAddr u (s.fld F.ACQ_WR_index 0 u)) r).moveWr u 1) c l

/-- Drains the capture queue up to local instant `t`: two records per reserved slot and frame, while the ring has room. -/
def State.drainFails (s : State) (c t : Nat) : State :=
  let a := s.apgOf c
  let frames := (t - a.drainAt) / ns 640
  let n := min (frames * 2 * s.fld F.APG_FC_CFG_slots c) (min a.queue.length (s.bufCap (32 + c) - (s.unit (32 + c)).fill))
  let s := s.modApg c (fun a => { a with queue := a.queue.drop n, drainAt := if a.drainAt = 0 then t else a.drainAt + frames * ns 640 })
  s.putFails c (a.queue.take n)

/-- Drains the capture queues of all Courses up to now, before fail buffers are read. -/
def State.drainAll (s : State) : State := (List.range 32).foldl (fun s c => if (Tbl.find s.apg c).isSome then s.drainFails c s.tb.loc else s) s

/-- The host writes a unit's read index; a fail buffer has drained up to now first. -/
def State.hostRd (s : State) (u v : Nat) : State := (if 32 ≤ u ∧ u < 64 then s.drainFails (u - 32) s.tb.loc else s).moveRd u v

/-! ### Delivery figures -/

/-- A digitizer's rate in S/s, kept in its span (R384). -/
def State.digRate (s : State) (w : Nat) : Nat := clampNat 1 5000000 (s.actFld F.WAV_DRATE_rate (w / 32) (w % 32))
/-- A second in ticks. -/
def sec : Nat := 4096000000000
/-- A digitizer's delivery latency (R384). -/
def State.digLatency (s : State) (w : Nat) : Nat :=
  (if s.actFld F.WAV_CFG_dig_filt (w / 32) (w % 32) = 1 then 2 else 36) * sec / s.digRate w + us 2
/-- A unit's delivery latency (R415). -/
def State.unitLatency (s : State) (u : Nat) : Nat :=
  if u < 32 then 0 else if 64 ≤ u ∧ u < 128 then s.digLatency (u - 64) else if u < 136 then us 1 else us 2

/-! ### The capture log (R419, R420) -/

/-- Whether fewer than 512 places of the log are free. -/
def State.logFull (s : State) : Bool := decide (65536 < s.acq.wseq - s.acq.aseq + 512)

/-- A capture record as it is stored (Table 13.6). -/
def CapRec.bytes (r : CapRec) : List Byte := toLe 8 r.seq ++ r.body

/-- Writes a record into the log's DRAM: lines from 1,064,304,640 on, in the order of the numbers (log entry 31). -/
def State.logLine (s : State) (r : CapRec) : State := s.setBytes (64 * (1064304640 + (r.seq - 1) % 65536)) r.bytes

/-- A record enters the log with the next number, through the on-die queue where the log has no place. -/
def State.fileRecord (s : State) (body : List Byte) : State :=
  let n := s.acq.wseq + 1
  let was := s.logFull
  let r : CapRec := ⟨n, body⟩
  let a : Acquisition := { s.acq with wseq := n }
  let s := if a.log.length < 65536 ∧ a.queue.isEmpty then ({ s with acq := { a with log := a.log ++ [r] } }).logLine r
    else { s with acq := { a with queue := a.queue ++ [r] } }
  let s := s.setBit F.ACQ_STATUS_log_full 0 0 s.logFull
  if s.logFull && !was then s.report 57 sevAdvisory (detail clsNone 0) else s

/-- Acknowledges capture records up to a number; a number above the last one written is a host error of the log, which takes
an open one (R332, R419). -/
def State.ackLog (s : State) (v : Nat) : State :=
  if v ≤ s.acq.aseq then s
  else
    let (v, s) := if s.acq.wseq < v then s.draw 18446744073709551616 else (v, s)
    let l := s.acq.log.filter (fun r => decide (v < r.seq))
    let n := 65536 - l.length
    let s := (s.acq.queue.take n).foldl State.logLine s
    let s := { s with acq := { s.acq with aseq := v, log := l ++ s.acq.queue.take n, queue := s.acq.queue.drop n } }
    s.setBit F.ACQ_STATUS_log_full 0 0 s.logFull

/-- How a raw unit takes vectors (R409): 0 triggered, 1 marked, 2 continuous; the reserved code is open. -/
def State.rawMode (s : State) (u : Nat) : Nat :=
  let m := s.fld F.ACQ_UCFG_rmode 0 u
  if m = 3 then Config.openNat 64 [u] % 3 else m
/-- Which bit of a pin a raw unit stores: 0 its fail, 1 sample a, 2 sample b; the reserved code is open. -/
def State.rawContent (s : State) (u : Nat) : Nat :=
  let m := s.fld F.ACQ_UCFG_content 0 u
  if m = 3 then Config.openNat 65 [u] % 3 else m
/-- Whether a raw unit runs in marked or continuous mode, without dead time. -/
def State.still (s : State) (u : Nat) : Bool := decide (u < 32) && s.rawMode u != 0

/-- Whether captures of the present time state cannot be merged (R421). -/
def State.unaligned (s : State) : Bool :=
  let t := s.fld F.TB_STATUS_time_state
  t == 0 || (t == 4 && !s.bit F.TB_STATUS_sync_present)

/-- What a record says of the time state at its trigger: the state, and 8 where it is UNALIGNED. -/
def State.timeStamp (s : State) : Nat := s.fld F.TB_STATUS_time_state % 8 + 8 * s.unaligned.toNat

/-- The capture record of a unit's segment (Table 13.6), after its sequence number. -/
def State.capBody (s : State) (u : Nat) (a : Arm) (incomplete : Bool) : List Byte :=
  let x := s.unit u
  let epre := s.fld F.ACQ_EPRE_count 0 u
  let still := s.still u
  let flags := a.clampFlag.toNat + 2 * x.ovf.toNat + 4 * incomplete.toNat + 8 * (decide (x.pre.length < epre)).toNat
    + 16 * (x.stamp / 8)
  let tt := if still then a.at_ else x.trig.getD a.at_
  toLe 2 (tt % 4096 * 16) ++ toLe 8 (tt / 4096)
    ++ toLe 2 (x.firstAt % 4096 * 16) ++ toLe 8 (x.firstAt / 4096)
    ++ toLe 4 (s.chip18 + 262144 * (x.stamp % 8) + 2097152 * s.unassigned.toNat)
    ++ toLe 2 u ++ toLe 1 (if a.imm || still then 0xFF else a.tunit) ++ toLe 1 flags
    ++ toLe 4 x.start ++ toLe 4 epre ++ toLe 4 x.pre.length ++ toLe 4 (x.post - x.lost)
    ++ toLe 4 (if epre < x.preN ∧ epre ≠ 0 then x.preN % epre else 0) ++ toLe 6 x.firstIdx ++ toLe 1 a.site ++ toLe 1 (min 255 x.missedOf)

/-! ### Segments (R405 to R414) -/

/-- Sets an event flag of a thread. -/
def State.setEvt (s : State) (k f : Nat) : State := s.setBitIn F.SEQ_TEVT_flags (k / 8) (k % 8) f

/-- An arm is complete (R414): its event flag is set and the unit is done. -/
def State.armDone (s : State) (u : Nat) (a : Arm) : State :=
  let s := s.modUnit u (fun x => { x with arm := none, trig := none, deadFrom := none })
  let s := s.setFld F.ACQ_USTAT_state 0 u 5
  match a.thread with
  | some k => if a.evtEn then s.setEvt k a.evt else s
  | none => s

/-- The segment in progress files its record; the write index moves over it and the next pre area begins. -/
def State.fileSegment (s : State) (u : Nat) (a : Arm) (incomplete : Bool) : State :=
  let x := s.unit u
  let s := s.fileRecord (s.capBody u a incomplete)
  let s := if incomplete then s.setBit F.ACQ_USTAT_incomplete 0 u true else s
  let s := s.setFld F.ACQ_USTAT_segs 0 u (x.filed + 1)
  let s := s.moveWr u (s.fld F.ACQ_EPRE_count 0 u + (if incomplete then x.post else s.fld F.ACQ_EPOST_count 0 u))
  s.modUnit u (fun y => { y with
    start := s.fld F.ACQ_WR_index 0 u, pre := [], preN := 0, trig := none, post := 0, lost := 0, ovf := false
    missedOf := 0, hist := [], filed := y.filed + 1 })

/-- A sample of the pre area, which the unit writes cyclically (R408). -/
def State.acqPre (s : State) (u at_ idx : Nat) (b : List Byte) : State :=
  let x := s.unit u
  let epre := s.fld F.ACQ_EPRE_count 0 u
  let (s, ok) := if epre = 0 then (s, false) else s.putSample u (x.start + x.preN % epre) b
  let kept := (if ok then (at_, idx) :: x.pre else x.pre).take epre
  let old := kept.getLast?.getD (at_, idx)
  s.modUnit u (fun y => { y with
    preN := y.preN + 1, pre := kept, hist := ⟨at_, idx, ok, b⟩ :: y.hist
    firstAt := if epre = 0 then y.firstAt else old.1, firstIdx := if epre = 0 then y.firstIdx else old.2 })

/-- A sample at or after the trigger: the next post sample; once the segment is full it waits for the next pre area. -/
def State.acqPost (s : State) (u at_ idx : Nat) (b : List Byte) : State :=
  let x := s.unit u
  if x.post < s.fld F.ACQ_EPOST_count 0 u then
    let (s, ok) := s.putSample u (x.start + s.fld F.ACQ_EPRE_count 0 u + x.post) b
    s.modUnit u (fun y => { y with
      post := y.post + 1, lastAt := at_, lost := y.lost + (!ok).toNat
      firstAt := if y.post = 0 ∧ y.pre.isEmpty then at_ else y.firstAt
      firstIdx := if y.post = 0 ∧ y.pre.isEmpty then idx else y.firstIdx })
  else s.modUnit u (fun y => { y with hist := ⟨at_, idx, false, b⟩ :: y.hist })

/-- Samples that came before their trigger was decided and lie at or after its instant take their places as post samples, and those that they had
overwritten in the pre area stand there again: a segment is placed by the recorded instant (R400). -/
def State.acqReplace (s : State) (u : Nat) : State :=
  let x := s.unit u
  match x.trig with
  | none => s
  | some t =>
    if x.post ≠ 0 then s
    else
      let new := (x.hist.filter (fun e => decide (t ≤ e.at_))).reverse
      let old := x.hist.filter (fun e => decide (e.at_ < t))
      if new.isEmpty then s
      else
        let epre := s.fld F.ACQ_EPRE_count 0 u
        let pre := old.take epre
        let s := (pre.zipIdx.filter (fun e => e.1.ok)).foldl (fun s e =>
          let (b, s) := s.sampleOr u e.1.data
          s.setBytes (s.bufAddr u ((x.start + (old.length - 1 - e.2) % epre) % max 1 (s.bufCap u))) b) s
        let kept := (pre.filter (·.ok)).map (fun e => (e.at_, e.idx))
        let s := s.modUnit u (fun y => { y with
          pre := kept, preN := old.length, hist := []
          firstAt := (kept.getLast?.getD (y.firstAt, y.firstIdx)).1, firstIdx := (kept.getLast?.getD (y.firstAt, y.firstIdx)).2 })
        new.foldl (fun s e => s.acqPost u e.at_ e.idx e.data) s

/-- Ends an arm: a segment whose trigger has been accepted is filed, INCOMPLETE unless its last post sample is stored (R406, R413). A segment is in
progress from its trigger on: one that still waits for it files nothing (DEDUCED, log entry 54). -/
def State.endArm (s : State) (u : Nat) : State :=
  match (s.unit u).arm with
  | none => s
  | some a =>
    let s := s.acqReplace u
    let s := if (s.unit u).trig.isSome then s.fileSegment u a (decide ((s.unit u).post < s.fld F.ACQ_EPOST_count 0 u)) else s
    s.armDone u a

/-- The digitizer capture that an arm has taken the length of ends with the arm (R385, R410; DEDUCED, log entry 55); a correction that waited for
it applies (R388). -/
def State.unitCaptureEnd (s : State) (u : Nat) : State :=
  if u < 64 ∨ 128 ≤ u then s
  else
    let w := u - 64
    let x := Tbl.get s.wav.ch {} w
    if x.caps.any (·.isOpen) then
      let s := { s with wav := { s.wav with ch := Tbl.set s.wav.ch {} w { x with
        caps := x.caps.filter (fun c => !c.isOpen), pendDig := none, corrDig := x.pendDig.getD x.corrDig } } }
      s.setBit F.WAV_STATE_capturing (w / 32) (w % 32) false
    else s

/-- Disarms a unit, which is left idle. -/
def State.disarm (s : State) (u : Nat) : State := ((s.endArm u).unitCaptureEnd u).setFld F.ACQ_USTAT_state 0 u 0
/-- Disarms every unit. -/
def State.disarmAll (s : State) : State := (List.range 264).foldl (fun s u => if (s.unit u).arm.isSome then s.disarm u else s) s

/-- Arms a unit at instant `t` (R406 to R411). -/
def State.armUnit (s : State) (u : Nat) (a : Arm) : State :=
  let s := s.endArm u
  let cap := s.bufCap u
  let still := s.still u
  let post := max 1 (s.fld F.ACQ_POST_count 0 u)
  let pre := if still then 0 else s.fld F.ACQ_PRE_count 0 u
  let clamp := decide (cap < post) || decide (cap < pre + post)
  let epost := min post cap
  let epre := if cap < post then 0 else min pre (cap - post)
  let s := (s.setFld F.ACQ_EPRE_count 0 u epre).setFld F.ACQ_EPOST_count 0 u epost
  let s := if clamp then
      let s := (s.setBit F.ACQ_USTAT_clamp 0 u true).setBit F.ACQ_STATUS_clamp 0 0 true
      if a.thread.isSome then s.markSite a.site mkClamp else s
    else s
  let a := { a with clampFlag := clamp, nseg := if still then 1 else max 1 a.nseg }
  let s := s.setFld F.ACQ_USTAT_segs 0 u 0
  let s := s.setFld F.ACQ_USTAT_state 0 u (if a.imm || still then 2 else 1)
  s.modUnit u (fun x => { x with
    arm := some a, start := s.fld F.ACQ_WR_index 0 u, count := 0, pre := [], preN := 0, hist := []
    trig := if a.imm || still then some a.at_ else none
    missedOf := if a.imm || still then x.missedRec else 0, missedRec := if a.imm || still then 0 else x.missedRec
    post := 0, lost := 0, ovf := false, filed := 0, holdN := 0, holdTo := 0, stamp := s.timeStamp
    deadFrom := if a.imm && !still then some a.at_ else none })

/-- One sample reaches an armed unit (R408, R409): instant, index since the arm or the anchor, bytes. With ACQ_CTRL.en clear the engines take none. -/
def State.acqSample (s : State) (u at_ idx : Nat) (b : List Byte) : State :=
  match (s.unit u).arm with
  | none => s
  | some a =>
    if at_ < a.at_ ∨ !s.bit F.ACQ_CTRL_en then s
    else
      let s := (s.modUnit u (fun x => { x with count := x.count + 1 })).acqReplace u
      let before : Bool := match (s.unit u).trig with | some t => decide (at_ < t) | none => true
      if before then s.acqPre u at_ idx b else s.acqPost u at_ idx b

/-- Whether a unit's segment has stored its last post sample. -/
def State.segFull (s : State) (u : Nat) : Bool :=
  let x := s.unit u
  x.arm.isSome && x.trig.isSome && decide (s.fld F.ACQ_EPOST_count 0 u ≤ x.post)

/-- A full segment is delivered and its record queued (R408, R415, R419). -/
def State.completeSegment (s : State) (u : Nat) : State :=
  match (s.unit u).arm with
  | none => s
  | some a =>
    let s := s.reach ((s.unit u).lastAt + s.unitLatency u)
    let last := (s.unit u).lastAt
    let more := (s.unit u).hist.filter (fun e => decide (last < e.at_))
    let s := s.fileSegment u a false
    let s := s.modUnit u (fun x => { x with deadEnd := last + s.unitLatency u + ns 64 })
    let s := if s.still u then s else s.setFld F.ACQ_USTAT_state 0 u 3
    if a.nseg ≤ (s.unit u).filed then
      let s := s.unitCaptureEnd u
      let d := (s.unit u).deadFrom
      (s.armDone u a).modUnit u (fun x => { x with deadFrom := if s.still u then none else d })
    else more.reverse.foldl (fun s e => s.acqPre u e.at_ e.idx e.data) s

/-- The instants of a digitizer's samples or a lane's words since the arm or the capture start, none of them before the arm's. -/
def State.sampleAt (s : State) (u k : Nat) : Nat :=
  let a := ((s.unit u).arm.map (·.loc)).getD 0
  let t0 := ((s.unit u).arm.map (·.at_)).getD 0
  if u < 128 then
    let base := match (Tbl.get s.wav.ch {} (u - 64)).caps.find? (·.isOpen) with | some c => max a c.start | none => a
    max t0 (s.domAt (base + k * sec / s.digRate (u - 64)))
  else
    -- from the first 64-bit boundary of the received bits after the arm and after adaptation (R438)
    let rate := max 1 (s.actFld F.FLN_RATE_rate_mbps 0 (u - 128))
    let x := Tbl.get s.fln {} (u - 128)
    let w := ceilDiv ((max a x.adaptedAt - x.rxCopyAt) * rate) (64 * 4096000)
    max t0 (s.domAt (x.rxCopyAt + (w + k) * 64 * 4096000 / rate))

/-! ### Signalling of a fast lane (R424) -/

/-- The level, from 0 for −3 to 3 for +3, of a pair of bits, the earlier first. -/
def pamLevel (gray b1 b0 : Bool) : Nat := 2 * b1.toNat + (if gray then (b0 != b1) else b0).toNat
/-- The pair of bits of a level. -/
def pamPair (gray : Bool) (l : Nat) : Bool × Bool :=
  let b1 := l.testBit 1
  (b1, if gray then (l.testBit 0 != b1) else l.testBit 0)

/-- The bits a lane's receiver decides, as a 64-bit word with the earliest in bit 0, from what stands at its input: in PAM4 the levels of 32
symbols, level l as the bits l.1 and l.0 in the order of arrival; in NRZ the 64 levels. `rx_inv` inverts the input. -/
def State.laneWord (s : State) (n v : Nat) : Nat :=
  let inv := s.actFld F.FLN_LCFG_rx_inv 0 n == 1
  let v := if inv then 18446744073709551615 - v % 18446744073709551616 else v % 18446744073709551616
  if s.actFld F.FLN_LCFG_pam4 0 n = 0 then v
  else
    (List.range 32).foldl (fun a j =>
      let p := pamPair (Tbl.get s.fln {} n).rxGray (2 * (v.testBit (2 * j)).toNat + (v.testBit (2 * j + 1)).toNat)
      a + (p.1.toNat + 2 * p.2.toNat) * 2 ^ (2 * j)) 0

/-! ### Reductions (R385, R410) -/

/-- Largest `r` with `r * r ≤ x`, for `x` below 4 ^ n. -/
def isqrt (x : Nat) : Nat → Nat
  | 0 => 0
  | n + 1 => let r := 2 * isqrt (x / 4) n; if (r + 1) * (r + 1) ≤ x then r + 1 else r

/-- A quotient rounded to nearest, a tie away from zero. -/
def nearDiv (a : Int) (b : Nat) : Int :=
  if 0 ≤ a then (2 * a + b) / (2 * (b : Int)) else -((2 * (-a) + b) / (2 * (b : Int)))

/-- A digitizer's full scale in nV. -/
def State.digFull (s : State) (w : Nat) : Nat := if s.actFld F.WAV_CFG_dig_range (w / 32) (w % 32) = 1 then 1000000000 else 10000000000

/-- The reduction of a capture's codes, in nV (log entry: rounded to nearest). -/
def State.reduce (s : State) (w : Nat) (codes : List Int) : Int :=
  let n := max 1 codes.length
  let full := s.digFull w
  let sum := codes.foldl (· + ·) 0
  let lo := codes.foldl min (codes.headD 0)
  let hi := codes.foldl max (codes.headD 0)
  let kind := s.actFld F.WAV_CFG_reduce (w / 32) (w % 32)
  match (if kind = 3 then Config.openNat 18 [w] % 3 else kind) with
  | 0 => nearDiv (sum * full) (8388608 * n)
  | 1 =>
    -- n² × variance in code units, scaled by 2⁴⁰ before the root
    let v := (n : Int) * codes.foldl (fun a x => a + x * x) 0 - sum * sum
    let r := isqrt (v.toNat * 2 ^ 80) 160
    nearDiv ((r : Int) * full) (8388608 * n * 2 ^ 40)
  | _ => nearDiv ((hi - lo) * full) 8388608

/-- A finished capture's reduction is on its way, `last` the local instant of its last sample: the slot takes it within 2 µs of the last sample's delivery. -/
def State.sendReduction (s : State) (w site : Nat) (slot : Option Nat) (last : Nat) (codes : List Int) (sat : Bool) : State :=
  if slot.isNone then s
  else
    let (d, s) := s.draw (us 2 + 1)
    let x := Tbl.get s.wav.ch {} w
    let r : Reduction := ⟨site, slot, last + s.digLatency w + d, s.reduce w codes, sat⟩
    { s with wav := { s.wav with ch := Tbl.set s.wav.ch {} w { x with red := x.red ++ [r] } } }

/-- The words a unit's segment has stored: its pre and post samples, in the order of their positions. -/
def State.segWords (s : State) (u : Nat) : List Nat :=
  let x := s.unit u
  let cap := max 1 (s.bufCap u)
  let epre := s.fld F.ACQ_EPRE_count 0 u
  let word := fun (k : Nat) => leNat (s.bytes (s.bufAddr u ((x.start + k) % cap)) (sampleSize u))
  (List.range x.pre.length).map word ++ (List.range x.post).map (fun k => word (epre + k))

/-- The reduction of a digitizer unit's full segment (R410). -/
def State.segReduce (s : State) (u : Nat) : State :=
  if u < 64 ∨ 128 ≤ u then s
  else
    match (Tbl.get s.wav.ch {} (u - 64)).caps.find? (·.isOpen) with
    | some c =>
      let l := s.segWords u
      s.sendReduction (u - 64) c.site c.slot (s.locAt (s.unit u).lastAt) (l.map (toSigned 24)) (l.any (fun w => w.testBit 24))
    | none => s

/-- A digitizer sample as its buffer holds it: code in [23:0], saturation in bit 24 (R383, R385). A reading between the full scale and its
saturation at 1.05 times it has no 24-bit code: what the code field then holds is open (log entry 55). -/
def digWord (code : Int) : Nat :=
  let c := clampInt (-8808038) 8808038 code
  (if clampInt (-8388608) 8388607 c = c then ofSigned 24 c else Config.openNat 71 [c.natAbs] % 16777216) + (if c ≠ code then 16777216 else 0)

/-- The samples a digitizer or a lane has taken since the last ones: conversions in two's complement, or what stood at the lane's input. -/
def State.feed (s : State) (u : Nat) : List Nat → State
  | [] => s
  | v :: l => if s.segFull u then s
    else
      let v := if 128 ≤ u then s.laneWord (u - 128) v else digWord (toSigned 32 v)
      State.feed (s.acqSample u (s.sampleAt u (s.unit u).count) (s.unit u).count (toLe (sampleSize u) v)) u l

/-- ACQ_SEGMENT_COMPLETE (R408): `values` are the samples of a digitizer or a lane since its previous segment; those of raw
and SMU units came one by one. The record is queued when its last post sample is stored and the log queue has a place. -/
def execAcqSegmentComplete (u : Nat) (values : List Nat) (s : State) : Host.Outcome State Fault Refusal :=
  if u ≥ 264 ∨ (32 ≤ u ∧ u < 64) then .next s
  else
    let taking := if u < 128 then (Tbl.get s.wav.ch {} (u - 64)).caps.any (·.isOpen) else s.actFld F.FLN_LCFG_rx_en 0 (u - 128) == 1 && s.bit F.FLN_LSTAT_adapted 0 (u - 128)
    let s := if s.segFull u then s else s.acqReplace u
    let s := if 64 ≤ u ∧ u < 136 ∧ taking then s.feed u values else s
    if s.segFull u && decide (s.acq.queue.length < 512) then .next ((s.segReduce u).completeSegment u) else .next s

/-! ### Dead time and hold-off (R415 to R417) -/

/-- Whether a unit has a hold-off. -/
def holds (u : Nat) : Bool := decide (64 ≤ u) && decide (u < 136)

/-- The dead time of a unit ends. -/
def State.endDead (s : State) (u : Nat) : State :=
  match (s.unit u).deadFrom with
  | none => s
  | some t0 =>
    let d := min 4294967295 ((max s.now (s.unit u).deadEnd - t0) / 4096)
    let s := (s.setFld F.ACQ_DEAD_value 0 u d).setFld F.ACQ_DEAD_MAX_value 0 u (max d (s.fld F.ACQ_DEAD_MAX_value 0 u))
    let v := s.fld F.ACQ_HOLDOFF_value 0 u
    let byEv := s.bit F.ACQ_HOLDOFF_by_events 0 u
    let s := s.modUnit u (fun x => { x with
      deadFrom := none
      holdN := if holds u && byEv then v else 0
      holdTo := if holds u && !byEv then t0 + ns v else 0 })
    if (s.unit u).arm.isNone then s
    else
      let held := decide (0 < (s.unit u).holdN) || decide (s.now < (s.unit u).holdTo)
      s.setFld F.ACQ_USTAT_state 0 u (if held then 4 else 1)

/-- Whether the dead time of a unit can end: its segment filed and the log not full (R415, R419). -/
def State.deadOver (s : State) (u : Nat) : Bool :=
  let x := s.unit u
  x.deadFrom.isSome && (x.trig.isNone) && !s.logFull

/-- DEAD_TIME_END (R415). -/
def execDeadTimeEnd (u : Nat) (s : State) : Host.Outcome State Fault Refusal :=
  if s.deadOver u then .next ((s.reach (s.unit u).deadEnd).endDead u) else .next s

/-- HOLD_OFF_END (R417): a hold-off by time runs out. -/
def execHoldOffEnd (u : Nat) (s : State) : Host.Outcome State Fault Refusal :=
  if holds u && (s.unit u).arm.isSome && (s.unit u).deadFrom.isNone && decide (0 < (s.unit u).holdTo) then
    let s := s.reach (s.unit u).holdTo
    let s := s.modUnit u (fun x => { x with holdTo := 0 })
    .next (if s.fld F.ACQ_USTAT_state 0 u = 4 ∧ (s.unit u).holdN = 0 then s.setFld F.ACQ_USTAT_state 0 u 1 else s)
  else .next s

/-- Whether a record in queue 39 disarms a unit at an instant: a fire at that instant is neither taken nor counted (R418). -/
def State.disarmDue (s : State) (u t : Nat) : Bool :=
  (s.queue 39).any (fun r => r.action == 0x48 && r.payload.testBit 32 && bitsAt r.payload 46 38 == u && r.exec == t)

/-- A fire at instant `t` reaches an armed unit (R408, R416 to R418). -/
def State.fireUnit (s : State) (u t : Nat) : State :=
  let s := if s.deadOver u && decide ((s.unit u).deadEnd ≤ t) then s.endDead u else s
  let x := s.unit u
  match x.arm with
  | none => s
  | some a =>
    if t < a.at_ ∨ s.still u ∨ s.disarmDue u t then s
    else if x.deadFrom.isSome then
      let s := s.modUnit u (fun x => { x with missedRec := min 255 (x.missedRec + 1) })
      (s.setFld F.ACQ_MISSED_value 0 u (satInc 32 (s.fld F.ACQ_MISSED_value 0 u))).setBit F.ACQ_STATUS_missed 0 0 true
    else if a.imm then s
    else if t < x.holdTo ∨ 0 < x.holdN then
      let s := s.setFld F.ACQ_HELD_value 0 u (satInc 32 (s.fld F.ACQ_HELD_value 0 u))
      let s := s.modUnit u (fun x => { x with holdN := x.holdN - 1 })
      if (s.unit u).holdN = 0 ∧ (s.unit u).holdTo ≤ t then s.setFld F.ACQ_USTAT_state 0 u 1 else s
    else
      (s.modUnit u (fun x => { x with
        trig := some t, deadFrom := some t, holdTo := 0, stamp := s.timeStamp, missedOf := x.missedRec, missedRec := 0 })).setFld F.ACQ_USTAT_state 0 u 2

/-! ### Trigger units (R399 to R404) -/

/-- A trigger unit. -/
def State.trg (s : State) (n : Nat) : TrigUnit := Tbl.get s.acq.trg {} n
/-- Changes a trigger unit. -/
def State.modTrg (s : State) (n : Nat) (f : TrigUnit → TrigUnit) : State :=
  { s with acq := { s.acq with trg := Tbl.set s.acq.trg {} n (f (s.trg n)) } }
/-- A TRIG_OUT ball. -/
def State.ball (s : State) (n : Nat) : TrigBall := Tbl.get s.acq.balls {} n
/-- Gives a TRIG_OUT ball a state. -/
def State.setBall (s : State) (n : Nat) (b : TrigBall) : State := { s with acq := { s.acq with balls := Tbl.set s.acq.balls {} n b } }
/-- The level of a TRIG_OUT ball now; source 63 holds it low. -/
def State.ballHigh (s : State) (n : Nat) : Bool :=
  (s.ball n).high && s.fld F.TRG_OUT_CFG_src 0 n != 63 && (match (s.ball n).until_ with | some t => decide (s.now < t) | none => true)

/-- A fire of trigger unit `n` at instant `t`, but for the units it triggers in turn. -/
def State.fireOne (s : State) (n t : Nat) : State :=
  let s := s.modTrg n (fun x => { x with fires := x.fires + 1, lastFire := t })
  let s := s.setBitIn F.TRG_STATUS_fired 0 0 n
  let s :=
    if s.bit F.TRG_ROUTE_thr_en 0 n then
      (bitsOf 8 (s.fld F.TRG_ROUTE_tmask 0 n)).foldl (fun s i =>
        let k := 8 * s.fld F.TRG_ROUTE_course 0 n + i
        let s := s.modThr k (fun x => { x with trigSeen := true })
        if s.bit F.TRG_ROUTE_evt_en 0 n then s.setEvt k (s.fld F.TRG_ROUTE_evt 0 n) else s) s
    else s
  let s := (List.range 4).foldl (fun s b =>
    if s.fld F.TRG_OUT_CFG_src 0 b = n ∧ !s.inSafe then
      s.setBall b ⟨true, some (s.now + ns (max 2 (s.fld F.TRG_OUT_CFG_width_ns 0 b)))⟩
    else s) s
  s.acq.un.foldl (fun s e =>
    match e.2.arm with
    | some a => if a.tunit = n then s.fireUnit e.1 t else s
    | none => s) s

/-- An event of trigger unit `n` at instant `t`: it is merged with one less than 2 ns before it, itself merged or not (DEDUCED, log entry 54), counted, or completes the count and fires; fires pass on to the
units whose source they are (at most 16 in a chain). -/
def State.trigEvent (fuel : Nat) (s : State) (n t : Nat) : State :=
  match fuel with
  | 0 => s
  | fuel + 1 =>
    if !s.bit F.TRG_CFG_en 0 n || s.fld F.TRG_CFG_edge 0 n == 0 then s
    else
      let near := match (s.trg n).lastEvent with | some l => decide (t < l + ns 2) | none => false
      let s := s.modTrg n (fun x => { x with lastEvent := some t })
      if near then s
      else
        let need := max 1 (s.fld F.TRG_COUNT_count 0 n)
        if (s.trg n).events + 1 < need then s.modTrg n (fun x => { x with events := x.events + 1 })
        else
          let s := (s.modTrg n (fun x => { x with events := 0 })).fireOne n t
          let next := (List.range 16).filter (fun m =>
            s.fld F.TRG_CFG_src 0 m == 0x0B && s.fld F.TRG_PARAM_object 0 m % 16 == n && m != n)
          next.foldl (fun s m => s.trigEvent fuel m t) s

/-- An event of a source, of the edges in `edge` (1 rising, 2 falling, 3 one that is neither), at instant `t`, for every trigger unit that watches
it. A unit with edge 0b00 takes none. -/
def State.sourceEvent (s : State) (src edge t : Nat) (object : Option Nat) : State :=
  (List.range 16).foldl (fun s n =>
    let mine : Bool := match object with | some x => s.fld F.TRG_PARAM_object 0 n == x | none => true
    if s.fld F.TRG_CFG_src 0 n == src && mine && (s.fld F.TRG_CFG_edge 0 n &&& edge) != 0 then s.trigEvent 16 n t else s) s

/-- A bond frame or message: the first copy of one whose type and bond ID a unit with source 0x09 names is an event for it. -/
def State.frameEvent (s : State) (kind bond inst : Nat) : State :=
  (List.range 16).foldl (fun s n =>
    let repeats := kind == 2 || kind == 3 || kind == 4 || kind == 0xB
    if s.fld F.TRG_CFG_src 0 n == 0x09 && s.fld F.TRG_PARAM_ftype 0 n == kind && s.fld F.TRG_PARAM_bond 0 n == bond &&
        s.fld F.TRG_CFG_edge 0 n != 0 && !(repeats && (s.trg n).frame == some (kind, bond, inst)) then
      (s.modTrg n (fun x => { x with frame := some (kind, bond, inst) })).trigEvent 16 n s.now
    else s) s

/-- Whether a source code names an input that only the outside of the block knows: a TRIG_IN ball, a pin comparator, a digitizer level. The events
of the other sources of Table 13.3 follow from what the block itself does. -/
def outsideSrc (c : Nat) : Bool := decide (c ≤ 0x03) || c == 0x40 || c == 0x42

/-- How long after the crossing an input's filter decides (R149, R400, R401): M timing-plane cycles for TRIG_IN and a pin comparator. -/
def State.trigDelay (s : State) (n : Nat) : Nat :=
  if s.fld F.TRG_CFG_src 0 n = 0x42 then 0
  else 640 * filtNeed (s.fld F.TRG_CFG_filt_n 0 n) (s.fld F.TRG_CFG_filt_m 0 n)

/-- TRIGGER_EVENT (R399 to R402): the input that unit `n` watches gives an event: `at_` is the domain instant of the crossing that began the run
its filter accepts, or that a digitizer's level crossing is interpolated to. -/
def execTriggerEvent (n at_ : Nat) (s : State) : Host.Outcome State Fault Refusal :=
  if n < 16 ∧ outsideSrc (s.fld F.TRG_CFG_src 0 n) ∧ s.fld F.TRG_CFG_edge 0 n ≠ 0 then .next ((s.reach (at_ + s.trigDelay n)).trigEvent 16 n at_)
  else .next s

/-- A trigger unit that is enabled counts from nothing (R402). -/
def State.trgEnabled (s : State) (n : Nat) : State := s.modTrg n (fun x => { x with events := 0, lastEvent := none, frame := none })

/-- OD 0x7400 + n.08. -/
def wrSoftEvent (h : Hdr) (n : Nat) (d : Sys2Proof.Data) (s : State) : State × Nat :=
  s.item490 h d tBool anyLen false (fun s =>
    (if dFlag d && s.fld F.TRG_CFG_src 0 n == 0x0A then s.trigEvent 16 n s.now else s, eOk))

/-- SOFTWARE_EVENT (R399). -/
def execSoftwareEvent (h : Hdr) (d : Sys2Proof.Data) (n : Nat) (s : State) : Host.Outcome State Fault Refusal :=
  if n ≥ 16 then .next s else .next (s.hostItem (.softwareEvent h d n) h (wrSoftEvent h n d))

/-- A MARKER ball. -/
def State.marker (s : State) (m : Nat) : MarkerBall := Tbl.get s.pat.marker {} m
/-- Gives a MARKER ball a state. -/
def State.setMarker (s : State) (m : Nat) (b : MarkerBall) : State := { s with pat := { s.pat with marker := Tbl.set s.pat.marker {} m b } }

/-- TRIG_OUT (R404): the record sets or pulses a ball whose source is records. In Safe it is dropped uncounted: the ball is held (R137), and R140's
count is of records for DUT-facing targets, which a trigger ball is taken not to be (log entry 50). -/
def execTrigOut (s : State) : Host.Outcome State Fault Refusal :=
  match s.takeHead 39 0x40 with
  | none => .next s
  | some (r, s) =>
    let n := if r.target < 4 then r.target else Config.openNat 11 [r.target] % 4
    let op := if bitsAt r.payload 46 45 = 3 then Config.openNat 12 [r.payload] % 3 else bitsAt r.payload 46 45
    if s.inSafe ∨ s.fld F.TRG_OUT_CFG_src 0 n ≠ 32 then .next s
    else .next (s.setBall n (match op with
      | 0 => ⟨false, none⟩
      | 1 => ⟨true, none⟩
      | _ => ⟨true, some (s.now + ns (max 2 (r.payload % 4294967296)))⟩))

/-- The level a MARKER ball has after its pending changes. -/
def MarkerBall.last (b : MarkerBall) : Bool := match b.due.getLast? with | some e => e.2 | none => b.high
/-- The instant of the rise that its last level follows from. -/
def MarkerBall.lastRise (b : MarkerBall) : Int :=
  match (b.due.filter (fun (e : Int × Bool) => e.2)).getLast? with
  | some e => e.1
  | none => (b.rises : Int)

/-- A rise at instant `a` with a source and an offset, which take effect with it; a rise inside a 2 ns extension merges with it (R231). -/
def MarkerBall.rise (b : MarkerBall) (a : Int) (src : Nat) (off : Int) : MarkerBall :=
  if b.last then b
  else
    match b.due.getLast? with
    | some e => if a ≤ e.1 then { b with due := b.due.dropLast } else { b with due := b.due ++ [(a, true)], src := src, offset := off }
    | none => { b with due := [(a, true)], src := src, offset := off }

/-- A fall at instant `a`; a high lasts 2 ns at least (R231). -/
def MarkerBall.fall (b : MarkerBall) (a : Int) : MarkerBall :=
  if b.last then { b with due := b.due ++ [(max a (b.lastRise + (ns 2 : Nat)), false)] } else b

/-- Changes whose instants have come. -/
def MarkerBall.settle (b : MarkerBall) (now : Nat) : MarkerBall :=
  let due := b.due.filter (fun (e : Int × Bool) => decide (e.1 ≤ (now : Int)))
  due.foldl (fun b e => { b with high := e.2, rises := if e.2 then e.1.toNat else b.rises })
    { b with due := b.due.filter (fun (e : Int × Bool) => !decide (e.1 ≤ (now : Int))) }

/-- The source a MARKER ball listens to: while it is high, the one in force at its rise; else the one PAT_MARK selects (R230). -/
def State.markSrc (s : State) (m : Nat) (b : MarkerBall) : Nat := if b.last then b.src else s.fld F.PAT_MARK_src 32 m

/-- MARKER_OUT (R230, R404): the record sets or pulses a MARKER ball whose selection in force is records. Dropped uncounted in Safe, as TRIG_OUT. -/
def execMarkerOut (s : State) : Host.Outcome State Fault Refusal :=
  match s.takeHead 39 0x41 with
  | none => .next s
  | some (r, s) =>
    let n := if r.target < 4 then r.target else Config.openNat 11 [r.target] % 4
    let op := if bitsAt r.payload 46 45 = 3 then Config.openNat 12 [r.payload] % 3 else bitsAt r.payload 46 45
    let now := s.tb.loc
    let b := (s.marker n).settle now
    if s.inSafe ∨ s.markSrc n b ≠ 32 then .next s
    else
      -- a later record prevails over a pulse still running
      let b := { b with due := [] }
      let up := fun (s : State) => if b.last then s else s.sourceEvent (4 + n) 1 s.now none
      .next (match op with
        | 0 => (if b.last then s.sourceEvent (4 + n) 2 s.now none else s).setMarker n (b.fall now)
        | 1 => (up s).setMarker n (b.rise now 32 0)
        | _ =>
          let w := ns (max 2 (r.payload % 4294967296))
          ((up s).sourceEvent (4 + n) 2 (s.now + w) none).setMarker n ((b.rise now 32 0).fall (now + w : Nat)))

/-- ACQ_ARM (R398, R405 to R407): the record arms, re-arms or disarms a unit. -/
def execAcqArm (s : State) : Host.Outcome State Fault Refusal :=
  match s.takeHead 39 0x48 with
  | none => .next s
  | some (r, s) =>
    let p := r.payload
    let u0 := bitsAt p 46 38
    let u := if u0 < 264 ∧ !(32 ≤ u0 ∧ u0 < 64) then u0 else 64 + Config.openNat 13 [u0] % 200
    let lane := decide (128 ≤ u) && decide (u < 136)
    if s.inSafe then .next (s.discardInSafe r)
    else if lane && s.md.mode != .lineRate && s.md.mode != .survey then .next s.countLimit
    else if !s.unitEn u || (decide (64 ≤ u) && decide (u < 128) && !s.wav.digMask.testBit (u - 64)) then
      .next ((s.setBit F.ACQ_STATUS_no_rsv 0 0 true).report 57 sevAdvisory (detail clsUnit u))
    else if p.testBit 32 then .next (s.disarm u)
    else
      let th := if r.thread < 256 then some r.thread else none
      let t0 := r.step.getD 0
      let a : Arm := ⟨s.now, bitsAt p 37 34, p.testBit 33, bitsAt p 31 16, p.testBit 15, bitsAt p 14 13, th, r.site, false, t0, s.tb.loc⟩
      let s := s.armUnit u a
      -- a fire at the arm's instant is seen by it, whichever came first (R418)
      .next (if 0 < (s.trg a.tunit).fires ∧ (s.trg a.tunit).lastFire = a.at_ then s.fireUnit u a.at_ else s)

/-- OD 0x7008.00: arm now. -/
def wrArmNow (h : Hdr) (d : Sys2Proof.Data) (s : State) : State × Nat :=
  s.item490 h d tU64 anyLen false (fun s =>
    (s.enterRecord 39 (s.now + us 10) 0 0x48 true 0 (clrBitAt (dNat d % 2 ^ 47) 15) 256, eOk))

/-- ARM_NOW (R405). -/
def execArmNow (h : Hdr) (d : Sys2Proof.Data) (s : State) : Host.Outcome State Fault Refusal :=
  .next (s.hostItem (.armNow h d) h (wrArmNow h d))

/-- OD 0x7002.00. -/
def wrDisarmAll (h : Hdr) (d : Sys2Proof.Data) (s : State) : State × Nat :=
  s.item490 h d tBool anyLen false (fun s => (if dFlag d then s.disarmAll else s, eOk))

/-- DISARM_ALL (R406). -/
def execDisarmAll (path : Path) (s : State) : Host.Outcome State Fault Refusal :=
  match path with
  | .od h d => .next (s.hostItem (.disarmAll path) h (wrDisarmAll h d))
  | .reg => .next s.disarmAll

/-! ### Configuration (R395, R397, R422) -/

/-- Enables or disables a unit; a refused enable changes nothing. -/
def State.enableUnit (s : State) (u : Nat) (on : Bool) : State × Nat :=
  if !on then
    let s := if (s.unit u).arm.isSome then s.disarm u else s
    (s.setBit F.ACQ_UCFG_en 0 u false, eOk)
  else if s.unitEn u then (s, eOk)
  else if !s.bufPlaced u then (s, eAddrRange)
  else
    let s' := s.setBit F.ACQ_UCFG_en 0 u true
    if s'.fits s.md.mode then (s', eOk) else (s, eCalendarFull)

/-- A register write of ACQ_UCFG.en: a refusal by the calendar sets cal_refused. -/
def State.regEnable (s : State) (u : Nat) (on : Bool) : State :=
  let (s', e) := s.enableUnit u on
  if e = eCalendarFull then s'.setBit F.ACQ_STATUS_cal_refused 0 0 true else s'

/-- OD 0x7100 + u.01: the ACQ_UCFG image. -/
def wrUnitCfg (h : Hdr) (u : Nat) (d : Sys2Proof.Data) (s : State) : State × Nat :=
  s.item490 h d tU32 anyLen (s.unitEn u) (fun s =>
    -- reserved bits [25:20] (R4)
    let (w, s) := if bitsAt (dNat d) 25 20 = 0 then (dNat d, s) else s.draw 4294967296
    let s' := [F.ACQ_UCFG_rmode, F.ACQ_UCFG_content, F.ACQ_UCFG_overwrite, F.ACQ_UCFG_interval_us].foldl
      (fun s f => s.setFld f 0 u (w / 2 ^ f.lo)) s
    let (s'', e) := s'.enableUnit u (w.testBit 31)
    if e = eOk then (s'', eOk) else (s, e))

/-- ACQ_UNIT_ENABLE (R395, R397): through the unit's image, or the register bit `on`. -/
def execAcqUnitEnable (path : Path) (u : Nat) (on : Bool) (s : State) : Host.Outcome State Fault Refusal :=
  if u ≥ 264 then .next s
  else .next (s.viaPath (.acqUnitEnable path u on) path (fun h d => wrUnitCfg h u d) (fun s => s.regEnable u on))

/-- OD 0x7100 + u.02: first line, line count, write index, read index. -/
def wrUnitBuf (h : Hdr) (u : Nat) (d : Sys2Proof.Data) (s : State) : State × Nat :=
  s.item490 h d tBlob (· == 16) false (fun s =>
    let free := if 32 ≤ u ∧ u < 64 then decide (s.fld F.APG_FC_CFG_mode (u - 32) = 0) else !s.unitEn u
    let s := if free then
        (s.setFld F.ACQ_BUF_FIRST_lines 0 u (dSub d 0 4)).setFld F.ACQ_BUF_LEN_lines 0 u (dSub d 4 4)
      else s
    (s.hostRd u (dSub d 12 4), eOk))

/-- OD 0x7100 + u.03: staged pre and post. -/
def wrUnitCounts (h : Hdr) (u : Nat) (d : Sys2Proof.Data) (s : State) : State × Nat :=
  s.item490 h d tBlob (· == 8) false (fun s =>
    ((s.setFld F.ACQ_PRE_count 0 u (dSub d 0 4)).setFld F.ACQ_POST_count 0 u (dSub d 4 4), eOk))

/-- OD 0x7100 + u.05: hold-off, in ps or fires. -/
def wrUnitHold (h : Hdr) (u : Nat) (d : Sys2Proof.Data) (s : State) : State × Nat :=
  s.item490 h d tBlob (· == 9) false (fun s =>
    let ev := decide (dSub d 0 1 ≠ 0)
    let v := dSub d 1 8
    let s := s.setBit F.ACQ_HOLDOFF_by_events 0 u ev
    (s.setFld F.ACQ_HOLDOFF_value 0 u (min 2147483647 (if ev then v else (v + 500) / 1000)), eOk))

/-- ACQ_UNIT_CONFIG_WRITE (R397): function 1 the image, 2 the buffer, 3 the staged counts, 5 the hold-off. -/
def execAcqUnitConfigWrite (h : Hdr) (d : Sys2Proof.Data) (u fn : Nat) (s : State) : Host.Outcome State Fault Refusal :=
  if u ≥ 264 then .next s
  else
    let i := Instr.acqUnitConfigWrite h d u fn
    match fn with
    | 1 => .next (s.hostItem i h (wrUnitCfg h u d))
    | 2 => .next (s.hostItem i h (wrUnitBuf h u d))
    | 3 => .next (s.hostItem i h (wrUnitCounts h u d))
    | 5 => .next (s.hostItem i h (wrUnitHold h u d))
    | _ => .next (s.hostItem i h (fun s => (s, eNoSubindex)))

/-- ACQ_READ_INDEX_WRITE (R396): through the buffer entry, or the register with value `v`. -/
def execAcqReadIndexWrite (path : Path) (u v : Nat) (s : State) : Host.Outcome State Fault Refusal :=
  if u ≥ 264 then .next s
  else
    match path with
    | .od h d => .next (s.hostItem (.acqReadIndexWrite path u v) h (wrUnitBuf h u d))
    | .reg => .next (s.hostRd u (v % 4294967296))

/-- OD 0x7005.00. -/
def wrCapAck (h : Hdr) (d : Sys2Proof.Data) (s : State) : State × Nat :=
  s.item490 h d tU64 anyLen false (fun s => (s.ackLog (dNat d), eOk))

/-- CAPTURE_LOG_ACKNOWLEDGE (R419). -/
def execCaptureLogAcknowledge (h : Hdr) (d : Sys2Proof.Data) (s : State) : Host.Outcome State Fault Refusal :=
  .next (s.hostItem (.captureLogAcknowledge h d) h (wrCapAck h d))

end Sys2Proof.Machine
end

