-- ==== Sys2Proof/Machine/Reckoner.lean ====
section
/-! DEFINITION. The Reckoner: items, arrivals, limits, statistics, bins, result records and the result ring (R318 to R334). -/

namespace Sys2Proof.Machine

/-! ### Items (Table 10.5) -/

/-- An item read as a signed 64-bit value. -/
def State.itemI (s : State) (site i : Nat) : Int := toSigned 64 (s.item site i)
/-- Writes a signed 64-bit value. -/
def State.setItemI (s : State) (site i : Nat) (x : Int) : State := s.setItem site i (ofSigned 64 x)

/-- Sets an item's ready flag (R320). -/
def State.setReady (s : State) (site i : Nat) : State :=
  { s with rk := { s.rk with ready := if s.rk.ready.contains (8192 * site + i) then s.rk.ready else s.rk.ready ++ [8192 * site + i] } }
/-- Clears an item's ready flag. -/
def State.clrReady (s : State) (site i : Nat) : State :=
  { s with rk := { s.rk with ready := removeNat s.rk.ready (8192 * site + i) } }
/-- Condition 36: some ready flag of the site is set. -/
def State.measReady (s : State) (site : Nat) : Bool := s.rk.ready.any (fun k => k / 8192 == site)

/-- The unsigned 128-bit sum of squares of accumulator k. -/
def State.accSq (s : State) (site k : Nat) : Nat :=
  s.item site (0x300 + 8 * k + 2) + 18446744073709551616 * s.item site (0x300 + 8 * k + 3)

/-- Integer division rounded toward zero. -/
def divZero (a : Int) (b : Int) : Int := Int.tdiv a b

/-- The mean of accumulator k: (sum / n) shifted left by the latched sh (R324). -/
def State.accMean (s : State) (site k : Nat) : Nat :=
  let n := s.item site (0x300 + 8 * k)
  if n = 0 then 0
  else ofSigned 64 (divZero (s.itemI site (0x300 + 8 * k + 1)) n * (2 ^ Tbl.get s.rk.latch 0 (32 * site + k) : Nat))

/-- The variance of accumulator k, saturating at 2⁶³ − 1 (R324). -/
def State.accVar (s : State) (site k : Nat) : Nat :=
  let n := s.item site (0x300 + 8 * k)
  if n = 0 then 0
  else
    let sum := s.itemI site (0x300 + 8 * k + 1)
    let v := divZero ((s.accSq site k : Int) - divZero (sum * sum) n) n
    ofSigned 64 (min v 9223372036854775807)

/-- An item as it is read: reserved items read 0, mean and var are derived. -/
def State.itemRead (s : State) (site i : Nat) : Nat :=
  if 0x300 ≤ i ∧ i < 0x400 then
    if i % 8 = 6 then s.accMean site ((i - 0x300) / 8)
    else if i % 8 = 7 then s.accVar site ((i - 0x300) / 8)
    else s.item site i
  else if i < 0x006 ∨ (0x008 ≤ i ∧ i ≤ 0x00D) ∨ (0x0A0 ≤ i ∧ i < 0x0C0) ∨ (0x100 ≤ i ∧ i < 0x700) then s.item site i
  else 0

/-- Whether RKWR may write an item. -/
def itemRw (i : Nat) : Bool :=
  i == 0x002 || i == 0x008 || i == 0x009 || (decide (0x100 ≤ i) && decide (i < 0x200)) || (decide (0x400 ≤ i) && decide (i < 0x700))

/-- What R326 protects at this instant of an item: the hardware increments it has taken at it (items 8 and 9), or that it was written (item 2). -/
def State.sameInstant (s : State) (site i : Nat) : Option Nat :=
  match Tbl.find s.rk.same (8192 * site + i) with
  | some e => if e.1 = s.tb.loc then some e.2 else none
  | none => none
/-- Notes an update for R326. -/
def State.noteSame (s : State) (site i n : Nat) : State :=
  { s with rk := { s.rk with same := Tbl.put s.rk.same (8192 * site + i) (s.tb.loc, n) } }
/-- A hardware increment of item 8 or 9. -/
def State.itemAdd (s : State) (site i n : Nat) : State :=
  (s.setItem site i (s.item site i + n)).noteSame site i ((s.sameInstant site i).getD 0 + n)

/-- RKWR of an item; RO and reserved items take nothing (R319). What is written stands, with the increments of its instant added (R326). -/
def State.itemWrite (s : State) (site i v : Nat) : State :=
  if i = 0x002 then (s.setItem site i (v % 65536)).noteSame site i 0
  else if i = 0x008 ∨ i = 0x009 then s.setItem site i (v + (s.sameInstant site i).getD 0)
  else if itemRw i then s.setItem site i v
  else s

/-- What an RKRD clears: the item's ready flag, or CKPT for item 0x00A. -/
def State.itemTaken (s : State) (site i : Nat) : State :=
  if i = 0x00A then { s with rk := { s.rk with ckpt := removeNat s.rk.ckpt site } } else s.clrReady site i

/-! ### Records (R327 to R333) -/

/-- The post queue of a thread, oldest first. -/
def State.postQ (s : State) (k : Nat) : List ResRec := Tbl.get s.rk.posts [] k
/-- Gives a thread its post queue. -/
def State.setPostQ (s : State) (k : Nat) (l : List ResRec) : State := { s with rk := { s.rk with posts := Tbl.set s.rk.posts [] k l } }

/-- The last sequence number written. -/
def State.wseq (s : State) : Nat := s.pair F.RCK_WSEQ_LO_seq F.RCK_WSEQ_HI_seq 32
/-- The last sequence number acknowledged. -/
def State.aseq (s : State) : Nat := s.pair F.RCK_ASEQ_LO_seq F.RCK_ASEQ_HI_seq 32
/-- Places of the ring (R332). -/
def ringSize : Nat := 4194304
/-- Records in the ring. -/
def State.ringUse (s : State) : Nat := s.wseq - s.aseq
/-- Whether the ring is full (R333). -/
def State.ringFull (s : State) : Bool := s.bit F.RCK_RING_STATUS_full 32

/-- Releases the ring holds of threads whose post queue is empty, while the ring is not full (R330, R333). -/
def State.dropRingHolds (s : State) : State :=
  if s.ringFull then s
  else (List.range 256).foldl (fun s k =>
    if (s.thr k).holds.contains .ringFull && (s.postQ k).isEmpty then s.dropHold k .ringFull else s) s

/-- The ring's full and high-water flags after its occupancy has changed (R333). -/
def State.ringMoved (s : State) : State :=
  let free := ringSize - s.ringUse
  let full := decide (free < 8448)
  let s :=
    if full && !s.ringFull then
      ((s.setBit F.RCK_RING_STATUS_full 32 0 true).setBit F.RCK_RING_STATUS_full_hit 32 0 true).report 58 sevAdvisory (detail clsNone 0)
    else s.setBit F.RCK_RING_STATUS_full 32 0 full
  let above := decide (min 100 (s.fld F.RCK_RING_CFG_hwm_pct 32) * ringSize ≤ 100 * s.ringUse)
  let s :=
    if above && !s.bit F.RCK_RING_STATUS_above_hwm 32 then
      ((s.setBit F.RCK_RING_STATUS_above_hwm 32 0 true).setBit F.RCK_RING_STATUS_hwm_hit 32 0 true).report 58 sevAdvisory (detail clsNone 0)
    else s.setBit F.RCK_RING_STATUS_above_hwm 32 0 above
  s.dropRingHolds

/-- Record kinds (Table 10.7). -/
def kStep : Nat := 0
def kPost : Nat := 1
def kFinish : Nat := 2
def kEnd : Nat := 3
def kAbandon : Nat := 4

/-- The record a site's home thread `k` would post now for step `st` (Table 10.7). -/
def State.recordOf (s : State) (k kind : Nat) (st : Option Step) : ResRec :=
  let site := s.siteOf k
  let user := fun (f : Fld) => s.item site (0x100 + s.fld f (k / 8) (k % 8) % 256)
  { t0 := (st.map (·.t0)).getD 0
    gsite := s.chip18 * 256 + site + (if s.unassigned then 67108864 else 0)
    bin := s.item site 2, marks := s.item site 1, kind
    opcode := (st.map (·.opcode)).getD 0, spc := (st.map (·.spc)).getD 0
    steps := min 65535 (s.item site 3), fails := min 4294967295 (s.item site 8), failsCum := min 4294967295 (s.item site 9)
    p0 := user F.RCK_POST_p0, p1 := user F.RCK_POST_p1, p2 := user F.RCK_POST_p2 }

/-- Posts a record for the site of thread `k` (R329, R330): items 0x001 and 0x003 clear with it (R328). -/
def State.postFor (s : State) (k kind : Nat) (st : Option Step) : State :=
  if kind ≠ kAbandon ∧ 32 ≤ (s.thr k).posts then
    let s := { s with rk := { s.rk with discarded := s.rk.discarded + 1 } }
    (s.setBit F.RCK_STATUS_post_lost (k / 8) 0 true).report 58 sevAdvisory (detail clsNone 0)
  else
    let s := s.setPostQ k (s.postQ k ++ [s.recordOf k kind st])
    let s := if kind = kAbandon then s else s.modThr k (fun x => { x with posts := x.posts + 1 })
    (s.setItem (s.siteOf k) 1 0).setItem (s.siteOf k) 3 0

/-- Posts a record about the thread's current step. -/
def State.post (s : State) (k kind : Nat) : State := s.postFor k kind (s.thr k).cur

/-- A result record as it is stored (Table 10.7). -/
def ResRec.bytes (r : ResRec) : List Byte :=
  toLe 8 r.seq ++ toLe 2 (r.t0 % 4096 * 16) ++ toLe 8 (r.t0 / 4096) ++ toLe 4 r.gsite ++ toLe 2 r.bin ++ toLe 2 r.marks ++ toLe 1 r.kind ++
    toLe 1 r.opcode ++ toLe 2 r.spc ++ toLe 2 r.steps ++ toLe 4 r.fails ++ toLe 4 r.failsCum ++ toLe 8 r.p0 ++ toLe 8 r.p1 ++ toLe 8 r.p2

/-- RESULT_RECORD_WRITE (R331): the head of a thread's post queue enters the ring with the next number when it has a place. -/
def execResultRecordWrite (k : Nat) (s : State) : Host.Outcome State Fault Refusal :=
  match s.postQ k with
  | [] => .next s
  | r :: rest =>
    if s.ringUse ≥ ringSize then .next s
    else
      let n := s.wseq + 1
      let s := s.setPostQ k rest
      let r := { r with seq := n }
      -- lines from 1,068,498,944 on, in the order of the numbers (log entry 31)
      let s := ({ s with rk := { s.rk with ring := s.rk.ring ++ [r] } }).setBytes (64 * (1068498944 + (n - 1) % ringSize)) r.bytes
      let s := s.setPair F.RCK_WSEQ_LO_seq F.RCK_WSEQ_HI_seq 32 0 n
      .next s.ringMoved

/-- Acknowledges every record up to a sequence number (R332); a number above the last one written is a host error
of the ring, which takes an open one. -/
def State.ackRing (s : State) (v : Nat) : State :=
  if v ≤ s.aseq then s
  else
    let (v, s) := if s.wseq < v then s.draw 18446744073709551616 else (v, s)
    let s := { s with rk := { s.rk with ring := s.rk.ring.filter (fun r => decide (v < r.seq)) } }
    (s.setPair F.RCK_ASEQ_LO_seq F.RCK_ASEQ_HI_seq 32 0 v).ringMoved

/-- OD 0x6F02.00. -/
def wrRingAck (h : Hdr) (d : Sys2Proof.Data) (s : State) : State × Nat :=
  s.item490 h d tU64 anyLen false (fun s => (s.ackRing (dNat d), eOk))

/-- RING_ACKNOWLEDGE (R332). -/
def execRingAcknowledge (h : Hdr) (d : Sys2Proof.Data) (s : State) : Host.Outcome State Fault Refusal :=
  .next (s.hostItem (.ringAcknowledge h d) h (wrRingAck h d))

/-! ### Arrivals (R320 to R326) -/

/-- The limit test of slot `r`, for the result of a step of T0 `t0` (R322). -/
def State.limitTest (s : State) (site r : Nat) (x : Int) (cfg : Nat) (t0 : Option Nat) : State :=
  let pass := decide (s.itemI site (0x400 + 2 * r) ≤ x) && decide (x ≤ s.itemI site (0x401 + 2 * r))
  let s := s.setItem site 0x00D (r + 256 * pass.toNat)
  let s := { s with rk := { s.rk with tested := Tbl.put s.rk.tested site pass } }
  if pass then s
  else
    let s := match t0, s.homeOf site with
      | some t, some k => s.markAt k t mkOutLimit
      | _, _ => s.markSite site mkOutLimit
    let s := if cfg.testBit 13 && s.item site 2 == 0 && (s.sameInstant site 2).isNone then s.setItem site 2 (bitsAt cfg 31 16) else s
    if cfg.testBit 14 then { s with rk := { s.rk with stopAsked := insertAsc s.rk.stopAsked site } } else s

/-- The accumulation of slot `r` (R323). -/
def State.accumulate (s : State) (site : Nat) (x : Int) (cfg : Nat) : State :=
  let k := bitsAt cfg 6 2
  let sh := bitsAt cfg 12 7
  let b := 0x300 + 8 * k
  let v := x / (2 ^ sh : Nat)
  let n := s.item site b + 1
  let s := if n = 1 then { s with rk := { s.rk with latch := Tbl.set s.rk.latch 0 (32 * site + k) sh } } else s
  let sum := s.itemI site (b + 1) + v
  let sum' := clampInt (-9223372036854775808) 9223372036854775807 sum
  let sq := s.accSq site k + (v * v).toNat
  let sq' := min sq (2 ^ 128 - 1)
  let lo := if n = 1 then x else min (s.itemI site (b + 4)) x
  let hi := if n = 1 then x else max (s.itemI site (b + 5)) x
  let s := s.setItem site b n
  let s := s.setItemI site (b + 1) sum'
  let s := (s.setItem site (b + 2) (sq' % 18446744073709551616)).setItem site (b + 3) (sq' / 18446744073709551616)
  let s := (s.setItemI site (b + 4) lo).setItemI site (b + 5) hi
  if sum' ≠ sum ∨ sq' ≠ sq then
    let s := s.setItem site 0x00C (setBitAt (s.item site 0x00C) k)
    match s.homeCourse site with
    | some c => s.setBit F.RCK_STATUS_stat_sat c 0 true
    | none => s
  else s

/-- Whether an instant lies in a step's interval [t0, t0 + d). -/
def Step.covers (x : Step) (t : Nat) : Bool :=
  decide (x.t0 ≤ t) && (match x.d with | some d => decide (t < x.t0 + d) | none => x.st != .ended)

/-- `n` failing pin compares of a vector that started at domain instant `t` reach a site; `pins` are those of its home Course (R321, R328). -/
def State.addFails (s : State) (site n pins t : Nat) : State :=
  match s.homeOf site with
  | none => s
  | some k =>
    let x := s.thr k
    let live := match x.step with
      | some st => st.covers t
      | none => false
    if n = 0 then s
    else if live then
      let s := s.itemAdd site 8 n
      let s := s.setItem site 0x00B (s.item site 0x00B ||| pins)
      s.modStep k (fun st => { st with fails := true })
    else s.modThr k (fun x => { x with olds := x.olds.map (fun st => if st.covers t then { st with failN := st.failN + n, fails := true } else st) })

/-- Posts a site's fail count at a checkpoint: item 0x00A and CKPT (R205). -/
def State.takeCkpt (s : State) (site : Nat) : State :=
  let s := s.setItem site 0x00A (s.item site 8)
  { s with rk := { s.rk with ckpt := insertAsc s.rk.ckpt site } }

/-- Whether a result of a step is still on its way: a measurement, a fail count, or the fails of a vector in progress. -/
def State.awaits (s : State) (site : Nat) (st : Step) : Bool :=
  !st.waiting.isEmpty || s.rk.inbox.any (fun a => a.site == site && a.order == 0 && st.covers a.t0) ||
    s.pat.st.any (fun (e : Nat × Stream) =>
      match e.2.held with
      | some h => st.covers h.dom && h.vs.any (fun v => v.fail && v.site == some site)
      | none => false)

/-- A completed vendor step posts its STEP record when RCK_POST asks for one (R329). -/
def State.postStep (s : State) (k : Nat) (st : Step) (marks : Nat) : State :=
  let mode := s.fld F.RCK_POST_post_mode (k / 8) (k % 8)
  let vendor := st.kind != .routine && st.kind != .issue
  if vendor && (mode == 1 || (mode == 2 && marks != 0)) then s.postFor k kStep (some st) else s

/-- Completes earlier steps of a thread, oldest first (R321, R328). -/
def State.completeOlds (s : State) (k : Nat) : List Step → State
  | [] => s
  | st :: l =>
    let site := s.siteOf k
    if s.awaits site st then s
    else
      let s := s.modThr k (fun x => { x with olds := l })
      let s := s.itemAdd site 9 st.failN
      (s.postStep k st st.marks).completeOlds k l

/-- Completes the site's current step when it has ended and nothing is on its way (R321), and posts its STEP record (R329). -/
def State.tryComplete (s : State) (site : Nat) : State :=
  match s.homeOf site with
  | none => s
  | some k =>
    let s := s.completeOlds k (s.thr k).olds
    match (s.thr k).step with
    | none => s
    | some st =>
      if st.complete || st.st != .ended || s.awaits site st then s
      else
        let s := s.itemAdd site 9 (s.item site 8)
        let s := s.modStep k (fun st => { st with complete := true })
        s.postStep k st (s.item site 0)

/-- Takes an arrived result off the earliest step that waits for it. -/
def takeResult (obj : Nat) (clamp : Bool) (x : Thread) : Thread :=
  let t := fun (st : Step) => { st with waiting := removeNat st.waiting obj, clamp := st.clamp || clamp }
  match x.olds.find? (fun st => st.waiting.contains obj) with
  | some o => { x with olds := x.olds.map (fun st => if st = o then t st else st) }
  | none => { x with step := x.step.map t }

/-- T0 of the step that a result belongs to: the earliest that waits for it, or the current one. -/
def State.resultStep (s : State) (site obj : Nat) : Option Nat :=
  match s.homeOf site with
  | none => none
  | some k =>
    let x := s.thr k
    (((x.olds.find? (fun st => st.waiting.contains obj)).orElse (fun _ => x.step)).map (·.t0))

/-- Whether one arrival is taken before another (R326). -/
def Arrival.before (a b : Arrival) : Bool := decide (a.at_ < b.at_) || (a.at_ == b.at_ && decide (a.order < b.order))

/-- The arrival of a site that is taken next. -/
def nextArrival (l : List Arrival) (site : Nat) : Option Arrival :=
  (l.filter (fun a => a.site == site)).foldl (fun m a =>
    match m with
    | none => some a
    | some b => if a.before b then some a else some b) none

/-- RESULT_ARRIVAL (R320 to R326): the site's earliest arrival is taken in. -/
def execResultArrival (site : Nat) (s : State) : Host.Outcome State Fault Refusal :=
  match nextArrival s.rk.inbox site with
  | none => .next s
  | some a =>
    let s := { s with rk := { s.rk with inbox := s.rk.inbox.erase a } }
    let s := (s.reach a.at_).launchDue
    if a.ckpt then .next ((s.takeCkpt site).tryComplete site)
    else if a.order = 0 then .next ((s.addFails site a.value.toNat a.pins a.t0).tryComplete site)
    else
      let s := match a.item with
        | some i => (s.setItemI site i a.value).setReady site i
        | none => s
      let invalid := (s.item site 0).testBit 0
      let t0 := s.resultStep site a.order
      let s := match a.slot with
        | some r =>
          if r > 255 then s
          else
            let s := (s.setItemI site (0x200 + r) a.value).setReady site (0x200 + r)
            let cfg := s.item site (0x600 + r)
            let s := if cfg.testBit 0 && !invalid then s.limitTest site r a.value cfg t0 else s
            if cfg.testBit 1 && !invalid then s.accumulate site a.value cfg else s
        | none => s
      let s := if a.clamp then (match t0, s.homeOf site with
        | some t, some k => s.markAt k t mkClamp
        | _, _ => s.markSite site mkClamp) else s
      let s := match s.homeOf site with
        | some k => s.modThr k (takeResult a.order a.clamp)
        | none => s
      .next (s.tryComplete site)

/-- Clears every accumulator of a site, and item 0x00C, which lists those that have saturated (R324; that the list clears with them is DEDUCED). -/
def State.clearStats (s : State) (site : Nat) : State :=
  let s := (List.range 256).foldl (fun s i => s.setItem site (0x300 + i) 0) s
  let s := s.setItem site 0x00C 0
  { s with rk := { s.rk with latch := s.rk.latch.filter (fun e => e.1 / 32 != site) } }

/-- OD 0x6400 + s.07. -/
def wrStatClear (h : Hdr) (site : Nat) (d : Sys2Proof.Data) (s : State) : State × Nat :=
  s.item490 h d tBool anyLen false (fun s => (if dFlag d then s.clearStats site else s, eOk))

/-- STAT_CLEAR (R324). -/
def execStatClear (path : Path) (site : Nat) (s : State) : Host.Outcome State Fault Refusal :=
  if site ≥ 256 then .next s
  else
    .next (match path with
      | .od h d => s.hostItem (.statClear path site) h (wrStatClear h site d)
      | .reg => s.clearStats site)

end Sys2Proof.Machine
end

