-- ==== Sys2Proof/Machine/Timing.lean ====
section
/-! DEFINITION. Edge timing: staged and active timing sets, fixture deskew, corrections, apply boundaries and Plumb (R179 to
R204). -/

namespace Sys2Proof.Machine

/-! ### Staged and active copies (R189) -/

/-- The block code of a field's key. -/
def keyBlk (k : Nat) : Nat := k / 1048576 / 64 / 32 / 65536
/-- The register offset of a field's key. -/
def keyOff (k : Nat) : Nat := k / 1048576 / 64 / 32 % 65536
/-- The instance of a field's key. -/
def keyInst (k : Nat) : Nat := k / 1048576 % 64
/-- The element of a field's key. -/
def keyElem (k : Nat) : Nat := k % 1048576

/-- Whether a key belongs to a Course's staged timing sets or fixture deskew. -/
def isStaged (c k : Nat) : Bool := keyBlk k == 7 && keyInst k == c && decide (0x0C ≤ keyOff k) && decide (keyOff k < 0x30)

/-- A Course's staged copy: its listed entries; every other entry holds its Reset value. -/
def State.staged (s : State) (c : Nat) : Tbl Nat := s.regs.filter (fun e => isStaged c e.1)
/-- A Course's active copy. -/
def State.activeCopy (s : State) (c : Nat) : Tbl Nat := s.act.filter (fun e => isStaged c e.1)

/-- A channel's timing state, by 32 c + p. -/
def State.chTim (s : State) (k : Nat) : ChanTim := Tbl.get s.tmg.ch {} k
/-- Changes a channel's timing state. -/
def State.modChTim (s : State) (k : Nat) (f : ChanTim → ChanTim) : State :=
  { s with tmg := { s.tmg with ch := Tbl.set s.tmg.ch {} k (f (s.chTim k)) } }
/-- A Course's snapshot and placed edges. -/
def State.coTim (s : State) (c : Nat) : CourseTim := Tbl.get s.tmg.co {} c
/-- Changes a Course's snapshot and placed edges. -/
def State.modCoTim (s : State) (c : Nat) (f : CourseTim → CourseTim) : State :=
  { s with tmg := { s.tmg with co := Tbl.set s.tmg.co {} c (f (s.coTim c)) } }

/-- Whether the spare of a Course serves logical pin `p`. -/
def State.spareAt (s : State) (c p : Nat) : Bool := s.bit F.PCH_STATUS_spare_busy c && s.fld F.PCH_STATUS_spare_pos c == p

/-- The ball path a logical pin uses in the calibration set (R167). -/
def State.path (s : State) (c p : Nat) : Nat := if s.spareAt c p then 1024 + 32 * c + p else 32 * c + p

/-- The data of the calibration set in force. -/
def State.calData (s : State) : Tbl Byte :=
  match s.cal.force with
  | some x => x.data
  | none => []

/-- The factory timing values of a logical pin's path. -/
def State.factory (s : State) (c p : Nat) : Corr :=
  let k := s.path c p
  ⟨(Config.factoryTiming s.calData k 0).toInt, (Config.factoryTiming s.calData k 1).toInt, (Config.factoryTiming s.calData k 2).toInt⟩

/-- The mean of a sensor's last four samples, m°C (R107). -/
def State.sensorMean (s : State) (n : Nat) : Int :=
  let l := Tbl.get s.thm.samples [] n
  if l.isEmpty then 0 else l.foldl (· + ·) 0 / (l.length : Int)

/-- The mean of `n` sensors from `a` up, m°C (R115): R115 names them all, and R108 leaves failed ones out of Tmax alone. -/
def State.regionMean (s : State) (a n : Nat) : Int := (List.range n).foldl (fun m j => m + s.sensorMean (a + j)) 0 / (n : Int)

/-- The temperature of a Course's region: sensors 2c and 2c + 1 (R115). -/
def State.courseTemp (s : State) (c : Nat) : Int := s.regionMean (2 * c) 2
/-- The temperature of an SMU quadrant: the sensors of Courses 8q to 8q + 7 (R115). -/
def State.quadTemp (s : State) (q : Nat) : Int := s.regionMean (16 * q) 16
/-- The temperature of a waveform half: the sensors of Courses 16h to 16h + 15 (R115). -/
def State.halfTemp (s : State) (h : Nat) : Int := s.regionMean (32 * h) 32

/-- The temperature part of a logical pin's correction (R198). -/
def State.tempPart (s : State) (c p : Nat) : Corr :=
  let k := s.path c p
  let t := s.courseTemp c
  ⟨Config.tempTiming s.calData k 0 t, Config.tempTiming s.calData k 1 t, Config.tempTiming s.calData k 2 t⟩

/-- Sums of corrections. -/
def Corr.add (a b : Corr) : Corr := ⟨a.rise + b.rise, a.fall + b.fall, a.cmp + b.cmp⟩
/-- Differences of corrections. -/
def Corr.sub (a b : Corr) : Corr := ⟨a.rise - b.rise, a.fall - b.fall, a.cmp - b.cmp⟩

/-- The internal correction in force: TMG_CORR_DRV and TMG_CORR_CMP (R193). -/
def State.corrOf (s : State) (c p : Nat) : Corr :=
  ⟨toSigned 16 (s.fld F.TMG_CORR_DRV_rise c p), toSigned 16 (s.fld F.TMG_CORR_DRV_fall_delta c p),
    toSigned 16 (s.fld F.TMG_CORR_CMP_cmp c p)⟩

/-- Puts an internal correction in force. -/
def State.setCorr (s : State) (c p : Nat) (x : Corr) : State :=
  let s := s.setFld F.TMG_CORR_DRV_rise c p (ofSigned 16 x.rise)
  let s := s.setFld F.TMG_CORR_DRV_fall_delta c p (ofSigned 16 x.fall)
  s.setFld F.TMG_CORR_CMP_cmp c p (ofSigned 16 x.cmp)

/-- Whether a Course streams a segment. -/
def State.streaming (s : State) (c : Nat) : Bool := s.bit F.TMG_STATUS_streaming c

/-- An active timing value of a Course. -/
def State.period (s : State) (c set : Nat) : Nat := s.actFld F.TMG_PERIOD_period c set
/-- The active offset of an edge. -/
def State.edge (s : State) (c set p e : Nat) : Nat := s.actFld F.TMG_EDGE_offset c ((set * 32 + p) * 5 + e)

/-- The timing set a key of the staged copy belongs to. -/
def keySet (k : Nat) : Nat := if keyOff k = 0x0C then keyElem k else if keyOff k = 0x24 then keyElem k / 32 else keyElem k / 160

/-- Whether some edge of an active set lies at or beyond its period (R184). -/
def State.edgeDropped (s : State) (c : Nat) : Bool :=
  let sets := ((s.activeCopy c).filter (fun e => decide (keyOff e.1 < 0x28))).foldl (fun l e => insertAsc l (keySet e.1)) []
  sets.any (fun k =>
    let p := s.period c k
    (List.range 160).any (fun e => decide (p ≤ s.actFld F.TMG_EDGE_offset c (k * 160 + e))))

/-- Takes the snapshot of R200 for a run's end: the staged copy and the pending correction sets. -/
def State.snapshot (s : State) (c : Nat) : State :=
  let s := s.modCoTim c (fun x => { x with snap := some (s.staged c) })
  (List.range 32).foldl (fun s p =>
    match (s.chTim (32 * c + p)).pend with
    | some x => s.modChTim (32 * c + p) (fun t => { t with pend := none, latched := some x })
    | none => s) s

/-- Makes a copy of the staged sets and deskew active; whether it changed active values. -/
def State.activate' (s : State) (c : Nat) (copy : Tbl Nat) : State × Bool :=
  if copy = s.activeCopy c then (s, false)
  else
    let s := { s with act := copy.foldl (fun (m : Tbl Nat) (e : Nat × Nat) => Tbl.put m e.1 e.2) (s.act.filter (fun e => !isStaged c e.1)) }
    (if s.edgeDropped c then s.setBit F.TMG_STATUS_edge_dropped c 0 true else s, true)

/-- An apply boundary (R199): the snapshot becomes active. -/
def State.applyBoundary (s : State) (c : Nat) : State :=
  let (s, a) :=
    match (s.coTim c).snap with
    | some t => (s.modCoTim c (fun x => { x with snap := none })).activate' c t
    | none => (s, false)
  let (s, b) := (List.range 32).foldl (fun (a : State × Bool) p =>
    match (a.1.chTim (32 * c + p)).latched with
    | some x =>
      let moved := decide (a.1.corrOf c p ≠ x)
      ((a.1.setCorr c p x).modChTim (32 * c + p) (fun t => { t with latched := none }), a.2 || moved)
    | none => a) (s, false)
  if a || b then s.setBit F.TMG_STATUS_applied c 0 true else s

/-- The snapshot that a SEGMENT_START executing at domain instant `exec` takes now (R200). -/
def State.startSnap (s : State) (c exec : Nat) : StartSnap :=
  { exec, copy := s.staged c
    corr := (List.range 32).filterMap (fun p =>
      let x := s.chTim (32 * c + p)
      (x.pend.orElse (fun _ => x.latched)).map (fun y => (p, y))) }

/-- Takes the snapshots of the SEGMENT_STARTs that execute within 64 ns, before something later becomes pending (R200). -/
def State.preSnap (s : State) (c : Nat) : State :=
  if !s.streaming c then s
  else
    (s.queue c).foldl (fun s r =>
      if r.action = 0x02 ∧ r.exec ≤ s.now + ns 64 ∧ ((s.coTim c).starts.all (fun x => x.exec != r.exec)) then
        s.modCoTim c (fun x => { x with starts := x.starts ++ [s.startSnap c r.exec] })
      else s) s

/-- The apply boundary of a SEGMENT_START: its own snapshot becomes active. What a jump decision point latched for a run's end that will not
come waits again, unless the snapshot holds it. -/
def State.applyStart (s : State) (c exec : Nat) : State :=
  let n := ((s.coTim c).starts.find? (fun x => x.exec == exec)).getD (s.startSnap c exec)
  let s := s.modCoTim c (fun x => { x with snap := none, starts := x.starts.filter (fun y => y.exec != exec) })
  let (s, a) := s.activate' c n.copy
  let (s, b) := n.corr.foldl (fun (a : State × Bool) (e : Nat × Corr) =>
    let moved := decide (a.1.corrOf c e.1 ≠ e.2)
    let left := fun (x : Option Corr) => if x = some e.2 then none else x
    ((a.1.setCorr c e.1 e.2).modChTim (32 * c + e.1) (fun t => { t with pend := left t.pend, latched := left t.latched }), a.2 || moved)) (s, false)
  let s := (List.range 32).foldl (fun s p =>
    if (s.chTim (32 * c + p)).latched.isSome then
      s.modChTim (32 * c + p) (fun t => { t with latched := none, pend := t.pend.orElse (fun _ => t.latched) })
    else s) s
  if a || b then s.setBit F.TMG_STATUS_applied c 0 true else s

/-- While a Course streams no segment, every instant is an apply boundary (R199). -/
def State.tmgTouch (s : State) (c : Nat) : State := if s.streaming c then s else (s.snapshot c).applyBoundary c

/-- Whether staged values or correction sets await a boundary (TMG_STATUS.pending). -/
def State.tmgPending (s : State) (c : Nat) : Bool :=
  decide (s.staged c ≠ s.activeCopy c) ||
    (List.range 32).any (fun p => (s.chTim (32 * c + p)).pend.isSome || (s.chTim (32 * c + p)).latched.isSome)

/-- A parked channel takes its pending correction set at once, because no output depends on it (R162). -/
def State.takeTimCorr (s : State) (c p : Nat) : State :=
  match (s.chTim (32 * c + p)).pend with
  | some x => if s.bit F.PCH_CH_STATE_active c p then s else (s.setCorr c p x).modChTim (32 * c + p) (fun t => { t with pend := none, latched := none })
  | none => s

/-- A channel's complete correction set becomes pending, replacing an older one not yet latched (R198). -/
def State.pendCorr (s : State) (c p : Nat) : State :=
  ((s.preSnap c).modChTim (32 * c + p) (fun t => { t with pend := some (((s.factory c p).add t.plumb).add t.temp) })).takeTimCorr c p

/-- The temperature part of every channel of a Course, recomputed (R198). -/
def State.tempTimingAll (s : State) (c : Nat) : State :=
  ((List.range 32).foldl (fun s p =>
    let t := s.tempPart c p
    (s.modChTim (32 * c + p) (fun x => { x with temp := t })).pendCorr c p) s).tmgTouch c

/-! ### Writes of the staged copy -/

/-- A write of a set's staged period (R182, R236). -/
def State.writePeriod (s : State) (c ss v : Nat) : State × Nat :=
  let s := s.preSnap c
  let v := min v 4096000000
  let refuse := fun (e : Nat) => (s.setBit F.TMG_STATUS_period_refused c 0 true, e)
  if v < minPeriod s.md.mode then refuse eCalendarFull
  else if s.bit F.PCH_STATUS_spare_busy c ∧ v < 2048 then refuse eRepairRate
  else
    let s' := s.setFld F.TMG_PERIOD_period c ss v
    if s'.fits s.md.mode then (s'.tmgTouch c, eOk) else refuse eCalendarFull

/-- A write of one fixture deskew figure, stored at the nearer limit (R192). -/
def clampFix (x : Int) : Nat := ofSigned 18 (clampInt (-81920) 81920 x)

/-- OD 0x5400 + 16c + 0x0.ss: a set's staged period. -/
def wrPeriod (h : Hdr) (c ss : Nat) (d : Sys2Proof.Data) (s : State) : State × Nat :=
  s.item490 h d tU32 anyLen false (fun s => s.writePeriod c ss (dNat d))

/-- OD + 0x1.ss: a set's staged edges, 32 pins × (E0 to E4, cmp_mode). -/
def wrEdges (h : Hdr) (c ss : Nat) (d : Sys2Proof.Data) (s : State) : State × Nat :=
  s.item490 h d tBlob (· == 768) false (fun s =>
    let s := s.preSnap c
    let s := (List.range 32).foldl (fun s p =>
      let s := (List.range 5).foldl (fun s e =>
        s.setFld F.TMG_EDGE_offset c ((ss * 32 + p) * 5 + e) (dSub d (24 * p + 4 * e) 4)) s
      s.setBit F.TMG_PIN_CFG_cmp_mode c (ss * 32 + p) (decide (dSub d (24 * p + 20) 4 % 2 = 1))) s
    (s.tmgTouch c, eOk))

/-- TIMING_SET_WRITE (R182, R189): the staged period (`edges` false) or the staged edges of a set. -/
def execTimingSetWrite (h : Hdr) (d : Sys2Proof.Data) (c ss : Nat) (edges : Bool) (s : State) : Host.Outcome State Fault Refusal :=
  if c ≥ 32 ∨ ss ≥ 64 then .next s
  else .next (s.hostItem (.timingSetWrite h d c ss edges) h (if edges then wrEdges h c ss d else wrPeriod h c ss d))

/-- OD + 0x2.pp: fixture deskew of a pin (R192, R204). -/
def wrFixture (h : Hdr) (c pp : Nat) (d : Sys2Proof.Data) (s : State) : State × Nat :=
  s.item490 h d tBlob (· == 8) false (fun s =>
    let a := clampInt (-81920) 81920 (toSigned 32 (dSub d 0 4))
    let b := clampInt (-81920) 81920 (toSigned 32 (dSub d 4 4))
    let s := s.preSnap c
    let s := s.storeOd (0x5402 + 16 * c) pp (toBe 4 (ofSigned 32 a) ++ toBe 4 (ofSigned 32 b))
    let s := s.setFld F.TMG_FIX_DRV_fix_drv c pp (ofSigned 18 a)
    let s := s.setFld F.TMG_FIX_CMP_fix_cmp c pp (ofSigned 18 b)
    (s.tmgTouch c, eOk))

/-- FIXTURE_DESKEW_WRITE (R204). -/
def execFixtureDeskewWrite (h : Hdr) (d : Sys2Proof.Data) (c pp : Nat) (s : State) : Host.Outcome State Fault Refusal :=
  if c ≥ 32 ∨ pp ≥ 32 then .next s else .next (s.hostItem (.fixtureDeskewWrite h d c pp) h (wrFixture h c pp d))

/-- The effect of apply_now (R201): a snapshot applied at once while nothing streams. -/
def State.applyNow (s : State) (c : Nat) : State := s.tmgTouch c

/-- OD + 0x6.00: apply now. -/
def wrApplyNow (h : Hdr) (c : Nat) (d : Sys2Proof.Data) (s : State) : State × Nat :=
  s.item490 h d tBool anyLen false (fun s => (if dFlag d then s.applyNow c else s, eOk))

/-- APPLY_NOW (R201). -/
def execApplyNow (path : Path) (c : Nat) (s : State) : Host.Outcome State Fault Refusal :=
  if c ≥ 32 then .next s
  else .next (s.viaPath (.applyNow path c) path (fun h d => wrApplyNow h c d) (fun s => s.applyNow c))

/-! ### Plumb (R195 to R198) and the comparator self-check (R28, R30) -/

/-- Whether a Course's launch queue holds a record due within 20 µs (R28). -/
def State.dueSoon (s : State) (c : Nat) : Bool := (s.queue c).any (fun r => decide (r.exec < s.now + us 20))

/-- Whether a check may take a channel: no record due, no quiet aperture (R136), no check under way. An outage pauses no check, only what the
Keystone makes of its measurements (R23, R25). -/
def State.gapFree (s : State) (c p : Nat) : Bool :=
  s.ks.running && !s.dueSoon c && !s.inQuiet &&
    (match Tbl.find s.ks.checks (33 * c + p) with
     | some k => (match k.restore with | some r => decide (r ≤ s.tb.loc) | none => false)
     | none => true)

/-- A background check takes a channel. -/
def State.beginCheck (s : State) (c p kind : Nat) : State :=
  { s with ks := { s.ks with checks := Tbl.put s.ks.checks (33 * c + p) ⟨kind, s.tb.loc, none⟩ } }

/-- A background check leaves its channel. -/
def State.endCheck (s : State) (c p : Nat) : State := { s with ks := { s.ks with checks := Tbl.drop s.ks.checks (33 * c + p) } }

/-- PLUMB_CHECK_COMPLETE (R196): the averaged measurement; an abandoned check yields none. -/
def execPlumbCheckComplete (c p : Nat) (rise fall cmp : Int) (s : State) : Host.Outcome State Fault Refusal :=
  match Tbl.find s.ks.checks (33 * c + p) with
  | none => .next s
  | some k =>
    if k.kind ≠ 0 ∨ p ≥ 32 then .next s
    else if k.restore.isSome then .next (s.endCheck c p)
    else .next ((s.endCheck c p).modChTim (32 * c + p) (fun t => { t with cand := some ⟨rise, fall, cmp⟩ }))

/-- Whether each of rise, rise + fall_delta and cmp of a candidate lies within `w` ticks of another set. -/
def Corr.near (a b : Corr) (w : Int) : Bool :=
  decide ((a.rise - b.rise).natAbs ≤ w.toNat) && decide ((a.rise + a.fall - (b.rise + b.fall)).natAbs ≤ w.toNat)
    && decide ((a.cmp - b.cmp).natAbs ≤ w.toNat)

/-- PLUMB_CANDIDATE_CHECK (R197): the Keystone accepts or rejects the candidate. -/
def execPlumbCandidateCheck (c p : Nat) (s : State) : Host.Outcome State Fault Refusal :=
  if c ≥ 32 ∨ p ≥ 32 ∨ !s.ks.running ∨ s.ks.outage then .next s
  else
    let k := 32 * c + p
    match (s.chTim k).cand with
    | none => .next s
    | some x =>
      let f := s.factory c p
      if x.near f 204 && x.near (s.corrOf c p) 33 then
        let s := s.modChTim k (fun t => { t with
          cand := none, plumb := (x.sub f).sub t.temp, acceptedAt := some s.now, acceptedLoc := some s.tb.loc })
        let s := s.setFld F.TMG_PLUMB_last_result c p 1
        .next ((s.pendCorr c p).tmgTouch c)
      else
        let s := s.modChTim k (fun t => { t with cand := none, rejects := t.rejects + 1 })
        let s := s.setFld F.TMG_PLUMB_last_result c p 2
        let s := s.setBit F.TMG_STATUS_plumb_reject c 0 true
        .next (s.report 55 sevAdvisory (detail clsPin k))

/-- PLUMB_GAP_TIMEOUT (R30): 60 s after the latest gap of 20 µs in a channel's launch queue, or after the last report of it, unless such a gap
has come by then. -/
def execPlumbGapTimeout (c p : Nat) (s : State) : Host.Outcome State Fault Refusal :=
  if c ≥ 32 ∨ p > 32 then .next s
  else
    let s := s.reachLoc (max (Tbl.get s.ks.gapAt 0 c) (Tbl.get s.ks.lastGap 0 (33 * c + p)) + ms 60000)
    if !s.dueSoon c then .next (s.noteGap c)
    else
      let s := { s with ks := { s.ks with lastGap := Tbl.put s.ks.lastGap (33 * c + p) s.tb.loc } }
      .next (s.report 55 sevAdvisory (detail clsPin (if p < 32 then 32 * c + p else 1024 + c)))

/-- COMPARATOR_SELF_CHECK (R28, R171): `none` takes the channel; `some fail` ends the check under way with its result. -/
def execComparatorSelfCheck (c p : Nat) (result : Option Bool) (s : State) : Host.Outcome State Fault Refusal :=
  if c ≥ 32 ∨ p > 32 then .next s
  else
    match result with
    | none =>
      if s.gapFree c p && s.bit F.PCH_CTRL_selfchk_en c && !s.streaming c then .next (s.beginCheck c p 1) else .next s
    | some fail =>
      match Tbl.find s.ks.checks (33 * c + p) with
      | none => .next s
      | some k =>
        if k.kind ≠ 1 then .next s
        else if k.restore.isSome then .next (s.endCheck c p)
        else
          let s := s.endCheck c p
          let s := { s with ks := { s.ks with lastSelf := Tbl.put s.ks.lastSelf (33 * c + p) s.tb.loc } }
          if fail then
            let s := s.setBit F.PCH_STATUS_selfchk_fail c 0 true
            .next (s.report c sevDegraded (detail clsPin (if p < 32 then 32 * c + p else 1024 + c)))
          else .next s

end Sys2Proof.Machine
end

