-- ==== Sys2Proof/Machine/Pins.lean ====
section
/-! DEFINITION. Pin channels: level codes, parking, trips, load strobes, the per-pin measurement unit, the envelope and the
repair matrix (R141 to R178). A channel is Course `c`, number `n`: logical pin 0 to 31, or 32 for the unassigned spare. -/

namespace Sys2Proof.Machine

/-! ### Conversions (R141, R142, R178) -/

/-- The level code nearest to a voltage in nV, a tie to the higher code. -/
def levelCode (nv : Int) : Nat := (clampInt 0 64000 ((nv + 1500000000 + 62500) / 125000)).toNat
/-- The voltage of a level code in nV. -/
def levelNv (n : Nat) : Int := (n : Int) * 125000 - 1500000000
/-- An integer quotient rounded to nearest, a tie away from zero. -/
def roundAway (a : Int) (b : Nat) : Int :=
  if 0 ≤ a then (2 * a + b) / (2 * (b : Int)) else -((2 * (-a) + b) / (2 * (b : Int)))
/-- A load or limit current in fA as µA, kept in its field. -/
def currentCode (fa : Int) (top : Nat) : Nat := (clampInt 0 top (roundAway fa 1000000000)).toNat
/-- The full scale of a PMU range in µA (Table 5.6). -/
def pmuRange : Nat → Nat
  | 0 => 2 | 1 => 20 | 2 => 200 | 3 => 2000 | 4 => 32000 | k => Config.reservedRange k

/-! ### Channels -/

/-- A channel's state beyond its registers. -/
def State.pch (s : State) (c n : Nat) : PinChan := Tbl.get s.pin.ch {} (33 * c + n)
/-- Changes a channel. -/
def State.modPch (s : State) (c n : Nat) (f : PinChan → PinChan) : State :=
  { s with pin := { s.pin with ch := Tbl.set s.pin.ch {} (33 * c + n) (f (s.pch c n)) } }
/-- The fault object of a channel (Table 18.2). -/
def pinObj (c n : Nat) : Nat := if n < 32 then 32 * c + n else 1024 + c
/-- Whether a channel is parked (R175). -/
def State.parked (s : State) (c n : Nat) : Bool := !s.bit F.PCH_CH_STATE_active c n

/-- The compare mask of a site's context, held as a field of its own beside the PCH_ registers (R209, R314). -/
def fldCmask : Fld := ⟨0x06, 0xF0, 0, 1, .rw, .k 0⟩

/-- The lv group of Table 5.7. -/
def lvGroup : List Fld :=
  [F.PCH_DRV_LVL_vih, F.PCH_DRV_LVL_vil, F.PCH_TERM_LVL_vt, F.PCH_CMP_LVL_voh, F.PCH_CMP_LVL_vol, F.PCH_PIN_CFG_hyst, F.PCH_PIN_CFG_idle]
/-- The ld group. -/
def ldGroup : List Fld := [F.PCH_LOAD_load_en, F.PCH_LOAD_ioh_ua, F.PCH_LOAD_iol_ua, F.PCH_TERM_LVL_vcom]
/-- The pmu group. -/
def pmuGroup : List Fld :=
  [F.PCH_PMU_CFG_connect, F.PCH_PMU_CFG_fmode, F.PCH_PMU_CFG_range, F.PCH_PMU_CFG_iclamp_pct, F.PCH_PMU_FORCE_force,
    F.PCH_PMU_CLAMP_vclamp_hi, F.PCH_PMU_CLAMP_vclamp_lo, F.PCH_PMU_APER_delay_us, F.PCH_PMU_APER_aper]
/-- The dig values (R314), and the quiet bit of R134. -/
def digGroup : List Fld :=
  [F.PCH_TRIP_CFG_trip_en, F.PCH_TRIP_CFG_cond, F.PCH_TRIP_CFG_clr_mode, F.PCH_TRIP_CFG_act, F.PCH_TRIP_GRP_grp, fldCmask, fldQuiet]

/-! ### Driver edges (R183, R186) -/

/-- Whether a valid field of the serial engine names a pin (R442). -/
def State.serNames (s : State) (c p : Nat) : Bool :=
  let a := s.fld F.SER_PIN_A_map c
  let b := s.fld F.SER_PIN_B_map c
  let e := s.fld F.SER_PIN_C_map c
  let six := fun (w k : Nat) => w.testBit (6 * k + 5) && bitsAt w (6 * k + 4) (6 * k) == p
  let nib := fun (k : Nat) => b.testBit (4 * k + 3) && 24 + bitsAt b (4 * k + 2) (4 * k) == p
  let lane := fun (k : Nat) => if k < 2 && e.testBit (6 * k + 5) then six e k else nib k
  six a 0 || six a 1 || (!s.bit F.SER_CTRL_role c && (six a 2 || six a 3 || six a 4)) || (List.range 8).any lane

/-- A Course's serial engine. -/
def State.eng (s : State) (c : Nat) : SerEngine := Tbl.get s.ser {} c
/-- Changes a Course's serial engine. -/
def State.modEng (s : State) (c : Nat) (f : SerEngine → SerEngine) : State := { s with ser := Tbl.set s.ser {} c (f (s.eng c)) }

/-- Whether the serial engine reaches a pin now: always in direct mode, else while the pin's glyph is S (R443). -/
def State.serReach (s : State) (c p : Nat) : Bool :=
  s.bit F.SER_CTRL_en c && s.serNames c p &&
    (s.bit F.SER_CTRL_pin_mode c || (s.streaming c && (Tbl.get s.pat.st {} c).sMask.testBit p))

/-- Whether a repair or release swap of logical pin `n` is in progress. -/
def State.swapping (s : State) (c n : Nat) : Bool :=
  match Tbl.find s.pin.repair c with
  | some r => r.pin == n
  | none => false

/-- Whether the site of a pin holds, with the last of its committed steps over (R170, step 2). -/
def State.siteHeld (s : State) (c p : Nat) : Bool :=
  match s.pinOwner c p with
  | some k => s.siteStill (s.siteOf k)
  | none => true

/-- The local instant of that hold: when the last thread came to rest or the last step ended. -/
def State.heldSince (s : State) (c p : Nat) (r : RepairRun) : Nat :=
  match s.pinOwner c p with
  | some k => s.stillSince (s.siteOf k) r.began
  | none => r.began

/-- Whether a pin's swap has opened its ball: high impedance from the hold to the apply (R170, steps 3 to 5). -/
def State.swapOpen (s : State) (c p : Nat) : Bool := s.swapping c p && s.siteHeld c p

/-- Whether nothing keeps a channel's driver from acting: not parked, not cut, no swap, no PMU connected or being disconnected (R152, R155, R170,
R175). -/
def State.canDrive (s : State) (c p : Nat) : Bool :=
  !s.parked c p && (s.pch c p).cutBy.isEmpty && !s.bit F.PCH_CH_STATE_pmu_conn c p && decide ((s.pch c p).pmuTurn ≤ s.tb.loc) && !s.swapOpen c p

/-- The driver takes what the serial engine asks of a pin it reaches (R444). -/
def State.serDrive (s : State) (c p : Nat) : State :=
  if s.serReach c p && s.canDrive c p then
    let d := Tbl.get (s.eng c).want .off p
    s.modPch c p (fun x => { x with
      drive := d, waitOn := x.waitOn && d == .off, lastHigh := if d = .off then x.lastHigh else decide (d = .high) })
  else s

/-- A placed driver edge acts: not on a parked, cut or PMU-connected channel; after a trip only from a drive-on (R152, R155, R175). -/
def State.driveEdge (s : State) (c : Nat) (e : PlacedEdge) : State :=
  let x := s.pch c e.pin
  if e.ser then (s.modEng c (fun z => { z with want := Tbl.set z.want .off e.pin (e.act.getD .off) })).serDrive c e.pin
  else if !s.canDrive c e.pin then s
  else
    match e.act with
    | none => s.modPch c e.pin (fun x => { x with drive := if x.lastHigh then .high else .low, waitOn := false })
    | some .off => s.modPch c e.pin (fun x => { x with drive := .off })
    | some d => if x.waitOn then s else s.modPch c e.pin (fun x => { x with drive := d, lastHigh := decide (d = .high) })

/-- Lets the placed driver edges of a Course act whose instants lie at or before `t`, and the serial engine's whose instants have come. -/
def State.settleTo (s : State) (c : Nat) (t : Int) : State :=
  let due := fun (e : PlacedEdge) => decide (e.at_ ≤ if e.ser then (s.tb.loc : Int) else t)
  let l := (s.coTim c).edges
  if l.any due then
    let s := s.modCoTim c (fun x => { x with edges := l.filter (fun e => !due e) })
    (l.filter due).foldl (fun s e => s.driveEdge c e) s
  else s

/-- Lets the placed driver edges of a Course act whose instants have come. -/
def State.settleEdges (s : State) (c : Nat) : State := s.settleTo c (s.tb.loc : Int)

/-! ### What a channel presents at its ball (R143, R145, R152, R155, R170, R175) -/

/-- What a channel presents at its ball; codes as R141 has them, currents in µA. -/
inductive Presented where
  | highZ
  | driven (code : Nat)
  | term (code : Nat)
  | load (ioh iol vcom : Nat)
  | pmu
deriving DecidableEq, Repr

/-- The channel's driver state. -/
def State.drive (s : State) (c p : Nat) : Drive := (s.pch c p).drive

/-- The idle state of Table PCH_PIN_CFG: termination goes through the driver, which a trip has put to high impedance; the active load is on only with
load_en, and off where a trip turned it off; the reserved code 0b11 is an open choice of the three. -/
def State.idleState (s : State) (c n : Nat) : Presented :=
  let x := s.pch c n
  let code := s.actFld F.PCH_PIN_CFG_idle c n
  match if code = 3 then Config.openNat 63 [c, n] % 3 else code with
  | 1 => if !x.cutBy.isEmpty || x.waitOn then .highZ else .term (s.actFld F.PCH_TERM_LVL_vt c n)
  | 2 =>
    if s.actFld F.PCH_LOAD_load_en c n = 1 ∧ !x.loadOff then
      .load (s.actFld F.PCH_LOAD_ioh_ua c n) (s.actFld F.PCH_LOAD_iol_ua c n) (s.actFld F.PCH_TERM_LVL_vcom c n)
    else .highZ
  | _ => .highZ

/-- What a channel presents now. While a PMU connection or disconnection is under way nothing does (R155). -/
def State.presents (s : State) (c n : Nat) : Presented :=
  if s.parked c n || s.swapOpen c n || decide (s.tb.loc < (s.pch c n).pmuTurn) then .highZ
  else if s.bit F.PCH_CH_STATE_pmu_conn c n then .pmu
  else
    match s.drive c n with
    | .high => .driven (s.actFld F.PCH_DRV_LVL_vih c n)
    | .low => .driven (s.actFld F.PCH_DRV_LVL_vil c n)
    | .off => s.idleState c n

/-- The current that the active load draws from a ball at `nv` nanovolts, µA; less than 0 where it supplies current: ioh above VCOM, iol below it, and
linear within 50 mV of it (R145). -/
def loadDraws (ioh iol vcom : Nat) (nv : Int) : Int :=
  let v := levelNv vcom
  if v + 50000000 ≤ nv then ioh
  else if nv ≤ v - 50000000 then -(iol : Int)
  else ((ioh : Int) + iol) * (nv - v + 50000000) / 100000000 - iol

/-! ### Plumb (R195) -/

/-- Whether Plumb may take a logical pin (R195). -/
def State.plumbMay (s : State) (c p : Nat) : Bool :=
  s.gapFree c p && !s.streaming c && s.bit F.TMG_CTRL_plumb_en c &&
    (!s.bit F.PCH_CH_STATE_active c p ||
      (s.drive c p == .off && !s.bit F.PCH_CH_STATE_pmu_conn c p && (s.presents c p == .highZ || s.bit F.TMG_CTRL_plumb_idle_any c)))

/-- PLUMB_CHECK_START (R195): an idle channel goes to the calibration bus. -/
def execPlumbCheckStart (c p : Nat) (s : State) : Host.Outcome State Fault Refusal :=
  if c < 32 ∧ p < 32 then
    let s := s.settleEdges c
    .next (if s.plumbMay c p then s.beginCheck c p 0 else s)
  else .next s

/-! ### Trips (R149 to R154) -/

/-- A latched trip of pin `p` cuts channel `q` with an action of Table 5.5. -/
def State.cutPin (s : State) (c p q act : Nat) : State :=
  let s := s.modPch c q (fun x => { x with
    cutBy := insertAsc x.cutBy p
    drive := .off
    waitOn := true
    loadOff := x.loadOff || decide (1 ≤ act)
    pmuOff := x.pmuOff || decide (act = 2) })
  let s := s.setBit F.PCH_CH_STATE_tripped c q true
  if act = 2 then s.setBit F.PCH_CH_STATE_pmu_conn c q false else s

/-- A trip of pin `p` (R151 to R153); the reserved action 0b11 is a free choice of the three. -/
def State.trip (s : State) (c p : Nat) : State :=
  let code := s.actFld F.PCH_TRIP_CFG_act c p
  let (act, s) := if code = 3 then s.draw 3 else (code, s)
  let s := s.setBitIn F.PCH_TRIP_LATCH_latch c 0 p
  let s := s.setBit F.PCH_STATUS_trip_any c 0 true
  let s := s.modPch c p (fun x => { x with trips := x.trips + 1 })
  let targets := insertAsc (bitsOf 32 (s.actFld F.PCH_TRIP_GRP_grp c p)) p
  let s := targets.foldl (fun s q => s.cutPin c p q act) s
  s.markPin c p mkTrip

/-- Whether pin `p`'s trip is latched. -/
def State.latched (s : State) (c p : Nat) : Bool := s.bitOf F.PCH_TRIP_LATCH_latch c 0 p

/-- Channel `q` is no longer cut by pin `p`; the driver stays off until its next drive-on. -/
def State.uncut (s : State) (c p q : Nat) : State :=
  if (s.pch c q).cutBy.contains p then
    let s := s.modPch c q (fun x => { x with cutBy := removeNat x.cutBy p })
    if (s.pch c q).cutBy.isEmpty then
      let back := (s.pch c q).pmuOff
      let s := s.modPch c q (fun x => { x with loadOff := false, pmuOff := false })
      let s := s.setBit F.PCH_CH_STATE_tripped c q false
      if back && !s.parked c q then s.setFld F.PCH_CH_STATE_pmu_conn c q (s.actFld F.PCH_PMU_CFG_connect c q) else s
    else s
  else s

/-- A pin's latch clears, with no test of its condition. -/
def State.dropLatch (s : State) (c p : Nat) : State :=
  if s.latched c p then
    (List.range 32).foldl (fun s q => s.uncut c p q) (s.clrBitIn F.PCH_TRIP_LATCH_latch c 0 p)
  else s

/-- A clear of a pin's latch: it sets again at once while the filter condition holds (R152). -/
def State.clearLatch (s : State) (c p : Nat) : State :=
  if s.latched c p then
    let s := s.dropLatch c p
    if (s.pch c p).tripCond then s.trip c p else s
  else s

/-- TRIP (R149 to R153): the filter of a pin asserts its condition. Its window starts empty when it is enabled, so that it does so no earlier than
M samples after that. -/
def execTrip (c p : Nat) (s : State) : Host.Outcome State Fault Refusal :=
  if c ≥ 32 ∨ p ≥ 32 ∨ s.actFld F.PCH_TRIP_CFG_trip_en c p = 0 ∨ s.actFld F.PCH_TRIP_CFG_cond c p = 0 ∨ s.parked c p then .next s
  else
    let need := filtNeed (s.fld F.PCH_TRIP_CFG_filt_n c p) (s.fld F.PCH_TRIP_CFG_filt_m c p)
    let s := (s.reachLoc ((s.pch c p).filtAt + need * cycle)).settleEdges c
    let s := s.modPch c p (fun x => { x with tripCond := true })
    .next (if s.latched c p then s else s.trip c p)

/-- A clear written by software: whether the condition still holds is a free value (R152). -/
def State.clearLatchFree (s : State) (c p : Nat) : State :=
  let (b, s) := s.draw 2
  (s.modPch c p (fun x => { x with tripCond := x.tripCond && decide (b = 1) })).clearLatch c p

/-- The same where the latch is not set at this very instant (R509). -/
def State.clearLatchSoft (s : State) (c p : Nat) : State := if s.heldBit F.PCH_TRIP_LATCH_latch c 0 p then s else s.clearLatchFree c p

/-- OD 0x3000 + 32c + 0x12.pp: clear trip latch. -/
def wrTripClear (h : Hdr) (c p : Nat) (d : Sys2Proof.Data) (s : State) : State × Nat :=
  s.item490 h d tBool anyLen false (fun s => (if dFlag d then s.clearLatchSoft c p else s, eOk))

/-- TRIP_LATCH_CLEAR (R152): `holds` says whether the filter condition holds at the clear. -/
def execTripLatchClear (path : Path) (c p : Nat) (holds : Bool) (s : State) : Host.Outcome State Fault Refusal :=
  if c ≥ 32 ∨ p ≥ 32 then .next s
  else
    let eff := fun (s : State) =>
      if s.heldBit F.PCH_TRIP_LATCH_latch c 0 p then s else (s.modPch c p (fun x => { x with tripCond := holds })).clearLatch c p
    .next (s.viaPath (.tripLatchClear path c p holds) path
      (fun h d s => s.item490 h d tBool anyLen false (fun s => (if dFlag d then eff s else s, eOk))) eff)

/-! ### Parking (R175) -/

/-- A channel's pending level correction applies (R162). -/
def State.takeCorr (s : State) (c n : Nat) : State :=
  match (s.pch c n).corrPend with
  | some t => s.modPch c n (fun x => { x with corrPend := none, corr := t })
  | none => s

/-- A channel's level correction is recomputed for its Course's temperature; a parked channel takes it at once (R115, R162). -/
def State.pchPend (s : State) (c n : Nat) : State :=
  let s := s.modPch c n (fun x => { x with corrPend := some (s.courseTemp c) })
  if s.parked c n then s.takeCorr c n else s

/-- Parks a channel. -/
def State.park (s : State) (c n : Nat) : State :=
  let s := if (s.coTim c).edges.isEmpty then s else s.modCoTim c (fun x => { x with edges := x.edges.filter (fun e => e.pin != n) })
  let s := if n < 32 then s.dropLatch c n else s
  let s := s.modPch c n (fun x => { x with drive := .off, lastHigh := false, meas := none, tripCond := false, waitOn := false })
  let s := s.setBit F.PCH_CH_STATE_active c n false
  let s := s.setBit F.PCH_CH_STATE_pmu_conn c n false
  let s := s.takeCorr c n
  if n < 32 then s.takeTimCorr c n else s

/-- Parks every channel of a Course. -/
def State.parkCourse (s : State) (c : Nat) : State := (List.range 33).foldl (fun s n => s.park c n) s
/-- Parks every channel of the chip. -/
def State.parkPins (s : State) : State := (List.range 32).foldl (fun s c => s.parkCourse c) s

/-- Whether a channel may leave its parked state: enabled, not derated, outputs permitted (R131, R175, R177). -/
def State.mayDrive (s : State) (c n : Nat) : Bool :=
  s.bit F.PCH_CTRL_en c && !s.bit F.PCH_CH_STATE_derated c n && !s.inSafe && s.md.mode != .survey && !s.thm.halted

/-- A channel leaves its parked state: both comparator halves start not crossed (R147). -/
def State.unpark (s : State) (c n : Nat) : State :=
  if s.parked c n && s.mayDrive c n then
    (s.setBit F.PCH_CH_STATE_active c n true).modPch c n (fun x => { x with above := false, below := false })
  else s

/-! ### Load strobes (R160 to R166) -/

/-- A value of a strobe's list, or the one already active. -/
def State.pick (s : State) (vals : List (Fld × Nat)) (c n : Nat) (f : Fld) : Nat :=
  match vals.find? (fun e => e.1 == f) with
  | some e => e.2
  | none => s.actFld f c n

/-- Whether a strobe's list carries a field. -/
def carries (vals : List (Fld × Nat)) (f : Fld) : Bool := vals.any (fun e => e.1 == f)

/-- Whether the strobe's range or mode is held (R157): fmode changes, or the range changes in FI, while connected. -/
def State.rangeHeld (s : State) (vals : List (Fld × Nat)) (c n : Nat) : Bool :=
  carries vals F.PCH_PMU_CFG_connect && s.bit F.PCH_CH_STATE_pmu_conn c n && s.pick vals c n F.PCH_PMU_CFG_connect == 1 &&
    (s.pick vals c n F.PCH_PMU_CFG_fmode != s.actFld F.PCH_PMU_CFG_fmode c n ||
      (s.actFld F.PCH_PMU_CFG_fmode c n == 1 && s.pick vals c n F.PCH_PMU_CFG_range != s.actFld F.PCH_PMU_CFG_range c n))

/-- The value that drives the electronics, in the envelope (R166); `fi`, `rng` are the mode and range being made active. -/
def State.enveloped (s : State) (c n : Nat) (fi : Bool) (rng : Nat) (f : Fld) (v : Nat) : Nat :=
  let lo := s.fld F.PCH_ENV_vmin c n
  let hi := s.fld F.PCH_ENV_vmax c n
  let im := s.fld F.PCH_ENV_I_imax_ua c n
  let full := max 1 (pmuRange rng)
  if f = F.PCH_DRV_LVL_vih ∨ f = F.PCH_DRV_LVL_vil ∨ f = F.PCH_TERM_LVL_vt ∨ f = F.PCH_TERM_LVL_vcom then clampNat lo hi v
  else if f = F.PCH_LOAD_ioh_ua ∨ f = F.PCH_LOAD_iol_ua then min v im
  else if f = F.PCH_PMU_FORCE_force then
    if fi then ofSigned 20 (clampInt (-(im * 524288 / full : Nat)) (im * 524288 / full : Nat) (toSigned 20 v))
    else clampNat (16 * lo) (16 * hi) v
  else if f = F.PCH_PMU_CLAMP_vclamp_hi ∨ f = F.PCH_PMU_CLAMP_vclamp_lo then (if fi then clampNat lo hi v else v)
  else if f = F.PCH_PMU_CFG_iclamp_pct then (if fi then v else min v (im * 100 / full))
  else v

/-- What a code beyond a field's figures acts as (R141, Table 5.3, R156, R158). -/
def actsAs (fi : Bool) (f : Fld) (v : Nat) : Nat :=
  if f = F.PCH_DRV_LVL_vih ∨ f = F.PCH_DRV_LVL_vil ∨ f = F.PCH_TERM_LVL_vt ∨ f = F.PCH_TERM_LVL_vcom ∨ f = F.PCH_CMP_LVL_voh ∨
      f = F.PCH_CMP_LVL_vol ∨ f = F.PCH_PMU_CLAMP_vclamp_hi ∨ f = F.PCH_PMU_CLAMP_vclamp_lo then min v 64000
  else if f = F.PCH_LOAD_ioh_ua ∨ f = F.PCH_LOAD_iol_ua then min v 24000
  else if f = F.PCH_PMU_FORCE_force then (if fi then v else min v 1024000)
  else if f = F.PCH_PMU_CFG_iclamp_pct then clampNat 10 110 v
  else v

/-- The PMU of a channel connects or disconnects at a strobe (R155): on connection the driver goes off at once and the PMU closes onto the ball
100 ns later; on disconnection the driver and the idle state return 100 ns later. Not while the channel is parked (R175, R177) or a trip keeps the
PMU off. -/
def State.switchPmu (s : State) (c n : Nat) (on : Bool) : State :=
  if s.parked c n || (s.pch c n).pmuOff || s.bit F.PCH_CH_STATE_pmu_conn c n == on then s
  else (s.setBit F.PCH_CH_STATE_pmu_conn c n on).modPch c n (fun x => { x with drive := .off, pmuTurn := s.tb.loc + ns 100 })

/-- Makes values active on a channel: held range, envelope, comparator restart, PMU connection. -/
def State.activate (s : State) (c n : Nat) (vals : List (Fld × Nat)) : State :=
  let held := s.rangeHeld vals c n
  let vals := if held then vals.filter (fun e => e.1 ≠ F.PCH_PMU_CFG_fmode && e.1 ≠ F.PCH_PMU_CFG_range) else vals
  let s := if held then
      (s.setBit F.PCH_STATUS_range_held c 0 true).modPch c n (fun x => { x with held := x.held + 1 })
    else s
  let fi := s.pick vals c n F.PCH_PMU_CFG_fmode == 1
  let rng := s.pick vals c n F.PCH_PMU_CFG_range
  let acted := vals.map (fun e => (e.1, actsAs fi e.1 e.2, s.enveloped c n fi rng e.1 (actsAs fi e.1 e.2)))
  let clamped := acted.any (fun e => e.2.1 ≠ e.2.2)
  let moved := acted.any (fun e =>
    (e.1 == F.PCH_CMP_LVL_voh || e.1 == F.PCH_CMP_LVL_vol) && e.2.2 != s.actFld e.1 c n)
  let armed := acted.any (fun e => e.1 == F.PCH_TRIP_CFG_trip_en && e.2.2 == 1 && s.actFld e.1 c n == 0)
  let s := acted.foldl (fun s e => s.setAct e.1 c n e.2.2) s
  let s := if moved then s.modPch c n (fun x => { x with above := false, below := false }) else s
  let s := if armed then s.modPch c n (fun x => { x with tripCond := false, filtAt := s.tb.loc }) else s
  let s := if carries vals F.PCH_PMU_CFG_connect then s.switchPmu c n (s.actFld F.PCH_PMU_CFG_connect c n == 1) else s
  if clamped then
    let s := s.setBit F.PCH_STATUS_env_clamp c 0 true
    let s := s.modPch c n (fun x => { x with clamps := x.clamps + 1 })
    s.report c sevAdvisory (detail clsPin (pinObj c n))
  else s

/-- The staged values of the groups a strobe selects; dig values always. -/
def State.stagedVals (s : State) (c n : Nat) (lv ld pmu : Bool) : List (Fld × Nat) :=
  ((if lv then lvGroup else []) ++ (if ld then ldGroup else []) ++ (if pmu then pmuGroup else []) ++ digGroup).map
    (fun f => (f, s.fld f c n))

/-- A PMU measurement starts on a channel whose PMU is connected (R159); the strobe of a MEAS uses up the slot it assigned (R320). -/
def State.startPmu (s : State) (c n at_ : Nat) : State :=
  let owner := if n < 32 then s.pinOwner c n else none
  let slot := match owner with
    | some k => s.slotFor (s.siteOf k) (objPmu c n)
    | none => none
  let s := match owner with
    | some k => { s with rk := { s.rk with slotOf := Tbl.drop s.rk.slotOf (65536 * s.siteOf k + objPmu c n) } }
    | none => s
  if !s.bit F.PCH_CH_STATE_pmu_conn c n then s
  else
    let opened := at_ + us (s.actFld F.PCH_PMU_APER_delay_us c n)
    let closed := opened + ns 10 * clampNat 100 10000000 (s.actFld F.PCH_PMU_APER_aper c n)
    let quiet := s.md.mode == .precision && decide (s.actFld F.PCH_PMU_CFG_range c n ≤ 1) && s.actFld fldQuiet c n == 1
    let s := s.modPch c n (fun x => { x with meas := some ⟨opened, closed, slot, owner, quiet⟩ })
    let s := if quiet then s.addQuiet (opened - us 10) closed else s
    match owner with
    | some k => s.expectResult (s.siteOf k) (objPmu c n)
    | none => s

/-- A strobe acts on one channel. While its swap is in progress the values wait, a later strobe's over an earlier one's, and so does a measurement,
which starts as they become active (R164; the measurement DEDUCED, log entry 51). -/
def State.strobeChan (s : State) (c n : Nat) (lv ld pmu meas : Bool) (at_ : Nat) : State :=
  if n = 32 ∧ s.bit F.PCH_STATUS_spare_busy c then s
  else if s.swapping c n then
    let vals := s.stagedVals c n lv ld pmu
    s.modPch c n (fun x => { x with
      strobed := x.strobed.filter (fun e => !carries vals e.1) ++ vals, strobedMeas := x.strobedMeas || meas })
  else
    let s := s.unpark c n
    let s := s.activate c n (s.stagedVals c n lv ld pmu)
    let s := s.takeCorr c n
    if meas then s.startPmu c n at_ else s

/-- The channels a strobe's payload names (Table 5.7). -/
def strobeNames (payload : Nat) : List Nat :=
  (List.range 32).filter (fun p => payload.testBit (14 + p)) ++ (if payload.testBit 46 then [32] else [])

/-- LOAD_STROBE (R160 to R162): the record at the head of a Course queue acts. -/
def execLoadStrobe (c : Nat) (s : State) : Host.Outcome State Fault Refusal :=
  if c ≥ 32 then .next s
  else
    match s.takeHead c 0x01 with
    | none => .next s
    | some (r, s) =>
      if s.inSafe then .next (s.discardInSafe r)
      else
        let b := fun k => r.payload.testBit k
        let s := s.settleEdges c
        .next ((strobeNames r.payload).foldl (fun s n => s.strobeChan c n (b 13) (b 12) (b 11) (b 9) s.tb.loc) s)

/-- The strobe that function 0x1F asks for: every channel, lv, ld and pmu, 10 µs from acceptance. -/
def State.strobeNow (s : State) (c : Nat) : State :=
  s.enterRecord c (s.now + us 10) 0 0x01 true 0 (2 ^ 46 + 0xFFFFFFFF * 2 ^ 14 + 2 ^ 13 + 2 ^ 12 + 2 ^ 11) 0

/-- OD + 0x1F.00: strobe now. -/
def wrStrobeNow (h : Hdr) (c : Nat) (d : Sys2Proof.Data) (s : State) : State × Nat :=
  s.item490 h d tBool anyLen false (fun s => (if dFlag d then s.strobeNow c else s, eOk))

/-- STROBE_NOW (R164). -/
def execStrobeNow (h : Hdr) (d : Sys2Proof.Data) (c : Nat) (s : State) : Host.Outcome State Fault Refusal :=
  if c ≥ 32 then .next s else .next (s.hostItem (.strobeNow h d c) h (wrStrobeNow h c d))

/-- PMU_MEASUREMENT_COMPLETE (R159): the aperture ends with its measured value and clamp flag. -/
def execPmuMeasurementComplete (c n : Nat) (value : Int) (clamp : Bool) (s : State) : Host.Outcome State Fault Refusal :=
  match (s.pch c n).meas with
  | none => .next s
  | some m =>
    let s := s.reachLoc m.closeAt
    let s := s.modPch c n (fun x => { x with meas := none, lastPmu := value, pmuClamp := clamp })
    match m.thread with
    | some k =>
      let item := if s.homeCourse (s.siteOf k) = some c then some (0xA0 + n) else none
      .next (s.postArrival { site := s.siteOf k, at_ := s.now, order := objPmu c n, slot := m.slot, item, value, clamp })
    | none => .next s

/-! ### The envelope (R165) -/

/-- OD + 0x10.pp: envelope voltage. -/
def wrEnvV (h : Hdr) (c n : Nat) (d : Sys2Proof.Data) (s : State) : State × Nat :=
  s.item490 h d tBlob (· == 16) false (fun s =>
    let lo := levelCode (toSigned 64 (dSub d 0 8))
    let hi := levelCode (toSigned 64 (dSub d 8 8))
    let s := (s.setFld F.PCH_ENV_vmin c n lo).setFld F.PCH_ENV_vmax c n hi
    (s.storeOd (0x3010 + 32 * c) n (toBe 8 (ofSigned 64 (levelNv lo)) ++ toBe 8 (ofSigned 64 (levelNv hi))), eOk))

/-- OD + 0x11.pp: envelope current. -/
def wrEnvI (h : Hdr) (c n : Nat) (d : Sys2Proof.Data) (s : State) : State × Nat :=
  s.item490 h d tI64 anyLen false (fun s =>
    let im := currentCode (dInt d) 65535
    let s := s.setFld F.PCH_ENV_I_imax_ua c n im
    (s.storeOd (0x3011 + 32 * c) n (toBe 8 (im * 1000000000)), eOk))

/-- ENVELOPE_WRITE (R165): the voltage window, or the current limit. -/
def execEnvelopeWrite (h : Hdr) (d : Sys2Proof.Data) (c n : Nat) (current : Bool) (s : State) : Host.Outcome State Fault Refusal :=
  if c ≥ 32 ∨ n > 32 then .next s
  else .next (s.hostItem (.envelopeWrite h d c n current) h (if current then wrEnvI h c n d else wrEnvV h c n d))

/-! ### The repair matrix (R167 to R174) -/

/-- Whether a timing set of the Course has a period below 500 ps (R169). -/
def State.fastSet (s : State) (c : Nat) : Bool := decide (s.minSet c < 2048)

/-- Holds every thread of the site that owns a pin (R170, steps 1 and 2). -/
def State.holdForRepair (s : State) (c p : Nat) : State :=
  match s.pinOwner c p with
  | some k => (s.threadsOf (s.siteOf k)).foldl (fun s t => if s.running t then s.addHold t .repair else s) s
  | none => s

/-- A repair of pin `p`, or a release of it, begins. -/
def State.beginRepair (s : State) (c p : Nat) (release : Bool) : State :=
  let s := s.holdForRepair c p
  { s with pin := { s.pin with repair := Tbl.put s.pin.repair c ⟨p, release, s.tb.loc⟩ } }

/-- Whether a repair or a release of the Course is in progress. -/
def State.repairing (s : State) (c : Nat) : Bool := (Tbl.find s.pin.repair c).isSome

/-- The repair command with a pin number (R169, R173). -/
def State.repairPin (s : State) (c p : Nat) : State × Nat :=
  if s.repairing c then (s, eSpareBusy)
  else if p ≥ 32 then s.hostErr
  else if s.bit F.PCH_STATUS_spare_busy c then (s, if s.spareAt c p then eOk else eSpareBusy)
  else if s.fastSet c then (s, eRepairRate)
  else (s.beginRepair c p false, eOk)

/-- The repair command with 0xFF (R173): releases the spare; nothing to do while it is free. -/
def State.releaseSpare (s : State) (c : Nat) : State × Nat :=
  if s.repairing c then (s, eSpareBusy)
  else if s.bit F.PCH_STATUS_spare_busy c then (s.beginRepair c (s.fld F.PCH_STATUS_spare_pos c) true, eOk)
  else (s, eOk)

/-- OD + 0x16.32: repair command. -/
def wrRepair (h : Hdr) (c : Nat) (d : Sys2Proof.Data) (s : State) : State × Nat :=
  s.item490 h d tU8 anyLen false (fun s => if dNat d = 0xFF then s.releaseSpare c else s.repairPin c (dNat d))

/-- PIN_REPAIR (R170). -/
def execPinRepair (h : Hdr) (d : Sys2Proof.Data) (c : Nat) (s : State) : Host.Outcome State Fault Refusal :=
  if c ≥ 32 then .next s else .next (s.hostItem (.pinRepair h d c) h (wrRepair h c d))

/-- SPARE_RELEASE (R173): the repair command with the value 0xFF. -/
def execSpareRelease (h : Hdr) (c : Nat) (s : State) : Host.Outcome State Fault Refusal :=
  if c ≥ 32 then .next s else .next (s.hostItem (.spareRelease h c) h (wrRepair h c ⟨tU8, [0xFF]⟩))

/-- A channel's correction restarts from its path's factory values and the temperature part, in force at once and pending (R201). -/
def State.rebasePath (s : State) (c p : Nat) : State :=
  let t := s.tempPart c p
  let s := s.modChTim (32 * c + p) (fun x => { x with plumb := {}, temp := t, cand := none, latched := none })
  let s := s.setCorr c p ((s.factory c p).add t)
  (s.pendCorr c p).tmgTouch c

/-- REPAIR_SWAP_COMPLETE (R170, steps 3 to 6; R173): the electronics have changed over, at most 3 µs after the hold; when within them is open (log
entry 51). -/
def execRepairSwapComplete (c : Nat) (s : State) : Host.Outcome State Fault Refusal :=
  match Tbl.find s.pin.repair c with
  | none => .next s
  | some r =>
    if !s.siteHeld c r.pin then .next s
    else
      let p := r.pin
      let (d, s) := s.draw (us 3 + 1)
      let s := (s.reachLoc (s.heldSince c p r + d)).settleEdges c
      let s := { s with pin := { s.pin with repair := Tbl.drop s.pin.repair c } }
      let s := s.setBit F.PCH_STATUS_spare_busy c 0 (!r.release)
      let s := s.setFld F.PCH_STATUS_spare_pos c 0 (if r.release then 0 else p)
      let s := s.setBit F.PCH_CH_STATE_spare c p (!r.release)
      let s := s.setBit F.PCH_CH_STATE_derated c p false
      let s := if r.release then s else s.park c 32
      let vals := (s.pch c p).strobed
      let meas := (s.pch c p).strobedMeas
      let s := s.modPch c p (fun x => { x with above := false, below := false, tripCond := false, strobed := [], strobedMeas := false })
      let s := if vals.isEmpty then s else (s.unpark c p).activate c p vals
      let s := if meas then s.startPmu c p s.tb.loc else s
      let s := s.rebasePath c p
      let s := s.setBit F.PCH_STATUS_swap_done c 0 true
      let s := s.journal (odKey (0x3017 + 32 * c) 32) (toBe 1 (if r.release then 0xFF else p))
      let s := s.logRepair c (detail clsPin (32 * c + p)) (if r.release then 1 else 0) 0
      .next (match s.pinOwner c p with
        | some k => (s.threadsOf (s.siteOf k)).foldl (fun s t => s.dropHold t .repair) s
        | none => s)

/-- Derates a channel (R171): parked, its bit set, the owning site's results marked. -/
def State.derateChan (s : State) (c p : Nat) : State :=
  let s := s.park c p
  let s := s.setBit F.PCH_CH_STATE_derated c p true
  s.markPin c p mkDerated

/-- OD + 0x19.pp: restore a derated channel (R172). -/
def wrRestore (h : Hdr) (c p : Nat) (d : Sys2Proof.Data) (s : State) : State × Nat :=
  s.item490 h d tBool anyLen false (fun s =>
    if !dFlag d ∨ !s.bit F.PCH_CH_STATE_derated c p then (s, eOk)
    else if s.srcSet c then (s, eFaultActive)
    else (s.setBit F.PCH_CH_STATE_derated c p false, eOk))

/-- DERATED_RESTORE (R172). -/
def execDeratedRestore (h : Hdr) (d : Sys2Proof.Data) (c p : Nat) (s : State) : Host.Outcome State Fault Refusal :=
  if c ≥ 32 ∨ p > 32 then .next s else .next (s.hostItem (.deratedRestore h d c p) h (wrRestore h c p d))

/-! ### Level entries of the dictionary (Table 5.8) -/

/-- OD + 0x01 to 0x0F: a staged setting of a channel; SPARE_ASSIGNED refuses sub-index 32 while the spare serves a ball. -/
def wrPinSetting (h : Hdr) (c fn n : Nat) (d : Sys2Proof.Data) (s : State) : State × Nat :=
  let spare := fun (s : State) => decide (n = 32) && s.bit F.PCH_STATUS_spare_busy c
  let level := fun (f : Fld) =>
    s.item490 h d tI64 anyLen false (fun s => if spare s then (s, eSpareAssigned) else (s.setFld f c n (levelCode (dInt d)), eOk))
  let amp := fun (f : Fld) =>
    s.item490 h d tI64 anyLen false (fun s => if spare s then (s, eSpareAssigned) else (s.setFld f c n (currentCode (dInt d) 32767), eOk))
  let image := fun (fs : List Fld) (en : Bool) =>
    s.item490 h d tU32 anyLen en (fun s => if spare s then (s, eSpareAssigned)
      else (fs.foldl (fun s f => s.setFld f c n (dNat d / 2 ^ f.lo)) s, eOk))
  match fn with
  | 0x01 => level F.PCH_DRV_LVL_vih
  | 0x02 => level F.PCH_DRV_LVL_vil
  | 0x03 => level F.PCH_TERM_LVL_vt
  | 0x04 => level F.PCH_CMP_LVL_voh
  | 0x05 => level F.PCH_CMP_LVL_vol
  | 0x06 => level F.PCH_TERM_LVL_vcom
  | 0x07 => amp F.PCH_LOAD_ioh_ua
  | 0x08 => amp F.PCH_LOAD_iol_ua
  | 0x09 => image [F.PCH_PIN_CFG_idle, F.PCH_PIN_CFG_hyst] false
  | 0x0A => image [F.PCH_TRIP_CFG_trip_en, F.PCH_TRIP_CFG_cond, F.PCH_TRIP_CFG_clr_mode, F.PCH_TRIP_CFG_act,
      F.PCH_TRIP_CFG_filt_n, F.PCH_TRIP_CFG_filt_m] (s.bit F.PCH_CTRL_en c)
  | 0x0B => image [F.PCH_TRIP_GRP_grp] false
  | 0x0C => image [F.PCH_PMU_CFG_connect, F.PCH_PMU_CFG_fmode, F.PCH_PMU_CFG_range, F.PCH_PMU_CFG_iclamp_pct] false
  | 0x0D => s.item490 h d tI64 anyLen false (fun s =>
      if spare s then (s, eSpareAssigned)
      else if s.fld F.PCH_PMU_CFG_fmode c n = 1 then
        let full := max 1 (pmuRange (s.fld F.PCH_PMU_CFG_range c n)) * 1000000000
        (s.setFld F.PCH_PMU_FORCE_force c n (ofSigned 20 (clampInt (-524288) 524287 (roundAway (dInt d * 524288) full))), eOk)
      else
        let code := (2 * (dInt d + 1500000000) * 10 + 78125) / 156250
        (s.setFld F.PCH_PMU_FORCE_force c n (clampInt 0 1024000 code).toNat, eOk))
  | 0x0E => s.item490 h d tBlob (· == 16) false (fun s =>
      if spare s then (s, eSpareAssigned)
      else
        let s := s.setFld F.PCH_PMU_APER_delay_us c n (min 255 ((dSub d 0 8 + 500000) / 1000000))
        (s.setFld F.PCH_PMU_APER_aper c n (min 16777215 ((dSub d 8 8 + 5000) / 10000)), eOk))
  | _ => s.item490 h d tBlob (· == 16) false (fun s =>
      if spare s then (s, eSpareAssigned)
      else
        let s := s.setFld F.PCH_PMU_CLAMP_vclamp_lo c n (levelCode (toSigned 64 (dSub d 0 8)))
        (s.setFld F.PCH_PMU_CLAMP_vclamp_hi c n (levelCode (toSigned 64 (dSub d 8 8))), eOk))

end Sys2Proof.Machine
end

