-- ==== Sys2Proof/Machine/Apg.lean ====
section
/-! DEFINITION. The algorithmic pattern generators, the Carry, fail capture and the fail tally (R238 to R263). -/

namespace Sys2Proof.Machine

/-- The leader of a Course's Carry chain (R251): C00 never follows. -/
def State.apgLeader (s : State) : Nat → Nat
  | 0 => 0
  | c + 1 => if s.bit F.APG_CTRL_carry_in (c + 1) then s.apgLeader c else c + 1

/-- The Courses of the chain that Course `c` belongs to. -/
def State.chain (s : State) (c : Nat) : List Nat := (List.range 32).filter (fun q => s.apgLeader q == s.apgLeader c)

/-- Whether a Course heads a chain of more than one Course. -/
def State.heads (s : State) (c : Nat) : Bool := s.apgLeader c == c

/-- An instruction of a program memory. -/
def State.apgInstr (s : State) (c pc : Nat) : Nat := s.fld F.APG_PROG_LO_instr c pc + 4294967296 * s.fld F.APG_PROG_HI_instr c pc
/-- The generator that a Course's pins see: the leader's addresses, loop counters and carry flags (R251). -/
def State.apgCore (s : State) (c : Nat) : Apg := s.apgOf (s.apgLeader c)
/-- The leader's program counter, shown as APG_STATUS.pc. -/
def State.apgPc (s : State) (c : Nat) : Nat := s.fld F.APG_STATUS_pc (s.apgLeader c)
/-- The leader's instruction in progress (R251). -/
def State.apgWord (s : State) (c : Nat) : Nat := s.apgInstr (s.apgLeader c) (s.apgPc c)
/-- Vectors of an instruction (R241). -/
def apgVpi (w : Nat) : Nat := if bitsAt w 47 40 = 0 then 256 else bitsAt w 47 40
/-- Whether the generator is halted; the halted state is the leader's. -/
def State.apgHalted (s : State) (c : Nat) : Bool := s.bit F.APG_STATUS_halted (s.apgLeader c)
/-- A loop counter's reload value (R244). -/
def State.apgLcInit (s : State) (c n : Nat) : Nat := max 1 (s.fld F.APG_LCINIT_count (s.apgLeader c) n)

/-- Whether a Course's generator is idle (R240): not loaded since it was enabled, or the leader's is not. -/
def State.apgIdle (s : State) (c : Nat) : Bool :=
  !(s.apgOf c).live || !s.bit F.APG_CTRL_en c || !(s.apgCore c).live || !s.bit F.APG_CTRL_en (s.apgLeader c)

/-- Whether a chain's generator steps with the vectors: loaded, enabled, not halted. -/
def State.apgRuns (s : State) (c : Nat) : Bool := (s.apgCore c).live && s.bit F.APG_CTRL_en (s.apgLeader c) && !s.apgHalted c

/-- Shows a leader's PC, halted and running states in APG_STATUS of every Course of its chain. -/
def State.apgShow (s : State) (l pc : Nat) (halted : Bool) : State :=
  (s.chain l).foldl (fun s q =>
    let s := (s.setFld F.APG_STATUS_pc q 0 pc).setBit F.APG_STATUS_halted q 0 halted
    s.setBit F.APG_STATUS_running q 0 (!halted && !s.apgIdle q)) s

/-- The start state of R239, loaded at a SEGMENT_START that is not a stop: the Course's own D, and the leader's state by the leader's own
start or by one that the leader shares (R252). -/
def State.apgLoad (s : State) (c : Nat) (shared : Bool) : State :=
  let l := s.apgLeader c
  let s := s.modApg c (fun a => { a with d := s.fld F.APG_DINIT_dinit c, live := s.bit F.APG_CTRL_en c, slip := false })
  if !shared && l != c then s
  else
    let x := s.fld F.APG_XINIT_x l
    let y := s.fld F.APG_YZINIT_yinit l
    let pc := s.fld F.APG_ENTRY_entry l
    let s := s.modApg l (fun a => { a with
      x := x, y := y, ax := x, ay := y, z := s.fld F.APG_YZINIT_zinit l
      lc := (List.range 4).map (fun n => s.apgLcInit c n)
      cx := false, cy := false, cz := false, cax := false, cay := false
      live := s.bit F.APG_CTRL_en l, left := apgVpi (s.apgInstr l pc), idx := 0, bfails := [] })
    s.apgShow l pc false

/-- The first part of Table 8.2: operations 1 to 4 and 7, applied to values in their range. -/
def apgFirst (op v lo hi init alt : Nat) : Nat × Bool :=
  match op with
  | 1 => if v = hi then (lo, true) else (v + 1, false)
  | 2 => if v = lo then (hi, true) else (v - 1, false)
  | 3 => (init, false)
  | 4 => (hi, false)
  | 7 => (alt, false)
  | _ => (v, false)

/-- Operations 5 and 6, when the partner carried. -/
def apgSecond (op : Nat) (r : Nat × Bool) (partner : Bool) (lo hi init alt : Nat) : Nat × Bool :=
  if op = 5 ∧ partner then apgFirst 1 r.1 lo hi init alt
  else if op = 6 ∧ partner then apgFirst 2 r.1 lo hi init alt
  else r

/-- A pair of partners updated together; a value outside its range, or operation 5 or 6 on both, is left open (R243). -/
def apgPair (opx opy x y xlo xhi ylo yhi xi yi xalt yalt : Nat) : (Nat × Bool) × (Nat × Bool) :=
  if (5 ≤ opx ∧ opx ≤ 6 ∧ 5 ≤ opy ∧ opy ≤ 6) ∨ x < xlo ∨ xhi < x ∨ y < ylo ∨ yhi < y then
    let l := [opx, opy, x, y, xlo, xhi, ylo, yhi]
    ((Config.openNat 1 l % 1048576, decide (Config.openNat 2 l % 2 = 1)), (Config.openNat 3 l % 65536, decide (Config.openNat 4 l % 2 = 1)))
  else
    let a := apgFirst opx x xlo xhi xi xalt
    let b := apgFirst opy y ylo yhi yi yalt
    (apgSecond opx a b.2 xlo xhi xi xalt, apgSecond opy b a.2 ylo yhi yi yalt)

/-- Whether a condition of Table 8.3 holds, with the loop counters it leaves. `bf` is condition 13. -/
def State.apgCond (s : State) (c : Nat) (a : Apg) (cond : Nat) (bf : Bool) : Bool × List Nat :=
  let loop := fun (n : Nat) =>
    let v := (a.lc[n]?.getD 1) - 1
    if v = 0 then (true, a.lc.set n (s.apgLcInit c n)) else (false, a.lc.set n v)
  match cond with
  | 0 => (false, a.lc)
  | 1 => (a.cx, a.lc)
  | 2 => (a.cy, a.lc)
  | 3 => (a.cz, a.lc)
  | 4 => (a.cax, a.lc)
  | 5 => (a.cay, a.lc)
  | 6 => (a.cx && a.cy, a.lc)
  | 7 => (a.cx && a.cy && a.cz, a.lc)
  | 8 => (a.ax == a.x && a.ay == a.y, a.lc)
  | 9 => loop 0
  | 10 => loop 1
  | 11 => loop 2
  | 12 => loop 3
  | 13 => (bf, a.lc)
  | k => (decide (Config.openNat 5 [k] % 2 = 1), a.lc)

/-- The data register after an instruction (dop). -/
def apgData' (w d dinit : Nat) : Nat :=
  match bitsAt w 24 23 with
  | 1 => 4294967295 - d | 2 => dinit | 3 => 4294967295 - dinit | _ => d

/-- The end of a leader's instruction, whose last vector ends at local instant `t` (R241 to R244, R249, R250). -/
def State.apgEnd (s : State) (l t : Nat) : State :=
  let w := s.apgWord l
  let s := (s.chain l).foldl (fun s q => s.modApg q (fun a => { a with d := apgData' w a.d (s.fld F.APG_DINIT_dinit q) })) s
  let a := s.apgOf l
  let xlo := s.fld F.APG_XMIN_x l
  let xhi := s.fld F.APG_XMAX_x l
  let xi := s.fld F.APG_XINIT_x l
  let ylo := s.fld F.APG_YRANGE_ymin l
  let yhi := s.fld F.APG_YRANGE_ymax l
  let yi := s.fld F.APG_YZINIT_yinit l
  let zhi := s.fld F.APG_YZINIT_zmax l
  let (rx, ry) := apgPair (bitsAt w 39 37) (bitsAt w 36 34) a.x a.y xlo xhi ylo yhi xi yi a.ax a.ay
  let (rax, ray) := apgPair (bitsAt w 31 29) (bitsAt w 28 26) a.ax a.ay xlo xhi ylo yhi xi yi a.x a.y
  let zop := bitsAt w 33 32
  let (z, cz) :=
    if zop = 1 ∨ (zop = 3 ∧ rx.2 ∧ ry.2) then (if a.z = zhi then (0, true) else ((a.z + 1) % 64, false))
    else if zop = 2 then (s.fld F.APG_YZINIT_zinit l, false) else (a.z, false)
  let a := { a with x := rx.1, cx := rx.2, y := ry.1, cy := ry.2, ax := rax.1, cax := rax.2, ay := ray.1, cay := ray.2, z := z, cz := cz }
  let flow := bitsAt w 63 62
  let cond := bitsAt w 61 58
  let evals := decide (flow = 1 ∨ flow = 2)
  let old := fun (e : Int × Bool) => decide (e.1 + ns 40 ≤ t)
  let bf := a.bfails.any old
  let (ok, lc) := if evals then s.apgCond l a cond bf else (false, a.lc)
  let kept : List (Int × Bool) := if evals && cond == 13 then a.bfails.filter (fun e => !old e)
    else a.bfails.filter (fun e => e.2 || !old e)
  let a := { a with lc := lc, bfails := kept.map (fun (e : Int × Bool) => (e.1, true)) }
  let pc := s.apgPc l
  let next := (pc + 1) % 1024
  let target := bitsAt w 57 48
  if flow = 3 then
    (s.modApg l (fun _ => { a with left := 0 })).apgShow l pc true
  else
    let go := if flow = 1 then (if ok then next else target) else if flow = 2 then (if ok then target else next) else next
    (s.modApg l (fun _ => { a with left := apgVpi (s.apgInstr l go) })).apgShow l go false

/-! ### Outputs (R245 to R248) -/

/-- The selected topological address (asel). -/
def State.apgAddr (s : State) (c : Nat) : Nat × Nat :=
  let a := s.apgCore c
  if (s.apgWord c).testBit 25 then (a.ax, a.ay) else (a.x, a.y)

/-- One scrambler output bit (R246); an index above the address's width is left open. -/
def State.scramble (s : State) (c axis j v top : Nat) : Bool :=
  let e := axis * 32 + j
  let pickBit := fun (k : Nat) => if k ≤ top then v.testBit k else decide (Config.openNat 6 [axis, j, k, v] % 2 = 1)
  let b := pickBit (s.fld F.APG_SCR_src c e)
  if s.bit F.APG_SCR_xor_en c e then xor b (pickBit (s.fld F.APG_SCR_xsrc c e)) else b

/-- The pin row address. -/
def State.pinRow (s : State) (c : Nat) : Nat := maskOf ((List.range 20).filter (fun j => s.scramble c 0 j (s.apgAddr c).1 19))
/-- The pin column address. -/
def State.pinCol (s : State) (c : Nat) : Nat := maskOf ((List.range 16).filter (fun j => s.scramble c 1 j (s.apgAddr c).2 15))

/-- Parity of a number of at most 64 bits. -/
def parity (x : Nat) : Bool := decide (popcount x % 2 = 1)

/-- Data bit k (R245). -/
def State.apgData (s : State) (c k : Nat) : Bool :=
  let w := s.apgWord c
  let (x, y) := s.apgAddr c
  let bg := match bitsAt w 22 20 with
    | 0 => false
    | 1 => xor (x.testBit 0) (y.testBit 0)
    | 2 => x.testBit 0
    | 3 => y.testBit 0
    | 4 => xor (x.testBit 1) (y.testBit 0)
    | 5 => decide (x % 65536 = y)
    | 6 =>
      let b := fun (f : Fld) (v sh : Nat) => (v.testBit (s.fld f c)).toNat * 2 ^ sh
      (s.fld F.APG_UTBL_tbl c).testBit (b F.APG_USEL_xs1 x 3 + b F.APG_USEL_xs0 x 2 + b F.APG_USEL_ys1 y 1 + b F.APG_USEL_ys0 y 0)
    | _ => decide (Config.openNat 7 [x, y] % 2 = 1)
  let topo := xor (parity (x % 65536 &&& s.fld F.APG_TOPO_xmask c)) (parity (y &&& s.fld F.APG_TOPO_ymask c))
  xor (xor (xor ((s.apgOf c).d.testBit k) bg) topo) (w.testBit 15)

/-- The output bit mapped to a logical pin (R247); none where nothing is mapped. -/
def State.apgBit (s : State) (c p : Nat) : Option Bool :=
  let i := s.fld F.APG_PINMAP_index c p
  match s.fld F.APG_PINMAP_type c p with
  | 0 => none
  | 1 => some ((s.pinRow c).testBit i)
  | 2 => some ((s.pinCol c).testBit i)
  | 3 => some ((s.apgCore c).z.testBit i)
  | 4 => some (s.apgData c i)
  | 5 => some ((bitsAt (s.apgWord c) 19 16).testBit i)
  | k => some (decide (Config.openNat 8 [k, i] % 2 = 1))

/-- The drive bit of an A glyph; none where it acts as X (R247 to R249, R252). -/
def State.apgDrive (s : State) (c p : Nat) : Option Bool :=
  if s.apgIdle c || s.apgHalted c || (s.apgOf c).slip then none
  else if (s.apgWord c).testBit 13 && s.fld F.APG_PINMAP_type c p == 4 then none
  else s.apgBit c p

/-- The expected bit of a B glyph; none where it acts as X. -/
def State.apgExpect (s : State) (c p : Nat) : Option Bool :=
  if s.apgIdle c || s.apgHalted c || (s.apgOf c).slip || (s.apgWord c).testBit 12 then none else s.apgBit c p

/-- A Carry chain Course out of step (R252). -/
def State.chainSlip (s : State) (c : Nat) : State :=
  let s := (s.setBit F.APG_STATUS_chain_slip c 0 true).modApg c (fun a => { a with slip := true })
  (List.range 8).foldl (fun s t => if s.running (8 * c + t) then s.markSite (s.siteOf (8 * c + t)) mkChainSlip else s) s

/-! ### Fail capture (R254 to R257) -/

/-- Offers one fail record to the capture queue (R254, R256). -/
def State.offerFail (s : State) (c : Nat) (r : FailRec) : State :=
  let a := s.apgOf c
  let firstN := if s.fld F.APG_FC_CFG_first_n c = 0 then 4096 else s.fld F.APG_FC_CFG_first_n c
  let mode := s.fld F.APG_FC_CFG_mode c
  let mode := if mode = 3 then Config.openNat 9 [c] % 3 else mode
  if mode = 0 then s
  else if mode = 1 ∧ firstN ≤ a.taken then s
  else if 2048 ≤ a.queue.length then
    let s := s.modApg c (fun a => { a with lostBefore := true })
    (s.setFld F.APG_FC_LOST_lost c 0 (satInc 32 (s.fld F.APG_FC_LOST_lost c))).setBit F.APG_STATUS_fc_lost c 0 true
  else
    let r := if a.lostBefore then r.set 29 ((r[29]?.getD 0) ||| 2#8) else r
    let s := s.modApg c (fun a => { a with queue := a.queue ++ [r], lostBefore := false, taken := a.taken + 1 })
    if mode = 1 ∧ firstN ≤ a.taken + 1 then s.setBit F.APG_STATUS_fc_done c 0 true else s

/-- The fail record of a vector for one site (Table 8.4): masks of its failing pins and of the sampled halves. -/
def State.failRec (s : State) (c : Nat) (h : HeldVec) (site fail am bm : Nat) : FailRec :=
  toLe 8 h.vcnt ++ toLe 4 (h.row + 1048576 * h.bank) ++ toLe 2 h.col ++ toLe 2 h.seg ++ toLe 4 fail ++ toLe 4 am
    ++ toLe 4 bm ++ toLe 1 site ++ toLe 1 (h.idle.toNat + 4 * (s.apgLeader c != c).toNat) ++ toLe 2 h.pc

/-- The effect of fc_restart (R257). The records of the vector in progress come when its slot ends, under the new count. -/
def State.fcRestart (s : State) (c : Nat) : State :=
  (s.modApg c (fun a => { a with taken := 0, queue := [], lostBefore := false })).setFld F.APG_FC_LOST_lost c 0 0

/-- FC_RESTART (R257). -/
def execFcRestart (c : Nat) (s : State) : Host.Outcome State Fault Refusal :=
  if c < 32 then .next (s.fcRestart c) else .next s

/-- OD 0x5600 + 16c + 0x7.00: the fail buffer's four values, of which only the read index takes. -/
def wrFailBuffer (h : Hdr) (c : Nat) (d : Sys2Proof.Data) (s : State) : State × Nat :=
  s.item490 h d tBlob (· == 16) false (fun s => (s.hostRd (32 + c) (dSub d 12 4), eOk))

/-- FAIL_BUFFER_READ_INDEX (R257). -/
def execFailBufferReadIndex (h : Hdr) (d : Sys2Proof.Data) (c : Nat) (s : State) : Host.Outcome State Fault Refusal :=
  if c ≥ 32 then .next s else .next (s.hostItem (.failBufferReadIndex h d c) h (wrFailBuffer h c d))

/-! ### The fail tally (R258 to R262) -/

/-- Sets a site's tally flag: bit 0 overflow, bit 1 lost. -/
def State.tallyFlag (s : State) (c site k : Nat) : State :=
  let s := s.modApg c (fun a => { a with sites := Tbl.set a.sites 0 site (setBitAt (Tbl.get a.sites 0 site) k) })
  let s := s.setBit (if k = 0 then F.APG_STATUS_tally_ovf else F.APG_STATUS_tally_lost) c 0 true
  s.markSite site mkTally

/-- Distinct rows of a cell list. -/
def rowsIn (l : List Cell) : List (Nat × Nat × Nat) := (l.map (fun x => (x.site, x.bank, x.row))).eraseDups
/-- Distinct columns of a cell list. -/
def colsIn (l : List Cell) : List (Nat × Nat × Nat × Nat × Nat) := (l.map (fun x => (x.site, x.bank, x.col, x.pin, x.course))).eraseDups

/-- Enters a cell into a tally (R258, R259). -/
def State.enterCell (s : State) (c : Nat) (x : Cell) : State :=
  let l := (s.apgOf c).cells
  if l.contains x then s
  else
    let row := (rowsIn l).contains (x.site, x.bank, x.row)
    let col := (colsIn l).contains (x.site, x.bank, x.col, x.pin, x.course)
    if 16384 ≤ l.length ∨ (!row ∧ 4096 ≤ (rowsIn l).length) ∨ (!col ∧ 4096 ≤ (colsIn l).length) then s.tallyFlag c x.site 0
    else s.modApg c (fun a => { a with cells := a.cells ++ [x] })

/-- A cell event at local instant `t`. The tally takes at least one event per ns: whether an event that finds the queue full at
that rate is lost is a free value (R259). -/
def State.cellEvent (s : State) (c : Nat) (x : Cell) (t : Nat) : State :=
  let a := s.apgOf c
  let q := a.tq - (t - a.tqAt) / ns 1
  let s := s.modApg c (fun a => { a with tq := min 4096 (q + 1), tqAt := t })
  if q < 4096 then s.enterCell c x
  else
    let (b, s) := s.draw 2
    if b = 1 then s.tallyFlag c x.site 1 else s.enterCell c x

/-- Tally clears whose vector has come (R261). -/
def State.applyClears (s : State) (c t : Nat) : State :=
  let due := ((s.apgOf c).clr.filter (fun e => decide (e.2 ≤ t))).map (·.1)
  if due.isEmpty then s
  else s.modApg c (fun a => { a with
    cells := a.cells.filter (fun x => !due.contains x.site)
    sites := a.sites.filter (fun e => !due.contains e.1)
    clr := a.clr.filter (fun e => !decide (e.2 ≤ t)) })

/-- A tally clear of a site is issued on a Course: it takes effect at the first vector at least 40 ns later (R261). -/
def State.tallyClear (s : State) (c site : Nat) : State :=
  s.modApg (s.apgLeader c) (fun a => { a with clr := a.clr ++ [(site, s.tb.loc + ns 40)] })

/-- How many members of a list equal each distinct member, kept where the count is above `n`. -/
def overCount {α : Type} [DecidableEq α] (keys : List α) (l : List α) (n : Nat) : Nat :=
  (keys.filter (fun k => decide (n < (l.filter (fun x => decide (x = k))).length))).length

/-- A site's tally summary on one Course (R260): cells, rows, columns, must-repair rows and columns, flags. -/
def State.tallySummary (s : State) (c site : Nat) : Nat × Nat × Nat × Nat × Nat × Nat :=
  let l := (s.apgOf c).cells.filter (fun x => x.site == site)
  let mr := overCount (rowsIn l) (l.map (fun x => (x.site, x.bank, x.row))) (s.fld F.APG_TALLY_CFG_col_spares c)
  let mc := overCount (colsIn l) (l.map (fun x => (x.site, x.bank, x.col, x.pin, x.course))) (s.fld F.APG_TALLY_CFG_row_spares c)
  let f := Tbl.get (s.apgOf c).sites 0 site
  let bad := decide (s.fld F.APG_TALLY_CFG_row_spares c < mr) || decide (s.fld F.APG_TALLY_CFG_col_spares c < mc) || decide (f % 4 ≠ 0)
  (l.length, (rowsIn l).length, (colsIn l).length, mr, mc, f % 4 + 4 * bad.toNat)

/-- Posts a site's tally summary, summed over its Courses, to its Reckoner share (R260): items 0x004 and 0x005. -/
def State.postTally (s : State) (site : Nat) : State :=
  let (n, r, k, mr, mc, f) := (List.range 32).foldl (fun (a : Nat × Nat × Nat × Nat × Nat × Nat) c =>
    if (s.apgOf c).cells.isEmpty && Tbl.get (s.apgOf c).sites 0 site == 0 then a
    else
      let b := s.tallySummary c site
      (a.1 + b.1, a.2.1 + b.2.1, a.2.2.1 + b.2.2.1, a.2.2.2.1 + b.2.2.2.1, a.2.2.2.2.1 + b.2.2.2.2.1, a.2.2.2.2.2 ||| b.2.2.2.2.2))
    (0, 0, 0, 0, 0, 0)
  let s := s.setItem site 4 (n % 4294967296 + 4294967296 * (r % 65536) + 281474976710656 * (k % 65536))
  s.setItem site 5 (mr % 65536 + 65536 * (mc % 65536) + 4294967296 * f)

/-- OD + 0xA.tt. -/
def wrTallyClear (h : Hdr) (c t : Nat) (d : Sys2Proof.Data) (s : State) : State × Nat :=
  s.item490 h d tBool anyLen false (fun s => (if dFlag d then s.tallyClear c (s.siteOf (8 * c + t)) else s, eOk))

/-- TALLY_CLEAR (R261). -/
def execTallyClear (path : Path) (c t : Nat) (s : State) : Host.Outcome State Fault Refusal :=
  if c ≥ 32 ∨ t ≥ 8 then .next s
  else .next (s.viaPath (.tallyClear path c t) path (fun h d => wrTallyClear h c t d) (fun s => s.tallyClear c (s.siteOf (8 * c + t))))

/-! ### Enable (R240) -/

/-- Gives APG_CTRL.en a value: cleared, the generator idles at the next vector; set, it waits for the next anchor. -/
def State.apgEnable (s : State) (c : Nat) (on : Bool) : State :=
  let was := s.bit F.APG_CTRL_en c
  let s := s.setBit F.APG_CTRL_en c 0 on
  if was == on then s
  else
    let s := s.modApg c (fun a => { a with live := false })
    s.apgShow (s.apgLeader c) (s.apgPc c) (s.apgHalted c)

/-- OD + 0xB.00. -/
def wrApgEnable (h : Hdr) (c : Nat) (d : Sys2Proof.Data) (s : State) : State × Nat :=
  s.item490 h d tBool anyLen false (fun s => (s.apgEnable c (dFlag d), eOk))

/-- APG_ENABLE_WRITE (R240): `on` is the bit written through the register. -/
def execApgEnableWrite (path : Path) (c : Nat) (on : Bool) (s : State) : Host.Outcome State Fault Refusal :=
  if c ≥ 32 then .next s
  else .next (s.viaPath (.apgEnableWrite path c on) path (fun h d => wrApgEnable h c d) (fun s => s.apgEnable c on))

/-! ### CFG-backed entries (R263) -/

/-- Writes `n` instructions of the program memory from an address, wrapping at 1,024. -/
def State.putProg (s : State) (c a : Nat) : List Nat → State
  | [] => s
  | w :: l =>
    State.putProg ((s.setFld F.APG_PROG_LO_instr c (a % 1024) w).setFld F.APG_PROG_HI_instr c (a % 1024) (w / 4294967296)) c (a + 1) l

/-- The words of `w` bytes that a BLOB holds from an offset. -/
def dWords (d : Sys2Proof.Data) (off w n : Nat) : List Nat := (List.range n).map (fun k => dSub d (off + w * k) w)

/-- OD + 0x0 to 0x6: the CFG-backed entries of a Course's generator. -/
def wrApgCfg (h : Hdr) (c fn sub : Nat) (d : Sys2Proof.Data) (s : State) : State × Nat :=
  let en := s.bit F.APG_CTRL_en c
  let n := d.bytes.length
  match fn with
  | 0x0 => s.item490 h d tBlob (fun n => decide (10 ≤ n ∧ (n - 2) % 8 = 0)) en (fun s =>
      if 1024 < dSub d 0 2 + (n - 2) / 8 then s.hostErr
      else (s.putProg c (dSub d 0 2) (dWords d 2 8 ((n - 2) / 8)), eOk))
  | 0x1 => s.item490 h d tU16 anyLen en (fun s => (s.setFld F.APG_ENTRY_entry c 0 (dNat d), eOk))
  | 0x2 => s.item490 h d tBlob (· == 40) en (fun s =>
      let s := s.setFld F.APG_XMIN_x c 0 (dSub d 0 4)
      let s := s.setFld F.APG_XMAX_x c 0 (dSub d 4 4)
      let s := s.setFld F.APG_XINIT_x c 0 (dSub d 8 4)
      let s := s.setFld F.APG_YRANGE_ymin c 0 (dSub d 12 2)
      let s := s.setFld F.APG_YRANGE_ymax c 0 (dSub d 14 2)
      let s := s.setFld F.APG_YZINIT_yinit c 0 (dSub d 16 2)
      let s := s.setFld F.APG_YZINIT_zmax c 0 (dSub d 18 1)
      let s := s.setFld F.APG_YZINIT_zinit c 0 (dSub d 19 1)
      let s := (List.range 4).foldl (fun s k => s.setFld F.APG_LCINIT_count c k (dSub d (20 + 4 * k) 4)) s
      (s.setFld F.APG_DINIT_dinit c 0 (dSub d 36 4), eOk))
  | 0x3 => s.item490 h d tBlob (· == 72) en (fun s =>
      let put := fun (s : State) (e w : Nat) =>
        ((s.setFld F.APG_SCR_src c e w).setFld F.APG_SCR_xsrc c e (w / 1024)).setFld F.APG_SCR_xor_en c e (w / 32768)
      let s := (List.range 20).foldl (fun s j => put s j (dSub d (2 * j) 2)) s
      ((List.range 16).foldl (fun s j => put s (32 + j) (dSub d (40 + 2 * j) 2)) s, eOk))
  | 0x4 => s.item490 h d tBlob (· == 12) en (fun s =>
      let put := fun (s : State) (fs : List Fld) (w : Nat) => fs.foldl (fun s f => s.setFld f c 0 (w / 2 ^ f.lo)) s
      let s := put s [F.APG_TOPO_ymask, F.APG_TOPO_xmask] (dSub d 0 4)
      let s := put s [F.APG_UTBL_tbl] (dSub d 4 4)
      (put s [F.APG_USEL_xs1, F.APG_USEL_xs0, F.APG_USEL_ys1, F.APG_USEL_ys0] (dSub d 8 4), eOk))
  | 0x5 => s.item490 h d tU8 anyLen en (fun s =>
      ((s.setFld F.APG_PINMAP_type c sub (dNat d / 32)).setFld F.APG_PINMAP_index c sub (dNat d), eOk))
  | _ => s.item490 h d tBlob (· == 8) en (fun s =>
      let w := dSub d 0 4
      let s' := [F.APG_FC_CFG_mode, F.APG_FC_CFG_site_mask, F.APG_FC_CFG_first_n, F.APG_FC_CFG_slots].foldl
        (fun s f => s.setFld f c 0 (w / 2 ^ f.lo)) s
      let s' := (s'.setFld F.APG_FC_PINMASK_pins c 0 (dSub d 4 4)).modApg c (fun a => { a with taken := 0 })
      if s'.fits s.md.mode then (s', eOk) else (s, eCalendarFull))

end Sys2Proof.Machine
end

