-- ==== Sys2Proof/Machine/Bist.lean ====
section
/-! DEFINITION. Self-test: runs, slices, verdicts and the soft repair map (R529 to R536). -/

namespace Sys2Proof.Machine

/-- Whether a target allows a kind of run (Table 18.5). -/
def bistAllows (kind target : Nat) : Bool :=
  let all := decide (target < 36) || (decide (44 ≤ target) && decide (target ≤ 50)) || target == 57 || target == 59
  let excl := target == 38 || target == 39 || target == 41 || target == 58
  match kind with
  | 0 => true
  | 1 => all || excl
  | 2 => all
  | 3 => all
  | _ => false

/-- The programmed slice count (Table 18.5); the memory slices within it, which the table does not give, for MEM_S. -/
def bistSlices (kind target : Nat) : Nat :=
  let n :=
    if target < 32 then 2000 else if target < 36 then 500 else if target = 38 then 250 else if target = 39 then 500
    else if target = 41 then 100 else if target < 50 then 1000 else if target = 50 then 2500 else 250
  match kind with
  | 0 => 90000
  | 3 => Config.openNat 23 [target] % (n + 1)
  | _ => n

/-- Verdict codes of the fault log and OD 0x9022.00 (Table 18.7). -/
def vPass : Nat := 0
def vFail : Nat := 1
def vIncomplete : Nat := 2

/-- The source a run's verdict is logged under: the target's, or the BIST block's for FULL. -/
def BistRun.source (r : BistRun) : Nat := if r.kind = 0 then 56 else r.target

/-- A run starts (R530). -/
def State.bistBegin (s : State) (kind target : Nat) (soft : Bool) : State :=
  let s := { s with bist := { s.bist with run := some ⟨kind, target, s.tb.loc, false, 0, soft⟩ } }
  let s := s.setFld F.BST_STATUS_state 0 0 1
  let s := s.setFld F.BST_STATUS_abandons 0 0 0
  let s := s.setFld F.BST_PROG_count 0 0 (bistSlices kind target)
  let s := s.setFld F.BST_DONE_count 0 0 0
  let s := s.setPair F.BST_SIG_LO_sig F.BST_SIG_HI_sig 0 0 0
  s.setPair F.BST_EXP_LO_sig F.BST_EXP_HI_sig 0 0 0

/-- A run ends with a verdict: the status, OD 0x9022.00 and the log record (R526, R533). -/
def State.bistEnd (s : State) (r : BistRun) (verdict sev det : Nat) : State :=
  let sig := s.pair F.BST_SIG_LO_sig F.BST_SIG_HI_sig
  let s := { s with bist := { s.bist with
    run := none
    last := ⟨r.kind, r.target, verdict, s.fld F.BST_PROG_count, s.fld F.BST_DONE_count, sig, s.pair F.BST_EXP_LO_sig F.BST_EXP_HI_sig,
      s.fld F.BST_STATUS_abandons, s.now⟩ } }
  let s := s.setFld F.BST_STATUS_state 0 0 (verdict + 2)
  s.logFault 2 r.source sev det 0 ([BitVec.ofNat 8 r.kind, BitVec.ofNat 8 r.target, BitVec.ofNat 8 verdict, 0] ++ toLe 8 sig)

/-- The run in progress ends INCOMPLETE (R530, R531). -/
def State.bistStop (s : State) : State :=
  match s.bist.run with
  | some r => s.bistEnd r vIncomplete 0 0
  | none => s

/-- An escalation to Safe or a Thermal Halt ends an exclusive run INCOMPLETE (R532). -/
def State.bistHalt (s : State) : State :=
  match s.bist.run with
  | some r => if r.kind ≤ 1 then s.bistStop else s
  | none => s

/-- The checks of a start (R530): `owner` says whether the sender holds the Owner session. -/
def State.bistTry (s : State) (owner : Bool) (kind target : Nat) (soft : Bool) : State × Nat :=
  if kind ≤ 1 && !owner then (s, eNotOwner)
  else if bistAllows kind target = false then (s, eMalformed)
  else if s.bist.run.isSome then (s, eBusyBist)
  else if kind ≤ 1 && s.md.mode != .safe && s.md.mode != .survey then (s, eModeConflict)
  else (s.bistBegin kind target soft, eOk)

/-- A written item that any session may write (Table 18.6): the checks of type and length alone. -/
def State.itemAny (s : State) (d : Sys2Proof.Data) (ty : Nat) (len : Nat → Bool) (own : State → State × Nat) : State × Nat :=
  if d.ty ≠ ty then (s, eType)
  else if (if ty = tBlob then len d.bytes.length else d.bytes.length == tySize ty) = false then (s, eLength)
  else own s

/-- OD 0x9020.00. -/
def wrBistStart (h : Hdr) (d : Sys2Proof.Data) (s : State) : State × Nat :=
  s.itemAny d tBlob (fun n => n == 3) (fun s => s.bistTry (s.isOwner h.session) (dSub d 0 1) (dSub d 1 1) (decide (dSub d 2 1 ≠ 0)))

/-- BST_CTRL.start: the run that BST_CFG describes. -/
def State.bistStartReg (s : State) : State :=
  (s.bistTry true (s.fld F.BST_CFG_kind) (s.fld F.BST_CFG_target) (s.bit F.BST_CTRL_soft_rep)).1

/-- BIST_START (R530). -/
def execBistStart (path : Path) (s : State) : Host.Outcome State Fault Refusal :=
  .next (s.viaPath (.bistStart path) path wrBistStart State.bistStartReg)

/-- OD 0x9021.00: any session ends a sliced run, the Owner any run. -/
def wrBistAbort (h : Hdr) (d : Sys2Proof.Data) (s : State) : State × Nat :=
  s.itemAny d tBool anyLen (fun s =>
    match s.bist.run with
    | some r => if r.kind ≤ 1 && !s.isOwner h.session then (s, eNotOwner) else (if dFlag d then s.bistStop else s, eOk)
    | none => (s, eOk))

/-- BIST_ABORT (R530). -/
def execBistAbort (path : Path) (s : State) : Host.Outcome State Fault Refusal :=
  .next (s.viaPath (.bistAbort path) path wrBistAbort State.bistStop)

/-- Whether a request of a sliced run's target is pending (R531): work in progress in the block (DEDUCED, log entry 59: the rule does not list its
requests). -/
def State.blockAsked (s : State) (t : Nat) : Bool :=
  if t < 32 then s.bit F.TMG_STATUS_streaming t || s.bit F.SER_STATUS_busy t || (List.range 8).any (fun j => (s.thr (8 * t + j)).dec)
  else if 44 ≤ t ∧ t < 48 then
    (List.range 33).any (fun n =>
      let x := Tbl.get s.smu.ch {} (if n < 32 then 32 * (t - 44) + n else 84 + t)
      !x.aper.isEmpty || x.pulseEnd.isSome || x.stepAt.isSome)
  else if 48 ≤ t ∧ t < 50 then (List.range 32).any (fun n => s.bit F.WAV_STATE_playing (t - 48) n || s.bit F.WAV_STATE_capturing (t - 48) n)
  else if t = 50 then
    (List.range 8).any (fun n => s.bit F.FLN_LSTAT_tx_active 0 n || s.bit F.FLN_LSTAT_rx_active 0 n || s.bit F.FLN_LSTAT_gate_open 0 n)
  else if t = 57 then (List.range 264).any (fun u => s.fld F.ACQ_USTAT_state 0 u != 0)
  else t == 59 && s.rk.caches.any (fun (e : Nat × Cache) => !e.2.waiting.isEmpty || !e.2.missing.isEmpty)

/-- Whether a slice may start (R531): a sliced run between slices, no request of the target pending, nothing due for it, no quiet aperture. -/
def State.sliceMay (s : State) (r : BistRun) : Bool :=
  !s.blockAsked r.target && decide (2 ≤ r.kind) && !r.slice && decide (s.fld F.BST_DONE_count < s.fld F.BST_PROG_count) && s.ks.running && !s.inQuiet &&
    (List.range 40).all (fun q => queueTarget q != r.target || (s.queue q).all (fun x => decide (s.now + us 20 ≤ x.exec)))

/-- BIST_SLICE_START (R531). -/
def execBistSliceStart (s : State) : Host.Outcome State Fault Refusal :=
  match s.bist.run with
  | some r => if s.sliceMay r then .next { s with bist := { s.bist with run := some { r with slice := true } } } else .next s
  | none => .next s

/-- BIST_SLICE_COMPLETE (R531). -/
def execBistSliceComplete (s : State) : Host.Outcome State Fault Refusal :=
  match s.bist.run with
  | some r =>
    if r.slice then
      .next (({ s with bist := { s.bist with run := some { r with slice := false } } }).setFld F.BST_DONE_count 0 0
        (s.fld F.BST_DONE_count + 1))
    else .next s
  | none => .next s

/-- BIST_COMPLETE (R533, R535): the run has done every slice. `sig` and `expected` are the signatures, `repairs` the soft repairs it found
needed; where they differ, `det` is the failing block or object and, for FULL, `src` the failing target. -/
def execBistComplete (sig expected src det : Nat) (repairs : List Nat) (s : State) : Host.Outcome State Fault Refusal :=
  match s.bist.run with
  | none => .next s
  | some r =>
    if 2 ≤ r.kind ∧ s.fld F.BST_DONE_count ≠ s.fld F.BST_PROG_count then .next s
    else
      let s := s.setFld F.BST_DONE_count 0 0 (s.fld F.BST_PROG_count)
      let s := s.setPair F.BST_SIG_LO_sig F.BST_SIG_HI_sig 0 0 (sig % 18446744073709551616)
      let s := s.setPair F.BST_EXP_LO_sig F.BST_EXP_HI_sig 0 0 (expected % 18446744073709551616)
      let s := if r.kind ≤ 1 || r.soft then { s with bist := { s.bist with softMap := s.bist.softMap ++ repairs } } else s
      if sig % 18446744073709551616 = expected % 18446744073709551616 then .next (s.bistEnd r vPass 0 0)
      else
        let s := s.bistEnd r vFail sevDegraded det
        .next (s.report (if r.kind = 0 then src else r.target) sevDegraded det)

/-- BIST_TIME_LIMIT (R531): BST_LIMIT runs out. -/
def execBistTimeLimit (s : State) : Host.Outcome State Fault Refusal :=
  match s.bist.run with
  | some r => .next ((s.reachLoc (r.started + ms (max 1 (s.fld F.BST_LIMIT_limit_ms)))).bistStop)
  | none => .next s

/-- OD 0x9041.00: fuses the soft repair map; `bad` are the entries whose verification fails (R536). A repair's log record names the block of its
entry, whose 32 bits the spec does not lay out: an open function of the entry. -/
def wrFuseMap (h : Hdr) (bad : List Nat) (d : Sys2Proof.Data) (s : State) : State × Nat :=
  s.item490 h d tBool anyLen false (fun s =>
    if s.md.mode != .safe then (s, eModeConflict)
    else if !dFlag d then (s, eOk)
    else
      let new := (s.bist.softMap.filter (fun e => !s.bist.fuseField.any (fun f => f.1 == e && f.2))).take (512 - s.bist.fuseField.length)
      let s := { s with bist := { s.bist with fuseField := s.bist.fuseField ++ new.map (fun e => (e, !bad.contains e)) } }
      let s := new.foldl (fun s e => if bad.contains e then s else s.logRepair 61 (detail clsBlock (Config.openNat 70 [e])) 4 0) s
      (if new.any (fun e => bad.contains e) then s.report 61 sevDegraded (detail clsNone 0) else s, eOk))

/-- FUSE_SOFT_REPAIR_MAP (R536). -/
def execFuseSoftRepairMap (h : Hdr) (d : Sys2Proof.Data) (bad : List Nat) (s : State) : Host.Outcome State Fault Refusal :=
  .next (s.hostItem (.fuseSoftRepairMap h d bad) h (wrFuseMap h bad d))

end Sys2Proof.Machine
end

