-- ==== Sys2Proof/Machine/Contexts.lean ====
section
/-! DEFINITION. Instrument contexts: their layout, the context table, the caches, and applying PIN contexts (R305 to R316). -/

namespace Sys2Proof.Machine

/-! ### Layout (Tables 10.1 to 10.3) -/

/-- The first byte of a context in DRAM (R308). -/
def ctxAddr (n : Nat) : Nat := (1072693248 + n) * 64
/-- A context as the table holds it; one read from an uncorrectable line acts as NULL (R527). -/
def State.ctxMem (s : State) (n : Nat) : List Byte :=
  if s.corruptLine (1072693248 + n) then List.replicate 64 0 else s.bytes (ctxAddr n) 64
/-- `n` bytes of a context from an offset, least significant first. -/
def ctxAt (b : List Byte) (off n : Nat) : Nat := leNat ((b.drop off).take n)
/-- Type: 0 NULL, 1 PIN, 2 SMU, 3 WAV, 4 FLN; a reserved type acts as an open choice of these. -/
def ctxType (b : List Byte) : Nat := if ctxAt b 0 1 < 5 then ctxAt b 0 1 else Config.openNat 10 [ctxAt b 0 1] % 5
/-- Quiet bit (R134). -/
def ctxQuiet (b : List Byte) : Bool := (ctxAt b 1 1).testBit 0
/-- Target. -/
def ctxTarget (b : List Byte) : Nat := ctxAt b 2 2
/-- Duration in ns; none is open-ended (Table 3.1). -/
def ctxNs (b : List Byte) : Option Nat := if ctxAt b 4 4 = 0xFFFFFFFF then none else some (max 1 (ctxAt b 4 4))
/-- Power in mW. -/
def ctxMw (b : List Byte) : Nat := ctxAt b 8 2
/-- SMU dissipation in mW. -/
def ctxSmuMw (b : List Byte) : Nat := min 40000 (ctxAt b 10 2)
/-- Pins a PIN context names. -/
def ctxPins (b : List Byte) : Nat := ctxAt b 12 4
/-- Groups of a PIN context. -/
def ctxGroups (b : List Byte) : Nat := ctxAt b 60 1
/-- Whether a PIN context sets meas. -/
def ctxMeas (b : List Byte) : Bool := (ctxGroups b).testBit 4

/-- The settings a PIN context gives to pin `p` (Table 10.2); with its measurement settings goes its quiet bit (R134). -/
def ctxPinVals (b : List Byte) (p : Nat) : List (Fld × Nat) :=
  let g := ctxGroups b
  let image := fun (fs : List Fld) (w : Nat) => fs.map (fun f => (f, w / 2 ^ f.lo % 2 ^ f.wid))
  (if g.testBit 0 then
    [(F.PCH_DRV_LVL_vih, ctxAt b 16 2), (F.PCH_DRV_LVL_vil, ctxAt b 18 2), (F.PCH_TERM_LVL_vt, ctxAt b 20 2),
      (F.PCH_CMP_LVL_voh, ctxAt b 22 2), (F.PCH_CMP_LVL_vol, ctxAt b 24 2)]
      ++ image [F.PCH_PIN_CFG_hyst, F.PCH_PIN_CFG_idle] (ctxAt b 32 4)
   else []) ++
  (if g.testBit 1 then
    (F.PCH_TERM_LVL_vcom, ctxAt b 26 2) :: image [F.PCH_LOAD_load_en, F.PCH_LOAD_ioh_ua, F.PCH_LOAD_iol_ua] (ctxAt b 28 4)
   else []) ++
  (if g.testBit 2 then
    image [F.PCH_PMU_CFG_connect, F.PCH_PMU_CFG_fmode, F.PCH_PMU_CFG_range, F.PCH_PMU_CFG_iclamp_pct, F.PCH_PMU_FORCE_force] (ctxAt b 36 4)
      ++ image [F.PCH_PMU_CLAMP_vclamp_hi, F.PCH_PMU_CLAMP_vclamp_lo] (ctxAt b 40 4)
      ++ image [F.PCH_PMU_APER_delay_us, F.PCH_PMU_APER_aper] (ctxAt b 44 4)
   else []) ++
  (if g.testBit 3 then
    (fldCmask, (ctxAt b 48 4 / 2 ^ p) % 2)
      :: (image [F.PCH_TRIP_CFG_trip_en, F.PCH_TRIP_CFG_cond, F.PCH_TRIP_CFG_clr_mode, F.PCH_TRIP_CFG_act] (ctxAt b 52 4)
        ++ image [F.PCH_TRIP_GRP_grp] (ctxAt b 56 4))
   else []) ++
  (if g.testBit 2 || g.testBit 4 then [(fldQuiet, (ctxQuiet b).toNat)] else [])

/-- Writes a PIN context's groups into the staged sets of its pins (R314). -/
def State.stagePin (s : State) (b : List Byte) : State :=
  let c := ctxTarget b
  (bitsOf 32 (ctxPins b)).foldl (fun s p => (ctxPinVals b p).foldl (fun s e => s.setFld e.1 c p e.2) s) s

/-- Switches a PIN context's groups in at a vector's start (R316). -/
def State.switchPin (s : State) (b : List Byte) (at_ : Nat) : State :=
  let c := ctxTarget b
  (bitsOf 32 (ctxPins b)).foldl (fun s p =>
    let vals := ctxPinVals b p
    let s := vals.foldl (fun s e => s.setFld e.1 c p e.2) s
    let s := s.activate c p vals
    if ctxMeas b then s.startPmu c p at_ else s) (s.stagePin b)

/-- The cost of a set of contexts (R88): power, duration (none open-ended), SMU dissipation, and whether it is analogue (R89). -/
def ctxCost (l : List (List Byte)) : Nat × Option Nat × Nat × Bool :=
  (l.foldl (fun a b => a + ctxMw b) 0,
    l.foldl (fun m b => match m, ctxNs b with | some x, some y => some (max x y) | _, _ => none) (some 1),
    l.foldl (fun a b => a + ctxSmuMw b) 0,
    l.any (fun b => ctxType b == 2 || ctxType b == 3))

/-! ### The cache (R310 to R313) -/

/-- A Course's cache. -/
def State.cache (s : State) (c : Nat) : Cache := Tbl.get s.rk.caches {} c
/-- Changes a Course's cache; CTX_STATUS.locked follows. -/
def State.modCache (s : State) (c : Nat) (f : Cache → Cache) : State :=
  let x := f (s.cache c)
  let s := { s with rk := { s.rk with caches := Tbl.set s.rk.caches {} c x } }
  s.setFld F.CTX_STATUS_locked c 0 (x.entries.filter (fun e => !e.lockers.isEmpty || !e.staged.isEmpty)).length

/-- Whether an entry is locked. -/
def CacheEntry.locked (e : CacheEntry) : Bool := !e.lockers.isEmpty || !e.staged.isEmpty
/-- An entry that is no longer locked takes the table write that waited (R309). -/
def CacheEntry.settle (e : CacheEntry) : CacheEntry :=
  if e.locked then e else { e with data := e.next.getD e.data, next := none }
/-- A context's entry in a cache. -/
def Cache.find (x : Cache) (n : Nat) : Option CacheEntry := x.entries.find? (fun e => e.ctx == n)
/-- Releases a thread's CTXF locks. -/
def Cache.release (x : Cache) (t : Nat) : Cache :=
  { x with entries := x.entries.map (fun e => CacheEntry.settle { e with lockers := removeNat e.lockers t }) }
/-- Releases a thread's staged lock. -/
def Cache.unstage (x : Cache) (t : Nat) : Cache :=
  { x with entries := x.entries.map (fun e => CacheEntry.settle { e with staged := removeNat e.staged t }) }
/-- Drops the least recently used unlocked entry. -/
def evict : List CacheEntry → List CacheEntry
  | [] => []
  | e :: l => if e.locked then e :: evict l else l
/-- Adds an entry as the most recently used, evicting one when the cache is full. -/
def Cache.add (x : Cache) (e : CacheEntry) : Cache :=
  { x with entries := (if 512 ≤ x.entries.length then evict x.entries else x.entries) ++ [e] }

/-- The contexts a CTXF names. -/
def ctxRange (first count : Nat) : List Nat := (List.range count).map (fun k => (first + k) % 1048576)

/-- Whether a CTXF's contexts fit beside the entries others hold locked (R311). -/
def Cache.roomFor (x : Cache) (first count : Nat) : Bool :=
  let want := ctxRange first count
  decide (count + (x.entries.filter (fun e => e.locked && !want.contains e.ctx)).length ≤ 512)

/-- A CTXF proceeds: all its entries are locked, the missing ones are being fetched; hits and misses are counted. -/
def State.lockCtx (s : State) (c t first count : Nat) : State :=
  -- those present first, so that no entry of the set makes way for another
  let (hits, misses) := (ctxRange first count).partition (fun n => ((s.cache c).find n).isSome)
  (hits ++ misses).foldl (fun s n =>
    match (s.cache c).find n with
    | some e =>
      let s := s.setPair F.CTX_HIT_LO_count F.CTX_HIT_HI_count c 0 (s.pair F.CTX_HIT_LO_count F.CTX_HIT_HI_count c + 1)
      s.modCache c (fun x => { x with entries := x.entries.filter (fun y => y.ctx != n) ++ [{ e with lockers := insertAsc e.lockers t }] })
    | none =>
      let s := s.setPair F.CTX_MISS_LO_count F.CTX_MISS_HI_count c 0 (s.pair F.CTX_MISS_LO_count F.CTX_MISS_HI_count c + 1)
      s.modCache c (fun x => let y := x.add ⟨n, [], [t], [], none⟩; { y with missing := insertAsc x.missing n })) s

/-- A CTXF by thread 8c + t: it locks its set now, or waits behind those that wait already (R311). -/
def State.ctxFetch (s : State) (k first count : Nat) : State :=
  let c := k / 8
  let t := k % 8
  let s := s.modCache c (fun x => x.release t)
  let s := s.modThr k (fun x => { x with ctxf := some (first, count) })
  if (s.cache c).waiting.isEmpty && (s.cache c).roomFor first count then s.lockCtx c t first count
  else
    let s := s.modCache c (fun x => { x with waiting := x.waiting ++ [⟨t, first, count⟩] })
    s.setBit F.CTX_STATUS_lock_wait c 0 true

/-- Condition 24: every context of the thread's latest CTXF is in the cache. -/
def State.ctxReady (s : State) (k : Nat) : Bool :=
  match (s.thr k).ctxf with
  | none => true
  | some (first, count) =>
    let x := s.cache (k / 8)
    !x.waiting.any (fun w => w.thread == k % 8) &&
      (ctxRange first count).all (fun n => (x.find n).isSome && !x.missing.contains n)

/-- A context as the thread's Course sees it: its cache entry, or the table. -/
def State.ctx (s : State) (c n : Nat) : List Byte :=
  match (s.cache c).find n with
  | some e => if (s.cache c).missing.contains n then s.ctxMem n else e.data
  | none => s.ctxMem n

/-- CTXF_PROCEED (R311): the first waiting CTXF of a Course finds room. -/
def execCtxfProceed (c : Nat) (s : State) : Host.Outcome State Fault Refusal :=
  match (s.cache c).waiting with
  | [] => .next s
  | w :: rest =>
    if c < 32 ∧ (s.cache c).roomFor w.first w.count then
      .next ((s.modCache c (fun x => { x with waiting := rest })).lockCtx c w.thread w.first w.count)
    else .next s

/-- CONTEXT_FETCH_COMPLETE (R312): the contexts a Course missed arrive. -/
def execContextFetchComplete (c : Nat) (s : State) : Host.Outcome State Fault Refusal :=
  if c ≥ 32 then .next s
  else
    let miss := (s.cache c).missing
    .next (s.modCache c (fun x => { x with
      entries := x.entries.map (fun e => if miss.contains e.ctx then { e with data := s.ctxMem e.ctx } else e)
      missing := [] }))

/-- CACHE_FLUSH (R310): CTX_CTRL.flush invalidates every unlocked entry. -/
def execCacheFlush (c : Nat) (s : State) : Host.Outcome State Fault Refusal :=
  if c ≥ 32 then .next s
  else .next (s.modCache c (fun x => { x with entries := x.entries.filter (·.locked) }))

/-- Releases a thread's CTXF locks at an ABORT or its step boundary. -/
def State.releaseCtx (s : State) (k : Nat) : State :=
  let s := s.modCache (k / 8) (fun x => let y := x.release (k % 8); { y with waiting := x.waiting.filter (fun w => w.thread != k % 8) })
  s.modThr k (fun x => { x with ctxf := none })

/-- Discards a thread's staged next context (R316). -/
def State.dropStaged (s : State) (k : Nat) : State :=
  if (s.thr k).nextCtx.isNone then s
  else
    let s := s.modThr k (fun x => { x with nextCtx := none })
    let s := s.modCache (k / 8) (fun x => x.unstage (k % 8))
    s.setBit F.CTX_STATUS_staged_drop (k / 8) 0 true

/-- Stages a thread's next context (CTXS, R316). -/
def State.stageNext (s : State) (k n : Nat) : State :=
  let c := k / 8
  let s := s.dropStaged k
  let s := if ((s.cache c).find n).isSome then s else s.modCache c (fun x => x.add ⟨n, s.ctxMem n, [], [], none⟩)
  let s := s.modCache c (fun x => { x with
    entries := x.entries.filter (fun e => e.ctx != n) ++ (x.entries.filter (fun e => e.ctx == n)).map (fun e => { e with staged := insertAsc e.staged (k % 8) }) })
  s.modThr k (fun x => { x with nextCtx := some n, ctxTaken := false })

/-- The context switch of a vector with cx = 1: every thread of the Course, in thread order (R207, R316). -/
def State.switchAll (s : State) (c at_ : Nat) : State :=
  (List.range 8).foldl (fun s t =>
    let k := 8 * c + t
    match (s.thr k).nextCtx with
    | none => s
    | some n =>
      let b := s.ctx c n
      let s := if ctxType b = 1 ∧ ctxTarget b = c then s.switchPin b at_ else s
      let s := s.modThr k (fun x => { x with nextCtx := none, ctxTaken := true })
      s.modCache c (fun x => x.unstage t)) s

/-! ### Writing the table (R309) -/

/-- Writes one context into DRAM and into every cache that holds it. -/
def State.putCtx (s : State) (n : Nat) (b : List Byte) : State :=
  let s := s.writeLines (ctxAddr n / 64) b
  { s with rk := { s.rk with caches := s.rk.caches.map (fun e => (e.1, { e.2 with entries := e.2.entries.map (fun y =>
      if y.ctx = n then (if y.locked then { y with next := some b } else { y with data := b }) else y) })) } }

/-- Writes contexts from a first number on. -/
def State.putCtxs (s : State) (n : Nat) (b : List Byte) : Nat → State
  | 0 => s
  | k + 1 => State.putCtxs (s.putCtx n (b.take 64)) (n + 1) (b.drop 64) k

/-- OD 0x6000.00: contexts, whole or not at all. -/
def wrContexts (h : Hdr) (d : Sys2Proof.Data) (s : State) : State × Nat :=
  s.item490 h d tBlob (fun n => decide (68 ≤ n ∧ (n - 4) % 64 = 0)) false (fun s =>
    let n := (d.bytes.length - 4) / 64
    if 1048576 < dSub d 0 4 + n then (s, eAddrRange) else (s.putCtxs (dSub d 0 4) (d.bytes.drop 4) n, eOk))

/-- CONTEXT_WRITE (R309). -/
def execContextWrite (h : Hdr) (d : Sys2Proof.Data) (s : State) : Host.Outcome State Fault Refusal :=
  .next (s.hostItem (.contextWrite h d) h (wrContexts h d))

end Sys2Proof.Machine
end

