-- ==== Sys2Proof/Machine/FastLane.lean ====
section
/-! DEFINITION. 112G fast lanes: copies, adaptation and lock, counters, gates and eye scans (R423 to R441). -/

namespace Sys2Proof.Machine

/-- A lane. -/
def State.lane (s : State) (n : Nat) : Lane := Tbl.get s.fln {} n
/-- Changes a lane. -/
def State.modLane (s : State) (n : Nat) (f : Lane → Lane) : State := { s with fln := Tbl.set s.fln {} n (f (s.lane n)) }
/-- A staged field of a lane. -/
def State.flnFld (s : State) (f : Fld) (n : Nat) : Nat := s.fld f 0 n
/-- An active field of a lane. -/
def State.flnAct (s : State) (f : Fld) (n : Nat) : Nat := s.actFld f 0 n
/-- A bit of a lane's FLN_LSTAT. -/
def State.flnBit (s : State) (f : Fld) (n : Nat) : Bool := s.bit f 0 n
/-- Sets a status bit of a lane; FLN_STATUS shows lock and adaptation of all lanes. -/
def State.setFlnBit (s : State) (f : Fld) (n : Nat) (b : Bool) : State :=
  let s := s.setBit f 0 n b
  let put := fun (g : Fld) => if b then s.setBitIn g 0 0 n else s.clrBitIn g 0 0 n
  if f = F.FLN_LSTAT_locked then put F.FLN_STATUS_locked
  else if f = F.FLN_LSTAT_adapted then put F.FLN_STATUS_adapted
  else s
/-- Sets a W1C flag of a lane, and the lane's flagged bit. -/
def State.flnFlag (s : State) (f : Fld) (n : Nat) : State := (s.setBit f 0 n true).setBitIn F.FLN_STATUS_flagged 0 0 n
/-- Source 50's Advisory about a lane. -/
def State.flnFault (s : State) (n : Nat) : State := s.report 50 sevAdvisory (detail clsLane n)
/-- Marks the current step of a lane's owning site. -/
def State.markLane (s : State) (n m : Nat) : State :=
  match (s.lane n).owner with
  | some x => s.markSite x m
  | none => s

/-! ### Counters (R436) -/

/-- A saturating 64-bit counter pair. -/
def State.flnAdd (s : State) (lo hi : Fld) (n k : Nat) : State :=
  s.setPair lo hi 0 n (min 18446744073709551615 (s.pair lo hi 0 n + k))

/-- The transmit clock's offset, in 10⁻⁷, at most ±5,000 (R423). -/
def State.flnPpm (s : State) (n : Nat) : Int := clampInt (-5000) 5000 (toSigned 16 (s.flnAct F.FLN_PPM_ppm n))
/-- A bit rate in 10⁻⁷ Mbit/s: the transmit clock's, or the nominal one. -/
def State.bitRate (s : State) (n : Nat) (tx : Bool) : Nat :=
  s.flnAct F.FLN_RATE_rate_mbps n * (10000000 + (if tx then s.flnPpm n else 0)).toNat

/-- Brings a lane's counters up to local instant `now`: bits compared while gated, adapted and locked, else unlocked time. The received bits come at
the programmed rate, or looped in Survey at the transmitter's (DEDUCED, log entry 56). -/
def State.flnCountTo (s : State) (n now : Nat) : State :=
  let x := s.lane n
  if x.gate.isNone then s.modLane n (fun x => { x with ctrAt := now })
  else
    let dt := now - x.ctrAt
    if s.flnBit F.FLN_LSTAT_adapted n && s.flnBit F.FLN_LSTAT_locked n then
      let b := dt * s.bitRate n (s.md.mode == .survey) + x.bitRem
      (s.flnAdd F.FLN_BITS_LO_count F.FLN_BITS_HI_count n (b / 40960000000000)).modLane n (fun x => { x with ctrAt := now, bitRem := b % 40960000000000 })
    else
      let u := dt + x.unlkRem
      (s.flnAdd F.FLN_UNLK_LO_count F.FLN_UNLK_HI_count n (u / 4096)).modLane n (fun x => { x with ctrAt := now, unlkRem := u % 4096 })

/-- A lane's counters: bits, errors, unlocked time. -/
def State.flnBits (s : State) (n : Nat) : Nat := s.pair F.FLN_BITS_LO_count F.FLN_BITS_HI_count 0 n
/-- Bit errors. -/
def State.flnErrs (s : State) (n : Nat) : Nat := s.pair F.FLN_ERR_LO_count F.FLN_ERR_HI_count 0 n
/-- Unlocked time. -/
def State.flnUnlk (s : State) (n : Nat) : Nat := s.pair F.FLN_UNLK_LO_count F.FLN_UNLK_HI_count 0 n

/-! ### Gates (R437) -/

/-- Delivers the errors of a gate that closed at local instant `t` to its slot within 2 µs. -/
def State.gateResult (s : State) (n t : Nat) (g : Gate) (errs bits : Nat) : State :=
  let s := s.modLane n (fun x => { x with lastErr := errs, lastBits := bits })
  match g.slot with
  | none => s
  | some k =>
    let (d, s) := s.draw (us 2 + 1)
    s.postArrival { site := g.site, at_ := s.domAt t + d, order := objFln n, slot := some k, value := errs }

/-- Closes a lane's open gate at local instant `t`. -/
def State.gateCloseAt (s : State) (n t : Nat) : State :=
  match (s.lane n).gate with
  | none => s
  | some g =>
    let s := s.flnCountTo n t
    let s := s.modLane n (fun x => { x with gate := none })
    let s := s.setFlnBit F.FLN_LSTAT_gate_open n false
    let s := s.gateResult n t g ((s.flnErrs n : Int) - g.err0).toNat ((s.flnBits n : Int) - g.bits0).toNat
    if (s.flnUnlk n : Int) ≠ g.unlk0 then (s.flnFlag F.FLN_LSTAT_gate_unlocked n).markLane n mkClamp else s

/-- The waiting gate that opens first opens at its instant; an open one closes there. -/
def State.gateOpenNext (s : State) (n : Nat) : State :=
  match (s.lane n).waiting with
  | [] => s
  | g :: rest =>
    let s := s.gateCloseAt n g.openAt
    let s := s.modLane n (fun x => { x with waiting := rest, ctrAt := g.openAt, bitRem := 0, unlkRem := 0 })
    let g := { g with err0 := (s.flnErrs n : Int), bits0 := (s.flnBits n : Int), unlk0 := (s.flnUnlk n : Int) }
    (s.modLane n (fun x => { x with gate := some g })).setFlnBit F.FLN_LSTAT_gate_open n true

/-- The openings and expiries of a lane's gates whose instants have come, at most `fuel` of them, in order. -/
def State.gateDue (s : State) (n : Nat) : Nat → State
  | 0 => s
  | fuel + 1 =>
    let x := s.lane n
    let c := x.gate.bind (·.closeAt)
    let o := x.waiting.head?.map (·.openAt)
    match c, o with
    | some c, some o =>
      if c ≤ o then (if c ≤ s.tb.loc then State.gateDue (s.gateCloseAt n c) n fuel else s)
      else if o ≤ s.tb.loc then State.gateDue (s.gateOpenNext n) n fuel else s
    | some c, none => if c ≤ s.tb.loc then State.gateDue (s.gateCloseAt n c) n fuel else s
    | none, some o => if o ≤ s.tb.loc then State.gateDue (s.gateOpenNext n) n fuel else s
    | none, none => s

/-- Brings a lane's gates and counters up to now. -/
def State.flnCount (s : State) (n : Nat) : State :=
  let s := s.gateDue n (2 * (s.lane n).waiting.length + 2)
  s.flnCountTo n s.tb.loc

/-- Closes a lane's open gate now. -/
def State.gateClose (s : State) (n : Nat) : State := let s := s.flnCount n; s.gateCloseAt n s.tb.loc

/-- Closes every gate of a lane. One that still waits out its delay never opens: it has counted nothing (DEDUCED, log entry 56). -/
def State.gateCloseAll (s : State) (n : Nat) : State :=
  let s := s.gateClose n
  let w := (s.lane n).waiting
  w.foldl (fun s g => s.gateResult n s.tb.loc g 0 0) (s.modLane n (fun x => { x with waiting := [] }))

/-- FLN_GATE_OPEN (R437): the first waiting gate opens; an open one closes at that instant. -/
def execFlnGateOpen (n : Nat) (s : State) : Host.Outcome State Fault Refusal :=
  match (s.lane n).waiting with
  | [] => .next s
  | g :: _ => .next ((s.reachLoc g.openAt).flnCount n)

/-- FLN_GATE_CLOSE (R437): the open gate's window runs out. -/
def execFlnGateClose (n : Nat) (s : State) : Host.Outcome State Fault Refusal :=
  match (s.lane n).gate with
  | none => .next s
  | some g =>
    match g.closeAt with
    | none => .next s
    | some t => .next ((s.reachLoc t).flnCount n)

/-- Clears a lane's four counters; an open gate keeps what it has gathered. -/
def State.flnClear (s : State) (n : Nat) : State :=
  let s := s.flnCount n
  let b := s.flnBits n
  let e := s.flnErrs n
  let u := s.flnUnlk n
  let s := s.modLane n (fun x => { x with gate := x.gate.map (fun g => { g with bits0 := g.bits0 - b, err0 := g.err0 - e, unlk0 := g.unlk0 - u }) })
  let s := (s.setPair F.FLN_BITS_LO_count F.FLN_BITS_HI_count 0 n 0).setPair F.FLN_ERR_LO_count F.FLN_ERR_HI_count 0 n 0
  (s.setPair F.FLN_SYM_LO_count F.FLN_SYM_HI_count 0 n 0).setPair F.FLN_UNLK_LO_count F.FLN_UNLK_HI_count 0 n 0

/-- OD 0x780A.nn. -/
def wrFlnClear (h : Hdr) (n : Nat) (d : Sys2Proof.Data) (s : State) : State × Nat :=
  s.item490 h d tBool anyLen false (fun s => (if dFlag d then s.flnClear n else s, eOk))

/-- FLN_COUNTER_CLEAR (R436). -/
def execFlnCounterClear (h : Hdr) (d : Sys2Proof.Data) (n : Nat) (s : State) : Host.Outcome State Fault Refusal :=
  if n ≥ 8 then .next s else .next (s.hostItem (.flnCounterClear h d n) h (wrFlnClear h n d))

/-! ### Eye scans (R439) -/

/-- Points of an eye scan. -/
def scanPoints : Nat := 16575
/-- A lane's symbol rate in MBd. -/
def State.symbolRate (s : State) (n : Nat) : Nat := max 1 (s.flnAct F.FLN_RATE_rate_mbps n / (1 + s.flnAct F.FLN_LCFG_pam4 n))
/-- Ticks that `k` points of a lane's scan take: 10^d symbols each. -/
def State.scanTime (s : State) (n k : Nat) : Nat := k * 10 ^ clampNat 5 12 (s.lane n).scanD * 4096000 / s.symbolRate n

/-- Whether a scan waits or runs. -/
def State.scanLive (s : State) (n : Nat) : Bool := s.flnFld F.FLN_SCAN_STAT_state n == 1 || s.flnFld F.FLN_SCAN_STAT_state n == 2

/-- FLN_SCAN_STAT.points follows a running scan. -/
def State.scanShow (s : State) (n : Nat) : State :=
  if s.flnFld F.FLN_SCAN_STAT_state n = 2 then
    s.setFld F.FLN_SCAN_STAT_points 0 n (min scanPoints ((s.tb.loc - (s.lane n).scanAt) * s.symbolRate n / (10 ^ clampNat 5 12 (s.lane n).scanD * 4096000)))
  else s

/-- Aborts a scan; the points completed stay. -/
def State.scanAbort (s : State) (n : Nat) : State :=
  if !s.scanLive n then s
  else
    (s.scanShow n).setFld F.FLN_SCAN_STAT_state 0 n 4

/-- Starts or restarts a scan: it waits until the receiver is adapted. -/
def State.scanStart (s : State) (n : Nat) : State :=
  let s := s.setFld F.FLN_SCAN_STAT_points 0 n 0
  let s := s.modLane n (fun x => { x with
    scan := [], scanAt := s.tb.loc, scanEye := s.flnFld F.FLN_SCAN_CFG_eye n, scanD := s.flnFld F.FLN_SCAN_CFG_dwell n })
  s.setFld F.FLN_SCAN_STAT_state 0 n (if s.flnBit F.FLN_LSTAT_adapted n then 2 else 1)

/-- OD 0x780D.nn: eye and dwell code. -/
def wrScan (h : Hdr) (n : Nat) (d : Sys2Proof.Data) (s : State) : State × Nat :=
  s.item490 h d tBlob (· == 2) false (fun s =>
    let s := (s.setFld F.FLN_SCAN_CFG_eye 0 n (min 3 (dSub d 0 1))).setFld F.FLN_SCAN_CFG_dwell 0 n (min 15 (dSub d 1 1))
    (s.scanStart n, eOk))

/-- EYE_SCAN_START (R439). -/
def execEyeScanStart (path : Path) (n : Nat) (s : State) : Host.Outcome State Fault Refusal :=
  if n ≥ 8 then .next s
  else .next (s.viaPath (.eyeScanStart path n) path (fun h d => wrScan h n d) (fun s => s.scanStart n))

/-- EYE_SCAN_COMPLETE (R439): `counts` are the mismatch counts of the points, all of them, or those an aborted scan completed. -/
def execEyeScanComplete (n : Nat) (counts : List Nat) (s : State) : Host.Outcome State Fault Refusal :=
  if n ≥ 8 then .next s
  else
    let l := counts.map (fun x => min x 4294967295)
    if s.flnFld F.FLN_SCAN_STAT_state n = 2 ∧ scanPoints ≤ l.length then
      let s := s.reachLoc ((s.lane n).scanAt + s.scanTime n scanPoints)
      let s := s.modLane n (fun x => { x with scan := l.take scanPoints })
      .next ((s.setFld F.FLN_SCAN_STAT_state 0 n 3).setFld F.FLN_SCAN_STAT_points 0 n scanPoints)
    else if s.flnFld F.FLN_SCAN_STAT_state n = 4 ∧ (s.lane n).scan.isEmpty then
      .next (s.modLane n (fun x => { x with scan := l.take (s.flnFld F.FLN_SCAN_STAT_points n) }))
    else .next s

/-! ### Receiver (R434, R435) -/

/-- Loses a receiver's lock. -/
def State.flnUnlock (s : State) (n : Nat) : State := ((s.flnCount n).setFlnBit F.FLN_LSTAT_locked n false).modLane n (fun x => { x with unlockAt := s.tb.loc })

/-- Adaptation begins. -/
def State.flnAdapt (s : State) (n : Nat) : State :=
  let s := ((s.flnUnlock n).setFlnBit F.FLN_LSTAT_adapted n false).scanAbort n
  s.modLane n (fun x => { x with adaptFrom := some s.tb.loc, adaptLate := false })

/-- 1 ms has passed without adaptation: the receiver keeps adapting. With the manual equaliser it does not adapt (R434). -/
def State.adaptLate (s : State) (n : Nat) : State :=
  match (s.lane n).adaptFrom with
  | none => s
  | some t =>
    if (s.lane n).adaptLate ∨ s.flnAct F.FLN_LCFG_manual_eq n = 1 then s
    else
      let s := (s.reachLoc (t + ms 1)).modLane n (fun x => { x with adaptLate := true })
      (s.flnFlag F.FLN_LSTAT_adapt_fail n).flnFault n

/-- FLN_ADAPTATION_COMPLETE (R434): with the manual equaliser 10 µs after the instant; one that takes longer than 1 ms has failed first. -/
def execFlnAdaptationComplete (n : Nat) (s : State) : Host.Outcome State Fault Refusal :=
  match (s.lane n).adaptFrom with
  | none => .next s
  | some t =>
    let s := if s.flnAct F.FLN_LCFG_manual_eq n = 1 then s.reachLoc (t + us 10) else if t + ms 1 < s.tb.loc then s.adaptLate n else s
    let s := (s.flnCount n).setFlnBit F.FLN_LSTAT_adapted n true
    let s := s.modLane n (fun x => { x with adaptFrom := none, adaptLate := false, adaptedAt := s.tb.loc })
    .next (if s.flnFld F.FLN_SCAN_STAT_state n = 1 then
        (s.setFld F.FLN_SCAN_STAT_state 0 n 2).modLane n (fun x => { x with scanAt := s.tb.loc })
      else s)

/-- FLN_ADAPTATION_TIMEOUT (R434): 1 ms without adaptation. -/
def execFlnAdaptationTimeout (n : Nat) (s : State) : Host.Outcome State Fault Refusal := .next (s.adaptLate n)

/-- FLN_CHECKER_LOCK (R435): 1,024 consecutive error-free bits, since the lock was lost at the earliest. -/
def execFlnCheckerLock (n : Nat) (s : State) : Host.Outcome State Fault Refusal :=
  if n < 8 ∧ s.flnBit F.FLN_LSTAT_rx_active n ∧ !s.flnBit F.FLN_LSTAT_locked n then
    let s := s.reachLoc ((s.lane n).unlockAt + ceilDiv (1024 * 4096000) (max 1 (s.flnAct F.FLN_RATE_rate_mbps n)))
    .next ((s.flnCount n).setFlnBit F.FLN_LSTAT_locked n true)
  else .next s

/-- FLN_LOCK_LOSS (R435): 256 of 1,024 compared bits are in error. -/
def execFlnLockLoss (n : Nat) (s : State) : Host.Outcome State Fault Refusal :=
  if n < 8 ∧ s.flnBit F.FLN_LSTAT_locked n then .next ((s.flnUnlock n).flnFlag F.FLN_LSTAT_lock_lost n) else .next s

/-- FLN_BIT_ERROR (R436, R438): a compared bit is in error; `symbol` says that it is the first of its symbol. -/
def execFlnBitError (n : Nat) (symbol : Bool) (s : State) : Host.Outcome State Fault Refusal :=
  let c := s.flnCount n
  if n < 8 ∧ (c.lane n).gate.isSome ∧ c.flnBit F.FLN_LSTAT_adapted n ∧ c.flnBit F.FLN_LSTAT_locked n then
    let s := c.flnAdd F.FLN_ERR_LO_count F.FLN_ERR_HI_count n 1
    let s := if symbol || s.flnAct F.FLN_LCFG_pam4 n == 0 then s.flnAdd F.FLN_SYM_LO_count F.FLN_SYM_HI_count n 1 else s
    .next (s.sourceEvent 0x43 3 s.now (some n))
  else .next s

/-! ### What the transmitter sends (R424, R430, R432, R433) -/

/-- Degree and taps of a PRBS: bit e − 1 of the mask for each power e of its polynomial (Table 14.5). -/
def prbsPoly : Nat → Nat × Nat
  | 0 => (7, 0x60)
  | 1 => (9, 0x110)
  | 2 => (13, 0x1803)
  | 3 => (15, 0x6000)
  | 4 => (23, 0x420000)
  | _ => (31, 0x48000000)

/-- Whether an odd number of the low `n` bits of a word are set. -/
def oddBits (n x : Nat) : Bool := (bitsOf n x).length % 2 == 1

/-- The shift register of a PRBS after `k` bits; its newest bit is bit 0, and it is seeded with ones. -/
def prbsReg (deg taps : Nat) : Nat → Nat
  | 0 => 2 ^ deg - 1
  | k + 1 => (2 * prbsReg deg taps k + (oddBits deg (prbsReg deg taps k &&& taps)).toNat) % 2 ^ deg

/-- Bit `k` of a pattern since its seed; what a reserved code sends is open (R2). `words` and `len` are the user pattern. -/
def patBit (pat : Nat) (pam4 gray : Bool) (words : List Nat) (len k : Nat) : Bool :=
  if pat ≤ 5 then oddBits 31 (prbsReg (prbsPoly pat).1 (prbsPoly pat).2 k &&& (prbsPoly pat).2)
  else if pat = 6 then
    let i := k % (if pam4 then len / 2 * 2 else len)
    (words[i / 32]?.getD 0).testBit (i % 32)
  else if pat = 7 then (if pam4 then k % 4 == 2 || (k % 4 == 3 && !gray) else k % 2 == 0)
  else Config.openNat 67 [pat, k] % 2 == 1

/-- Symbol `k` that a lane's transmitter sends since its seed, in thirds of full scale, with its polarity; none before the seed. -/
def State.txSymbol (s : State) (n : Nat) (k : Int) : Int :=
  if k < 0 then 0
  else
    let x := s.lane n
    let pam4 := s.flnAct F.FLN_LCFG_pam4 n == 1
    let bit := fun (j : Nat) => patBit x.txPat pam4 x.txGray x.txUpat x.txLen j
    let l : Nat := if pam4 then pamLevel x.txGray (bit (2 * k.toNat)) (bit (2 * k.toNat + 1)) else 3 * (bit k.toNat).toNat
    (2 * (l : Int) - 3) * (if s.flnAct F.FLN_LCFG_tx_inv n = 1 then -1 else 1)

/-- The FFE taps in force, from c₋₂ to c₂; where all are 0 the main tap acts as 127. -/
def State.ffe (s : State) (n : Nat) : List Int :=
  let c := [F.FLN_FFE_A_pre2, F.FLN_FFE_A_pre1, F.FLN_FFE_A_main, F.FLN_FFE_A_post1, F.FLN_FFE_B_post2].map (fun f => toSigned 8 (s.flnAct f n))
  if c.all (· == 0) then [0, 0, 127, 0, 0] else c

/-- out(k) of R430 in mV differential, as a fraction: amp × Σ c_j × x(k − j) over 2 S, with x in thirds. -/
def State.txOut (s : State) (n : Nat) (k : Nat) : Int × Nat :=
  let c := s.ffe n
  let sum := ((List.range 5).zip c).foldl (fun (a : Int) (e : Nat × Int) => a + e.2 * s.txSymbol n ((k : Int) + 2 - e.1)) 0
  ((s.flnAct F.FLN_AMP_amp_mv n : Int) * sum, 6 * c.foldl (fun a x => a + x.natAbs) 0)

/-- Symbols sent since the seed (R423). -/
def State.txCount (s : State) (n : Nat) : Nat :=
  ((s.lane n).seedSent + (s.tb.loc - (s.lane n).seedAt) * s.bitRate n true) / 40960000000000 / (1 + s.flnAct F.FLN_LCFG_pam4 n)

/-- What a lane's transmit ball carries now, in mV as a fraction: none in electrical idle, and in every mode but Line-Rate (R425, R440). -/
def State.laneBall (s : State) (n : Nat) : Option (Int × Nat) :=
  if s.flnBit F.FLN_LSTAT_tx_active n && s.md.mode == .lineRate && s.bit F.FLN_CTRL_en then some (s.txOut n (s.txCount n)) else none

/-- Whether the lanes are powered; where they are not their balls are high impedance (R440). -/
def State.lanesPowered (s : State) : Bool := s.ks.running && !s.thm.halted && s.md.mode != .stress

/-! ### FLN_START (R423 to R431) -/

/-- The rate that acts for a staged rate and signalling (R423). -/
def flnRateActs (pam4 : Bool) (r : Nat) : Nat := if pam4 then clampNat 2000 112000 r / 2 * 2 else clampNat 1000 56000 r

/-- SJ amplitude and RJ that act (R431). -/
def flnJitter (sj khz rj : Nat) : Nat × Nat × Nat :=
  let k := clampNat 1 100000 khz
  let top := min 2000 (20000000 / k)
  (if sj = 0 then 0 else clampNat 20 top sj, k, min 50 rj)

/-- Copies rate and signalling, common to both directions; whether they changed. -/
def State.flnRate (s : State) (n : Nat) : State × Bool :=
  let pam4 := s.flnFld F.FLN_LCFG_pam4 n
  let raw := s.flnFld F.FLN_RATE_rate_mbps n
  let r := flnRateActs (pam4 == 1) raw
  let moved := r != s.flnAct F.FLN_RATE_rate_mbps n || pam4 != s.flnAct F.FLN_LCFG_pam4 n
  let s := if r ≠ raw then s.flnFlag F.FLN_LSTAT_rate_adj n else s
  let s := if moved then s.flnCount n else s
  ((s.setAct F.FLN_RATE_rate_mbps 0 n r).setAct F.FLN_LCFG_pam4 0 n pam4, moved)

/-- The staged user pattern words. -/
def State.flnUpat (s : State) (n : Nat) : List Nat := (List.range 128).map (fun k => s.fld F.FLN_UPAT_data 0 (n * 128 + k))

/-- The transmitter restarts its pattern from the seed. -/
def State.flnSeed (s : State) (n : Nat) : State := s.modLane n (fun x => { x with seedAt := s.tb.loc, seedSent := 0 })

/-- What has been sent up to now is kept, so that a new frequency offset steps no phase (Table 14.4). -/
def State.flnKeepPhase (s : State) (n : Nat) : State :=
  s.modLane n (fun x => { x with seedAt := s.tb.loc, seedSent := x.seedSent + (s.tb.loc - x.seedAt) * s.bitRate n true })

/-- The transmit group acts. -/
def State.flnTx (s : State) (n : Nat) (moved : Bool) : State :=
  let x := s.lane n
  let pat := s.flnFld F.FLN_LCFG_pattern n
  let gray := s.flnFld F.FLN_LCFG_gray n == 1
  let up := s.flnUpat n
  let len := clampNat 64 4096 (s.flnFld F.FLN_UPAT_LEN_len n)
  let on := s.flnFld F.FLN_LCFG_tx_en n
  let (sj, khz, rj) := flnJitter (s.flnFld F.FLN_SJ_sj_mui n) (s.flnFld F.FLN_SJ_sj_khz n) (s.flnFld F.FLN_RJ_rj_mui n)
  let adj := sj != s.flnFld F.FLN_SJ_sj_mui n || rj != s.flnFld F.FLN_RJ_rj_mui n || (khz != s.flnFld F.FLN_SJ_sj_khz n && sj != 0)
  let restart := moved || pat != x.txPat || gray != x.txGray || (pat == 6 && (up != x.txUpat || len != x.txLen)) || on != s.flnAct F.FLN_LCFG_tx_en n
  let s := (s.flnKeepPhase n).copyActive [F.FLN_LCFG_tx_en, F.FLN_LCFG_tx_inv, F.FLN_PPM_ppm, F.FLN_FFE_A_pre2, F.FLN_FFE_A_pre1, F.FLN_FFE_A_main, F.FLN_FFE_A_post1,
    F.FLN_FFE_B_post2] 0 n
  let s := s.setAct F.FLN_AMP_amp_mv 0 n (clampNat 200 1200 (s.flnFld F.FLN_AMP_amp_mv n))
  let s := ((s.setAct F.FLN_SJ_sj_mui 0 n sj).setAct F.FLN_SJ_sj_khz 0 n khz).setAct F.FLN_RJ_rj_mui 0 n rj
  let s := if adj then s.flnFlag F.FLN_LSTAT_jit_clamp n else s
  let s := s.modLane n (fun x => { x with txPat := pat, txGray := gray, txUpat := up, txLen := len })
  let s := if restart then s.flnSeed n else s
  s.setFlnBit F.FLN_LSTAT_tx_active n (on == 1)

/-- The receive group acts. -/
def State.flnRx (s : State) (n : Nat) (moved : Bool) : State :=
  let x := s.lane n
  let pat := s.flnFld F.FLN_LCFG_pattern n
  let gray := s.flnFld F.FLN_LCFG_gray n == 1
  let up := s.flnUpat n
  let len := clampNat 64 4096 (s.flnFld F.FLN_UPAT_LEN_len n)
  let was := s.flnAct F.FLN_LCFG_rx_en n
  let on := s.flnFld F.FLN_LCFG_rx_en n
  let relock := pat != x.rxPat || gray != x.rxGray || (pat == 6 && (up != x.rxUpat || len != x.rxLen))
  let s := s.copyActive [F.FLN_LCFG_rx_en, F.FLN_LCFG_rx_inv, F.FLN_LCFG_adapt_freeze, F.FLN_LCFG_manual_eq, F.FLN_CTLE_peak] 0 n
  let eq := toBe 1 (min 95 (s.flnFld F.FLN_CTLE_peak n)) ++ (s.od 0x780C n (List.replicate 13 0)).tail
  let s := s.modLane n (fun x => { x with rxPat := pat, rxGray := gray, rxUpat := up, rxLen := len, rxCopyAt := s.tb.loc, manual := eq })
  if on = 0 then
    let s := ((s.gateCloseAll n).scanAbort n).flnUnlock n
    let s := (s.setFlnBit F.FLN_LSTAT_adapted n false).setFlnBit F.FLN_LSTAT_rx_active n false
    s.modLane n (fun x => { x with adaptFrom := none })
  else
    let s := s.setFlnBit F.FLN_LSTAT_rx_active n true
    if was = 0 ∨ moved then s.flnAdapt n else if relock then s.flnUnlock n else s

/-- A lane's open record: the gate waits out its delay. -/
def State.flnGate (s : State) (n : Nat) (r : LaunchRec) : State :=
  let p := r.payload
  let t := s.tb.loc + us (s.flnFld F.FLN_GATE_DLY_delay_us n)
  let w := s.flnFld F.FLN_GATE_WIN_window_us n
  let slot := if p.testBit 43 && !r.chipWide then some (bitsAt p 42 35) else none
  let g : Gate := ⟨t, if w = 0 then none else some (t + us w), r.site, slot, 0, 0, 0⟩
  let s := s.modLane n (fun x => { x with
    waiting := x.waiting.filter (fun y => decide (y.openAt ≤ t)) ++ g :: x.waiting.filter (fun y => decide (t < y.openAt)) })
  if slot.isSome then s.expectResult r.site (objFln n) else s

/-- FLN_START (R425 to R429): the record at the head of queue 38 acts. -/
def execFlnStart (s : State) : Host.Outcome State Fault Refusal :=
  match s.takeHead 38 0x30 with
  | none => .next s
  | some (r, s) =>
    -- targets 8 to 63 are reserved and name an open lane (R2)
    let n := if r.target < 8 then r.target else Config.openNat 68 [r.target] % 8
    let p := r.payload
    let gate := if bitsAt p 34 33 = 3 then Config.openNat 20 [p] % 3 else bitsAt p 34 33
    if s.inSafe then .next (s.discardInSafe r)
    else if (s.md.mode != .lineRate && s.md.mode != .survey) || (s.md.mode == .lineRate && decide (s.tb.loc < s.md.flnFrom)) then .next s.countLimit
    else if !s.bit F.FLN_CTRL_en then .next s
    else if s.flnBit F.FLN_LSTAT_derated n then .next (s.markOf r mkDerated)
    else
      let tx := p.testBit 46
      let rx := p.testBit 45
      let s := s.flnCount n
      let s := if p.testBit 44 then s.flnClear n else s
      let s := if (tx || rx) && !r.chipWide then s.modLane n (fun x => { x with owner := some r.site }) else s
      let (s, moved) := if tx || rx then s.flnRate n else (s, false)
      let s := if tx then s.flnTx n moved else if moved then s.flnSeed n else s
      let s := if rx then s.flnRx n moved
        else if moved && s.flnBit F.FLN_LSTAT_rx_active n then s.flnAdapt n else s
      .next (match gate with
        | 1 => s.flnGate n r
        | 2 => s.gateCloseAll n
        | _ => s)

/-! ### Parking (R425, R440, R441) -/

/-- A lane stops: idle transmitter, stopped receiver, gates closed. -/
def State.flnStop (s : State) (n : Nat) : State :=
  let s := ((s.gateCloseAll n).scanAbort n).flnUnlock n
  let s := (s.setFlnBit F.FLN_LSTAT_adapted n false).setFlnBit F.FLN_LSTAT_rx_active n false
  let s := s.setFlnBit F.FLN_LSTAT_tx_active n false
  let s := (s.setAct F.FLN_LCFG_tx_en 0 n 0).setAct F.FLN_LCFG_rx_en 0 n 0
  s.modLane n (fun x => { x with adaptFrom := none })

/-- Every lane stops. -/
def State.flnStopAll (s : State) : State := (List.range 8).foldl (fun s n => s.flnStop n) s

/-- A derated lane (R440). -/
def State.flnDerate (s : State) (n : Nat) : State := ((s.flnStop n).setFlnBit F.FLN_LSTAT_derated n true).markLane n mkDerated

/-- OD 0x7811.nn. -/
def wrFlnRestore (h : Hdr) (n : Nat) (d : Sys2Proof.Data) (s : State) : State × Nat :=
  s.item490 h d tBool anyLen false (fun s => (if dFlag d then s.setFlnBit F.FLN_LSTAT_derated n false else s, eOk))

/-- FLN_RESTORE (R440). -/
def execFlnRestore (h : Hdr) (d : Sys2Proof.Data) (n : Nat) (s : State) : Host.Outcome State Fault Refusal :=
  if n ≥ 8 then .next s else .next (s.hostItem (.flnRestore h d n) h (wrFlnRestore h n d))

/-- OD 0x7801 to 0x780C: a staged setting of a lane. -/
def wrFlnSetting (h : Hdr) (fn n : Nat) (d : Sys2Proof.Data) (s : State) : State × Nat :=
  let b := fun (k : Nat) => dSub d k 1
  match fn with
  | 1 => s.item490 h d tU32 anyLen false (fun s =>
      ([F.FLN_LCFG_tx_en, F.FLN_LCFG_rx_en, F.FLN_LCFG_pam4, F.FLN_LCFG_pattern, F.FLN_LCFG_gray, F.FLN_LCFG_tx_inv, F.FLN_LCFG_rx_inv,
        F.FLN_LCFG_adapt_freeze, F.FLN_LCFG_manual_eq].foldl (fun s f => s.setFld f 0 n (dNat d / 2 ^ f.lo)) s, eOk))
  | 2 => s.item490 h d tU32 anyLen false (fun s => (s.setFld F.FLN_RATE_rate_mbps 0 n (min 131071 (dNat d)), eOk))
  | 3 => s.item490 h d tI32 anyLen false (fun s => (s.setFld F.FLN_PPM_ppm 0 n (ofSigned 16 (clampInt (-32768) 32767 (dInt d))), eOk))
  | 4 => s.item490 h d tBlob (· == 5) false (fun s =>
      let s := (s.setFld F.FLN_FFE_A_pre2 0 n (b 0)).setFld F.FLN_FFE_A_pre1 0 n (b 1)
      let s := (s.setFld F.FLN_FFE_A_main 0 n (b 2)).setFld F.FLN_FFE_A_post1 0 n (b 3)
      (s.setFld F.FLN_FFE_B_post2 0 n (b 4), eOk))
  | 5 => s.item490 h d tI64 anyLen false (fun s =>
      (s.setFld F.FLN_AMP_amp_mv 0 n (clampInt 0 2047 ((dInt d + 500000) / 1000000)).toNat, eOk))
  | 6 => s.item490 h d tBlob (· == 12) false (fun s =>
      let s := (s.setFld F.FLN_SJ_sj_mui 0 n (min 2047 (dSub d 0 4))).setFld F.FLN_SJ_sj_khz 0 n (min 131071 (dSub d 4 4))
      (s.setFld F.FLN_RJ_rj_mui 0 n (min 63 (dSub d 8 4)), eOk))
  | 7 => s.item490 h d tBlob (· == 514) false (fun s =>
      let s := s.setFld F.FLN_UPAT_LEN_len 0 n (min 8191 (dSub d 0 2))
      ((List.range 128).foldl (fun s k => s.setFld F.FLN_UPAT_data 0 (n * 128 + k) (dSub d (2 + 4 * k) 4)) s, eOk))
  | 8 => s.item490 h d tBlob (· == 16) false (fun s =>
      let s := s.setFld F.FLN_GATE_DLY_delay_us 0 n (min 65535 (ceilDiv (dSub d 0 8) 1000000))
      (s.setFld F.FLN_GATE_WIN_window_us 0 n (min 4294967295 (ceilDiv (dSub d 8 8) 1000000)), eOk))
  | _ => s.item490 h d tBlob (· == 13) false (fun s =>
      ((s.setOd 0x780C n d.bytes).setFld F.FLN_CTLE_peak 0 n (min 127 (b 0)), eOk))

end Sys2Proof.Machine
end

