-- ==== Sys2Proof/Machine/Patterns.lean ====
section
/-! DEFINITION. Pattern streaming: segments, jumps, refill, vectors and markers (R205 to R237). -/

namespace Sys2Proof.Machine

/-- A Course's vector stream. -/
def State.stream (s : State) (c : Nat) : Stream := Tbl.get s.pat.st {} c
/-- Changes a Course's vector stream. -/
def State.modStream (s : State) (c : Nat) (f : Stream → Stream) : State :=
  { s with pat := { s.pat with st := Tbl.set s.pat.st {} c (f (s.stream c)) } }

/-- The segment that is current. -/
def State.curSeg (s : State) (c : Nat) : Nat := s.fld F.PAT_STATUS_cur_seg c
/-- The index of the next vector within its run. -/
def State.nextIdx (s : State) (c : Nat) : Nat := if (s.stream c).started then s.fld F.PAT_VIDX_vidx c + 1 else 0
/-- Vectors in a run of the current segment. -/
def State.runLen (s : State) (c : Nat) : Nat := 64 * descLen (s.desc c (s.curSeg c))

/-- A vector record of the current segment as a number of 144 bits (Table 7.1); open once the host has rewritten records of the stream (R2). -/
def State.vecRec (s : State) (c idx : Nat) : Nat :=
  if (s.stream c).wild.isSome then Config.openNat 32 [c, idx, s.tb.loc, s.freeCtr] % 2 ^ 144
  else leNat (s.bytes (64 * descStart (s.desc c (s.curSeg c)) + 18 * idx) 18)
/-- The glyph of a pin. -/
def glyphOf (r p : Nat) : Nat := bitsAt r (4 * p + 3) (4 * p)
/-- The timing set. -/
def tsetOf (r : Nat) : Nat := bitsAt r 133 128

/-- The sites with pins on a Course. -/
def State.sitesOn (s : State) (c : Nat) : List Nat :=
  (List.range 32).foldl (fun l p =>
    match s.pinOwner c p with
    | some k => insertAsc l (s.siteOf k)
    | none => l) []

/-- Marks STARVED the current step results of every site with pins on a Course (R226). -/
def State.starveMarks (s : State) (c : Nat) : State := (s.sitesOn c).foldl (fun s x => s.markSite x mkStarved) s

/-! ### Markers (R229 to R231) -/

/-- The domain instant of a marker edge: a slot's local instant plus an offset. -/
def State.markInst (s : State) (t : Nat) (off : Int) : Nat := ((s.now : Int) + ((t : Int) + off - (s.tb.loc : Int))).toNat

/-- The mark bits of a vector, or of a skipped slot, that starts at `t` on a Course (R229). -/
def State.driveMarks (s : State) (c t bits : Nat) : State :=
  let s := { s with pat := { s.pat with markBits := Tbl.set s.pat.markBits 0 c bits } }
  (List.range 4).foldl (fun s m =>
    let b := (s.marker m).settle s.tb.loc
    if s.markSrc m b != c then s
    else if bits.testBit m && !s.inSafe then
      let off := toSigned 18 (s.fld F.PAT_MARK_offset 32 m)
      (if b.last then s else s.sourceEvent (4 + m) 1 (s.markInst t off) none).setMarker m (b.rise ((t : Int) + off) c off)
    else (if b.last then s.sourceEvent (4 + m) 2 (s.markInst t b.offset) none else s).setMarker m (b.fall ((t : Int) + b.offset))) s

/-! ### Heads (R215 to R219) -/

/-- The segments whose granules the head of a path holds (R216). -/
def State.headSegs (s : State) (c : Nat) : Nat → Nat → Nat → List Nat
  | 0, _, _ => []
  | n + 1, seg, left =>
    if s.segValid c seg = false ∨ left = 0 then []
    else
      let d := s.desc c seg
      let l := descLen d * descLoops d
      if descLoops d = 0 ∨ left ≤ l then [seg] else seg :: s.headSegs c n (descNext d) (left - l)

/-- The head of a path starting with a segment. -/
def State.headOf (s : State) (c seg : Nat) : List Nat := s.headSegs c 3 seg 16

/-- The prefetched chain while a segment is current: its continuation's head, and its jump target's. -/
def State.prefetch (s : State) (c : Nat) : State :=
  let d := s.desc c (s.curSeg c)
  let x := s.stream c
  let cont := if x.endless || decide (1 < x.runs) then (if descResident d then [] else [s.curSeg c]) else s.headOf c (descNext d)
  let jump := if descJump d = 0xFFF then [] else s.headOf c (descJump d)
  s.modStream c (fun x => { x with heads := cont ++ jump })

/-- Whether a segment is streaming, prefetched, or being fetched for a SEGMENT_START in the queue (R214). -/
def State.segBusy (s : State) (c seg : Nat) : Bool :=
  (s.streaming c && (s.curSeg c == seg || (s.stream c).heads.contains seg)) ||
    (s.queue c).any (fun r => r.action == 0x02 && (s.headOf c (bitsAt r.payload 46 35)).contains seg)

/-- The segments of a Course that are streaming, prefetched, or being fetched for a SEGMENT_START in the queue. -/
def State.busySegs (s : State) (c : Nat) : List Nat :=
  (if s.streaming c then s.curSeg c :: (s.stream c).heads else []) ++
    (s.queue c).flatMap (fun r => if r.action = 0x02 then s.headOf c (bitsAt r.payload 46 35) else [])

/-- Whether `n` DRAM lines from a line on hold vector records of such a segment. -/
def State.busyLines (s : State) (c line n : Nat) : Bool :=
  (s.busySegs c).any (fun g =>
    let d := s.desc c g
    s.segValid c g && decide (line < descStart d + 18 * descLen d) && decide (descStart d < line + n))

/-- The host writes DRAM lines: rewriting records of a streaming or prefetched segment leaves that Course's stream open (Table 17.8). -/
def State.rewriteLines (s : State) (line n : Nat) : State :=
  (List.range 32).foldl (fun s c => if s.busyLines c line n then s.modStream c (fun x => { x with wild := some s.now }) else s) s

/-- HEAD_FETCH_COMPLETE (R219, R227): a head is in the buffer; a stream that waits for it may resume 64 ns later. -/
def execHeadFetchComplete (c seg : Nat) (s : State) : Host.Outcome State Fault Refusal :=
  if c ≥ 32 then .next s
  else if s.streaming c && s.curSeg c == seg && !(s.stream c).headOk then
    .next (s.modStream c (fun x => { x with headOk := true, resumeAt := some (s.tb.loc + ns 64) }))
  else if (s.queue c).any (fun r => r.action == 0x02 && bitsAt r.payload 46 35 == seg) then
    .next (s.modStream c (fun x => { x with got := insertAsc x.got seg }))
  else .next s

/-! ### Jumps (R223 to R225) -/

/-- A jump request raised on a Course at local instant `t`. -/
def State.raiseJump (s : State) (c t : Nat) : State := s.modStream c (fun x => { x with req := x.req ++ [t] })

/-- A thread's request reaches every Course its site spans, within 8 ns: each delay is a free value. -/
def State.raiseSiteJump (s : State) (site t : Nat) : State :=
  ((s.threadsOf site).map (· / 8)).eraseDups.foldl (fun s c =>
    let (d, s) := s.draw (ns 8 + 1)
    s.raiseJump c (t + d)) s

/-- OD + 0x6.00: raise a jump request. -/
def wrJump (h : Hdr) (c : Nat) (d : Sys2Proof.Data) (s : State) : State × Nat :=
  s.item490 h d tBool anyLen false (fun s => (if dFlag d then s.raiseJump c s.tb.loc else s, eOk))

/-- JUMP_REQUEST (R223). -/
def execJumpRequest (path : Path) (c : Nat) (s : State) : Host.Outcome State Fault Refusal :=
  if c ≥ 32 then .next s
  else .next (s.viaPath (.jumpRequest path c) path (fun h d => wrJump h c d) (fun s => s.raiseJump c s.tb.loc))

/-- The sample at a granule boundary that starts at `t`. -/
def State.sampleJump (s : State) (c t : Nat) : State :=
  let x := s.stream c
  if x.req.any (fun r => decide (r ≤ t)) then
    (s.setBit F.PAT_STATUS_jlatch c 0 true).modStream c (fun x => { x with req := x.req.filter (fun r => !decide (r ≤ t)) })
  else s

/-- The decision of a run (R225) and the snapshot latched with it (R200). -/
def State.decideRun (s : State) (c : Nat) : State :=
  let d := s.desc c (s.curSeg c)
  let x := s.stream c
  let s :=
    if s.bit F.PAT_STATUS_jlatch c && descJump d != 0xFFF then
      let s := s.setBit F.PAT_STATUS_jlatch c 0 false
      let s := s.setBit F.PAT_STATUS_jump_taken c 0 true
      s.modStream c (fun x => { x with decided := some (.jump (descJump d)), jumps := x.jumps + 1 })
    else if x.endless || decide (1 < x.runs) then s.modStream c (fun x => { x with decided := some .again })
    else s.modStream c (fun x => { x with decided := some (.go (descNext d)) })
  s.snapshot c

/-- Whether the next vector boundary is the run's decision point and nothing has been decided. -/
def State.atDecision (s : State) (c : Nat) : Bool :=
  s.streaming c && (s.stream c).decided.isNone && !(s.stream c).starving && s.nextIdx c + 256 == s.runLen c

/-- JUMP_DECISION_POINT (R225): 256 vectors before a run's end; the sample at that boundary follows. -/
def execJumpDecisionPoint (c : Nat) (s : State) : Host.Outcome State Fault Refusal :=
  if c < 32 && s.atDecision c then
    let s := (s.reachLoc (s.stream c).next).decideRun c
    .next (s.sampleJump c (s.stream c).next)
  else .next s

/-! ### What a vector's compares give (R187, R209, R241, R321) -/

/-- Fail counts of a vector for one site: its home Course's at once, else forwarded within 100 ns of the vector's last compare, the delay a free
value (R321). -/
def State.countFails (s : State) (c site pins n dom : Nat) (last : Int) : State :=
  if s.homeCourse site = some c then s.addFails site n pins dom
  else
    let (d, s) := s.draw (ns 100 + 1)
    let at_ := ((s.now : Int) + (last - (s.tb.loc : Int)) + (d : Int)).toNat
    s.postArrival { site := site, at_, order := 0, value := n, t0 := dom }

/-- The fails of a vector: counts, fail capture, the tally, condition 13 and fail_jump. -/
def State.vecFails (s : State) (c : Nat) (h : HeldVec) : State :=
  let bad := h.vs.filter (·.fail)
  if bad.isEmpty then s
  else
    let am := maskOf ((h.vs.filter (fun v => v.pair.above)).map (·.pin))
    let bm := maskOf ((h.vs.filter (fun v => v.pair.below)).map (·.pin))
    let last := h.vs.foldl (fun m v => max m v.at_) (h.slot : Int)
    -- counts
    let s := (bad.filterMap (·.site)).eraseDups.foldl (fun s site =>
      let mine := bad.filter (fun v => v.site == some site)
      s.countFails c site (maskOf (mine.map (·.pin))) mine.length h.dom last) s
    -- fail capture: one record for each site, and one for pins without an owner
    let mask := s.fld F.APG_FC_PINMASK_pins c
    let cap := bad.filter (fun v => mask.testBit v.pin)
    let s := (List.range 8).foldl (fun s t =>
      let mine := cap.filter (fun v => v.site == some (s.siteOf (8 * c + t)))
      if mine.isEmpty || !s.bitOf F.APG_FC_CFG_site_mask c 0 t then s
      else s.offerFail c (s.failRec c h (s.siteOf (8 * c + t)) (maskOf (mine.map (·.pin))) am bm)) s
    let free := cap.filter (fun v => v.site.isNone)
    let s := if free.isEmpty then s
      else
        let (x, s) := s.draw 256
        s.offerFail c (s.failRec c h x (maskOf (free.map (·.pin))) am bm)
    -- the tally
    let leader := s.apgLeader c
    let cells := if h.tal then bad.filter (·.algo) else []
    let s := cells.foldl (fun s v =>
      match v.site with
      | some site => s.cellEvent leader ⟨site, h.bank, h.row, h.col, v.pin, c⟩ h.slot
      | none => s) s
    -- the Course's trigger source: the first unmasked fail of the vector (Table 13.3)
    let first := bad.foldl (fun m v => min m v.at_) last
    let s := s.sourceEvent (0x20 + c) 3 ((h.dom : Int) + first - (h.slot : Int)).toNat none
    -- condition 13 sees fails of the whole chain
    let b := bad.filter (·.algo)
    let s := if b.isEmpty then s
      else s.modApg leader (fun a => { a with bfails := a.bfails ++ b.map (fun v => (v.at_, false)) })
    if h.failJump && s.bit F.PAT_CTRL_fail_jump_en c then
      bad.foldl (fun s v => s.raiseJump c (v.at_ + ((ns 40 : Nat) : Int)).toNat) s
    else s

/-- The raw sample of a vector (R409). -/
def State.rawVector (s : State) (c : Nat) (h : HeldVec) : State :=
  if (s.unit c).arm.isNone then s
  else
    let content := s.rawContent c
    let pins := h.vs.filter (fun v => if content = 1 then v.pair.above else if content = 2 then v.pair.below else v.fail)
    if s.rawMode c = 1 ∧ !h.marked then s
    else s.acqSample c h.dom h.vcnt (toLe 4 (maskOf (pins.map (·.pin))))

/-- What follows a vector with ckpt = 1 (R205, R260): each site's fail count up to and including this vector, and so after the counts that are
still on their way to its home Course. -/
def State.checkpoint (s : State) (c : Nat) (dom : Nat) : State :=
  (s.sitesOn c).foldl (fun s site =>
    let s := s.postTally site
    match s.rk.inbox.filter (fun a => a.site == site && a.order == 0) with
    | [] => s.takeCkpt site
    | l => s.postArrival { site := site, at_ := l.foldl (fun m a => max m a.at_) 0, order := 0, t0 := dom, ckpt := true }) s

/-- The vector in progress ends: its compares count, but for those whose instants lie at or after a new anchor (R181), and a step that only
waited for them is complete (R321). -/
def State.settleVec (s : State) (c : Nat) (cut : Option Int) : State :=
  match (s.stream c).held with
  | none => s
  | some h =>
    let s := s.modStream c (fun x => { x with held := none })
    let h := match cut with
      | some a => { h with vs := h.vs.filter (fun v => decide (v.at_ < a)) }
      | none => h
    let s := s.drainFails c s.tb.loc
    let s := (s.vecFails c h).rawVector c h
    let s := if h.ckpt then s.checkpoint c h.dom else s
    ((h.vs.filter (·.fail)).filterMap (·.site)).eraseDups.foldl (fun s site => s.tryComplete site) s

/-- The vectors in progress of a Carry chain whose slots have ended by `t` count before the generator looks at them. -/
def State.settleChain (s : State) (c t : Nat) : State :=
  (s.chain c).foldl (fun s q => if (s.stream q).next ≤ t then s.settleVec q none else s) s

/-- The generator's part of a vector's start: an instruction that has ended is followed, a HALT's first vector may raise jump requests, and the
vector counts against the instruction. The first in-step Course of a chain to start a vector does this for all (R251, R252). -/
def State.apgStep (s : State) (c slot vcnt : Nat) : State :=
  let l := s.apgLeader c
  if !s.apgRuns c || (s.apgOf c).slip || decide (vcnt < (s.apgCore c).idx) then s
  else
    let s := if (s.apgCore c).left = 0 then s.apgEnd l (s.apgCore c).ended else s
    if !s.apgRuns c then s
    else
      let w := s.apgWord c
      let s := if bitsAt w 63 62 = 3 ∧ (s.apgCore c).left = apgVpi w ∧ s.bit F.APG_CTRL_halt_jreq l then
          (s.chain c).foldl (fun s q => s.raiseJump q slot) s
        else s
      s.modApg l (fun a => { a with left := a.left - 1, idx := vcnt + 1 })

/-- APG_INSTRUCTION_END (R241): the instruction's last vector has ended on every Course in step. -/
def execApgInstructionEnd (c : Nat) (s : State) : Host.Outcome State Fault Refusal :=
  if c < 32 ∧ s.apgRuns c ∧ (s.apgCore c).left = 0 ∧
      (s.chain c).all (fun q => !(s.apgOf q).live || (s.apgOf q).slip || !s.streaming q ||
        decide ((s.apgCore c).idx ≤ s.pair F.PAT_VCNT_LO_vcnt F.PAT_VCNT_HI_vcnt q)) then
    let s := s.reachLoc (s.apgCore c).ended
    .next ((s.settleChain c s.tb.loc).apgEnd (s.apgLeader c) (s.apgCore c).ended)
  else .next s

/-! ### Starting and ending (R218 to R222) -/

/-- Makes a segment current at a run's start. -/
def State.enterSeg (s : State) (c seg : Nat) : State :=
  let d := s.desc c seg
  let s := s.setFld F.PAT_STATUS_cur_seg c 0 seg
  let s := s.setBit F.PAT_STATUS_resident c 0 (descResident d)
  let s := s.setFld F.PAT_LOOP_remaining c 0 (descLoops d)
  let s := s.setFld F.PAT_VIDX_vidx c 0 0
  (s.modStream c (fun x => { x with
    runs := descLoops d, endless := descLoops d == 0, started := false, decided := none, whole := false })).prefetch c

/-- Ends a Course's stream (R221). -/
def State.endStream (s : State) (c : Nat) : State :=
  let s := (s.settleVec c none).settleEdges c
  let s := s.setBit F.PAT_STATUS_streaming c 0 false
  let s := s.setBit F.TMG_STATUS_streaming c 0 false
  let s := s.setBit F.PAT_STATUS_resident c 0 false
  let s := s.setFld F.PAT_STATUS_cur_seg c 0 0xFFF
  let s := s.modStream c (fun x => { x with decided := none, starving := false, resumeAt := none, heads := [], sMask := 0 })
  let s := (List.range 8).foldl (fun s t => s.dropStaged (8 * c + t)) s
  s.tmgTouch c

/-- Ends a stream as a stop (R220): the jump latch clears (R225), and a raw unit's segment ends INCOMPLETE (R413). A stop of a Course that
streams nothing only clears the latch. -/
def State.stopStream (s : State) (c : Nat) : State :=
  let s := (s.setBit F.PAT_STATUS_jlatch c 0 false).modStream c (fun x => { x with req := [] })
  if !s.streaming c then s
  else
    let s := s.settleVec c none
    let s := if (s.unit c).arm.isSome then s.endArm c else s
    s.endStream c

/-- A run continues into an invalid descriptor (R222). -/
def State.badLink (s : State) (c : Nat) : State :=
  let s := (s.stopStream c).setBit F.PAT_STATUS_bad_link c 0 true
  (s.starveMarks c).report c sevAdvisory (detail clsBlock 0x08)

/-- Follows the stream into a segment at its run's end: a stop, a bad link, or the segment's first run. -/
def State.follow (s : State) (c seg : Nat) : State :=
  if seg = 0xFFF then s.endStream c
  else if s.segValid c seg = false then s.badLink c
  else (s.applyBoundary c).enterSeg c seg

/-- The end of a run, as its decision point chose it. -/
def State.runEnd (s : State) (c : Nat) : State :=
  let s := s.settleVec c none
  let x := s.stream c
  match x.decided with
  | some (.jump seg) => s.follow c seg
  | some (.go seg) => s.follow c seg
  | _ =>
    let s := s.applyBoundary c
    let s := if x.endless then s else s.setFld F.PAT_LOOP_remaining c 0 (x.runs - 1)
    let s := s.setFld F.PAT_VIDX_vidx c 0 0
    let all := s.bit F.PAT_STATUS_resident c
    (s.modStream c (fun x => { x with runs := x.runs - 1, started := false, decided := none, whole := all })).prefetch c

/-- RUN_END (R221, R222, R225): the last vector of the current run has ended. -/
def execRunEnd (c : Nat) (s : State) : Host.Outcome State Fault Refusal :=
  if c < 32 && s.streaming c && !(s.stream c).starving && s.nextIdx c == s.runLen c then
    .next ((s.reachLoc (s.stream c).next).runEnd c)
  else .next s

/-- Whether a record in a Course's queue starts (or, for `stop`, stops) its stream at a given instant. -/
def State.startsAt (s : State) (c exec : Nat) (stop : Bool) : Bool :=
  (s.queue c).any (fun r => r.action == 0x02 && r.exec == exec && ((bitsAt r.payload 46 35 == 0xFFF) == stop))

/-- Whether Course `b` shares the SEGMENT_START that Course `a` executes (R252). -/
def State.sameAnchor (s : State) (a b exec : Nat) : Bool :=
  (s.streaming b && (s.stream a).anchor == (s.stream b).anchor) || s.startsAt b exec false

/-- The Courses of a chain that a SEGMENT_START of one of them leaves out of step. -/
def State.chainCheck (s : State) (c exec : Nat) : State :=
  let l := s.apgLeader c
  if l = c then
    (s.chain c).foldl (fun s q => if q != c && (s.apgOf q).live && !s.sameAnchor c q exec then s.chainSlip q else s) s
  else if (s.apgOf c).live && !s.sameAnchor c l exec then s.chainSlip c
  else s

/-- The Courses of a chain that a stop of one of them, not given to the others, leaves out of step: a follower that stops alone, or the followers
that stream on without their leader. -/
def State.chainStop (s : State) (c exec : Nat) : State :=
  let l := s.apgLeader c
  let goesOn := fun (s : State) (q : Nat) => s.streaming q && !s.startsAt q exec true
  if l = c then
    (s.chain c).foldl (fun s q => if q != c && (s.apgOf q).live && goesOn s q then s.chainSlip q else s) s
  else if (s.apgOf c).live && goesOn s l then s.chainSlip c
  else s

/-- A new anchor or a stop ends the vector in progress (R181): none of its edges and compares at or after that instant are placed. Edges of
earlier vectors and of the serial engine keep their places. -/
def State.cutVector (s : State) (c : Nat) : State :=
  let now := (s.tb.loc : Int)
  let s := s.settleTo c (now - 1)
  match (s.stream c).held with
  | none => s
  | some h =>
    let s := s.modCoTim c (fun x => { x with edges := x.edges.filter (fun e => e.ser || e.vec != h.slot || decide (e.at_ < now)) })
    s.settleVec c (some now)

/-- SEGMENT_START (R181, R199, R218 to R221, R227, R239). -/
def execSegmentStart (c : Nat) (s : State) : Host.Outcome State Fault Refusal :=
  if c ≥ 32 then .next s
  else
    match s.takeHead c 0x02 with
    | none => .next s
    | some (r, s) =>
      let seg := bitsAt r.payload 46 35
      let held := (s.stream c).heads.contains seg || (s.stream c).got.contains seg
      let s := s.modStream c (fun x => { x with got := removeNat x.got seg })
      if s.inSafe then .next (s.discardInSafe r)
      else
        let now := s.tb.loc
        let s := s.cutVector c
        if seg = 0xFFF then .next ((s.chainStop c r.exec).stopStream c)
        else
          -- an invalid descriptor is a host error of the Course's stream (R221): an open segment streams, the stream ends, or it goes on, open
          let good := s.segValid c seg
          let (seg, s) := if good then (seg, s) else s.draw 4096
          if s.segValid c seg = false then
            .next (if seg % 2 = 0 then s.stopStream c else s.modStream c (fun x => { x with wild := some s.now }))
          else
            let s := s.applyStart c r.exec
            let s := s.setBit F.PAT_STATUS_jlatch c 0 false
            let s := s.setBit F.PAT_STATUS_streaming c 0 true
            let s := s.setBit F.TMG_STATUS_streaming c 0 true
            let s := s.setPair F.PAT_VCNT_LO_vcnt F.PAT_VCNT_HI_vcnt c 0 0
            let s := s.enterSeg c seg
            let s := s.modStream c (fun x => { x with wild := if good then x.wild.filter (fun t => decide (r.entered ≤ t)) else some s.now })
            let ok := held || decide (r.entered + us 1 ≤ r.exec)
            let p := s.period c (tsetOf (s.vecRec c 0))
            let s := s.modStream c (fun x => { x with
              next := now, acc := now % 2 ^ 64, anchor := now, req := [], lastPeriod := p, headOk := ok, starving := !ok, resumeAt := none, sMask := 0 })
            let s := (List.range 32).foldl (fun s p => if (s.pch c p).lastPair.isSome then s.modPch c p (fun x => { x with lastPair := none }) else s) s
            .next ((s.apgLoad c (s.sameAnchor c (s.apgLeader c) r.exec)).chainCheck c r.exec)

/-! ### Refill (R226, R227) -/

/-- Skips one vector slot. -/
def State.skipSlot (s : State) (c : Nat) : State :=
  let x := s.stream c
  let s := (s.reachLoc x.next).settleVec c none
  let s := s.settleTo c ((x.next : Int) - 81920)
  let s := s.starveMarks c
  let s := s.setPair F.PAT_SKIP_LO_skip F.PAT_SKIP_HI_skip c 0 (s.pair F.PAT_SKIP_LO_skip F.PAT_SKIP_HI_skip c + 1)
  let s := s.setBit F.PAT_STATUS_starved c 0 true
  let s := s.driveMarks c x.next 0
  -- a follower that skips is out of step; when the leader skips, which keeps running, the followers are (R252)
  let s := if s.apgLeader c = c then
      (s.chain c).foldl (fun s q => if q != c && (s.apgOf q).live then s.chainSlip q else s) s
    else if (s.apgOf c).live then s.chainSlip c
    else s
  s.modStream c (fun x => { x with next := x.next + x.lastPeriod, acc := (x.acc + x.lastPeriod) % 2 ^ 64, starving := true })

/-- REFILL_STARVE (R226): the next vector is not in the buffer at its slot; a resident segment's later runs are always there (R215). -/
def execRefillStarve (c : Nat) (s : State) : Host.Outcome State Fault Refusal :=
  if c < 32 && s.streaming c && !(s.stream c).whole && decide (s.nextIdx c < s.runLen c) then .next (s.skipSlot c) else .next s

/-- REFILL_RESUME (R226): the missing granule is complete. -/
def execRefillResume (c : Nat) (s : State) : Host.Outcome State Fault Refusal :=
  if c < 32 && s.streaming c && (s.stream c).starving then
    .next (s.modStream c (fun x => { x with headOk := true, resumeAt := some (s.tb.loc + ns 64) }))
  else .next s

/-- Skips the slots that begin before the stream may resume. -/
def State.skipTo (s : State) (c r : Nat) : Nat → State
  | 0 => s
  | n + 1 => if (s.stream c).next < r then State.skipTo (s.skipSlot c) c r n else s

/-- The stream resumes once its granule has been there for 64 ns. -/
def State.resume (s : State) (c : Nat) : State :=
  let x := s.stream c
  match x.resumeAt with
  | some r =>
    let s := if x.starving then s.skipTo c r ((r - x.next) / max 1 x.lastPeriod + 1) else s
    s.modStream c (fun x => { x with starving := false, resumeAt := none })
  | none => s

/-! ### Vectors (R179 to R194, R205 to R211) -/

/-- Whether the serial engine controls a pin in every vector (direct mode, R443). -/
def State.serDirect (s : State) (c p : Nat) : Bool := s.bit F.SER_CTRL_en c && s.bit F.SER_CTRL_pin_mode c && s.serNames c p

/-- Fixture deskew plus internal correction, kept within ±20 ns (R185, R194). -/
def State.shift (s : State) (c : Nat) (fixv corr : Int) : Int × State :=
  let x := fixv + corr
  let y := clampInt (-81920) 81920 x
  if x = y then (x, s) else (y, (s.setBit F.TMG_STATUS_deskew_limit c 0 true).report c sevAdvisory (detail clsBlock 0x07))

/-- Puts a driver edge into its place: after every edge of an earlier or the same instant (R186). -/
def insEdge (e : PlacedEdge) : List PlacedEdge → List PlacedEdge
  | [] => [e]
  | x :: l => if e.at_ < x.at_ then e :: x :: l else x :: insEdge e l

/-- The level a pin's driver will have driven last once its placed edges have acted. -/
def State.lastLevel (s : State) (c p : Nat) : Bool :=
  match ((s.coTim c).edges.filter (fun e => e.pin == p && (e.act == some .low || e.act == some .high))).getLast? with
  | some e => e.act == some .high
  | none => (s.pch c p).lastHigh

/-- Places one driver edge of set `k` for the vector that starts at `t`, unless its offset reaches the period (R184). -/
def State.placeDrive (s : State) (c k p e t : Nat) (corr : Int) (act : Option Drive) : State :=
  let o := s.edge c k p e
  if s.period c k ≤ o then s
  else
    let (x, s) := s.shift c (toSigned 18 (s.actFld F.TMG_FIX_DRV_fix_drv c p)) corr
    s.modCoTim c (fun z => { z with edges := insEdge ⟨p, (t : Int) + (o : Int) + x, act, false, t⟩ z.edges })

/-- The driver edges of a driving glyph: drive-on, drive-data, drive-off (Table 6.1). -/
def State.placeDrives (s : State) (c k p t : Nat) (high : Bool) : State :=
  let x := s.corrOf c p
  let mid := x.rise + Int.tdiv x.fall 2
  let was := s.lastLevel c p
  let data := if was == high then 0 else if high then x.rise else x.rise + x.fall
  let s := s.placeDrive c k p 0 t mid none
  let s := s.placeDrive c k p 1 t data (some (if high then .high else .low))
  s.placeDrive c k p 2 t mid (some .off)

/-- The corrected instant that decides a compare: E3, or E4 in window mode; none when its strobe is never placed. -/
def State.cmpInstant (s : State) (c k p t : Nat) : Option Int × State :=
  let e3 := s.edge c k p 3
  let e4 := s.edge c k p 4
  let per := s.period c k
  if per ≤ e3 then (none, s)
  else
    let window := s.actFld F.TMG_PIN_CFG_cmp_mode c (k * 32 + p) == 1 && decide (e4 < per) && decide (e3 + 820 ≤ e4)
    let (x, s) := s.shift c (toSigned 18 (s.actFld F.TMG_FIX_CMP_fix_cmp c p)) (s.corrOf c p).cmp
    (some ((t : Int) + ((if window then e4 else e3 : Nat) : Int) + x), s)

/-- The pair a compare glyph expects: some verdict, or none where any pair passes. -/
def State.expected (s : State) (c p g : Nat) (pair : Halves) : Bool :=
  match g with
  | 0x2 => pair == ⟨false, true⟩
  | 0x8 => pair == ⟨false, true⟩
  | 0x3 => pair == ⟨true, false⟩
  | 0x9 => pair == ⟨true, false⟩
  | 0x4 => pair == ⟨false, false⟩
  | 0x5 => pair.above != pair.below
  | 0xD => match s.apgExpect c p with
    | some true => pair == ⟨true, false⟩
    | some false => pair == ⟨false, true⟩
    | none => true
  | 0xF => match (s.pch c p).lastPair with | some q => pair == q | none => true
  | _ => true

/-- Whether a glyph compares on a pin (Table 7.2). -/
def State.compares (s : State) (c p g : Nat) : Bool :=
  g == 0x2 || g == 0x3 || g == 0x4 || g == 0x5 || g == 0x8 || g == 0x9 || g == 0xA || g == 0xF || (g == 0xD && (s.apgExpect c p).isSome)

/-- One pin of a vector: its driver edges, and its compare with the sample given. -/
def State.vecPin (s : State) (c k t r : Nat) (samples : List Halves) (p : Nat) : State × Option Verdict :=
  let g := glyphOf r p
  if s.serDirect c p then (s, none)
  else
    let absent := (g == 0xC || g == 0xD) && (s.apgIdle c || (s.apgBit c p).isNone)
    let s := if absent then s.setBit F.PAT_STATUS_apg_absent c 0 true else s
    let level : Option Bool :=
      if g = 0x0 ∨ g = 0x8 then some false
      else if g = 0x1 ∨ g = 0x9 then some true
      else if g = 0xB then some (!s.lastLevel c p)
      else if g = 0xC then s.apgDrive c p
      else none
    let s := match level with
      | some b => s.placeDrives c k p t b
      | none => s
    if !s.compares c p g then (s, none)
    else
      match s.cmpInstant c k p t with
      | (none, s) => (s, none)
      | (some a, s) =>
        let x := s.pch c p
        let pair : Halves := samples[p]?.getD ⟨x.above, x.below⟩
        let bad := !s.expected c p g pair && s.actFld fldCmask c p == 0
        let s := s.modPch c p (fun y => { y with above := pair.above, below := pair.below, lastPair := some pair })
        (s, some ⟨p, pair, bad, g == 0xD, a, (s.pinOwner c p).map (fun k => s.siteOf k)⟩)

/-- All pins of a vector. -/
def State.vecPins (s : State) (c k t r : Nat) (samples : List Halves) : State × List Verdict :=
  (List.range 32).foldl (fun (a : State × List Verdict) p =>
    let (s, v) := a.1.vecPin c k t r samples p
    (s, a.2 ++ v.toList)) (s, [])

/-- The glyphs S of the vector in progress: the engine takes the pins they give it and leaves those they take away (R443). -/
def State.serGlyphs (s : State) (c was : Nat) : State :=
  if s.bit F.SER_CTRL_pin_mode c || !s.bit F.SER_CTRL_en c then s
  else
    let now := (s.stream c).sMask
    let s := (bitsOf 32 (clrMask was now)).foldl (fun s p => if s.serNames c p then s.modPch c p (fun x => { x with drive := .off }) else s) s
    (bitsOf 32 now).foldl (fun s p => s.serDrive c p) s

/-- A vector begins at its slot. Its edges may act up to 20 ns before it, in order with those of the vector before (R185, R186): what was placed
acts up to that instant first. -/
def State.vector (s : State) (c : Nat) (samples : List Halves) : State :=
  let slot := (s.stream c).next
  let idx := s.nextIdx c
  let s := ((s.reachLoc slot).launchDue).settleChain c slot
  let s := (s.settleVec c none).settleTo c ((slot : Int) - 81920)
  let dom := s.now
  let s := if s.atDecision c then s.decideRun c else s
  let seg := s.curSeg c
  let vcnt := s.pair F.PAT_VCNT_LO_vcnt F.PAT_VCNT_HI_vcnt c
  let r := s.vecRec c idx
  let k := tsetOf r
  let s := s.setFld F.PAT_VIDX_vidx c 0 idx
  let s := s.apgStep c slot vcnt
  let s := if idx % 64 = 0 then s.sampleJump c slot else s
  let s := s.applyClears (s.apgLeader c) slot
  let s := (bitsOf 32 (s.fld F.PCH_TRIP_LATCH_latch c)).foldl (fun s p =>
    if s.actFld F.PCH_TRIP_CFG_clr_mode c p = 1 then s.clearLatchFree c p else s) s
  let s := if r.testBit 138 then s.switchAll c s.tb.loc else s
  let (s, vs) := s.vecPins c k slot r samples
  let h : HeldVec :=
    { slot, dom, seg, vcnt, marked := r.testBit 140, ckpt := r.testBit 139, failJump := descFail (s.desc c seg)
      row := s.pinRow c, col := s.pinCol c, bank := (s.apgCore c).z, pc := s.apgPc c, idle := s.apgIdle c || s.apgHalted c
      tal := (s.apgWord c).testBit 14, vs }
  let s := s.driveMarks c slot (bitsAt r 137 134)
  let s := s.setPair F.PAT_VCNT_LO_vcnt F.PAT_VCNT_HI_vcnt c 0 (vcnt + 1)
  let p := s.period c k
  let s := if s.apgRuns c && !(s.apgOf c).slip then s.modApg (s.apgLeader c) (fun a => { a with ended := slot + p }) else s
  let sp := maskOf ((List.range 32).filter (fun q => glyphOf r q == 0xE))
  let was := (s.stream c).sMask
  let s := s.modStream c (fun x => { x with
    started := true, next := slot + p, acc := (x.acc + p) % 2 ^ 64, lastPeriod := p, sMask := sp, held := some h })
  s.serGlyphs c was

/-- Whether the next vector stands in the buffer. -/
def State.vecReady (s : State) (c : Nat) : Bool :=
  let x := s.stream c
  s.streaming c && (!x.starving || x.resumeAt.isSome) && decide (s.nextIdx c < s.runLen c)

/-- Whether the next vector's record must be read from a line that the outer code cannot correct (R228); later runs of a resident segment read
nothing (R215). -/
def State.vecCorrupt (s : State) (c : Nat) : Bool :=
  let a := 64 * descStart (s.desc c (s.curSeg c)) + 18 * s.nextIdx c
  !(s.stream c).whole && (s.corruptLine (a / 64) || s.corruptLine ((a + 17) / 64))

/-- The stream ends before an uncorrectable line (R228). -/
def State.abortStream (s : State) (c : Nat) : State :=
  ((s.stopStream c).setBit F.PAT_STATUS_abort c 0 true).starveMarks c

/-- Ends the streams that wait for a line which stays corrupt (R228). -/
def State.abortStarved (s : State) : State :=
  (List.range 32).foldl (fun s c =>
    if s.streaming c && (s.stream c).starving && decide (s.nextIdx c < s.runLen c) && s.vecCorrupt c then s.abortStream c else s) s

/-- VECTOR_START (R179 to R194, R205 to R211, R223 to R231): `samples` are the comparator halves of the pins, from P00 up; a
pin without one keeps the halves it has. -/
def execVectorStart (c : Nat) (samples : List Halves) (s : State) : Host.Outcome State Fault Refusal :=
  if c < 32 && s.vecReady c then
    let s := s.resume c
    if s.vecCorrupt c then .next ((s.reachLoc (s.stream c).next).abortStream c) else .next (s.vector c samples)
  else .next s

/-! ### Descriptors (R213, R214, R237) -/

/-- A descriptor as it is stored: its unused bits are zeros (Table 7.3). -/
def cleanDesc (b : List Byte) : List Byte :=
  let b := b.set 16 ((b[16]?.getD 0) &&& 3#8)
  let b := b.take 17 ++ List.replicate 15 0
  let b := (b.set 3 ((b[3]?.getD 0) &&& 0x3F#8)).set 13 ((b[13]?.getD 0) &&& 0x0F#8)
  b.set 15 ((b[15]?.getD 0) &&& 0x0F#8)

/-- Writes a descriptor after its checks. -/
def State.putDesc (s : State) (c seg : Nat) (b : List Byte) : State × Nat :=
  let b := cleanDesc b
  if seg ≥ 4095 then s.hostErr
  else if descLen b < 8 then (s, eSegmentShort)
  else if s.patLines < descStart b + 18 * descLen b then (s, eAddrRange)
  else if s.segBusy c seg then (s, eSegmentBusy)
  else
    let s' := { s with pat := { s.pat with desc := Tbl.set s.pat.desc (List.replicate 32 0) (4096 * c + seg) b } }
    if !descValid b || s'.fits s.md.mode then (s', eOk) else (s, eCalendarFull)

/-- OD + 0x0.00: write descriptor. -/
def wrDescriptor (h : Hdr) (c : Nat) (d : Sys2Proof.Data) (s : State) : State × Nat :=
  s.item490 h d tBlob (· == 34) false (fun s => s.putDesc c (dSub d 0 2) (d.bytes.drop 2))

/-- DESCRIPTOR_WRITE (R214). -/
def execDescriptorWrite (h : Hdr) (d : Sys2Proof.Data) (c : Nat) (s : State) : Host.Outcome State Fault Refusal :=
  if c ≥ 32 then .next s else .next (s.hostItem (.descriptorWrite h d c) h (wrDescriptor h c d))

end Sys2Proof.Machine
end

