-- ==== Sys2Proof/Machine/Serial.lean ====
section
/-! DEFINITION. The serial engines: templates, transmit and receive queues, transfers as controller and as target (R442 to R460). -/

namespace Sys2Proof.Machine

/-! ### Templates (R445, R446) -/

/-- Kind of a phase (Table 15.1): 0 TX, 1 RX, 2 TURN, 3 END. -/
def phKind (w : Nat) : Nat := bitsAt w 15 14
/-- Lanes of a phase; the reserved code is an open choice. -/
def phLanes (w : Nat) : Nat :=
  match bitsAt w 13 12 with | 0 => 2 | 1 => 4 | 2 => 8 | _ => 2 ^ (1 + Config.openNat 22 [w] % 3)
/-- Length of a phase. -/
def phLen (w : Nat) : Nat := if w % 4096 = 0 then 4096 else w % 4096

/-- The phases of a template, up to the first END. -/
def State.serPhases (s : State) (c t : Nat) : List Nat :=
  [s.fld F.SER_TPL_A_phase_lo c t, s.fld F.SER_TPL_A_phase_hi c t, s.fld F.SER_TPL_B_phase_lo c t, s.fld F.SER_TPL_B_phase_hi c t].takeWhile
    (fun w => phKind w != 3)

/-- One unit of a transfer: a word, an unbroken length-mode phase, or a TURN. `data` is what a TX unit sends, `bits` its width. -/
structure SerUnit where
  phase : Nat
  kind : Nat
  lanes : Nat
  bits : Nat
  data : Nat
  last : Bool          -- the last unit of its phase
deriving DecidableEq, Repr

/-- Groups, or clock cycles, of a unit. A width that is no multiple of the lane count is a host error: an open number of groups. -/
def SerUnit.groups (u : SerUnit) : Nat :=
  if u.kind = 2 then u.bits else if u.bits % u.lanes = 0 then u.bits / u.lanes else Config.openNat 21 [u.bits, u.lanes] % 4097

/-- Word width in bits. -/
def State.serWidth (s : State) (c t : Nat) : Nat := max 3 (s.fld F.SER_TPL_C_wbits c t) + 1

/-- `n` words of a phase and the data words left; whether one was missing. -/
def serWords (ph kind lanes w : Nat) : Nat → List Word64 → List SerUnit × List Word64 × Bool
  | 0, d => ([], d, false)
  | n + 1, d =>
    if kind = 0 then
      let (us, d', miss) := serWords ph kind lanes w n d.tail
      (⟨ph, kind, lanes, w, (d.headD 0).toNat % 2 ^ w, n == 0⟩ :: us, d', miss || d.isEmpty)
    else
      let (us, d', miss) := serWords ph kind lanes w n d
      (⟨ph, kind, lanes, w, 0, n == 0⟩ :: us, d', miss)

/-- The first `len` bits of data words, most significant first; missing words are zero (R448). -/
def serBits (len : Nat) (d : List Word64) : Nat × List Word64 × Bool :=
  let k := ceilDiv len 64
  let x := ((List.range k).map (fun i => (d[i]?.getD 0).toNat)).foldl (fun a w => a * 18446744073709551616 + w) 0
  (x / 2 ^ (64 * k - len), d.drop k, decide (d.length < k))

/-- The units of a template's phases with their data (R445, R448). -/
def serUnits (lmode : Bool) (w : Nat) : Nat → List Nat → List Word64 → List SerUnit × Bool
  | _, [], _ => ([], false)
  | ph, p :: ps, d =>
    if phKind p = 2 then
      let (us, miss) := serUnits lmode w (ph + 1) ps d
      (⟨ph, 2, phLanes p, phLen p, 0, true⟩ :: us, miss)
    else if lmode then
      let (x, d', m) := if phKind p = 0 then serBits (phLen p) d else (0, d, false)
      let (us, miss) := serUnits lmode w (ph + 1) ps d'
      (⟨ph, phKind p, phLanes p, phLen p, x, true⟩ :: us, m || miss)
    else
      let (ws, d', m) := serWords ph (phKind p) (phLanes p) w (phLen p) d
      let (us, miss) := serUnits lmode w (ph + 1) ps d'
      (ws ++ us, m || miss)

/-- The units of an entry, and whether its TX phases run past its data. -/
def State.serPlan (s : State) (c t : Nat) (d : List Word64) : List SerUnit × Bool :=
  serUnits (s.bit F.SER_TPL_C_lmode c t) (s.serWidth c t) 0 (s.serPhases c t) d

/-- What lane `i` carries in group `g` of a TX unit (R446): from the most significant end, lane L − 1 first, or both reversed. -/
def SerUnit.laneBit (u : SerUnit) (lsb : Bool) (g i : Nat) : Bool :=
  if lsb then u.data.testBit (g * u.lanes + (u.lanes - 1 - i))
  else u.data.testBit (u.bits - (g + 1) * u.lanes + i)

/-! ### Pins (R442 to R444) -/

/-- The pin of a six-bit field, if valid. -/
def pin6 (w k : Nat) : Option Nat := if w.testBit (6 * k + 5) then some (bitsAt w (6 * k + 4) (6 * k)) else none
/-- The clock pin. -/
def State.serClk (s : State) (c : Nat) : Option Nat := pin6 (s.fld F.SER_PIN_A_map c) 0
/-- The pin of SELk. -/
def State.serSel (s : State) (c k : Nat) : Option Nat := pin6 (s.fld F.SER_PIN_A_map c) (k + 1)
/-- The pin of a data lane. -/
def State.serLane (s : State) (c i : Nat) : Option Nat :=
  let b := s.fld F.SER_PIN_B_map c
  let e := s.fld F.SER_PIN_C_map c
  if i < 2 ∧ e.testBit (6 * i + 5) then pin6 e i
  else if b.testBit (4 * i + 3) then some (24 + bitsAt b (4 * i + 2) (4 * i)) else none

/-- Whether two functions of an engine are assigned to one pin (R442). -/
def State.serTwice (s : State) (c p : Nat) : Bool :=
  let l := [s.serClk c, s.serSel c 0] ++ (if s.bit F.SER_CTRL_role c then [] else [s.serSel c 1, s.serSel c 2, s.serSel c 3]) ++
    (List.range 8).map (fun i => s.serLane c i)
  decide (2 ≤ (l.filter (fun x => x == some p)).length)

/-- An engine edge on a pin at local tick `t`, with the pin's fixture deskew and correction (R444). What a pin with two functions
is driven to is open (R442, R2). -/
def State.serEdge (s : State) (c t : Nat) (pin : Option Nat) (d : Drive) : State :=
  match pin with
  | none => s
  | some p =>
    let (d, s) : Drive × State :=
      if s.serTwice c p then let (v, s) := s.draw 3; (if v = 0 then .low else if v = 1 then .high else .off, s) else (d, s)
    let x := s.corrOf c p
    let corr := match d with | .high => x.rise | .low => x.rise + x.fall | .off => x.rise + Int.tdiv x.fall 2
    let (y, s) := s.shift c (toSigned 18 (s.actFld F.TMG_FIX_DRV_fix_drv c p)) corr
    s.modCoTim c (fun z => { z with edges := insEdge ⟨p, (t : Int) + y, some d, true, t⟩ z.edges })

/-- A drive level. -/
def lvl (b : Bool) : Drive := if b then .high else .low

/-- The selects of a mask go to their asserted or deasserted level. -/
def State.serSelects (s : State) (c t mask : Nat) (on : Bool) : State :=
  (bitsOf 4 mask).foldl (fun s k => s.serEdge c t (s.serSel c k) (lvl ((s.fld F.SER_SEL_pol c).testBit k == on))) s

/-- The lanes of a group are launched: a TX unit's drive, every other lane released (R452). -/
def State.serLaunch (s : State) (c t tpl : Nat) (u : SerUnit) (g : Nat) : State :=
  (List.range 8).foldl (fun s i =>
    s.serEdge c t (s.serLane c i)
      (if u.kind = 0 ∧ i < u.lanes then lvl (u.laneBit (s.bit F.SER_TPL_C_lsb_first c tpl) g i) else .off)) s

/-- Every lane returns to its idle state. -/
def State.serIdleLanes (s : State) (c t : Nat) : State := (List.range 8).foldl (fun s i => s.serEdge c t (s.serLane c i) .off) s

/-! ### Transfers as controller (R449 to R453) -/

/-- The half-period in force: within R453's limits for the mode; whether it was adjusted. -/
def State.serHalf (s : State) (c : Nat) : Nat × Bool :=
  let h := s.fld F.SER_CLK_half c
  let x := clampNat (if s.md.mode == .stress then 40960 else 5120) 409600000 h
  (x, x != h)

/-- The select periods of an entry: each word its own, unless continue or length mode joins them (R451). -/
def serPeriods (joined : Bool) (us : List SerUnit) : List (List SerUnit) := if joined then [us] else us.map (fun u => [u])

/-- One select period from `t`: the edges of its groups; the instant of its deassertion. -/
def State.serPeriod (s : State) (c tpl h t : Nat) (us : List SerUnit) : State × Nat :=
  let lead := max 1 (s.fld F.SER_SEL_lead c)
  let lag := max 1 (s.fld F.SER_SEL_lag c)
  let mask := s.fld F.SER_TPL_C_sel c tpl
  let gs := us.foldl (fun l u => l ++ (List.range u.groups).map (fun g => (u, g))) []
  let s := s.serSelects c t mask true
  let s := (gs.zip (List.range gs.length)).foldl (fun s (e : (SerUnit × Nat) × Nat) =>
    let smp := t + (lead + 2 * e.2) * h
    let s := s.serLaunch c (if e.2 = 0 then t else smp - h) tpl e.1.1 e.1.2
    let s := s.serEdge c smp (s.serClk c) (lvl (!s.bit F.SER_CTRL_cpol c))
    s.serEdge c (smp + h) (s.serClk c) (lvl (s.bit F.SER_CTRL_cpol c))) s
  let done := if gs.isEmpty then t else t + (lead + 2 * (gs.length - 1) + lag) * h
  ((s.serSelects c done mask false).serIdleLanes c done, done)

/-- The select periods of an entry, one after another, from `t`. -/
def State.serPeriodsFrom (s : State) (c tpl h t : Nat) : List (List SerUnit) → State × Nat
  | [] => (s, t)
  | [us] => s.serPeriod c tpl h t us
  | us :: ps =>
    let (s, e) := s.serPeriod c tpl h t us
    State.serPeriodsFrom s c tpl h (e + max 1 (s.fld F.SER_SEL_gap c) * h) ps

/-- Whether the engine's units run in one select period. -/
def State.serJoined (s : State) (c : Nat) (e : TxEntry) : Bool := e.cont || s.bit F.SER_TPL_C_lmode c e.tpl

/-- The engine's pins at rest: the clock at cpol, every select deasserted, every lane released. -/
def State.serRest (s : State) (c t : Nat) : State :=
  let s := s.serEdge c t (s.serClk c) (lvl (s.bit F.SER_CTRL_cpol c))
  (s.serSelects c t 15 false).serIdleLanes c t

/-- Slots of the transmit queue in use (R447). -/
def txUse (l : List TxEntry) : Nat := l.foldl (fun a e => a + e.data.length) 0

/-- SER_ENTRY_START (R451): the next entry of a SER_START begins at I. -/
def execSerEntryStart (c : Nat) (s : State) : Host.Outcome State Fault Refusal :=
  let x := s.eng c
  match x.txq with
  | [] => .next s
  | e :: rest =>
    if 32 ≤ c ∨ x.todo = 0 ∨ x.run.isSome then .next s
    else
      let s := s.reachLoc x.nextAt
      let s := s.settleEdges c
      let (h, adj) := s.serHalf c
      let s := if adj then s.setBit F.SER_STATUS_clk_adj c 0 true else s
      let (us, miss) := s.serPlan c e.tpl e.data
      let s := if miss then s.setBit F.SER_STATUS_tx_under c 0 true else s
      let t := s.tb.loc
      let (s, fin) := s.serPeriodsFrom c e.tpl h t (serPeriods (s.serJoined c e) us)
      let s := s.modEng c (fun y => { y with
        txq := rest, isOpen := y.isOpen && !rest.isEmpty, todo := y.todo - 1, run := some ⟨e, t, h, fin⟩ })
      .next ((s.setBit F.SER_STATUS_busy c 0 true).settleEdges c)

/-! ### Receive entries (R454) -/

/-- Whether a trip cuts a pin the engine uses (R458). -/
def State.serTripped (s : State) (c : Nat) : Bool := (List.range 32).any (fun p => s.serNames c p && !(s.pch c p).cutBy.isEmpty)

/-- A receive entry joins the queue, or is lost (R454). -/
def State.serPut (s : State) (c : Nat) (r : RxEntry) : State :=
  let r := { r with trip := s.serTripped c }
  if 256 ≤ (s.eng c).rxq.length then
    let s := s.modEng c (fun x => { x with rxLost := x.rxLost + 1 })
    (s.setBit F.SER_STATUS_rx_ovf c 0 true).report c sevAdvisory (detail clsBlock 0x12)
  else s.modEng c (fun x => { x with rxq := x.rxq ++ [r] })

/-- The bits of received groups, lane L − 1 of each first (R446). -/
def groupBits (lanes : Nat) (gs : List Nat) : List Bool :=
  gs.foldl (fun l g => l ++ (List.range lanes).map (fun i => g.testBit (lanes - 1 - i))) []
/-- A number into which bits entered at bit 0, one after another. -/
def shiftIn (l : List Bool) : Nat := l.foldl (fun a b => 2 * a + b.toNat) 0

/-- The entries of a unit's bits: one word, or 64-bit chunks (R454). -/
def rxOf (lmode : Bool) (tpl : Nat) (u : SerUnit) (fuel : Nat) (l : List Bool) : List RxEntry :=
  match fuel with
  | 0 => []
  | fuel + 1 =>
    if l.isEmpty then []
    else if lmode && decide (64 < l.length) then
      ⟨shiftIn (l.take 64), 64, tpl, u.phase, false, false, false, false, false⟩ :: rxOf lmode tpl u fuel (l.drop 64)
    else [⟨shiftIn l, l.length, tpl, u.phase, u.last, false, false, false, false⟩]

/-- The entries of a unit that an abort cuts off: the word or chunk it stopped in is flagged ABORT (R455). -/
def rxCut (lmode : Bool) (tpl : Nat) (u : SerUnit) (l : List Bool) : List RxEntry :=
  let rs := rxOf lmode tpl u 65 l
  rs.dropLast ++ (rs.getLast?.map (fun y => { y with last := false, abort := !lmode || decide (y.bits < 64) })).toList

/-- Delivers the receive entries of complete units; `gs` are the groups of the RX units, in order; what is left over. -/
def State.serTake (s : State) (c tpl : Nat) : List SerUnit → List Nat → State
  | [], _ => s
  | u :: us, gs =>
    if u.kind = 1 then
      let mine := (gs.take u.groups) ++ List.replicate (u.groups - gs.length) 0
      let s := (rxOf (s.bit F.SER_TPL_C_lmode c tpl) tpl u 65 (groupBits u.lanes mine)).foldl (fun s r => s.serPut c r) s
      State.serTake s c tpl us (gs.drop u.groups)
    else State.serTake s c tpl us gs

/-- SER_ENTRY_END (R451, R454): the entry's selects deassert; `rx` are its sampled receive groups, bit i from lane i. -/
def execSerEntryEnd (c : Nat) (rx : List Nat) (s : State) : Host.Outcome State Fault Refusal :=
  match (s.eng c).run with
  | none => .next s
  | some r =>
    let s := s.reachLoc r.finish
    let s := s.settleEdges c
    let s := s.serTake c r.entry.tpl (s.serPlan c r.entry.tpl r.entry.data).1 rx
    let s := s.modEng c (fun x => { x with
      run := none, ran := x.ran + 1
      -- a SER_START since the deassertion has set its own instant
      nextAt := if r.finish ≤ x.nextAt then x.nextAt else r.finish + max 1 (s.fld F.SER_SEL_gap c) * r.h })
    .next (s.setBit F.SER_STATUS_busy c 0 false)

/-! ### Abort (R455) -/

/-- Receive groups an entry has sampled by `t`, period by period. -/
def State.serSampled (s : State) (c h t start : Nat) : List (List SerUnit) → List (SerUnit × Nat)
  | [] => []
  | us :: ps =>
    let lead := max 1 (s.fld F.SER_SEL_lead c)
    let lag := max 1 (s.fld F.SER_SEL_lag c)
    let dly := s.fld F.SER_SDLY_samp_dly c
    let n := us.foldl (fun a u => a + u.groups) 0
    let first := start + lead * h + min 81920 dly
    let got := if t < first then 0 else min n ((t - first) / (2 * h) + 1)
    let part := (us.foldl (fun (a : Nat × List (SerUnit × Nat)) u => (a.1 - u.groups, a.2 ++ [(u, min a.1 u.groups)])) (got, [])).2
    part ++ State.serSampled s c h t (start + (lead + 2 * (n - 1) + lag + max 1 (s.fld F.SER_SEL_gap c)) * h) ps

/-- How many groups of its first units a target has taken, unit by unit. -/
def unitsTaken : List SerUnit → Nat → List (SerUnit × Nat)
  | [], _ => []
  | u :: us, n => (u, min n u.groups) :: unitsTaken us (n - u.groups)

/-- The engine's transfer ends at once: selects, clock and lanes at rest, a partial unit delivered with ABORT, the transmit queue
emptied. What the receive lanes carried, and as a target how many clock edges came, is not known to the model: free values. -/
def State.serAbort (s : State) (c : Nat) : State :=
  let s := s.settleEdges c
  let now := s.tb.loc
  let x := s.eng c
  let (tpl, got, s) : Nat × List (SerUnit × Nat) × State := match x.run with
    | some r => (r.entry.tpl, s.serSampled c r.h now r.start (serPeriods (s.serJoined c r.entry) (s.serPlan c r.entry.tpl r.entry.data).1), s)
    | none =>
      if x.sel then
        let t := s.fld F.SER_CTRL_tgt_tpl c
        let us := (s.serPlan c t ((x.tgt.map (·.data)).getD [])).1
        let (n, s) := s.draw (us.foldl (fun a u => a + u.groups) 1)
        (t, unitsTaken us n, s)
      else (0, [], s)
  let lm := s.bit F.SER_TPL_C_lmode c tpl
  let s := got.foldl (fun (s : State) (e : SerUnit × Nat) =>
    let u : SerUnit := e.1
    if u.kind ≠ 1 ∨ e.2 = 0 then s
    else
      let (x, s) := s.draw (2 ^ (e.2 * u.lanes))
      let bits := (List.range (e.2 * u.lanes)).map (fun i => x.testBit i)
      (if e.2 = u.groups then rxOf lm tpl u 65 bits else rxCut lm tpl u bits).foldl (fun (s : State) (y : RxEntry) => s.serPut c y) s) s
  let s := s.modCoTim c (fun z => { z with edges := z.edges.filter (fun (e : PlacedEdge) => !e.ser) })
  let s := s.modEng c (fun x => { x with run := none, todo := 0, txq := [], isOpen := false, sel := false, tgt := none, nextAt := now })
  let s := s.setBit F.SER_STATUS_busy c 0 false
  let s := if s.bit F.SER_CTRL_role c then s.serIdleLanes c now else s.serRest c now
  -- at the instant itself: no edge of the engine waits behind it
  let l := (s.coTim c).edges.filter (fun (e : PlacedEdge) => e.ser)
  let s := s.modCoTim c (fun z => { z with edges := z.edges.filter (fun (e : PlacedEdge) => !e.ser) })
  l.foldl (fun (s : State) (e : PlacedEdge) => s.driveEdge c e) s

/-- SER_START (R449, R450): the record at the head of a Course queue acts. -/
def execSerStart (c : Nat) (s : State) : Host.Outcome State Fault Refusal :=
  if c ≥ 32 then .next s
  else
    match s.takeHead c 0x38 with
    | none => .next s
    | some (r, s) =>
      if s.inSafe then .next (s.discardInSafe r)
      else if s.md.mode == .survey then .next s.countLimit
      else if !s.bit F.SER_CTRL_en c then .next s
      else if r.payload.testBit 38 then .next (s.serAbort c)
      else if s.bit F.SER_CTRL_role c then .next s
      else
        let x := s.eng c
        let n := max 1 (bitsAt r.payload 46 39)
        -- an SPUSH counts only when its commit precedes the instant by 64 ns (R458)
        let have_ := ((x.txq.drop x.todo).takeWhile (fun e => decide (e.at_ = 0) || decide (e.at_ + ns 64 ≤ s.tb.loc))).length
        let busy := x.run.any (fun e => decide (s.tb.loc < e.finish)) || decide (0 < x.todo)
        let s := if busy then s.setBit F.SER_STATUS_start_late c 0 true else s
        let s := if have_ < n then s.setBit F.SER_STATUS_tx_under c 0 true else s
        .next (s.modEng c (fun y => { y with
          todo := y.todo + min n have_, nextAt := if busy then y.nextAt else s.tb.loc }))

/-! ### Queues (R447, R454) -/

/-- An append is discarded (R447). -/
def State.serLost (s : State) (c : Nat) : State :=
  let s := s.modEng c (fun x => { x with txLost := x.txLost + 1 })
  (s.setBit F.SER_STATUS_tx_ovf c 0 true).report c sevAdvisory (detail clsBlock 0x12)

/-- Appends a transmit entry, or a data word to the one just opened (template 15). `at_` is the local instant of an SPUSH's commit, 0 for the host. -/
def State.serAppend (s : State) (c tpl : Nat) (cont : Bool) (v at_ : Nat) : State :=
  let x := s.eng c
  -- words that follow an entry which found no room are lost with it
  if 256 ≤ txUse x.txq then (s.serLost c).modEng c (fun y => { y with isOpen := y.isOpen && tpl % 16 == 15 })
  else if tpl % 16 = 15 then
    match x.txq.getLast? with
    | none => s.serLost c
    | some e =>
      if !x.isOpen || decide (64 ≤ e.data.length) then s.serLost c
      else s.modEng c (fun y => { y with txq := y.txq.dropLast ++ [{ e with data := e.data ++ [BitVec.ofNat 64 v] }] })
  else s.modEng c (fun y => { y with txq := y.txq ++ [⟨tpl % 16, cont, [BitVec.ofNat 64 v], at_⟩], isOpen := true })

/-- Appends the entries of a BLOB, ten bytes each. -/
def State.serAppends (s : State) (c : Nat) (b : List Byte) : Nat → State
  | 0 => s
  | n + 1 => State.serAppends (s.serAppend c (beNat (b.take 1)) (beNat ((b.drop 1).take 1) != 0) (beNat ((b.drop 2).take 8)) 0) c (b.drop 10) n

/-- The template codes of a BLOB of transmit entries are 0 to 15. -/
def tplsOk (b : List Byte) : Nat → Bool
  | 0 => true
  | n + 1 => decide (beNat (b.take 1) < 16) && tplsOk (b.drop 10) n

/-- OD + 0x5.00. -/
def wrSerAppend (h : Hdr) (c : Nat) (d : Sys2Proof.Data) (s : State) : State × Nat :=
  s.item490 h d tBlob (fun n => decide (n % 10 = 0)) false (fun s =>
    let n := d.bytes.length / 10
    if tplsOk d.bytes n then (s.serAppends c d.bytes n, eOk) else s.hostErr)

/-- SER_APPEND (R447): function 0x5. -/
def execSerAppend (h : Hdr) (d : Sys2Proof.Data) (c : Nat) (s : State) : Host.Outcome State Fault Refusal :=
  if c ≥ 32 then .next s else .next (s.hostItem (.serAppend h d c) h (wrSerAppend h c d))

/-- OD + 0x7.00. -/
def wrSerRemove (h : Hdr) (c : Nat) (d : Sys2Proof.Data) (s : State) : State × Nat :=
  s.item490 h d tU16 anyLen false (fun s => (s.modEng c (fun x => { x with rxq := x.rxq.drop (dNat d) }), eOk))

/-- SER_RX_REMOVE (R454): function 0x7. -/
def execSerRxRemove (h : Hdr) (d : Sys2Proof.Data) (c : Nat) (s : State) : Host.Outcome State Fault Refusal :=
  if c ≥ 32 then .next s else .next (s.hostItem (.serRxRemove h d c) h (wrSerRemove h c d))

/-- OD + 0x8.00: a SER_START of n entries at acceptance + 10 µs. -/
def wrSerStart (h : Hdr) (c : Nat) (d : Sys2Proof.Data) (s : State) : State × Nat :=
  s.item490 h d tU8 anyLen false (fun s => (s.enterRecord c (s.now + us 10) 0 0x38 true 0 (dNat d % 256 * 2 ^ 39) 256, eOk))

/-- SER_START_NOW (R449): function 0x8. -/
def execSerStartNow (h : Hdr) (d : Sys2Proof.Data) (c : Nat) (s : State) : Host.Outcome State Fault Refusal :=
  if c ≥ 32 then .next s else .next (s.hostItem (.serStartNow h d c) h (wrSerStart h c d))

/-- OD + 0x9.00. -/
def wrSerAbort (h : Hdr) (c : Nat) (d : Sys2Proof.Data) (s : State) : State × Nat :=
  s.item490 h d tBool anyLen false (fun s => (if dFlag d then s.serAbort c else s, eOk))

/-- SER_ABORT (R455): function 0x9. -/
def execSerAbort (h : Hdr) (d : Sys2Proof.Data) (c : Nat) (s : State) : Host.Outcome State Fault Refusal :=
  if c ≥ 32 then .next s else .next (s.hostItem (.serAbort h d c) h (wrSerAbort h c d))

/-! ### The target role (R456, R457) -/

/-- SER_TARGET_SELECT_ASSERT (R456): SEL0 asserts, the head transmit entry's data is taken, and a first TX group is driven within 4 ns. The later
groups follow the die's clock, of which no command tells: their levels between this and the release are not shown (log entry 57). -/
def execSerTargetSelectAssert (c : Nat) (s : State) : Host.Outcome State Fault Refusal :=
  let x := s.eng c
  let off := s.inSafe || s.md.mode == .survey
  if 32 ≤ c ∨ off ∨ !s.bit F.SER_CTRL_en c ∨ !s.bit F.SER_CTRL_role c ∨ x.sel ∨ !x.selSeen then .next s
  else
    let s := s.modEng c (fun y => { y with sel := true, tgt := y.txq.head?, txq := y.txq.tail, isOpen := y.isOpen && decide (1 < y.txq.length) })
    let s := s.setBit F.SER_STATUS_busy c 0 true
    let t := s.fld F.SER_CTRL_tgt_tpl c
    .next (match (s.serPlan c t ((x.txq.head?.map (·.data)).getD [])).1 with
      | u :: _ =>
        if u.kind = 0 then let (d, s) := s.draw (ns 4 + 1); (s.serLaunch c (s.tb.loc + d) t u 0).settleEdges c else s
      | [] => s)

/-- Units of a word-mode transfer that goes on past its last phase (Table 15.4). -/
def moreUnits (us : List SerUnit) (d : List Word64) : Nat → List SerUnit
  | 0 => []
  | n + 1 =>
    match us.getLast? with
    | none => []
    | some u => (if u.kind = 0 then { u with data := (d.headD 0).toNat % 2 ^ u.bits } else u) :: moreUnits us d.tail n

/-- Splits sampled groups among units: the complete units with their groups, and the unit in which they end. -/
def splitGroups : List SerUnit → List Nat → List (SerUnit × List Nat) × Option (SerUnit × List Nat) × List Nat
  | [], gs => ([], none, gs)
  | u :: us, gs =>
    if gs.length < u.groups then ([], some (u, gs), [])
    else
      let (a, b, r) := splitGroups us (gs.drop u.groups)
      ((u, gs.take u.groups) :: a, b, r)

/-- SER_TARGET_SELECT_RELEASE (R456, R457): SEL0 is released after the sample edges whose lane samples are `groups`. -/
def execSerTargetSelectRelease (c : Nat) (groups : List Nat) (s : State) : Host.Outcome State Fault Refusal :=
  if 32 ≤ c then .next s
  else if !(s.eng c).sel then .next (s.modEng c (fun y => { y with selSeen := true }))
  else
    let t := s.fld F.SER_CTRL_tgt_tpl c
    let lm := s.bit F.SER_TPL_C_lmode c t
    let e := (s.eng c).tgt
    let data := (e.map (·.data)).getD []
    let us := (s.serPlan c t data).1
    let need := us.foldl (fun a u => a + u.groups) 0
    let used := (us.filter (fun u => u.kind == 0)).length
    let extra := if lm || decide (groups.length ≤ need) then [] else moreUnits us (data.drop used) (groups.length - need)
    let (whole, part, excess) := splitGroups (us ++ extra) groups
    let rxs : List RxEntry := whole.foldl (fun (l : List RxEntry) (e : SerUnit × List Nat) => if e.1.kind = 1 then l ++ rxOf lm t e.1 65 (groupBits e.1.lanes e.2) else l) []
    -- a TX phase that was reached and had no data
    let sent : List SerUnit := (whole.map (·.1) ++ (match part with
      | some (u, gs) => if gs.isEmpty && !whole.isEmpty then [] else [u]
      | none => [])).filter (fun u => u.kind == 0)
    let s := if data.length < sent.foldl (fun a u => a + (if lm then ceilDiv u.bits 64 else 1)) 0 then s.setBit F.SER_STATUS_tx_under c 0 true else s
    let short := match part with
      | none => false
      | some (u, gs) => decide (whole.length < us.length) || decide (0 < gs.length) && u.kind != 2
    let long := lm && !excess.isEmpty
    let rxs : List RxEntry := match part with
      | some (u, gs) =>
        if !short then rxs
        else
          let bits := if u.kind = 1 then groupBits u.lanes gs else []
          -- chunks of 64 bits that were complete have been delivered
          let full := if lm then bits.length / 64 else 0
          let tail := bits.drop (64 * full)
          rxs ++ (rxOf lm t { u with last := false } full bits) ++ [⟨if lm then shiftIn tail else 0, if lm then tail.length else bits.length, t, u.phase, false, true, false, false, false⟩]
      | none => rxs
    let rxs : List RxEntry := if long then
        match rxs.getLast? with
        | some y => rxs.dropLast ++ [{ y with long := true }]
        | none => [⟨0, 0, t, (us.getLast?.map (·.phase)).getD 0, false, false, true, false, false⟩]
      else rxs
    let irregular := short || long || !extra.isEmpty
    let s := rxs.foldl (fun (s : State) (y : RxEntry) => s.serPut c y) s
    let s := if irregular then s.setBit F.SER_STATUS_err c 0 true else s
    let s := s.modEng c (fun y => { y with
      sel := false, selSeen := true, tgt := none, ran := y.ran + 1
      shorts := y.shorts + short.toNat, longs := y.longs + long.toNat })
    .next ((s.setBit F.SER_STATUS_busy c 0 false).serIdleLanes c s.tb.loc)

/-! ### Enable and Safe (R137, R443, R455) -/

/-- What follows a change of SER_CTRL.en: pins at rest, or the abort of R455. A target drives none of its pins, which go to their idle states (R444);
what the comparator reads on SEL0 then is an open value. -/
def State.serEnabled (s : State) (c : Nat) (on : Bool) : State :=
  if on then
    if s.bit F.SER_CTRL_role c then
      let (b, s) := s.draw 2
      let s := s.modEng c (fun x => { x with selSeen := (s.serSel c 0).isNone || decide (b = 0) })
      let s := (s.serEdge c s.tb.loc (s.serClk c) .off).serEdge c s.tb.loc (s.serSel c 0) .off
      (s.serIdleLanes c s.tb.loc).settleEdges c
    else (s.serRest c s.tb.loc).settleEdges c
  else
    -- the abort acts while the engine still holds its pins; then it lets them go
    let s := ((s.setBit F.SER_CTRL_en c 0 true).serAbort c)
    let s := (List.range 32).foldl (fun s p => if s.serReach c p then s.modPch c p (fun x => { x with drive := .off }) else s) s
    (s.setBit F.SER_CTRL_en c 0 false).modEng c (fun x => { x with want := [] })

/-- Ends an engine's entry in progress, if there is one, as an abort does (R455). -/
def State.serCut (s : State) (c : Nat) : State :=
  if (s.eng c).run.isSome || (s.eng c).sel || decide (0 < (s.eng c).todo) then s.serAbort c else s

/-- Entry to Safe ends every transfer (R137, R453). -/
def State.serSafe (s : State) : State := (List.range 32).foldl (fun s c => s.serCut c) s

/-- Thermal Halt stops every engine, which delivers nothing (R118, R455). -/
def State.serHalt (s : State) : State :=
  (List.range 32).foldl (fun s c =>
    if s.bit F.SER_STATUS_busy c || !(s.eng c).txq.isEmpty then
      (s.modEng c (fun x => { x with run := none, todo := 0, sel := false, tgt := none, txq := [], isOpen := false })).setBit F.SER_STATUS_busy c 0 false
    else s) s

end Sys2Proof.Machine
end

