-- ==== Sys2Proof/Machine/Store.lean ====
section
/-! DEFINITION. The control store: microwords and dispatch entries with their parity, and the images they are loaded from (R279, R280, R295,
R300 to R303). -/

namespace Sys2Proof.Machine

/-- The bit that makes parity odd over bits [hi:lo]. -/
def oddBit (w hi lo : Nat) : Nat := if ((List.range (hi + 1 - lo)).filter (fun i => w.testBit (lo + i))).length % 2 = 0 then 1 else 0

/-- A microword with its 16 parity bits: bit 128 + i over data byte i (R280). -/
def withParity (w : Nat) : Nat :=
  w % 2 ^ 128 + (List.range 16).foldl (fun a i => a + oddBit w (8 * i + 7) (8 * i) * 2 ^ (128 + i)) 0
/-- A dispatch entry with its parity bits 14 and 15 (R280). -/
def dispParity (e : Nat) : Nat := e % 2 ^ 14 + oddBit e 6 0 * 2 ^ 14 + oddBit e 13 7 * 2 ^ 15

/-- The first microaddress of the customer region (Table 9.4). -/
def custBase : Nat := 0x1800

/-- A word of a store as it is held, parity bits included. -/
def Store.word (t : Store) (a : Nat) : Nat :=
  match Tbl.find t.words a with
  | some w => w
  | none => withParity (if a < custBase then Config.vendorWord t.vendor a else 0)
/-- A dispatch entry as it is held, parity bits included. -/
def Store.entry (t : Store) (op : Nat) : Nat :=
  match Tbl.find t.disp op with
  | some e => e
  | none => dispParity (if op < 0xC0 then Config.vendorEntry t.vendor op else 0)

/-- A Course's control store. -/
def State.store (s : State) (c : Nat) : Store := Tbl.get s.seq.store {} c

/-- The microword a thread stands at, open after a host error of its site. -/
def State.microword (s : State) (k : Nat) : Nat :=
  match (s.thr k).wild with
  | some v => Config.openNat 33 [v, k, (s.thr k).upc] % 2 ^ 128
  | none => (s.store (k / 8)).word (s.thr k).upc

/-- Whether the word a thread stands at is read with a parity error (R295): one that strikes now, or one held in its Course's store. -/
def State.wordBad (s : State) (k : Nat) (bad : Bool) : Bool :=
  bad || ((s.thr k).wild.isNone && (match Tbl.find (s.store (k / 8)).words (s.thr k).upc with | some w => w != withParity w | none => false))
/-- Whether an opcode's dispatch entry is read with a parity error. -/
def State.entryBad (s : State) (k op : Nat) (bad : Bool) : Bool :=
  bad || ((s.thr k).wild.isNone && (match Tbl.find (s.store (k / 8)).disp op with | some e => e != dispParity e | none => false))

/-! ### Loading (R297, R300 to R303) -/

/-- The store's vendor part. -/
def vendorPart (t : Store) : Store :=
  { t with words := t.words.filter (fun e => decide (e.1 < custBase)), disp := t.disp.filter (fun e => decide (e.1 < 0xC0)) }
/-- A store's customer part. -/
def custPart (t : Store) : Store :=
  { t with words := t.words.filter (fun e => decide (custBase ≤ e.1)), disp := t.disp.filter (fun e => decide (0xC0 ≤ e.1)) }

/-- A store with the vendor part of one and the customer part of another. -/
def joinParts (v c : Store) : Store :=
  { words := (vendorPart v).words ++ (custPart c).words, disp := (vendorPart v).disp ++ (custPart c).disp, vendor := v.vendor }

/-- The vendor microcode of a firmware release is loaded into the shadow and the control stores, parity generated (R280, R303); the customer
region stays. -/
def State.loadVendor (s : State) (release : Nat) : State :=
  let fresh (t : Store) : Store := { custPart t with vendor := release }
  { s with seq := { s.seq with
      shadow := fresh s.seq.shadow
      store := (List.range 32).foldl (fun (t : Tbl Store) c => Tbl.set t {} c (fresh (s.store c))) s.seq.store } }

end Sys2Proof.Machine
end

