-- ==== Sys2Proof/Machine/Smu.lean ====
section
/-! DEFINITION. Source-measure units: settings, clamps, the current reservation, apertures, monitors, corrections and spares (R335 to
R367). A unit is a number `m`: 0 to 127 logical, 128 + q the spare electronics of quadrant q while unassigned. -/

namespace Sys2Proof.Machine

/-! ### Numbers and codes (R335 to R338) -/

/-- The quadrant of a unit. -/
def smuQ (m : Nat) : Nat := if m < 128 then m / 32 else m - 128
/-- Its position in the quadrant's registers; 32 is the spare. -/
def smuN (m : Nat) : Nat := if m < 128 then m % 32 else 32
/-- The unit a record's target names. -/
def smuAt (q n : Nat) : Nat := if n < 32 then 32 * q + n else 128 + q
/-- A voltage range in nV; code 3 is reserved. -/
def smuVolt : Nat → Nat
  | 0 => 2000000000 | 1 => 6000000000 | 2 => 12000000000 | k => max 1 (Config.openNat 14 [k])
/-- A current range in fA; codes 9 to 15 are reserved. -/
def smuAmp : Nat → Nat
  | 0 => 10000000 | 1 => 100000000 | 2 => 1000000000 | 3 => 10000000000 | 4 => 100000000000 | 5 => 1000000000000
  | 6 => 10000000000000 | 7 => 100000000000000 | 8 => 256000000000000 | k => max 1 (Config.openNat 15 [k])
/-- One range in code units (R336). -/
def codeRange : Int := 4194304
/-- Limits at which codes act: 1.05 × range for a voltage, 1.1 × range for a current. -/
def codeLimit (current : Bool) : Int := if current then 4613734 else 4404019
/-- A code of a quantity whose range is `r`, rounded away from zero on a tie and kept at the limit (R337). -/
def smuCode (current : Bool) (r : Nat) (x : Int) : Int := clampInt (-(codeLimit current)) (codeLimit current) (roundAway (x * codeRange) r)
/-- What a code stands for, rounded to nearest. -/
def smuValue (r : Nat) (n : Int) : Int := roundAway (n * r) 4194304

/-- A unit. -/
def State.smuCh (s : State) (m : Nat) : SmuCh := Tbl.get s.smu.ch {} m
/-- Changes a unit. -/
def State.modSmu (s : State) (m : Nat) (f : SmuCh → SmuCh) : State :=
  { s with smu := { s.smu with ch := Tbl.set s.smu.ch {} m (f (s.smuCh m)) } }
/-- A staged field of a unit. -/
def State.smuFld (s : State) (f : Fld) (m : Nat) : Nat := s.fld f (smuQ m) (smuN m)
/-- An active field of a unit. -/
def State.smuAct (s : State) (f : Fld) (m : Nat) : Nat := s.actFld f (smuQ m) (smuN m)
/-- Makes a field of a unit active. -/
def State.setSmuAct (s : State) (f : Fld) (m v : Nat) : State := s.setAct f (smuQ m) (smuN m) v
/-- Sets a bit of a unit's SMU_STATE. -/
def State.setSmuBit (s : State) (f : Fld) (m : Nat) (b : Bool) : State := s.setBit f (smuQ m) (smuN m) b
/-- Reads a bit of a unit's SMU_STATE. -/
def State.smuBit (s : State) (f : Fld) (m : Nat) : Bool := s.bit f (smuQ m) (smuN m)
/-- Whether a unit's output switch is closed: it opens at the instant set for it. -/
def State.smuConn (s : State) (m : Nat) : Bool :=
  s.smuBit F.SMU_STATE_connected m && (match (s.smuCh m).discAt with | some t => decide (s.tb.loc < t) | none => true)
/-- Whether a unit's trip is latched; the unassigned spare has no latch bit. -/
def State.smuLatched (s : State) (m : Nat) : Bool := decide (m < 128) && s.bitOf F.SMU_TRIP_LATCH_latch (smuQ m) 0 (smuN m)
/-- A quadrant's fault about a unit. -/
def State.smuFault (s : State) (m sev : Nat) : State := s.report (44 + smuQ m) sev (detail clsSmu m)
/-- Marks the current step of a site, or of the unit's owning site where no site is given (a chip-wide record belongs to none). -/
def State.markFor (s : State) (m mk : Nat) (site : Option Nat) : State :=
  match site.orElse (fun _ => (s.smuCh m).owner) with
  | some x => s.markSite x mk
  | none => s
/-- Marks the current step of a unit's owning site. -/
def State.markSmu (s : State) (m mk : Nat) : State := s.markFor m mk none

/-! ### The output between set-points (R343, R344, R347) -/

/-- The value a stretch has reached at a local instant: 1 mV/µs is 125/512 nV a tick. -/
def Ramp.value (r : Ramp) (t : Nat) : Int :=
  let moved : Int := ((r.rate * 125 * (t - r.at_) / 512 : Nat) : Int)
  if r.rate = 0 ∨ (r.dest - r.from_).natAbs ≤ moved.toNat then r.dest
  else if r.from_ ≤ r.dest then r.from_ + moved else r.from_ - moved
/-- How long a stretch takes, in ticks. -/
def Ramp.ticks (r : Ramp) : Nat := if r.rate = 0 then 0 else ceilDiv ((r.dest - r.from_).natAbs * 512) (r.rate * 125)

/-- What a unit forces now, nV in FV or fA in FI: the pulse's value while one is in progress (R355); while the current range steps, a forced current is at most 1.1 times the range in use (R346). -/
def State.smuOut (s : State) (m : Nat) : Int :=
  let x := s.smuCh m
  let v := match x.pulseEnd, (x.path.filter (fun r => decide (r.at_ ≤ s.tb.loc))).getLast? with
    | some _, _ => smuValue (if s.smuAct F.SMU_CFG_fmode m = 1 then smuAmp (s.smuAct F.SMU_CFG_irange m) else smuVolt (s.smuAct F.SMU_CFG_vrange m))
        (toSigned 24 (s.smuAct F.SMU_FORCE_CODE_force m))
    | none, some r => r.value s.tb.loc
    | none, none => 0
  if s.smuAct F.SMU_CFG_fmode m = 1 ∧ x.stepAt.isSome then clampInt (-(smuAmp x.rangeNow * 11 / 10 : Nat)) (smuAmp x.rangeNow * 11 / 10 : Nat) v else v

/-- The slew rate in force, mV/µs. -/
def State.smuRate (s : State) (m : Nat) : Nat := clampNat 10 10000 (s.smuAct F.SMU_SLEW_slew_mv_us m)

/-- From now on a unit's output steps to a value and stays there. -/
def State.smuStepTo (s : State) (m : Nat) (v : Int) : State := s.modSmu m (fun x => { x with path := [⟨s.tb.loc, v, v, 0⟩] })
/-- From now on a unit's output moves to 0 at a rate. -/
def State.smuFall (s : State) (m rate : Nat) : State :=
  let r : Ramp := ⟨s.tb.loc, s.smuOut m, 0, rate⟩
  s.modSmu m (fun x => { x with path := [r] })

/-! ### Disconnecting and parking (R344, R366) -/

/-- Whether an aperture of a unit is open now. -/
def State.smuAperOpen (s : State) (m : Nat) : Bool :=
  (s.smuCh m).aper.any (fun a => decide (a.openAt < s.tb.loc) && decide (s.tb.loc < a.closeAt))

/-- The force half of a unit's pending correction applies (R361), never part-way through an aperture or a pulse: then it waits on. -/
def State.smuTakeForce (s : State) (m : Nat) : State :=
  match (s.smuCh m).pendForce with
  | some t => if s.smuAperOpen m || (s.smuCh m).pulseEnd.isSome then s else s.modSmu m (fun x => { x with pendForce := none, corrForce := t })
  | none => s
/-- The measure half applies. -/
def State.smuTakeMeas (s : State) (m : Nat) : State :=
  match (s.smuCh m).pendMeas with
  | some t => s.modSmu m (fun x => { x with pendMeas := none, corrMeas := t })
  | none => s

/-- Both correction halves apply on a unit in standby or parked (R361). -/
def State.smuTakeCorr (s : State) (m : Nat) : State := (s.smuTakeForce m).smuTakeMeas m

/-- The output switch opens: the unit is in standby. -/
def State.smuOpen (s : State) (m : Nat) : State :=
  let s := s.setSmuBit F.SMU_STATE_connected m false
  (s.modSmu m (fun x => { x with base := 0, path := [], pulseEnd := none, discAt := none, stepAt := none, vholdEnd := none, clamped := false })).smuTakeCorr m

/-- Parks a unit. -/
def State.smuPark (s : State) (m : Nat) : State := (s.smuOpen m).setSmuBit F.SMU_STATE_active m false

/-- Parks every unit of a quadrant. -/
def State.smuParkQuad (s : State) (q : Nat) : State := (List.range 33).foldl (fun s n => s.smuPark (smuAt q n)) s
/-- Parks every unit. -/
def State.smuParkAll (s : State) : State := (List.range 4).foldl (fun s q => s.smuParkQuad q) s

/-- The opening of the output switch that was set for an instant now past has taken place (R137, R344, R357). -/
def State.smuSettle (s : State) (m : Nat) : State :=
  match (s.smuCh m).discAt with
  | some t => if t ≤ s.tb.loc then s.smuOpen m else s
  | none => s

/-- A unit's part of the park sequence of Safe (R137): its output ramps to 0 at 1 V/µs, within its range and clamps, and is disconnected where it
stands 45 µs after the entry, which leaves a ramp that a clamp holds back all the time R137 gives it (DESIGN CHOICE, log entry 50). In FI the
voltage that the ramp starts from is not the unit's set-point, which falls to 0. -/
def State.smuRampDown (s : State) (m : Nat) : State :=
  let s := s.smuSettle m
  if !s.smuConn m then s.smuPark m
  else
    let s := if s.smuAct F.SMU_CFG_fmode m = 1 then s.smuStepTo m 0 else s.smuFall m 1000
    (s.modSmu m (fun x => { x with
      base := 0, pulseEnd := none, stepAt := none, vholdEnd := none, discAt := some (s.tb.loc + us 45) })).setSmuBit F.SMU_STATE_active m false
/-- Every unit's part of it. -/
def State.smuRampAll (s : State) : State :=
  (List.range 4).foldl (fun s q => (List.range 33).foldl (fun s n => s.smuRampDown (smuAt q n)) s) s

/-! ### Window monitors (R356 to R359) -/

/-- A unit's monitor trips (R357, R358). -/
def State.smuTrip (s : State) (m : Nat) : State :=
  let act := s.smuAct F.SMU_MON_CFG_act m
  let s := if m < 128 then s.setBitIn F.SMU_TRIP_LATCH_latch (smuQ m) 0 (smuN m) else s
  let s := s.setBit F.SMU_QSTATUS_trip_any (smuQ m) 0 true
  let s := s.modSmu m (fun x => { x with
    trips := x.trips + 1
    pulseEnd := if 1 ≤ act then none else x.pulseEnd
    base := if 2 ≤ act then 0 else x.base
    cut := x.cut || (decide (2 ≤ act) && decide (m < 128))
    discAt := if act = 3 then some (s.tb.loc + us 5) else x.discAt
    trippedAt := some s.tb.loc })
  let s := if 2 ≤ act then s.smuStepTo m 0 else s
  let s := if 2 ≤ act ∧ m < 128 then s.setSmuBit F.SMU_STATE_tripped m true else s
  s.markSmu m mkTrip

/-- SMU_MONITOR_TRIP (R357): the filter of a unit's enabled monitor asserts, no earlier than M samples after it was enabled (R149, R356). -/
def execSmuMonitorTrip (m : Nat) (s : State) : Host.Outcome State Fault Refusal :=
  if m ≥ 132 ∨ s.smuAct F.SMU_CFG_mon_en m = 0 ∨ !s.smuConn m then .next s
  else
    let need := filtNeed (s.smuAct F.SMU_MON_CFG_filt_n m) (s.smuAct F.SMU_MON_CFG_filt_m m)
    let s := s.reachLoc ((s.smuCh m).monAt + need * cycle)
    let s := (s.smuSettle m).modSmu m (fun x => { x with monCond := true })
    let s := s.sourceEvent 0x41 3 s.now (some m)
    .next (if s.smuLatched m then s else s.smuTrip m)

/-- A unit's latch clears; it sets again at once while the condition holds (R358). -/
def State.smuClear (s : State) (m : Nat) : State :=
  if !s.smuLatched m then s
  else
    let s := s.clrBitIn F.SMU_TRIP_LATCH_latch (smuQ m) 0 (smuN m)
    let s := (s.modSmu m (fun x => { x with cut := false })).setSmuBit F.SMU_STATE_tripped m false
    if (s.smuCh m).monCond then s.smuTrip m else s

/-- A clear for which nothing says whether the condition still holds: a free value. -/
def State.smuClearFree (s : State) (m : Nat) : State :=
  let (b, s) := s.draw 2
  (s.modSmu m (fun x => { x with monCond := x.monCond && decide (b = 1) })).smuClear m

/-- The same where the latch is not set at this very instant (R509). -/
def State.smuClearSoft (s : State) (m : Nat) : State :=
  if s.heldBit F.SMU_TRIP_LATCH_latch (smuQ m) 0 (smuN m) then s else s.smuClearFree m

/-- OD 0x400B.nn: clear trip latch. -/
def wrSmuClear (h : Hdr) (m : Nat) (d : Sys2Proof.Data) (s : State) : State × Nat :=
  s.item490 h d tBool anyLen false (fun s => (if dFlag d then s.smuClearSoft m else s, eOk))

/-- SMU_TRIP_LATCH_CLEAR (R358): `holds` says whether the condition holds at the clear. -/
def execSmuTripLatchClear (path : Path) (m : Nat) (holds : Bool) (s : State) : Host.Outcome State Fault Refusal :=
  if m ≥ 132 then .next s
  else
    let eff := fun (s : State) =>
      if s.heldBit F.SMU_TRIP_LATCH_latch (smuQ m) 0 (smuN m) then s else (s.modSmu m (fun x => { x with monCond := holds })).smuClear m
    .next (s.viaPath (.smuTripLatchClear path m holds) path
      (fun h d s => s.item490 h d tBool anyLen false (fun s => (if dFlag d then eff s else s, eOk))) eff)

/-! ### SMU_FORCE (R342 to R347, R355, R360) -/

/-- The settings an SMU_FORCE makes active, as signed codes where they are codes. -/
structure SmuSet where
  conn : Bool
  fi : Bool
  vr : Nat
  ir : Nat
  hi : Int
  lo : Int
  force : Int
deriving DecidableEq, Repr

/-- The settings that would be active after a record's groups have been copied. -/
def State.smuNew (s : State) (m : Nat) (cfg lvl : Bool) : SmuSet :=
  let g := fun (sel : Bool) (f : Fld) => if sel then s.smuFld f m else s.smuAct f m
  ⟨g cfg F.SMU_CFG_connect == 1, g cfg F.SMU_CFG_fmode == 1, g cfg F.SMU_CFG_vrange, g cfg F.SMU_CFG_irange,
    toSigned 24 (g cfg F.SMU_CLAMP_HI_clamp), toSigned 24 (g cfg F.SMU_CLAMP_LO_clamp), toSigned 24 (g lvl F.SMU_FORCE_CODE_force)⟩

/-- Codes at most at the limit at which they act (R336). -/
def SmuSet.limited (x : SmuSet) : SmuSet :=
  let c := fun (cur : Bool) (v : Int) => clampInt (-(codeLimit cur)) (codeLimit cur) v
  { x with hi := c (!x.fi) x.hi, lo := c (!x.fi) x.lo, force := c x.fi x.force }

/-- The envelope's voltage window and current limit as codes of the ranges in use, rounded to the inside. -/
def State.smuEnvCodes (s : State) (m : Nat) (x : SmuSet) : Int × Int × Int :=
  let vmin := toSigned 16 (s.smuFld F.SMU_ENV_V_vmin_mv m) * 1000000
  let vmax := toSigned 16 (s.smuFld F.SMU_ENV_V_vmax_mv m) * 1000000
  let imax : Int := s.smuFld F.SMU_ENV_I_imax_ua m * 1000000000
  (ceilDivInt (vmin * codeRange) (smuVolt x.vr), vmax * codeRange / smuVolt x.vr, imax * codeRange / smuAmp x.ir)

/-- The values in the envelope (R360): those that act in the mode being made active. -/
def State.smuEnvelope (s : State) (m : Nat) (x : SmuSet) : SmuSet :=
  let (vlo, vhi, im) := s.smuEnvCodes m x
  if x.fi then { x with force := clampInt (-im) im x.force, hi := clampInt vlo vhi x.hi, lo := clampInt vlo vhi x.lo }
  else { x with force := clampInt vlo vhi x.force, hi := clampInt (-im) im x.hi, lo := clampInt (-im) im x.lo }

/-- The clamps as they act (R349): never within 1 % of zero, and in FI at least 1 % apart. -/
def SmuSet.actClamps (x : SmuSet) : Int × Int :=
  let hi := max x.hi 41943
  let lo := min x.lo (-41943)
  (if x.fi then max hi (lo + 41943) else hi, lo)

/-- What a connected unit reserves of the chip's current, positive and negative, in fA (R345). -/
def SmuSet.reserve (x : SmuSet) : Nat × Nat :=
  if !x.conn then (0, 0)
  else
    let amp := fun (v : Int) => if v ≤ 0 then 0 else (v * smuAmp x.ir).toNat / 4194304
    if x.fi then (amp x.force, amp (-x.force))
    else
      let (hi, lo) := x.actClamps
      (amp hi, amp (-lo))

/-- A unit's active settings. -/
def State.smuNow (s : State) (m : Nat) : SmuSet := { s.smuNew m false false with conn := s.smuConn m }

/-- The reservations of every unit but one (OD 0x4402.00 sums all). -/
def State.smuSum (s : State) (but : Nat) : Nat × Nat :=
  (List.range 132).foldl (fun (a : Nat × Nat) m =>
    if m = but then a
    else
      let r := (s.smuNow m).reserve
      (a.1 + r.1, a.2 + r.2)) (0, 0)

/-- The largest sum of reservations in one polarity, in fA. -/
def smuLimit : Nat := 8000000000000000

/-- The settings within the reservation (R345): reduced, unchanged, or none where less than 1 % of the range remains. -/
def State.smuAlloc (s : State) (m : Nat) (x : SmuSet) : Option SmuSet × Bool :=
  let (p, n) := s.smuSum m
  let (rp, rn) := x.reserve
  let (op, on) := (s.smuNow m).reserve
  let overP := decide (smuLimit < p + rp) && decide (op < rp)
  let overN := decide (smuLimit < n + rn) && decide (on < rn)
  if !overP && !overN then (some x, false)
  else
    let left := fun (u : Nat) => ((smuLimit - u) * 4194304 / smuAmp x.ir : Nat)
    if (overP && decide (left p < 41943)) || (overN && decide (left n < 41943)) then (none, true)
    else
      let x := if overP then (if x.fi then { x with force := min x.force (left p) } else { x with hi := min x.hi (left p) }) else x
      let x := if overN then (if x.fi then { x with force := max x.force (-(left n : Int)) } else { x with lo := max x.lo (-(left n : Int)) }) else x
      (some x, true)

/-- Makes settings active, with the mon group where the record selects it. -/
def State.smuPut (s : State) (m : Nat) (x : SmuSet) (cfg lvl mon : Bool) : State :=
  let copy := fun (fs : List Fld) (s : State) => fs.foldl (fun s f => s.setSmuAct f m (s.smuFld f m)) s
  let s := if cfg then
      let s := copy [F.SMU_CFG_connect, F.SMU_CFG_fmode, F.SMU_CFG_vrange, F.SMU_CFG_irange, F.SMU_SLEW_slew_mv_us] s
      (s.setSmuAct F.SMU_CLAMP_HI_clamp m (ofSigned 24 x.hi)).setSmuAct F.SMU_CLAMP_LO_clamp m (ofSigned 24 x.lo)
    else s
  let s := if lvl then copy [F.SMU_CFG_pulse, F.SMU_PULSE_width_ns] s else s
  let s := if cfg || lvl then s.setSmuAct F.SMU_FORCE_CODE_force m (ofSigned 24 x.force) else s
  if mon then
    let moved := s.smuFld F.SMU_MON_HI_mon m != s.smuAct F.SMU_MON_HI_mon m || s.smuFld F.SMU_MON_LO_mon m != s.smuAct F.SMU_MON_LO_mon m
    let armed := s.smuFld F.SMU_CFG_mon_en m == 1 && s.smuAct F.SMU_CFG_mon_en m == 0
    let s := copy [F.SMU_CFG_mon_en, F.SMU_MON_HI_mon, F.SMU_MON_LO_mon, F.SMU_MON_CFG_act, F.SMU_MON_CFG_clr_mode, F.SMU_MON_CFG_filt_n,
      F.SMU_MON_CFG_filt_m, F.SMU_MON_CFG_hyst] s
    let s := if armed then s.modSmu m (fun x => { x with monAt := s.tb.loc }) else s
    if moved || armed then s.modSmu m (fun x => { x with monCond := false }) else s
  else s

/-- One adjacent range toward a target. -/
def stepRange (cur dest : Nat) : Nat := if cur < dest then cur + 1 else if dest < cur then cur - 1 else cur

/-- A unit's output follows its new settings (R343, R346, R347, R355): the current range steps first; a voltage-range change then holds the output for
30 µs, at the new range's limit where it lay outside; the new force value is slewed to after both, in FI stepped to. A unit that connects has
forced the value on its internal load already (R344). `was` is what was active. -/
def State.smuDrive (s : State) (m : Nat) (was x : SmuSet) (lvl : Bool) : State :=
  let now := s.tb.loc
  let far := decide (x.ir + 1 < (s.smuCh m).rangeNow ∨ (s.smuCh m).rangeNow + 1 < x.ir)
  let steps := if (s.smuCh m).rangeNow < x.ir then x.ir - (s.smuCh m).rangeNow else (s.smuCh m).rangeNow - x.ir
  let out := if (s.smuCh m).pulseEnd.isSome then smuValue (if was.fi then smuAmp was.ir else smuVolt was.vr) was.force else s.smuOut m
  let s := s.modSmu m (fun y =>
    if was.conn && far then { y with rangeNow := stepRange y.rangeNow x.ir, stepAt := some (now + us 20) }
    else { y with rangeNow := x.ir, stepAt := none })
  let after := if was.conn && far then now + us 20 * steps else now
  let full := smuVolt x.vr
  let moveV := was.conn && was.vr != x.vr
  let edge := clampInt (-(full * 105 / 100 : Nat)) (full * 105 / 100 : Nat) out
  let first : Ramp := ⟨after, out, if moveV && !was.fi then edge else out, s.smuRate m⟩
  let begin_ := if moveV then after + first.ticks + us 30 else after
  let s := if moveV then s.modSmu m (fun y => { y with vholdEnd := some begin_ }) else s
  let pulse := lvl && s.smuAct F.SMU_CFG_pulse m == 1
  if pulse && decide (5 ≤ x.ir) then
    let width := ns (clampNat 5000 1000000000 (s.smuAct F.SMU_PULSE_width_ns m))
    s.modSmu m (fun y => { y with
      pulseEnd := some (begin_ + width), path := if begin_ = now then y.path else [⟨now, out, out, 0⟩, first] })
  else
    let s := if pulse then s.setBit F.SMU_QSTATUS_pulse_ignored (smuQ m) 0 true else s
    let v := smuValue (if x.fi then smuAmp x.ir else full) x.force
    let last : Ramp := ⟨begin_, first.dest, v, if x.fi || was.fi || !was.conn then 0 else s.smuRate m⟩
    s.modSmu m (fun y => { y with base := x.force, pulseEnd := none, path := [⟨now, out, out, 0⟩, first, last] })

/-- A connected unit is to disconnect: in FV its output first slews to 0 V, in FI it steps to 0 A; then the switch opens (R344). -/
def State.smuLeave (s : State) (m : Nat) : State :=
  if s.smuAct F.SMU_CFG_fmode m = 1 ∨ s.smuOut m = 0 then s.smuOpen m
  else
    let r : Ramp := ⟨s.tb.loc, s.smuOut m, 0, s.smuRate m⟩
    (s.smuFall m (s.smuRate m)).modSmu m (fun x => { x with
      base := 0, pulseEnd := none, stepAt := none, vholdEnd := none, discAt := some (s.tb.loc + r.ticks) })

/-- The connect bit acts: the switch closes, or opens once the output has come to 0 (R344, R351). -/
def State.smuConnect (s : State) (m : Nat) (on : Bool) (owner : Option Nat) : State :=
  if on then
    let s := match owner with
      | some k => s.modSmu m (fun y => { y with owner := some k })
      | none => s
    if s.smuConn m then s.modSmu m (fun y => { y with discAt := none })
    else
      let s := (s.setSmuBit F.SMU_STATE_connected m true).setSmuBit F.SMU_STATE_kelvin_open m false
      s.modSmu m (fun y => { y with monCond := false, discAt := none })
  else if s.smuConn m then s.smuLeave m
  else s

/-- An aperture that is open while its unit's settings change has an unpredictable result (R348): its flag is a free value. -/
def State.smuDisturb (s : State) (m : Nat) : State :=
  if s.smuAperOpen m then
    let (b, s) := s.draw 2
    s.modSmu m (fun y => { y with aper := y.aper.map (fun a =>
      if a.openAt < s.tb.loc ∧ s.tb.loc < a.closeAt then { a with clamp := a.clamp || decide (b = 1) } else a) })
  else s

/-- Whether two settings differ in what an open aperture may not see change (R348). -/
def SmuSet.moves (was x : SmuSet) : Bool :=
  x.conn != was.conn || x.fi != was.fi || x.vr != was.vr || x.ir != was.ir || x.force != was.force

/-- The CLAMP outcome of the allocation check (R345). -/
def State.smuShort (s : State) (m : Nat) (owner : Option Nat) : State :=
  let s := s.setBit F.SMU_QSTATUS_isum_clamp (smuQ m) 0 true
  (s.markFor m mkClamp owner).smuFault m sevAdvisory

/-- What a copy that the envelope has changed tells (R360): `raw` are the settings before. -/
def State.smuTellEnv (s : State) (m : Nat) (owner : Option Nat) (cfg lvl : Bool) (raw : SmuSet) : State :=
  let x := s.smuEnvelope m raw
  if (cfg || lvl) && (x.force != raw.force || (cfg && (x.hi != raw.hi || x.lo != raw.lo))) then
    let s := s.setBit F.SMU_QSTATUS_env_clamp (smuQ m) 0 true
    let s := s.modSmu m (fun y => { y with envClamps := y.envClamps + 1 })
    (s.markFor m mkClamp owner).smuFault m sevAdvisory
  else s

/-- Whether a unit has tripped in this timing-plane cycle: its trip then acts first, and a clear leaves the latch set (R358, R359). -/
def State.smuTripNow (s : State) (m : Nat) : Bool := (s.smuCh m).trippedAt.any (fun t => t / cycle == s.tb.loc / cycle)

/-- The cfg and lvl groups of a record act on a unit. In Survey a unit connects to the internal references alone, and its balls stay parked (R366). -/
def State.smuApply (s : State) (m : Nat) (owner : Option Nat) (cfg lvl mon : Bool) : State :=
  let was := s.smuNow m
  let raw := (s.smuNew m cfg lvl).limited
  let raw := if cfg then { raw with conn := raw.conn && s.md.mode != .survey } else { raw with conn := was.conn }
  let x := s.smuEnvelope m raw
  let s := s.smuTellEnv m owner cfg lvl raw
  if !(cfg || lvl) then s.smuPut m x false false mon
  else
    match s.smuAlloc m x with
    | (none, _) => (s.smuPut m x false false mon).smuShort m owner
    | (some x, cut) =>
      let s := if cut then s.smuShort m owner else s
      let s := if was.moves x then s.smuDisturb m else s
      let s := s.smuPut m x cfg lvl mon
      let s := if cfg then s.smuConnect m x.conn owner else s
      if x.conn then s.smuDrive m was x lvl else s.modSmu m (fun y => { y with rangeNow := x.ir })

/-- A unit left in standby applies its pending halves (R361). -/
def State.smuTakeIdle (s : State) (m : Nat) : State := if s.smuConn m then s else s.smuTakeCorr m

/-- The connect bit of a record acts alone, as Line-Rate has it (R125): a unit that connects forces its active set's value. -/
def State.smuLink (s : State) (m : Nat) (owner : Option Nat) : State :=
  let on := s.smuFld F.SMU_CFG_connect m == 1
  let was := s.smuNow m
  let x : SmuSet := { was with conn := on }
  match s.smuAlloc m x with
  | (none, _) => s.smuShort m owner
  | (some x, cut) =>
    let s := if cut then s.smuShort m owner else s
    let s := if was.moves x then s.smuDisturb m else s
    let s := (s.setSmuAct F.SMU_CFG_connect m on.toNat).smuConnect m on owner
    let s := (s.setSmuAct F.SMU_CLAMP_HI_clamp m (ofSigned 24 x.hi)).setSmuAct F.SMU_CLAMP_LO_clamp m (ofSigned 24 x.lo)
    let s := s.setSmuAct F.SMU_FORCE_CODE_force m (ofSigned 24 x.force)
    if on && (!was.conn || x.force != was.force) then s.smuDrive m { was with conn := false } x false else s

/-- A record for a unit that a latched trip has cut: its mon group acts, and a disconnect; in the timing-plane cycle of the trip itself the other
groups are copied too, but the cut stays (R358, R359). -/
def State.smuForceCut (s : State) (m : Nat) (owner : Option Nat) (cfg lvl mon : Bool) : State :=
  let s := if s.smuTripNow m then
      let raw := (s.smuNew m cfg lvl).limited
      (s.smuTellEnv m owner cfg lvl raw).smuPut m (s.smuEnvelope m raw) cfg lvl mon
    else if mon then s.smuPut m (s.smuNow m) false false true else s
  if cfg && s.smuFld F.SMU_CFG_connect m == 0 then
    let s := if s.smuConn m then s.smuDisturb m else s
    (s.setSmuAct F.SMU_CFG_connect m 0).smuConnect m false none
  else s

/-- An SMU_FORCE record acts on its unit. -/
def State.smuForce (s : State) (m : Nat) (r : LaunchRec) : State :=
  let s := s.smuSettle m
  let owner := if r.chipWide then none else some r.site
  if !s.bit F.SMU_QCTRL_en (smuQ m) then s
  else if s.smuBit F.SMU_STATE_derated m then s.markFor m mkDerated owner
  else
    let s := if s.md.mode == .survey then s else s.setSmuBit F.SMU_STATE_active m true
    let cfg := r.payload.testBit 46
    let lvl := r.payload.testBit 45
    let mon := r.payload.testBit 44
    let s := s.smuTakeForce m
    if s.md.mode == .lineRate then
      let s := if cfg || lvl || mon then s.countLimit else s
      (if cfg then s.smuLink m owner else s).smuTakeIdle m
    else
      let s := if lvl && s.smuAct F.SMU_MON_CFG_clr_mode m == 1 && !s.smuTripNow m then s.smuClearFree m else s
      (if s.smuLatched m && (s.smuCh m).cut then s.smuForceCut m owner cfg lvl mon else s.smuApply m owner cfg lvl mon).smuTakeIdle m

/-- Whether a record of queue 32 + q names a unit: positions 0 to 31, and the spare while it is unassigned (R335). -/
def State.smuNames (s : State) (q n : Nat) : Bool := decide (n < 32) || (n == 32 && !s.bit F.SMU_QSTATUS_spare_busy q)

/-- SMU_FORCE (R343): the record at the head of queue 32 + q acts. -/
def execSmuForce (q : Nat) (s : State) : Host.Outcome State Fault Refusal :=
  if q ≥ 4 then .next s
  else
    match s.takeHead (32 + q) 0x10 with
    | none => .next s
    | some (r, s) =>
      if s.inSafe then .next (s.discardInSafe r)
      else if s.smuNames q r.target then .next (s.smuForce (smuAt q r.target) r)
      else .next s

/-- SMU_RANGE_STEP (R346): the next 20 µs step of a range change. -/
def execSmuRangeStep (m : Nat) (s : State) : Host.Outcome State Fault Refusal :=
  match (s.smuCh m).stepAt with
  | none => .next s
  | some t =>
    let s := s.reachLoc t
    let dest := s.smuAct F.SMU_CFG_irange m
    let r := stepRange (s.smuCh m).rangeNow dest
    .next (s.modSmu m (fun y => { y with rangeNow := r, stepAt := if r = dest then none else some (t + us 20) }))

/-- SMU_PULSE_END (R355): the width has elapsed, and the output returns to its base. -/
def execSmuPulseEnd (m : Nat) (s : State) : Host.Outcome State Fault Refusal :=
  match (s.smuCh m).pulseEnd with
  | none => .next s
  | some t => .next ((s.reachLoc t).modSmu m (fun y => { y with pulseEnd := none }))

/-- A limit or an open sense marks the apertures open now. -/
def State.smuFlagAper (s : State) (m : Nat) : State :=
  s.modSmu m (fun y => { y with aper := y.aper.map (fun a =>
    if a.openAt ≤ s.tb.loc ∧ s.tb.loc < a.closeAt then { a with clamp := true } else a) })

/-- SMU_QSTATUS.clamp_any follows a clamp or fast limit that is in force while an aperture of its unit is open (R349). -/
def State.smuClampAny (s : State) (m : Nat) : State :=
  if (s.smuCh m).clamped && (s.smuCh m).aper.any (fun a => decide (a.openAt ≤ s.tb.loc) && decide (s.tb.loc < a.closeAt)) then
    s.setBit F.SMU_QSTATUS_clamp_any (smuQ m) 0 true
  else s

/-- SMU_CLAMP (R349): the output reaches its clamp or fast limit (`inForce`), or leaves it. -/
def execSmuClamp (m : Nat) (inForce : Bool) (s : State) : Host.Outcome State Fault Refusal :=
  if m ≥ 132 ∨ !s.smuConn m then .next s
  else if inForce then
    .next (((s.modSmu m (fun y => { y with clamped := true })).smuFlagAper m).smuClampAny m)
  else .next (s.modSmu m (fun y => { y with clamped := false }))

/-- KELVIN_OPEN (R351): force and sense differ by more than 500 mV for 100 µs in FV. -/
def execKelvinOpen (m : Nat) (s : State) : Host.Outcome State Fault Refusal :=
  if m ≥ 132 ∨ !s.smuConn m ∨ s.smuAct F.SMU_CFG_fmode m = 1 ∨ s.smuBit F.SMU_STATE_kelvin_open m then .next s
  else
    let s := s.setSmuBit F.SMU_STATE_kelvin_open m true
    let s := s.setBit F.SMU_QSTATUS_kelvin_open (smuQ m) 0 true
    .next ((s.smuFlagAper m).smuFault m sevAdvisory)

/-! ### Apertures (R353, R354) -/

/-- SMU_APERTURE (R125, R134, R353): the record at the head of queue 32 + q opens an aperture, whose length is local (R32). Over one that is open it is
a host error of the unit (R354): what the open one's result carries is open. -/
def execSmuAperture (q : Nat) (s : State) : Host.Outcome State Fault Refusal :=
  if q ≥ 4 then .next s
  else
    match s.takeHead (32 + q) 0x11 with
    | none => .next s
    | some (r, s) =>
      if s.inSafe then .next (s.discardInSafe r)
      else if !s.smuNames q r.target then .next s
      else
        let m := smuAt q r.target
        let s := s.smuSettle m
        let len0 := clampNat 1000 1000000000 (r.payload % 1073741824)
        let len := min (ns len0) (smuAperMax s.md.mode)
        let s := if len < ns len0 then s.countLimit else s
        let s := if s.smuBit F.SMU_STATE_derated m then s.markFor m mkDerated (if r.chipWide then none else some r.site) else s
        let quiet := s.md.mode == .precision && r.payload.testBit 38
        let s := if quiet then s.addQuiet (s.tb.loc - us 10) (s.tb.loc + len) else s
        let s := (s.smuDisturb m).smuTakeMeas m
        let bad := (s.smuCh m).clamped || s.smuBit F.SMU_STATE_kelvin_open m
        let s := s.modSmu m (fun y => { y with aper := y.aper ++
          [⟨s.tb.loc, s.tb.loc + len, r.site, if r.chipWide then none else some (bitsAt r.payload 46 39), r.payload.testBit 37, quiet, bad, false⟩] })
        let s := s.smuClampAny m
        .next (if r.chipWide then s else s.expectResult r.site (objSmu m))

/-- SMU_MEASUREMENT_DELIVERY (R354): the oldest aperture's mean, in fA or nV, reaches the slot within 2 µs of its end. -/
def execSmuMeasurementDelivery (m : Nat) (value : Int) (s : State) : Host.Outcome State Fault Refusal :=
  match (s.smuCh m).aper with
  | [] => .next s
  | a :: rest =>
    let s := s.reachLoc a.closeAt
    let fi := s.smuAct F.SMU_CFG_fmode m == 1
    let full : Int := if fi == a.alt then smuAmp (s.smuCh m).rangeNow else smuVolt (s.smuAct F.SMU_CFG_vrange m)
    let v := clampInt (-(full * 6 / 5)) (full * 6 / 5) value
    let clamp := a.clamp || v != value
    let (d, s) := s.draw (us 2 + 1)
    let s := s.modSmu m (fun y => { y with aper := rest, last := v, lastClamp := clamp })
    .next (s.postArrival { site := a.site, at_ := s.now + d, order := objSmu m, slot := a.slot, value := v, clamp })

/-- SMU_INTERVAL_SAMPLE (R411): an armed SMU unit delivers the mean of its next interval, an aperture of the unit that counts local ticks (R32); a
reading saturates (R336), and the measure half of a pending correction applies as the interval starts (R361). -/
def execSmuIntervalSample (n : Nat) (mean : Int) (s : State) : Host.Outcome State Fault Refusal :=
  let u := 136 + n
  match (s.unit u).arm with
  | none => .next s
  | some a =>
    if n ≥ 128 then .next s
    else
      let iv := us (clampNat 1 1000000 (s.fld F.ACQ_UCFG_interval_us 0 u))
      let k := (s.unit u).count
      let full : Int := if s.smuAct F.SMU_CFG_fmode n = 1 then smuVolt (s.smuAct F.SMU_CFG_vrange n) else smuAmp (s.smuCh n).rangeNow
      let v := clampInt (-(full * 6 / 5)) (full * 6 / 5) mean
      let s := (s.smuTakeMeas n).reachLoc (a.loc + (k + 1) * iv + us 2)
      .next (s.acqSample u (max a.at_ (s.domAt (a.loc + k * iv))) k (toLe 8 (ofSigned 64 v)))

/-! ### Dissipation (R350) -/

/-- A rail's measured voltage in nV. -/
def State.railNv (s : State) (r : Nat) : Int := (Tbl.get s.pw.rails {} r).mv * 1000000

/-- A unit's stage dissipation in mW, from its measured current in fA and voltage in nV. -/
def State.smuPower (s : State) (m : Nat) (current voltage : Int) : Nat :=
  let p := if 0 ≤ current then current * (s.railNv 7 - voltage) / 1000000000000000000000
    else -current * (voltage - s.railNv 8) / 1000000000000000000000
  (p + (if s.smuConn m then 35 else 0)).toNat

/-- SMU_DISSIPATION_SAMPLE (R350): a unit's current and voltage at the 10 µs sample. -/
def execSmuDissipationSample (m : Nat) (current voltage : Int) (s : State) : Host.Outcome State Fault Refusal :=
  if m ≥ 132 then .next s
  else .next (s.modSmu m (fun y => { y with dissWin := (s.smuPower m current voltage :: y.dissWin).take 100 }))

/-- The 1 ms mean of a unit's stage dissipation (OD 0x400F.nn). -/
def State.smuDiss (s : State) (m : Nat) : Nat :=
  let l := (s.smuCh m).dissWin
  if l.isEmpty then 0 else l.foldl (· + ·) 0 / l.length

/-! ### Corrections (R361, R362) -/

/-- A new correction set for its quadrant's temperature is pending on a unit; in standby or parked it applies at once. -/
def State.smuPend (s : State) (m : Nat) : State :=
  let t := s.quadTemp (smuQ m)
  let s := s.modSmu m (fun y => { y with pendForce := some t, pendMeas := some t })
  if s.smuConn m then s else s.smuTakeCorr m

/-- Whether Plumb may autozero a unit. -/
def State.azMay (s : State) (m : Nat) : Bool :=
  let q := smuQ m
  s.ks.running && !s.inQuiet && s.bit F.SMU_QCTRL_az_en q && !s.smuConn m && s.smuBit F.SMU_STATE_active m &&
    (s.smuCh m).azRun.isNone && !(s.queue (32 + q)).any (fun r => r.target == smuN m && decide (r.exec < s.now + us 20))

/-- SMU_AUTOZERO_START (R362). -/
def execSmuAutozeroStart (m : Nat) (s : State) : Host.Outcome State Fault Refusal :=
  if m < 132 ∧ s.azMay m then .next (s.modSmu m (fun y => { y with azRun := some s.tb.loc })) else .next s

/-- The class A offset term of a voltage range, nV (Table 11.1). -/
def vOffTerm : Nat → Int
  | 0 => 12000 | 1 => 20000 | 2 => 40000 | k => Config.openNat 16 [k]
/-- The class A offset term of a current range, fA (Table 11.2); a spare adds 30 fA on ranges 0 to 2 (R340). -/
def iOffTerm (spare : Bool) (k : Nat) : Int :=
  (match k with
    | 0 => 25 | 1 => 100 | 2 => 500 | 3 => 5000 | 4 => 50000 | 5 => 500000 | 6 => 5000000 | 7 => 50000000 | 8 => 200000000
    | j => Config.openNat 17 [j]) + (if spare && decide (k ≤ 2) then 30 else 0)

/-- SMU_AUTOZERO_COMPLETE (R362): the offsets of one current and one voltage range, after at most 1 ms; an abandoned check yields none. The Keystone
judges them, once it is back from an outage (R25). -/
def execSmuAutozeroComplete (m irange vrange : Nat) (iOff vOff : Int) (s : State) : Host.Outcome State Fault Refusal :=
  match if s.ks.outage then none else (s.smuCh m).azRun with
  | none => .next s
  | some _ =>
    let x := s.smuCh m
    let spare := decide (128 ≤ m) || s.smuBit F.SMU_STATE_spare m
    let unit := if spare then 128 + smuQ m else m
    let fi := Config.factorySmu s.calData unit irange
    let fv := Config.factorySmu s.calData unit (16 + vrange)
    let near := fun (a b t : Int) => decide ((a - b).natAbs ≤ t.toNat)
    let ti := iOffTerm spare irange
    let tv := vOffTerm vrange
    let ok := near iOff fi (4 * ti) && near vOff fv (4 * tv) && near iOff ((Tbl.find x.azI irange).getD fi) ti &&
      near vOff ((Tbl.find x.azV vrange).getD fv) tv
    let s := s.modSmu m (fun y => { y with azRun := none })
    if ok then
      let s := s.modSmu m (fun y => { y with
        azAt := some s.now, azI := Tbl.put y.azI irange iOff, azV := Tbl.put y.azV vrange vOff })
      .next (s.smuPend m)
    else
      let s := s.modSmu m (fun y => { y with azRejects := y.azRejects + 1 })
      let s := s.setBit F.SMU_QSTATUS_az_reject (smuQ m) 0 true
      .next (s.report 55 sevAdvisory (detail clsSmu m))

/-! ### Spares and repair (R363 to R365) -/

/-- Holds every thread of the site that owns a unit. -/
def State.smuHold (s : State) (m : Nat) : State :=
  match (s.smuCh m).owner with
  | some x => (s.threadsOf x).foldl (fun s t => if s.running t then s.addHold t .repair else s) s
  | none => s

/-- A repair of a quadrant's position, or a release of it, begins. -/
def State.smuBegin (s : State) (q n : Nat) (release : Bool) : State :=
  let s := s.smuHold (32 * q + n)
  { s with smu := { s.smu with repair := Tbl.put s.smu.repair q ⟨n, release, s.tb.loc⟩ } }

/-- The repair command of a quadrant. -/
def State.smuRepair (s : State) (q v : Nat) : State × Nat :=
  let busy := s.bit F.SMU_QSTATUS_spare_busy q
  let pos := s.fld F.SMU_QSTATUS_spare_pos q
  if (Tbl.find s.smu.repair q).isSome then (s, eSpareBusy)
  else if v = 0xFF then (if busy then s.smuBegin q pos true else s, eOk)
  else if 32 ≤ v then s.hostErr
  else if busy then (s, if pos = v then eOk else eSpareBusy)
  else (s.smuBegin q v false, eOk)

/-- OD 0x4400.q. -/
def wrSmuRepair (h : Hdr) (q : Nat) (d : Sys2Proof.Data) (s : State) : State × Nat :=
  s.item490 h d tU8 anyLen false (fun s => s.smuRepair q (dNat d))

/-- SMU_REPAIR (R363). -/
def execSmuRepair (h : Hdr) (d : Sys2Proof.Data) (q : Nat) (s : State) : Host.Outcome State Fault Refusal :=
  if q ≥ 4 then .next s else .next (s.hostItem (.smuRepair h d q) h (wrSmuRepair h q d))

/-- Whether a unit's owning site holds, with the last of its committed steps over (R363, step 1). -/
def State.smuHeld (s : State) (m : Nat) : Bool := match (s.smuCh m).owner with | some x => s.siteStill x | none => true

/-- SMU_REPAIR_COMPLETE (R363): the electronics have changed over, at most 200 µs after the hold; when within them is open (log entry 51). A
connected unit's output goes on under the spare. -/
def execSmuRepairComplete (q : Nat) (s : State) : Host.Outcome State Fault Refusal :=
  match Tbl.find s.smu.repair q with
  | none => .next s
  | some r =>
    let m := 32 * q + r.pin
    if q ≥ 4 ∨ !s.smuHeld m then .next s
    else
      let (d, s) := s.draw (us 200 + 1)
      let s := s.reachLoc ((match (s.smuCh m).owner with | some x => s.stillSince x r.began | none => r.began) + d)
      let s := { s with smu := { s.smu with repair := Tbl.drop s.smu.repair q } }
      let s := s.setBit F.SMU_QSTATUS_spare_busy q 0 (!r.release)
      let s := s.setFld F.SMU_QSTATUS_spare_pos q 0 (if r.release then 0 else r.pin)
      let s := s.setSmuBit F.SMU_STATE_spare m (!r.release)
      let s := s.setSmuBit F.SMU_STATE_derated m false
      let s := s.smuPark (128 + q)
      let s := s.modSmu m (fun y => { y with azI := [], azV := [], azRun := none })
      let s := s.setBit F.SMU_QSTATUS_swap_done q 0 true
      let s := s.journal (odKey 0x4401 q) (toBe 1 (if r.release then 0xFF else r.pin))
      let s := s.logRepair (44 + q) (detail clsSmu m) (if r.release then 1 else 0) 0
      .next (match (s.smuCh m).owner with
        | some x => (s.threadsOf x).foldl (fun s t => s.dropHold t .repair) s
        | none => s)

/-- Derates a unit (R364). -/
def State.smuDerate (s : State) (m : Nat) : State :=
  ((s.smuPark m).setSmuBit F.SMU_STATE_derated m true).markSmu m mkDerated

/-- What an escalated Degraded fault that names a unit does (R364): a repair while the spare is free, else a derating. -/
def State.smuEscalate (s : State) (m : Nat) : State :=
  let q := smuQ m
  if m < 128 ∧ !s.bit F.SMU_QSTATUS_spare_busy q ∧ (Tbl.find s.smu.repair q).isNone then s.smuBegin q (smuN m) false
  else s.smuDerate m

/-- OD 0x4011.nn. -/
def wrSmuRestore (h : Hdr) (m : Nat) (d : Sys2Proof.Data) (s : State) : State × Nat :=
  s.item490 h d tBool anyLen false (fun s =>
    if !dFlag d ∨ !s.smuBit F.SMU_STATE_derated m then (s, eOk)
    else if s.srcSet (44 + smuQ m) then (s, eFaultActive)
    else (s.setSmuBit F.SMU_STATE_derated m false, eOk))

/-- SMU_RESTORE (R365). -/
def execSmuRestore (h : Hdr) (d : Sys2Proof.Data) (m : Nat) (s : State) : Host.Outcome State Fault Refusal :=
  if m ≥ 132 then .next s else .next (s.hostItem (.smuRestore h d m) h (wrSmuRestore h m d))

/-! ### Dictionary (Table 11.7) -/

/-- OD 0x4403.q: force now. -/
def wrSmuForceNow (h : Hdr) (q : Nat) (d : Sys2Proof.Data) (s : State) : State × Nat :=
  s.item490 h d tBool anyLen false (fun s =>
    (if dFlag d then
      let t := s.now + us 10
      (List.range 32).foldl (fun s n => s.enterRecord (32 + q) t n 0x10 true 0 (2 ^ 46 + 2 ^ 45 + 2 ^ 44) 256) s
    else s, eOk))

/-- SMU_FORCE_NOW (R342, R367). -/
def execSmuForceNow (h : Hdr) (d : Sys2Proof.Data) (q : Nat) (s : State) : Host.Outcome State Fault Refusal :=
  if q ≥ 4 then .next s else .next (s.hostItem (.smuForceNow h d q) h (wrSmuForceNow h q d))

/-- Whether a write to a spare's sub-index finds it assigned. -/
def State.smuTaken (s : State) (m : Nat) : Bool := decide (128 ≤ m) && s.bit F.SMU_QSTATUS_spare_busy (smuQ m)

/-- OD 0x4009.nn: envelope voltage, rounded to the inside in mV (R367). -/
def wrSmuEnvV (h : Hdr) (m : Nat) (d : Sys2Proof.Data) (s : State) : State × Nat :=
  s.item490 h d tBlob (· == 16) false (fun s =>
    if s.smuTaken m then (s, eSpareAssigned)
    else
      let lo := clampInt (-32768) 32767 (ceilDivInt (toSigned 64 (dSub d 0 8)) 1000000)
      let hi := clampInt (-32768) 32767 (toSigned 64 (dSub d 8 8) / 1000000)
      let s := s.setFld F.SMU_ENV_V_vmin_mv (smuQ m) (smuN m) (ofSigned 16 lo)
      let s := s.setFld F.SMU_ENV_V_vmax_mv (smuQ m) (smuN m) (ofSigned 16 hi)
      (s.storeOd 0x4009 m d.bytes, eOk))

/-- OD 0x400A.nn: envelope current, rounded down to µA. -/
def wrSmuEnvI (h : Hdr) (m : Nat) (d : Sys2Proof.Data) (s : State) : State × Nat :=
  s.item490 h d tI64 anyLen false (fun s =>
    if s.smuTaken m then (s, eSpareAssigned)
    else
      let s := s.setFld F.SMU_ENV_I_imax_ua (smuQ m) (smuN m) (clampInt 0 1048575 (dInt d / 1000000000)).toNat
      (s.storeOd 0x400A m d.bytes, eOk))

/-- SMU_ENVELOPE_WRITE (R360, R367). -/
def execSmuEnvelopeWrite (h : Hdr) (d : Sys2Proof.Data) (m : Nat) (current : Bool) (s : State) : Host.Outcome State Fault Refusal :=
  if m ≥ 132 then .next s
  else .next (s.hostItem (.smuEnvelopeWrite h d m current) h (if current then wrSmuEnvI h m d else wrSmuEnvV h m d))

/-- OD 0x4001 to 0x4008: a staged setting of a unit, with the mode and ranges staged at the write (R337). -/
def wrSmuSetting (h : Hdr) (fn m : Nat) (d : Sys2Proof.Data) (s : State) : State × Nat :=
  let q := smuQ m
  let n := smuN m
  let free := fun (s : State) (f : State → State) => if s.smuTaken m then (s, eSpareAssigned) else (f s, eOk)
  let image := fun (fs : List Fld) (w : Nat) (s : State) => fs.foldl (fun s f => s.setFld f q n (w / 2 ^ f.lo)) s
  let fi := s.smuFld F.SMU_CFG_fmode m == 1
  let full := fun (cur : Bool) => if cur then smuAmp (s.smuFld F.SMU_CFG_irange m) else smuVolt (s.smuFld F.SMU_CFG_vrange m)
  let code := fun (cur : Bool) (x : Int) => ofSigned 24 (smuCode cur (full cur) x)
  match fn with
  | 1 => s.item490 h d tU32 anyLen false (fun s => free s (image [F.SMU_CFG_connect, F.SMU_CFG_fmode, F.SMU_CFG_vrange, F.SMU_CFG_irange,
      F.SMU_CFG_pulse, F.SMU_CFG_mon_en] (dNat d)))
  | 2 => s.item490 h d tI64 anyLen false (fun s => free s (fun s => s.setFld F.SMU_FORCE_CODE_force q n (code fi (dInt d))))
  | 3 => s.item490 h d tBlob (· == 16) false (fun s => free s (fun s =>
      (s.setFld F.SMU_CLAMP_LO_clamp q n (code (!fi) (toSigned 64 (dSub d 0 8)))).setFld F.SMU_CLAMP_HI_clamp q n
        (code (!fi) (toSigned 64 (dSub d 8 8)))))
  | 4 => s.item490 h d tBlob (· == 16) false (fun s => free s (fun s =>
      (s.setFld F.SMU_MON_LO_mon q n (code (!fi) (toSigned 64 (dSub d 0 8)))).setFld F.SMU_MON_HI_mon q n
        (code (!fi) (toSigned 64 (dSub d 8 8)))))
  | 5 => s.item490 h d tU32 anyLen (s.bit F.SMU_QCTRL_en q) (fun s => free s (image [F.SMU_MON_CFG_act, F.SMU_MON_CFG_clr_mode,
      F.SMU_MON_CFG_filt_n, F.SMU_MON_CFG_filt_m, F.SMU_MON_CFG_hyst] (dNat d)))
  | 6 => s.item490 h d tU64 anyLen false (fun s => free s (fun s =>
      s.setFld F.SMU_PULSE_width_ns q n (min 4294967295 ((dNat d + 500) / 1000))))
  | 7 => s.item490 h d tU32 anyLen false (fun s => free s (fun s => s.setFld F.SMU_SLEW_slew_mv_us q n (min 65535 ((dNat d + 500) / 1000))))
  | _ => s.item490 h d tBlob (· == 16) false (fun s => free s (fun s =>
      let ps := fun (k : Nat) => min 1073741823 ((dSub d k 8 + 500) / 1000)
      (s.setFld F.SMU_APER_DLY_ns q n (ps 0)).setFld F.SMU_APER_ns q n (ps 8)))

end Sys2Proof.Machine
end

