-- ==== Sys2Proof/Machine/Tally.lean ====
section
/-! DEFINITION. The Tally's ledger, its decision, measured power and correction (R88 to R106, R120, R129, R140). -/

namespace Sys2Proof.Machine

/-! ### The ledger (R90 to R92) -/

/-- Ticks of a ledger bin. -/
def binTicks : Nat := us 10
/-- Bins of the ledger. -/
def ledgerBins : Nat := 4096

/-- Whether an admitted step occupies a bin (R90). -/
def LedgerEntry.inBin (e : LedgerEntry) (i : Nat) : Bool :=
  decide (e.t0 < (i + 1) * binTicks) && (match e.t1 with | none => true | some t => decide (i * binTicks < t))

/-- L of a bin: the admitted power, mW. -/
def State.binL (s : State) (i : Nat) : Nat :=
  (s.tally.entries.filter (fun e => e.inBin i)).foldl (fun a e => a + e.c) 0
/-- Ls of a bin: the admitted SMU dissipation, mW. -/
def State.binS (s : State) (i : Nat) : Nat :=
  (s.tally.entries.filter (fun e => e.inBin i)).foldl (fun a e => a + e.s) 0

/-- The first bin of the ledger: the one that contains the present instant. -/
def State.bin0 (s : State) : Nat := s.now / binTicks

/-- Takes a step out of every bin (R104). -/
def State.ledgerDrop (s : State) (k t0 : Nat) : State :=
  { s with tally := { s.tally with entries := s.tally.entries.filter (fun e => !(e.thread == k && e.t0 == t0)) } }

/-- LEDGER_BIN_RETIRE (R91): the next bin boundary; the oldest bin retires with every step that lies wholly in the past. -/
def execLedgerBinRetire (s : State) : Host.Outcome State Fault Refusal :=
  let b := s.bin0 + 1
  let s := s.reach (b * binTicks)
  .next { s with tally := { s.tally with entries := s.tally.entries.filter (fun e =>
    match e.t1 with | none => true | some t => decide (b * binTicks < t)) } }

/-! ### Modes ahead (R97, R98, R129) -/

/-- The settle interval of a transition (Table 4.6). -/
def settleTicks (from_ dest : Mode) : Nat :=
  match dest with
  | .safe => us 50
  | .survey => us 200
  | _ => if from_ == .safe then us 50 else us 30

/-- A mode's baseline, mW. -/
def State.baseOf (s : State) (m : Mode) : Nat := (s.tally.base.drop m.code).headD 0

/-- B(i) (R98): the baseline of the mode in force at the bin, the larger of two where a change falls inside it. A change exactly at the bin's start
does not fall inside it: the new mode is in force in the whole bin (DEDUCED, log entry 49). -/
def State.binBase (s : State) (i : Nat) : Nat :=
  let inside := s.changesAhead.filter (fun e => decide (i * binTicks < e.1) && decide (e.1 < (i + 1) * binTicks))
  inside.foldl (fun b e => max b (s.baseOf e.2)) (s.baseOf (s.modeAt (i * binTicks)))

/-- The budget a step sees (R97). -/
def State.budgetFor (s : State) (analogue : Bool) (t0 : Nat) : Nat :=
  let e := s.fld F.TLY_BUDGET_budget_mw * s.fld F.TLY_MULT_m_q / 1024
  if s.modeAt t0 == .precision && !analogue then e * (100 - min 50 (s.fld F.TLY_CTRL_analog_reserve)) / 100 else e

/-- Whether a bin with power `l` and dissipation `ls` takes a step (R98). -/
def State.binTakes (s : State) (base l ls budget : Nat) (st : Step) : Bool :=
  decide (base + ceilDiv (s.fld F.TLY_CORR_k * (l + st.c)) 1024 ≤ budget) && decide (ls + st.smu ≤ 40000)

/-- R98: the step fits every bin it would occupy, and the time beyond the span. -/
def State.ledgerFits (s : State) (st : Step) : Bool :=
  let budget := s.budgetFor st.analogue st.t0
  let far := s.bin0 + ledgerBins
  let e : LedgerEntry := ⟨0, st.t0, st.end?, st.c, st.smu⟩
  let near := (List.range ledgerBins).all (fun j =>
    let i := s.bin0 + j
    !e.inBin i || s.binTakes (s.binBase i) (s.binL i) (s.binS i) budget st)
  let beyond := match st.end? with | none => true | some t => decide (far * binTicks < t)
  near && (!beyond || s.binTakes (s.baseOf (s.modeAt (far * binTicks))) (s.binL far) (s.binS far) budget st) &&
    (!s.bit F.TLY_STATUS_smu_block || st.smu == 0)

/-- R129: an accepted mode change refuses the step: its interval holds T, it would launch in [T, T + s), or T is not yet set. -/
def State.changeRefuses (s : State) (st : Step) : Bool :=
  s.md.pend.any (fun p =>
    match p.t with
    | none => true
    | some t =>
      decide (st.t0 ≤ t) && (match st.end? with | none => true | some e => decide (t < e)) ||
        decide (t ≤ st.t0) && decide (st.t0 < t + settleTicks s.md.mode p.target))
  || (match s.md.settle with
    | none => false
    | some (a, b) => decide (a ≤ st.t0) && decide (st.t0 < b))

/-- Whether the Tally admits a step (R98, R129, R140). -/
def State.tallyAdmits (s : State) (st : Step) : Bool := !s.inSafe && !s.changeRefuses st && s.ledgerFits st

/-- A refusal (R100). -/
def State.countRefusal (s : State) : State :=
  ({ s with tally := { s.tally with refusals := s.tally.refusals + 1 } }).setBit F.TLY_STATUS_refused 0 0 true

/-! ### Rails and measured power (R93 to R96, R103) -/

/-- A rail's operating range and power-good threshold, mV (Table 20.5). -/
def railLimits : Nat → Int × Int × Int
  | 0 => (727, 773, 680) | 1 => (873, 927, 810) | 2 => (1140, 1260, 1080) | 3 => (1067, 1133, 1000) | 4 => (1746, 1854, 1620)
  | 5 => (7760, 8240, 7200) | 6 => (-3090, -2910, -2700) | 7 => (14700, 15300, 13500) | 8 => (-15300, -14700, -13500)
  | 9 => (1710, 1890, 1620) | _ => (1746, 1854, 1620)

/-- Whether a voltage lies in a rail's operating range. -/
def railIn (r : Nat) (mv : Int) : Bool := decide ((railLimits r).1 ≤ mv) && decide (mv ≤ (railLimits r).2.1)
/-- Whether a voltage has reached a rail's power-good threshold. -/
def railGood (r : Nat) (mv : Int) : Bool :=
  let t := (railLimits r).2.2
  if 0 ≤ t then decide (t ≤ mv) else decide (mv ≤ t)

/-- Takes in one rail's reading. -/
def State.readRail (s : State) (r : Nat) (mv : Int) (ma : Nat) : State :=
  let x := Tbl.get s.pw.rails {} r
  let out := if railIn r mv then none else if x.outSince.isSome then x.outSince else some s.tb.loc
  { s with pw := { s.pw with rails := Tbl.set s.pw.rails {} r ⟨mv, ma, out, x.outTold && out.isSome⟩ } }

/-- Takes in the readings of rails `r`, r + 1, …. -/
def State.readRails (s : State) (r : Nat) : List (Int × Nat) → State
  | [] => s
  | (mv, ma) :: l => State.readRails (s.readRail r mv ma) (r + 1) l

/-- The SMU stage dissipation of the whole chip at the latest sample of each unit, mW (R350). -/
def State.smuChip (s : State) : Nat := s.smu.ch.foldl (fun a (e : Nat × SmuCh) => a + e.2.dissWin.headD 0) 0

/-- A condition that sets its status bit and reports: once when it begins, and again while it holds after its source was cleared (R517). -/
def State.condition (s : State) (i : Nat) (holds : Bool) (f : Fld) (sev : Nat) : State :=
  let was := s.tally.conds.testBit i
  if !holds then { s with tally := { s.tally with conds := clrBitAt s.tally.conds i } }
  else
    let s := { s with tally := { s.tally with conds := setBitAt s.tally.conds i } }
    let s := s.setBit f 0 0 true
    if was && s.srcSet 41 then s else s.report 41 sev (detail clsNone 0)

/-- The baseline and the correction at a sample (R93). -/
def State.correct (s : State) (p : Int) : State :=
  let l : Int := s.binL s.bin0
  let b : Int := s.baseOf s.md.mode
  if l = 0 then
    let b' := (ceilDivInt (63 * b + p) 64).toNat
    let s := { s with tally := { s.tally with base := s.tally.base.set s.md.mode.code b' } }
    s.setFld F.TLY_BASE_base_mw 0 0 b'
  else if 1000 ≤ l then
    let r := clampInt (1024 * l) (2048 * l) (1024 * (p - b))
    let k := ceilDivInt (63 * s.fld F.TLY_CORR_k * l + r) (64 * l)
    let s := s.setFld F.TLY_CORR_k 0 0 k.toNat
    { s with tally := { s.tally with kRun := if 2 * l < p - b then s.tally.kRun + 1 else 0 } }
  else s

/-- The SMU stage dissipation at a sample, averaged over 1 ms: above 40 W it sets smu_over and blocks; below 36 W the block ends (R96, R103). -/
def State.sampleDiss (s : State) : State :=
  let w := (s.smuChip :: s.tally.sWin).take 100
  let s : State := { s with tally := { s.tally with sWin := w } }
  let high := decide (w.length = 100 ∧ 4000000 < w.foldl (fun (a b : Nat) => a + b) 0)
  let s := s.condition 3 high F.TLY_STATUS_smu_over sevDegraded
  if high then s.setBit F.TLY_STATUS_smu_block 0 0 true
  else if s.smuTotal < 36000 then s.setBit F.TLY_STATUS_smu_block 0 0 false else s

/-- POWER_SAMPLE (R93 to R96, R103): the rails' millivolts and milliamperes, in rail order, and the power the SMUs deliver out of the
package, mW, at the next 10 µs sample. P_meas includes rail 10, the second supply of VHBM (R588). -/
def execPowerSample (rails : List (Int × Nat)) (delivered : Nat) (s : State) : Host.Outcome State Fault Refusal :=
  let s := s.nextLoc (us 10)
  let s := s.readRails 0 rails
  let p : Int := (s.pw.rails.foldl (fun (a : Nat) (e : Nat × Rail) => a + e.2.mv.natAbs * e.2.ma) 0 / 1000 : Nat) - (delivered : Int)
  let out := s.pw.rails.any (fun (e : Nat × Rail) => !railIn e.1 e.2.mv)
  let s := if out then s else
    let s := s.setFld F.TLY_MEAS_p_meas_mw 0 0 p.toNat
    let s := { s with tally := { s.tally with pWin := (p.toNat :: s.tally.pWin).take 100 } }
    let s := if s.pw.startStep = 11 then s.correct p else s
    let s := s.condition 0 (decide (100 ≤ s.tally.kRun)) F.TLY_STATUS_k_sat sevAdvisory
    let w := s.tally.pWin
    let sum := fun (l : List Nat) => l.foldl (· + ·) 0
    let s := s.condition 1 (decide (w.length = 100) && decide (100 * s.fld F.TLY_BUDGET_budget_mw < sum w)) F.TLY_STATUS_overrun sevDegraded
    s.condition 2 (decide (10 ≤ w.length) && decide (2500000 < sum (w.take 10))) F.TLY_STATUS_over_abs sevChip
  .next s.sampleDiss

/-! ### Budget, reserve and reset (R95, R101, R102, R120) -/

/-- The baselines of the calibration set in force. -/
def State.loadBases (s : State) : State :=
  let l := (List.range 6).map (fun m => Config.factoryBase (s.cal.force.map (·.data) |>.getD []) m % 262144)
  let s := { s with tally := { s.tally with base := l } }
  s.setFld F.TLY_BASE_base_mw 0 0 (s.baseOf s.md.mode)

/-- R95: k is 1.000 again, and the baselines are reloaded. The run of samples that counts towards k_sat starts anew (DESIGN CHOICE, log entry 49:
R95 does not say). -/
def State.kReset (s : State) : State :=
  let s := s.setFld F.TLY_CORR_k 0 0 1024
  ({ s with tally := { s.tally with kRun := 0 } }).loadBases

/-- OD 0x2209.00. -/
def wrKReset (h : Hdr) (d : Sys2Proof.Data) (s : State) : State × Nat :=
  s.item490 h d tBool anyLen false (fun s => (if dFlag d then s.kReset else s, eOk))

/-- K_RESET: OD 0x2209.00 or TLY_CTRL.k_reset (R95). -/
def execKReset (path : Path) (s : State) : Host.Outcome State Fault Refusal :=
  .next (s.viaPath (.kReset path) path wrKReset State.kReset)

/-- Stores a budget in TLY_BUDGET, clamped (R102). -/
def State.setBudget (s : State) (v : Nat) : State := s.setFld F.TLY_BUDGET_budget_mw 0 0 (clampNat 40000 240000 v)

/-- OD 0x2200.00 (R120): the entry reads back what is stored. -/
def wrBudget (h : Hdr) (d : Sys2Proof.Data) (s : State) : State × Nat :=
  s.item490 h d tU32 anyLen false (fun s =>
    ((s.storeOd 0x2200 0 (toBe 4 (clampNat 40000 240000 (dNat d)))).setBudget (dNat d), eOk))

/-- BUDGET_WRITE: OD 0x2200.00, or a register write of TLY_BUDGET, which is clamped in the same way (R102). -/
def execBudgetWrite (path : Path) (v : Nat) (s : State) : Host.Outcome State Fault Refusal :=
  .next (s.viaPath (.budgetWrite path v) path wrBudget (fun s => s.setBudget v))

/-- OD 0x2201.00. -/
def wrReserve (h : Hdr) (d : Sys2Proof.Data) (s : State) : State × Nat :=
  s.item490 h d tU8 anyLen false (fun s => ((s.storeOd 0x2201 0 d.bytes).setFld F.TLY_CTRL_analog_reserve 0 0 (dNat d), eOk))

/-- ANALOG_RESERVE_WRITE: OD 0x2201.00, or TLY_CTRL.analog_reserve; values above 50 act as 50 (R97). -/
def execAnalogReserveWrite (path : Path) (v : Nat) (s : State) : Host.Outcome State Fault Refusal :=
  .next (s.viaPath (.analogReserveWrite path v) path wrReserve (fun s => s.setFld F.TLY_CTRL_analog_reserve 0 0 v))

end Sys2Proof.Machine
end

