-- ==== Sys2Proof/Machine/Wav.lean ====
section
/-! DEFINITION. Waveform channels: source chain, slew limiter, envelope, captures, reductions and Plumb (R368 to R392). -/

namespace Sys2Proof.Machine

/-- A waveform channel. -/
def State.wavCh (s : State) (w : Nat) : WavCh := Tbl.get s.wav.ch {} w
/-- Changes a waveform channel. -/
def State.modWav (s : State) (w : Nat) (f : WavCh → WavCh) : State :=
  { s with wav := { s.wav with ch := Tbl.set s.wav.ch {} w (f (s.wavCh w)) } }
/-- A staged field of a channel. -/
def State.wavFld (s : State) (f : Fld) (w : Nat) : Nat := s.fld f (w / 32) (w % 32)
/-- An active field of a channel. -/
def State.wavAct (s : State) (f : Fld) (w : Nat) : Nat := s.actFld f (w / 32) (w % 32)
/-- A bit of a channel's WAV_STATE. -/
def State.wavBit (s : State) (f : Fld) (w : Nat) : Bool := s.bit f (w / 32) (w % 32)
/-- Sets a bit of a channel's WAV_STATE. -/
def State.setWavBit (s : State) (f : Fld) (w : Nat) (b : Bool) : State := s.setBit f (w / 32) (w % 32) b
/-- A half's Advisory about a channel. -/
def State.wavFault (s : State) (w : Nat) : State := s.report (48 + w / 32) sevAdvisory (detail clsWave w)
/-- Marks the current step of a channel's owning site. -/
def State.markWav (s : State) (w m : Nat) : State :=
  match (s.wavCh w).owner with
  | some x => s.markSite x m
  | none => s
/-- Sets a channel's flag latch bit (R380). -/
def State.wavFlag (s : State) (w : Nat) : State :=
  (s.setBitIn F.WAV_FLAG_LATCH_latch (w / 32) 0 (w % 32)).modWav w (fun x => { x with flagAt := some s.tb.loc })
/-- Clears a channel's flag latch bit, but at the instant of a set (R380). -/
def State.wavUnflag (s : State) (w : Nat) : State :=
  if (s.wavCh w).flagAt == some s.tb.loc then s else s.clrBitIn F.WAV_FLAG_LATCH_latch (w / 32) 0 (w % 32)

/-! ### The source chain (R371 to R378) -/

/-- 2⁹⁶, the scale of the sine's fixed-point arithmetic. -/
def sinScale : Nat := 79228162514264337593543950336
/-- 2π at that scale. -/
def twoPi : Nat := 497805226624462170461043889244
/-- Taylor terms of the sine of an angle in the first quadrant. -/
def sinTerms (x : Int) : Nat → Nat → Int → Int
  | 0, _, _ => 0
  | n + 1, k, t => t + sinTerms x n (k + 1) (-(t * x / sinScale) * x / sinScale / ((2 * k) * (2 * k + 1) : Nat))
/-- The table of R374 in its first quadrant: (2²³ − 1) sin(2πi/4096), rounded. -/
def sinQuarter (i : Nat) : Int :=
  let x : Int := (twoPi * i / 4096 : Nat)
  (2 * (sinTerms x 20 1 x * 8388607) + sinScale) / (2 * sinScale)
/-- The table T of R374. -/
def sinTable (i : Nat) : Int :=
  let i := i % 4096
  let j := i % 2048
  let v := sinQuarter (if 1024 < j then 2048 - j else j)
  if 2048 ≤ i then -v else v

/-- The sine generator's value before saturation, in 1/16 steps (R374). -/
def sineValue (p amp : Nat) (ofs : Int) : Int :=
  let i := p / 68719476736 % 4096
  let f : Int := (p / 4096 % 16777216 : Nat)
  let a := sinTable i
  let v := a + ((sinTable (i + 1) - a) * f) / 16777216
  16 * ofs + nearDiv (16 * amp * v) 8388608

/-- A 24-bit value kept in range. -/
def sat24 (x : Int) : Int := clampInt (-8388608) 8388607 x

/-- The phase increment in force, at most 2⁴⁵. -/
def State.wavInc (s : State) (w : Nat) : Nat :=
  min 35184372088832 (s.wavAct F.WAV_PINC_LO_inc w + 4294967296 * s.wavAct F.WAV_PINC_HI_inc w)
/-- The source rate, kept in its span. -/
def State.srcRate (s : State) (w : Nat) : Nat := clampNat 1 10000000 (s.wavAct F.WAV_SRATE_rate w)
/-- The limiter's rate. -/
def State.slewRate (s : State) (w : Nat) : Nat := clampNat 1 40000000 (s.wavAct F.WAV_SLEW_RATE_rate w)
/-- The active kind; 3 is reserved. -/
def State.wavKind (s : State) (w : Nat) : Nat :=
  let k := s.wavAct F.WAV_CFG_kind w
  if k = 3 then Config.openNat 19 [w] % 3 else k
/-- Samples of a channel's source buffer. -/
def State.srcLen (s : State) (w : Nat) : Nat := 16 * s.wavAct F.WAV_BUF_LEN_lines w
/-- The code of a user sample. -/
def State.srcSample (s : State) (w k : Nat) : Int :=
  toSigned 20 (leNat (s.bytes (64 * s.wavAct F.WAV_BUF_FIRST_lines w + 4 * (k % max 1 (s.srcLen w))) 4))

/-- Whether internal sample `n` is a tick of the slew limiter (R377). -/
def slewTick (rate n : Nat) : Bool := ceilDiv (n * rate) 40000000 * 40000000 / rate == n

/-- The limiter's next output from `x` toward `y`, by at most `step`. -/
def slewTo (x y step : Int) : Int := if y < x - step then x - step else if x + step < y then x + step else y

/-- The envelope in 1/16 steps, rounded to the inside. -/
def State.wavEnv (s : State) (w : Nat) : Int × Int :=
  (ceilDivInt (toSigned 16 (s.wavFld F.WAV_ENV_vmin_mv w) * 8388608) 10000, toSigned 16 (s.wavFld F.WAV_ENV_vmax_mv w) * 8388608 / 10000)

/-- A channel underruns (R376). -/
def State.wavUnderrun (s : State) (w : Nat) : State :=
  let s := s.modWav w (fun x => { x with held := true })
  let s := (s.setWavBit F.WAV_STATE_underrun w true).wavFlag w
  (s.setBit F.WAV_HSTATUS_underrun_any (w / 32) 0 true).wavFault w

/-- The line of a channel's source buffer that its next user sample stands in. -/
def State.srcLine (s : State) (w : Nat) : Nat :=
  s.wavAct F.WAV_BUF_FIRST_lines w + (s.wavCh w).sample % max 1 (s.srcLen w) / 16

/-- Whether the slew limiter is slower than the sine it shapes (R377): the sine's peak slope, 2π × amplitude × frequency, is above step × rate. -/
def State.slewShort (s : State) (w : Nat) : Bool :=
  let step := s.wavAct F.WAV_SLEW_STEP_code w
  s.wavKind w == 1 && step != 0 &&
    decide (step * s.slewRate w * 281474976710656 * sinScale < twoPi * s.wavAct F.WAV_AMP_code w * s.wavInc w * 40000000)

/-- The generator's next value: the state with its phase or sample position moved on, the value, whether it saturated. -/
def State.wavGen (s : State) (w : Nat) : State × Int × Bool :=
  let x := s.wavCh w
  if x.frozen || x.held || x.toZero then (s, x.gen, false)
  else
    match s.wavKind w with
    | 2 => (s, 16 * toSigned 20 (s.wavAct F.WAV_OFS_code w), false)
    | 1 =>
      let v := sineValue x.phase (s.wavAct F.WAV_AMP_code w) (toSigned 20 (s.wavAct F.WAV_OFS_code w))
      (s.modWav w (fun x => { x with phase := (x.phase + s.wavInc w) % 281474976710656 }), sat24 v, decide (sat24 v ≠ v))
    | _ =>
      if x.played then (s, x.gen, false)
      else
        let k := x.n * s.srcRate w / 40000000
        -- a one-shot buffer's end holds the last sample
        if s.wavAct F.WAV_CFG_buf_mode w = 1 ∧ s.srcLen w ≤ k then (s, 16 * s.srcSample w (s.srcLen w - 1), false)
        else if s.wavAct F.WAV_CFG_buf_mode w = 2 ∧ x.sample ≤ k ∧ s.wavFld F.WAV_BUF_RD_index w = s.wavFld F.WAV_BUF_WR_index w then
          -- stream mode: the read index has reached the write index
          (s.wavUnderrun w, x.gen, false)
        else
        let s := s.modWav w (fun x => { x with sample := k + 1 })
        let s := s.setFld F.WAV_BUF_RD_index (w / 32) (w % 32) ((k + 1) % max 1 (s.srcLen w))
        -- the polyphase FIR's coefficients are not given: its output is a free value
        let (v, s) := s.draw 16777216
        (s, (v : Int) - 8388608, false)

/-- A channel's pending source correction applies (R388). -/
def State.wavTakeSrc (s : State) (w : Nat) : State :=
  match (s.wavCh w).pendSrc with
  | some t => s.modWav w (fun x => { x with pendSrc := none, corrSrc := t })
  | none => s
/-- Its digitizer correction applies. -/
def State.wavTakeDig (s : State) (w : Nat) : State :=
  match (s.wavCh w).pendDig with
  | some t => s.modWav w (fun x => { x with pendDig := none, corrDig := t })
  | none => s

/-- The output switch opens and the generator stands still. -/
def State.wavOpen (s : State) (w : Nat) : State :=
  let s := (s.setWavBit F.WAV_STATE_connected w false).setWavBit F.WAV_STATE_playing w false
  let s := ((s.setWavBit F.WAV_STATE_env w false).setWavBit F.WAV_STATE_ilim w false).setWavBit F.WAV_STATE_clip w false
  let s := s.modWav w (fun x => { x with out := 0, dac := 0, frozen := true, toZero := false, openAfter := false, safeRamp := false, held := false })
  s.wavTakeSrc w

/-- The output of an internal sample goes through the envelope clamp to the DAC (R378). -/
def State.wavOut (s : State) (w : Nat) (out : Int) (clip : Bool) : State :=
  let (lo, hi) := s.wavEnv w
  let dac := clampInt lo hi out
  let env := decide (dac ≠ out)
  let newEnv := env && !s.wavBit F.WAV_STATE_env w
  let newClip := clip && !s.wavBit F.WAV_STATE_clip w
  let s := (s.setWavBit F.WAV_STATE_env w env).setWavBit F.WAV_STATE_clip w clip
  let s := s.modWav w (fun x => { x with out := out, dac := dac })
  let s := if newEnv then
      let s := (s.setBit F.WAV_HSTATUS_env_clamp (w / 32) 0 true).wavFlag w
      let s := s.modWav w (fun x => { x with envClamps := x.envClamps + 1 })
      (s.markWav w mkClamp).wavFault w
    else s
  if newClip then ((s.setBit F.WAV_HSTATUS_clip_any (w / 32) 0 true).wavFlag w).markWav w mkClamp else s

/-- WAV_INTERNAL_SAMPLE (R373, R374, R377, R378, R381): the channel's next internal sample, 25 ns after the one before. -/
def execWavInternalSample (w : Nat) (s : State) : Host.Outcome State Fault Refusal :=
  if w ≥ 64 ∨ !s.wavBit F.WAV_STATE_connected w then .next s
  else
    let x := s.wavCh w
    let s := s.reachLoc (x.anchor + x.n * ns 25)
    let (s, gen, clip) := s.wavGen w
    let step : Int := if x.safeRamp then 20972 else 16 * s.wavAct F.WAV_SLEW_STEP_code w
    let tick := x.safeRamp || slewTick (s.slewRate w) x.n
    let goal := if x.toZero then 0 else gen
    let out := if step = 0 then goal else if tick then slewTo x.out goal step else x.out
    -- a slew below the sine's own slope is a host error: what comes out is open
    let (out, s) : Int × State :=
      if s.slewShort w && !x.safeRamp && !x.toZero then let (v, s) := s.draw 16777216; ((v : Int) - 8388608, s) else (out, s)
    let s := s.modWav w (fun x => { x with n := x.n + 1, gen := gen })
    let s := s.wavOut w out clip
    .next (if x.toZero && x.openAfter && out == 0 then s.wavOpen w else s)

/-- WAV_ONE_SHOT_DONE (R375): a one-shot buffer has reached its end. -/
def execWavOneShotDone (w : Nat) (s : State) : Host.Outcome State Fault Refusal :=
  let x := s.wavCh w
  if w < 64 ∧ s.wavBit F.WAV_STATE_playing w ∧ s.wavKind w = 0 ∧ s.wavAct F.WAV_CFG_buf_mode w = 1 ∧ !x.played ∧ !x.held then
    let s := s.reachLoc (x.anchor + s.srcLen w * 40000000 / s.srcRate w * ns 25)
    let s := s.setWavBit F.WAV_STATE_done w true
    .next (s.modWav w (fun x => { x with played := true, gen := 16 * s.srcSample w (s.srcLen w - 1) }))
  else .next s

/-- WAV_UNDERRUN (R376): the next user sample is not available at its position: in stream mode, where a WAV_START came less than 1 µs before its
instant, or where the retries on the sample's line have failed. -/
def execWavUnderrun (w : Nat) (s : State) : Host.Outcome State Fault Refusal :=
  let x := s.wavCh w
  if w < 64 ∧ s.wavBit F.WAV_STATE_playing w ∧ s.wavKind w = 0 ∧ !x.played ∧ !x.held ∧
      (s.wavAct F.WAV_CFG_buf_mode w = 2 ∨ x.lateHead ∨ s.corruptLine (s.srcLine w)) then .next (s.wavUnderrun w)
  else .next s

/-- WAV_CURRENT_LIMIT (R379): the output reaches its current limit (`inForce`), or leaves it. -/
def execWavCurrentLimit (w : Nat) (inForce : Bool) (s : State) : Host.Outcome State Fault Refusal :=
  if w ≥ 64 ∨ !s.wavBit F.WAV_STATE_connected w then .next s
  else if inForce then
    let s := (s.setWavBit F.WAV_STATE_ilim w true).wavFlag w
    .next ((s.setBit F.WAV_HSTATUS_ilim_any (w / 32) 0 true).markWav w mkClamp)
  else .next (s.setWavBit F.WAV_STATE_ilim w false)

/-! ### Captures (R384, R385) -/

/-- Whether a channel has a capture in progress. -/
def State.capturing (s : State) (w : Nat) : Bool := (s.wavCh w).caps.any (·.isOpen)

/-- Ends the capture in progress now: its samples so far are kept. -/
def State.endCapture (s : State) (w : Nat) : State :=
  if !s.capturing w then s
  else
    let now := s.tb.loc
    let stop := fun (c : Capture) =>
      if c.isOpen then
        { c with isOpen := false, armed := c.armed || (s.unit (64 + w)).arm.isSome, len := min c.len (ceilDiv ((now - c.start) * c.fs) sec) }
      else c
    let s := s.modWav w (fun x => { x with caps := (x.caps.map stop).filter (fun c => c.isOpen || !c.armed) })
    (s.setWavBit F.WAV_STATE_capturing w false).wavTakeDig w

/-- Starts a capture. -/
def State.startCapture (s : State) (w site : Nat) (slot : Option Nat) (quiet : Bool) : State :=
  let s := s.endCapture w
  let s := s.wavTakeDig w
  let armed := (s.unit (64 + w)).arm.isSome
  let len := max 1 (s.wavAct F.WAV_CAPLEN_samples w)
  let fs := s.digRate w
  let c : Capture := ⟨s.tb.loc, len, fs, site, slot, quiet, armed, true⟩
  let s := s.modWav w (fun x => { x with caps := x.caps ++ [c] })
  let s := s.setWavBit F.WAV_STATE_capturing w true
  let s := if quiet then s.addQuiet (s.tb.loc - us 10) (s.tb.loc + len * sec / fs) else s
  match slot with
  | some _ => s.expectResult site (objWav w)
  | none => s

/-- Writes a capture's samples to the channel's acquisition buffer. -/
def State.storeCapture (s : State) (u : Nat) : List Int → State
  | [] => s
  | v :: l =>
    let (s, ok) := s.putSample u (s.fld F.ACQ_WR_index 0 u) (toLe 4 (digWord v))
    (if ok then s.moveWr u 1 else s).storeCapture u l

/-- WAV_CAPTURE_END (R385): the oldest capture takes its last sample; `codes` are the conversions it took. -/
def execWavCaptureEnd (w : Nat) (codes : List Int) (s : State) : Host.Outcome State Fault Refusal :=
  match (s.wavCh w).caps with
  | [] => .next s
  | c :: rest =>
    if w ≥ 64 ∨ (c.isOpen ∧ (s.unit (64 + w)).arm.isSome) then .next s
    else
      let l := codes.take c.len
      let last := c.start + (c.len - 1) * sec / c.fs
      let s := s.reachLoc last
      let s := s.modWav w (fun x => { x with caps := rest })
      let s := if c.isOpen then (s.setWavBit F.WAV_STATE_capturing w false).wavTakeDig w else s
      let s := if s.unitEn (64 + w) then s.storeCapture (64 + w) l else s
      let sat := l.any (fun v => decide (v < -8808038 ∨ 8808038 < v))
      let s := if sat && c.slot.isNone then s.markSite c.site mkClamp else s
      .next (s.sendReduction w c.site c.slot last (l.map (clampInt (-8808038) 8808038)) sat)

/-- WAV_REDUCTION_DELIVERY (R385): the oldest reduction reaches its slot. -/
def execWavReductionDelivery (w : Nat) (s : State) : Host.Outcome State Fault Refusal :=
  match (s.wavCh w).red with
  | [] => .next s
  | r :: rest =>
    let s := s.reachLoc r.due
    let s := s.modWav w (fun x => { x with red := rest, lastRed := r.value })
    .next (s.postArrival { site := r.site, at_ := s.now, order := objWav w, slot := r.slot, value := r.value, clamp := r.sat })

/-! ### Records (R368 to R370, R374, R381, R387) -/

/-- The source group. -/
def srcGroup : List Fld :=
  [F.WAV_CFG_src_en, F.WAV_CFG_kind, F.WAV_CFG_buf_mode, F.WAV_CFG_reduce, F.WAV_PINC_LO_inc, F.WAV_PINC_HI_pofs, F.WAV_PINC_HI_inc,
    F.WAV_AMP_code, F.WAV_OFS_code, F.WAV_SRATE_rate, F.WAV_SLEW_STEP_code, F.WAV_SLEW_RATE_rate, F.WAV_BUF_FIRST_lines, F.WAV_BUF_LEN_lines]
/-- The digitizer group. -/
def digFlds : List Fld :=
  [F.WAV_CFG_dig_en, F.WAV_CFG_dig_in, F.WAV_CFG_dig_range, F.WAV_CFG_dig_filt, F.WAV_DRATE_rate, F.WAV_CAPLEN_samples]

/-- A copy without its calendar reservation is ignored (R387). -/
def State.wavNoRsv (s : State) (w : Nat) : State := (s.setBit F.WAV_HSTATUS_no_rsv (w / 32) 0 true).wavFault w

/-- Sets a channel's owner, where the record carries a site. -/
def State.wavOwn (s : State) (w : Nat) (r : LaunchRec) : State :=
  if r.chipWide then s else s.modWav w (fun x => { x with owner := some r.site })

/-- A source copy (R373 to R375, R382). R387 is taken to speak of copies with src_en = 1: the worked example of chapter 12 copies a source of
kind 0 that is off without a reservation (DEDUCED, log entry 55). -/
def State.wavSource (s : State) (w : Nat) (r : LaunchRec) : State :=
  if s.wavFld F.WAV_CFG_src_en w = 1 ∧ s.wavFld F.WAV_CFG_kind w = 0 ∧ !s.wav.srcMask.testBit w then s.wavNoRsv w
  else
    let inc := fun (g : Fld → Nat → Nat) => g F.WAV_PINC_LO_inc w + 4294967296 * g F.WAV_PINC_HI_inc w
    let was := (s.wavKind w, inc s.wavAct, s.wavAct F.WAV_PINC_HI_pofs w)
    let s := (s.wavOwn w r).copyActive srcGroup (w / 32) (w % 32)
    let s := s.wavTakeSrc w
    let now := s.tb.loc
    let kind := s.wavKind w
    if s.wavAct F.WAV_CFG_src_en w = 0 then
      if !s.wavBit F.WAV_STATE_connected w then s.modWav w (fun x => { x with anchor := now, n := 0 })
      else
        (s.setWavBit F.WAV_STATE_playing w false).modWav w (fun x => { x with anchor := now, n := 0, toZero := true, openAfter := true, held := false })
    else
      let s := if s.wavBit F.WAV_STATE_connected w || s.md.mode == .survey then s
        else (s.setWavBit F.WAV_STATE_connected w true).modWav w (fun x => { x with out := 0, dac := 0 })
      let reload := decide (kind = 1) && (was.1 != 1 || was.2.1 != inc s.wavAct || was.2.2 != s.wavAct F.WAV_PINC_HI_pofs w)
      let s := s.modWav w (fun x => { x with
        anchor := now, n := 0, frozen := false, toZero := false, openAfter := false, held := false
        phase := if reload then s.wavAct F.WAV_PINC_HI_pofs w * 4294967296 else x.phase
        sample := if kind = 0 then 0 else x.sample
        lateHead := decide (r.exec < r.entered + us 1)
        played := if kind = 0 then false else x.played })
      let s := (s.setWavBit F.WAV_STATE_done w false).setWavBit F.WAV_STATE_underrun w false
      let s := if kind = 0 then s.setFld F.WAV_BUF_RD_index (w / 32) (w % 32) 0 else s
      s.setWavBit F.WAV_STATE_playing w true

/-- A digitizer copy (R384, R385, R413). Without a reservation the group is copied and the capture start is ignored, as R387 words it. -/
def State.wavDig (s : State) (w : Nat) (r : LaunchRec) : State :=
  let p := r.payload
  let s := (s.wavOwn w r).copyActive digFlds (w / 32) (w % 32)
  if s.wavAct F.WAV_CFG_dig_en w = 0 then
    let s := s.endCapture w
    if (s.unit (64 + w)).arm.isSome then s.endArm (64 + w) else s
  else if !s.wav.digMask.testBit w then s.wavNoRsv w
  else s.startCapture w r.site (if p.testBit 43 then some (bitsAt p 42 35) else none) (p.testBit 34 && s.md.mode == .precision)

/-- The channel that a record of a half names; targets 32 to 63 are reserved and name an open one (R368, R2). -/
def State.wavTarget (_s : State) (hf target : Nat) : Nat := 32 * hf + (if target < 32 then target else Config.openNat 66 [hf, target] % 32)

/-- WAV_START (R369): the record at the head of queue 36 + hf acts. -/
def execWavStart (hf : Nat) (s : State) : Host.Outcome State Fault Refusal :=
  if hf ≥ 2 then .next s
  else
    match s.takeHead (36 + hf) 0x20 with
    | none => .next s
    | some (r, s) =>
      let w := s.wavTarget hf r.target
      let src := r.payload.testBit 46
      let dig := r.payload.testBit 45
      let cal := r.payload.testBit 44
      if s.inSafe then .next (s.discardInSafe r)
      else if !(src || dig || cal) ∨ !s.bit F.WAV_HCTRL_en hf then .next s
      else if s.wavBit F.WAV_STATE_derated w then .next (s.markOf r mkDerated)
      else
        let s := if cal then s.wavTakeSrc w else s
        let s := if src then s.wavSource w r else s
        .next (if dig then s.wavDig w r else s)

/-- WAV_STOP (R381): freeze, ramp or disconnect the source, or end a capture. -/
def execWavStop (hf : Nat) (s : State) : Host.Outcome State Fault Refusal :=
  if hf ≥ 2 then .next s
  else
    match s.takeHead (36 + hf) 0x21 with
    | none => .next s
    | some (r, s) =>
      let w := s.wavTarget hf r.target
      let p := r.payload
      if s.inSafe then .next (s.discardInSafe r)
      else
        let s :=
          if p.testBit 46 then
            let s := (s.setWavBit F.WAV_STATE_playing w false).setWavBit F.WAV_STATE_underrun w false
            let s := s.modWav w (fun x => { x with
              gen := x.out, frozen := true, held := false, toZero := p.testBit 44, openAfter := p.testBit 43 && p.testBit 44 })
            if p.testBit 43 && !p.testBit 44 then s.wavOpen w else s
          else s
        .next (if p.testBit 45 then
            let s := s.endCapture w
            if (s.unit (64 + w)).arm.isSome then s.endArm (64 + w) else s
          else s)

/-! ### Flags, reservations, corrections (R380, R387 to R392) -/

/-- OD 0x480C.nn. -/
def wrWavFlag (h : Hdr) (w : Nat) (d : Sys2Proof.Data) (s : State) : State × Nat :=
  s.item490 h d tBool anyLen false (fun s => (if dFlag d then s.wavUnflag w else s, eOk))

/-- WAV_FLAG_CLEAR (R380). -/
def execWavFlagClear (path : Path) (w : Nat) (s : State) : Host.Outcome State Fault Refusal :=
  if w ≥ 64 then .next s
  else .next (s.viaPath (.wavFlagClear path w) path (fun h d => wrWavFlag h w d) (fun s => s.wavUnflag w))

/-- OD 0x4880.00: the reservation masks. -/
def wrWavRsv (h : Hdr) (d : Sys2Proof.Data) (s : State) : State × Nat :=
  s.item490 h d tBlob (· == 16) false (fun s =>
    let s' := { s with wav := { s.wav with srcMask := dSub d 0 8, digMask := dSub d 8 8 } }
    if s'.fits s.md.mode then (s', eOk) else (s, eCalendarFull))

/-- WAV_RESERVATION_WRITE (R387). -/
def execWavReservationWrite (h : Hdr) (d : Sys2Proof.Data) (s : State) : Host.Outcome State Fault Refusal :=
  .next (s.hostItem (.wavReservationWrite h d) h (wrWavRsv h d))

/-- A new correction set for its half's temperature is pending on a channel (R388): a half applies at once where nothing uses it. -/
def State.wavPend (s : State) (w : Nat) : State :=
  let t := s.halfTemp (w / 32)
  let src := s.wavBit F.WAV_STATE_connected w
  let dig := s.capturing w
  let s := s.modWav w (fun x => { x with pendSrc := some t, pendDig := some t })
  let s := if src then s else s.wavTakeSrc w
  if dig then s else s.wavTakeDig w

/-- Whether Plumb may check a channel (R389). -/
def State.wavCheckMay (s : State) (w : Nat) : Bool :=
  s.ks.running && !s.inQuiet && s.bit F.WAV_HCTRL_plumb_en (w / 32) && !s.wavBit F.WAV_STATE_connected w &&
    !s.capturing w && (s.wavCh w).plumbRun.isNone &&
    !(s.queue (36 + w / 32)).any (fun r => r.target == w % 32 && decide (r.exec < s.now + us 20))

/-- WAV_PLUMB_CHECK (R389): `none` starts a check; a list of terms (source gain and offset, digitizer gain and offset; gains in
10⁻⁹, offsets in nV) ends it, and the Keystone judges it once it is back from an outage (R25). An abandoned check yields none. -/
def execWavPlumbCheck (w : Nat) (result : Option (List Int)) (s : State) : Host.Outcome State Fault Refusal :=
  if w ≥ 64 then .next s
  else
    match result with
    | none => if s.wavCheckMay w then .next (s.modWav w (fun x => { x with plumbRun := some s.tb.loc })) else .next s
    | some terms =>
      if s.ks.outage ∨ (s.wavCh w).plumbRun.isNone then .next s
      else
        let rng := s.wavAct F.WAV_CFG_dig_range w
        let tol : List Int := [20000, 50000, 20000, if rng = 1 then 5000 else 30000]
        let near := fun (a b t : Int) => decide ((a - b).natAbs ≤ t.toNat)
        let ok := (List.range 4).all (fun k =>
          let v := terms[k]?.getD 0
          let t := tol[k]?.getD 0
          let f := Config.factoryWav s.calData w rng k
          near v f (4 * t) && near v ((Tbl.find (s.wavCh w).plumbVals (4 * rng + k)).getD f) t)
        let s := s.modWav w (fun x => { x with plumbRun := none })
        if ok && terms.length == 4 then
          let s := s.modWav w (fun x => { x with
            plumbAt := some s.now
            plumbVals := (List.range 4).foldl (fun (t : Tbl Int) k => Tbl.put t (4 * rng + k) (terms[k]?.getD 0)) x.plumbVals })
          .next (s.wavPend w)
        else
          let s := s.modWav w (fun x => { x with plumbRejects := x.plumbRejects + 1 })
          let s := s.setBit F.WAV_HSTATUS_plumb_reject (w / 32) 0 true
          .next (s.report 55 sevAdvisory (detail clsWave w))

/-- Parks a channel (R390). -/
def State.wavPark (s : State) (w : Nat) : State := (s.endCapture w).wavOpen w
/-- Parks a half. -/
def State.wavParkHalf (s : State) (hf : Nat) : State := (List.range 32).foldl (fun s n => s.wavPark (32 * hf + n)) s
/-- Parks every channel without a ramp. -/
def State.wavParkAll (s : State) : State := (s.wavParkHalf 0).wavParkHalf 1

/-- The ramp of an entry to Safe (R137, R390): 1 V/µs to 0 V, then the switch opens. -/
def State.wavSafe (s : State) (w : Nat) : State :=
  let s := s.endCapture w
  if s.wavBit F.WAV_STATE_connected w then
    (s.setWavBit F.WAV_STATE_playing w false).modWav w (fun x => { x with frozen := true, toZero := true, openAfter := true, safeRamp := true })
  else s.wavOpen w

/-- A derated channel (R391). -/
def State.wavDerate (s : State) (w : Nat) : State := ((s.wavPark w).setWavBit F.WAV_STATE_derated w true).markWav w mkDerated

/-- OD 0x480F.nn. -/
def wrWavRestore (h : Hdr) (w : Nat) (d : Sys2Proof.Data) (s : State) : State × Nat :=
  s.item490 h d tBool anyLen false (fun s => (if dFlag d then s.setWavBit F.WAV_STATE_derated w false else s, eOk))

/-- WAV_RESTORE (R391). -/
def execWavRestore (h : Hdr) (d : Sys2Proof.Data) (w : Nat) (s : State) : Host.Outcome State Fault Refusal :=
  if w ≥ 64 then .next s else .next (s.hostItem (.wavRestore h d w) h (wrWavRestore h w d))

/-- OD 0x480B.nn: the envelope, rounded to the inside in mV (R392). -/
def wrWavEnv (h : Hdr) (w : Nat) (d : Sys2Proof.Data) (s : State) : State × Nat :=
  s.item490 h d tBlob (· == 16) false (fun s =>
    let lo := clampInt (-32768) 32767 (ceilDivInt (toSigned 64 (dSub d 0 8)) 1000000)
    let hi := clampInt (-32768) 32767 (toSigned 64 (dSub d 8 8) / 1000000)
    let s := s.setFld F.WAV_ENV_vmin_mv (w / 32) (w % 32) (ofSigned 16 lo)
    let s := s.setFld F.WAV_ENV_vmax_mv (w / 32) (w % 32) (ofSigned 16 hi)
    (s.storeOd 0x480B w d.bytes, eOk))

/-- WAV_ENVELOPE_WRITE (R392). -/
def execWavEnvelopeWrite (h : Hdr) (d : Sys2Proof.Data) (w : Nat) (s : State) : Host.Outcome State Fault Refusal :=
  if w ≥ 64 then .next s else .next (s.hostItem (.wavEnvelopeWrite h d w) h (wrWavEnv h w d))

/-- A voltage as a source code (R371). -/
def wavCode (lo hi : Int) (nv : Int) : Int := clampInt lo hi (nearDiv (nv * 524288) 10000000000)

/-- OD 0x4801 to 0x4809: a staged setting of a channel. -/
def wrWavSetting (h : Hdr) (fn w : Nat) (d : Sys2Proof.Data) (s : State) : State × Nat :=
  let i := w / 32
  let n := w % 32
  let rate := fun (k : Nat) => min 16777215 (dSub d k 4)
  match fn with
  | 1 => s.item490 h d tU32 anyLen false (fun s =>
      ([F.WAV_CFG_src_en, F.WAV_CFG_dig_en, F.WAV_CFG_kind, F.WAV_CFG_buf_mode, F.WAV_CFG_dig_in, F.WAV_CFG_dig_range, F.WAV_CFG_dig_filt,
        F.WAV_CFG_reduce].foldl (fun s f => s.setFld f i n (dNat d / 2 ^ f.lo)) s, eOk))
  | 2 => s.item490 h d tU64 anyLen false (fun s =>
      ((s.setFld F.WAV_PINC_LO_inc i n (dNat d)).setFld F.WAV_PINC_HI_inc i n (dNat d / 4294967296), eOk))
  | 3 => s.item490 h d tU16 anyLen false (fun s => (s.setFld F.WAV_PINC_HI_pofs i n (dNat d), eOk))
  | 4 => s.item490 h d tI64 anyLen false (fun s => (s.setFld F.WAV_AMP_code i n (wavCode 0 1048575 (dInt d)).toNat, eOk))
  | 5 => s.item490 h d tI64 anyLen false (fun s => (s.setFld F.WAV_OFS_code i n (ofSigned 20 (wavCode (-524288) 524287 (dInt d))), eOk))
  | 6 => s.item490 h d tBlob (· == 8) false (fun s => ((s.setFld F.WAV_SRATE_rate i n (rate 0)).setFld F.WAV_DRATE_rate i n (rate 4), eOk))
  | 7 => s.item490 h d tBlob (· == 12) false (fun s =>
      ((s.setFld F.WAV_SLEW_STEP_code i n (wavCode 0 524287 (toSigned 64 (dSub d 0 8))).toNat).setFld F.WAV_SLEW_RATE_rate i n
        (min 67108863 (dSub d 8 4)), eOk))
  | 8 => s.item490 h d tU32 anyLen false (fun s => (s.setFld F.WAV_CAPLEN_samples i n (dNat d), eOk))
  | _ => s.item490 h d tBlob (· == 16) false (fun s =>
      let s := (s.setFld F.WAV_BUF_FIRST_lines i n (dSub d 0 4)).setFld F.WAV_BUF_LEN_lines i n (dSub d 4 4)
      (s.setFld F.WAV_BUF_WR_index i n (dSub d 8 4), eOk))

end Sys2Proof.Machine
end

