-- ==== Sys2Proof/Machine/Modes.lean ====
section
/-! DEFINITION. Operating modes: the mode-change command, the change at T, and the entry to Safe (R121 to R140). -/

namespace Sys2Proof.Machine

/-! ### Safe (R137 to R140) -/

/-- The park sequence of R137, with streams ended (R234) and every unit disarmed (R413). The ramps of SMUs and
waveform channels run on from here (R137, R390). -/
def State.parkOutputs (s : State) : State :=
  let s := (List.range 32).foldl (fun s c => if s.streaming c then s.stopStream c else s) s
  let s := s.serSafe.disarmAll.parkPins
  let s := { s with
    acq := { s.acq with balls := [] }
    pat := { s.pat with marker := s.pat.marker.map (fun (e : Nat × MarkerBall) => (e.1, { e.2 with high := false, due := [] })) } }
  let s := s.smuRampAll.flnStopAll
  (List.range 64).foldl (fun s w => s.wavSafe w) s

/-- New vendor microcode waits for an entry to Safe (R303). -/
def State.takeVendor (s : State) : State :=
  match s.tr.vendorPend with
  | none => s
  | some v => ({ s with tr := { s.tr with vendorRelease := v, vendorPend := none } }).loadVendor v

/-- A calibration run ends without its class (R548). -/
def State.calAbort (s : State) : State :=
  match s.cal.run with
  | none => s
  | some r =>
    let s := { s with cal := { s.cal with run := none, lastRun := (r.cls, 2, s.now) } }
    s.setBit F.CAL_STATUS_run_busy 0 0 false

/-- The mode in force changes at domain instant `t` (R131, Table 4.6). -/
def State.changeMode (s : State) (m : Mode) (t cause : Nat) : State :=
  let old : Mode := s.md.mode
  let s := { s with md := { s.md with
    mode := m
    settle := some (t, t + settleTicks old m)
    changes := if m == old then s.md.changes else s.md.changes + 1
    flnFrom := if m = Mode.lineRate ∧ old ≠ Mode.lineRate then s.tb.loc + ms 2 else s.md.flnFrom } }
  let s := s.setFld F.TLY_BASE_base_mw 0 0 (s.baseOf m)
  let s := if old == .lineRate && m != .lineRate then s.flnStopAll else s
  let s := if old == .survey && m != .survey then s.calAbort else s
  if m == .safe then
    ({ s with md := { s.md with safeCause := cause, safeAt := t } }).parkOutputs.takeVendor
  else if old == .safe then
    (List.range 256).foldl (fun s k => if (s.thr k).holds.contains .safe then s.dropHold k .safe else s) s
  else s

/-! ### The command (R127 to R133) -/

/-- Table 4.5. -/
def mayChange (a b : Mode) : Bool :=
  match a, b with
  | .safe, .safe => false
  | .safe, _ => true
  | .survey, b => b == .safe
  | a, b => b != .survey && a != b

/-- The committed steps that have not ended (R78). -/
def State.commSteps (s : State) : List Step :=
  s.seq.th.flatMap (fun (e : Nat × Thread) => (e.2.step.toList ++ e.2.nxt).filter (fun x => x.st == .committed || x.st == .launched))
/-- Whether an open-ended committed step is left (R128). -/
def State.openEnded (s : State) : Bool := s.commSteps.any (fun x => x.d.isNone)
/-- The end of the latest committed step. -/
def State.lastEnd (s : State) : Nat := s.commSteps.foldl (fun m x => max m (x.end?.getD 0)) 0
/-- Whether a committed step's interval contains an instant. -/
def State.committedAt (s : State) (t : Nat) : Bool :=
  s.commSteps.any (fun x => decide (x.t0 ≤ t) && (match x.end? with | none => true | some e => decide (t < e)))

/-- A pending Safe change receives its T once no open-ended committed step is left, the last having ended now (R128). -/
def State.safeTSet (s : State) : State :=
  if s.openEnded then s
  else
    { s with md := { s.md with pend := s.md.pend.map (fun (p : ModePending) =>
        if p.t.isNone then { p with t := some (max (max (s.now + us 100) (p.accepted + us 100)) s.lastEnd) } else p) } }

/-- The checks of R128, with those of R532, R542, R543 and R580; `from_` is the mode the change leaves. -/
def State.modeCheck (s : State) (from_ dest : Mode) (t : Option Nat) (zero : Bool) : Nat :=
  if mayChange from_ dest = false then eModeTransition
  else if !s.md.pend.isEmpty && dest != .safe then eModePending
  else if (zero && dest != .safe) || (match t with | some t => decide (t < s.now + us 100) | none => false) then eHorizonPassed
  else if (match t with | some t => s.committedAt t | none => false) then eModeConflict
  else if s.cal.commit.isSome && (from_ == .safe || from_ == .survey) && dest != .safe && dest != .survey then eModeConflict
  else if (from_ == .safe || from_ == .survey) && (match s.bist.run with | some r => decide (r.kind ≤ 1) | none => false) then eBusyBist
  else if from_ == .safe && (List.range 63).any (fun k => s.srcSet k && s.fld F.FC_SRC_sev_max 0 k == 3) then eFaultActive
  else if from_ == .safe && (List.range 4).any (fun n => !(Tbl.get s.bist.drams {} n).trained) then eFaultActive
  else if dest != .safe && dest != .survey && s.bit F.CAL_STATUS_absent then eFaultActive
  else if s.fitsMode dest = false then eCalendarFull
  else eOk

/-- OD 0x1101.00 (R128, R132). While a change that can no longer be withdrawn is pending, a command's transition is judged from the mode that change
leads to (DEDUCED from R132, where Safe follows it; log entry 50). -/
def wrModeChange (h : Hdr) (d : Sys2Proof.Data) (s : State) : State × Nat :=
  s.item490 h d tBlob (fun n => n == 11) false (fun s =>
    match modeOf (dSub d 0 1) with
    | none => (s, eModeTransition)
    | some m =>
      let t0 := timeTicks (d.bytes.drop 1)
      -- a command to Safe cancels a pending change whose record has not been entered
      let keep := s.md.pend.filter (fun (p : ModePending) => p.entered || (match p.t with | some t => decide (t < s.now + us 2) | none => false))
      let s1 := if m == .safe then { s with md := { s.md with pend := keep } } else s
      let t : Option Nat := if t0 = 0 then (if s1.openEnded then none else some (max (s1.now + us 100) s1.lastEnd)) else some t0
      let from_ := match s1.md.pend.getLast? with | some p => p.target | none => s1.md.mode
      let e := s1.modeCheck from_ m t (t0 == 0)
      if e = eOk then ({ s1 with md := { s1.md with pend := s1.md.pend ++ [⟨m, t, s1.now, false, false⟩] } }, eOk)
      else (s1, e))

/-- MODE_CHANGE_COMMAND (R128, R132). -/
def execModeChangeCommand (h : Hdr) (d : Sys2Proof.Data) (s : State) : Host.Outcome State Fault Refusal :=
  .next (s.hostItem (.modeChangeCommand h d) h (wrModeChange h d))

/-- The MODE_CHANGE record of the change accepted first leaves its queue and changes the mode (R54, R131); one that R53 held back is LATE. -/
def State.takeMode (s : State) (p : ModePending) (rest : List ModePending) (t : Nat) : State :=
  let mine (r : LaunchRec) : Bool := r.action == 0x04 && r.exec == t
  let r := (s.queue 39).find? mine
  let s := s.setQueue 39 ((s.queue 39).filter (fun r => !mine r))
  let s := match r with | some r => { s with lqLast := Tbl.put s.lqLast 39 (r.inst, t, r.inst != t) } | none => s
  let s := s.launchDue
  let s := ({ s with md := { s.md with pend := rest } }).changeMode p.target t 1
  match r with | some r => if r.late then s.lateRecord 39 r else s | none => s

/-- MODE_CHANGE (R54, R130, R131): the instant T of the change accepted first has come. Its record has been entered 2 µs before, unless it still
waits for a credit of its queue (R21). -/
def execModeChange (s : State) : Host.Outcome State Fault Refusal :=
  match s.md.pend with
  | [] => .next s
  | p :: _ =>
    match p.t with
    | none => .next s
    | some t =>
      let s := (s.reach (t - us 2)).modeEntry
      match s.md.pend with
      | p :: rest =>
        if !p.entered then .next s
        else .next ((s.reach (p.t.getD 0)).takeMode p rest (p.t.getD 0))
      | [] => .next s

end Sys2Proof.Machine
end

