-- ==== Sys2Proof/Machine/Faults.lean ====
section
/-! DEFINITION. The fault collector's commands, escalations and what they do: parking, derating and Safe (R513 to R526, R538). -/

namespace Sys2Proof.Machine

/-! ### Parking a site (R521) -/

/-- The outputs of a site are parked: its pins, and the shared instruments it owns (R521, step 3). -/
def State.parkSiteOutputs (s : State) (site : Nat) : State :=
  let s := (s.threadsOf site).foldl (fun s k => (s.pinsOwned k).foldl (fun s p => s.park (k / 8) p) s) s
  let s := (List.range 132).foldl (fun s m => if (s.smuCh m).owner == some site then s.smuPark m else s) s
  let s := (List.range 64).foldl (fun s w => if (s.wavCh w).owner == some site then s.wavSafe w else s) s
  (List.range 8).foldl (fun s n => if (s.lane n).owner == some site then s.flnStop n else s) s

/-- A site whose threads have all stopped and whose steps are over is parked; the stream of a derated Course ends with the last site on it
(R521, R522). -/
def State.parkDone (s : State) (site : Nat) : State :=
  if s.fc.parking.contains site && (s.threadsOf site).all (fun k => (!s.running k || (s.thr k).parked) && s.stepsOver k) then
    let s := s.parkSiteOutputs site
    let s := { s with fc := { s.fc with parking := removeNat s.fc.parking site, parked := insertAsc s.fc.parked site } }
    s.fc.derated.foldl (fun s c =>
      if s.streaming c && (List.range 8).all (fun t => !s.fc.parking.contains (s.siteOf (8 * c + t))) then s.stopStream c else s) s
  else s

/-- A thread stops, held, with its site parked (R521, step 2). -/
def State.parkThread (s : State) (k : Nat) : State :=
  ((s.modThr k (fun x => { x with parked := true })).setTstate k stHeld).parkDone (s.siteOf k)

/-- A site is to be parked: a thread that holds at a boundary stops there, the others at their next. -/
def State.parkSite (s : State) (site : Nat) : State :=
  if s.fc.parked.contains site then s
  else
    let s := { s with fc := { s.fc with parking := insertAsc s.fc.parking site } }
    let s := (s.threadsOf site).foldl (fun s k => if s.tstate k == stHeld then s.parkThread k else s) s
    s.parkDone site

/-- Derates a Course (R522). -/
def State.derateCourse (s : State) (c : Nat) : State :=
  let s := { s with fc := { s.fc with derated := insertAsc s.fc.derated c } }
  let sites := ((List.range 8).map (fun t => s.siteOf (8 * c + t))).eraseDups
  let s := sites.foldl (fun s x => s.parkSite x) s
  if s.streaming c && sites.all (fun x => !s.fc.parking.contains x) then s.stopStream c else s

/-! ### Safe by escalation (R138) -/

/-- Abandons a thread's steps: those not over are withdrawn with their cost, and the routine in progress is discarded. -/
def State.abandonThread (s : State) (k : Nat) : State :=
  let x := s.thr k
  let live := !x.nxt.isEmpty || (match x.step with | some a => a.st == .launched | none => false)
  let bad (a : Step) : Step := { a with st := .withdrawn, complete := true, marks := a.marks ||| withInvalid mkAborted, waiting := [] }
  let rec_ := (x.cur).map bad
  let s := if live && s.isHome k then s.postFor k kAbandon rec_ else s
  let s := s.ledgerCut k s.now
  let s := (s.dropStaged k).releaseCtx k
  let s := s.modThr k (fun x => { x with
    step := if live then rec_ else x.step, nxt := [], m := x.com, outbox := [], phase := .idle, dec := false, pcSet := false
    waitSince := none, waitUntil := none, service := none, stall := none, ctxf := none, decided := none
    asked := false, urgent := false, needT0 := false, issued := [], link := [] })
  if s.tstate k == stWaiting then s.setTstate k stRunning else s

/-- Every launch queue is flushed, every step abandoned and every site's current result marked INVALID (R118, R138). -/
def State.abandonAll (s : State) : State :=
  let s := { s with lq := [] }
  let live := fun (k : Nat) => !(s.thr k).nxt.isEmpty || (match (s.thr k).step with | some a => a.st == .launched | none => false)
  let hit := (List.range 256).filter (fun k => s.isHome k && live k)
  let s := (List.range 256).foldl (fun s k => if s.isHome k then s.markSite (s.siteOf k) mkInvalid else s) s
  let s := hit.foldl (fun s k => s.markSite (s.siteOf k) mkAborted) s
  let s := { s with rk := { s.rk with inbox := [] } }
  (s.seq.th.map (·.1)).foldl (fun s k => s.abandonThread k) s

/-- Enters Safe at once (R138); `cause` is that of OD 0x1103.00. -/
def State.escalateSafe (s : State) (cause : Nat) : State :=
  let s := s.abandonAll.bistHalt
  ({ s with md := { s.md with pend := [] } }).changeMode .safe s.now cause

/-! ### Escalations (R519, R520) -/

/-- The action of Table 18.3. -/
def State.escalate (s : State) (e : EscEntry) : State :=
  let cls := e.detail / 4096
  let obj := e.detail % 4096
  if e.sev = 3 then s.escalateSafe 2
  else if e.sev = 2 then if cls = clsSite ∧ obj < 256 then s.parkSite obj else s
  else if cls = clsPin && decide (e.src < 32) then
    if obj < 1024 && !s.bit F.PCH_STATUS_spare_busy (obj / 32) && !s.repairing (obj / 32) && !s.fastSet (obj / 32) then
      s.beginRepair (obj / 32) (obj % 32) false
    else if obj < 1024 then s.derateChan (obj / 32) (obj % 32)
    else if obj < 1056 then s.derateChan (obj % 32) 32
    else s
  else if cls = clsSmu && decide (obj < 132) then s.smuEscalate obj
  else if cls = clsWave && decide (obj < 64) then s.wavDerate obj
  else if cls = clsLane && decide (obj < 8) then s.flnDerate obj
  else if cls = clsBlock && decide (e.src < 32) then s.derateCourse e.src
  else s

/-- The escalation entry that expires first. -/
def nextEsc (l : List EscEntry) : Option EscEntry :=
  l.foldl (fun a e => match a with | some b => if e.expiry < b.expiry then some e else a | none => some e) none

/-- ESCALATION_EXPIRY (R520): the oldest entry expires. -/
def execEscalationExpiry (s : State) : Host.Outcome State Fault Refusal :=
  match nextEsc s.fc.esc with
  | none => .next s
  | some e =>
    let s := s.reachLoc e.expiry
    let s := { s with fc := { s.fc with esc := s.fc.esc.erase e } }
    if s.srcSet e.src then
      let s := s.setBit F.FC_SRC_esc_done 0 e.src true
      let s := s.logFault 1 e.src e.sev e.detail e.inj.toNat (rowArg e.detail e.row)
      -- in Thermal Halt nothing is left to act on (R118, R139)
      .next (if s.thm.halted then s else s.escalate e)
    else .next s

/-! ### Reports and clears (R515 to R517, R524, R525) -/

/-- FAULT_REPORT (R515): a source reports a fault; `row` is the full row address of a DRAM fault. A Site-fatal report always carries a detail of
class site (R513). -/
def execFaultReport (src sev det row : Nat) (s : State) : Host.Outcome State Fault Refusal :=
  if 3 < sev ∨ (sev = 2 ∧ det / 4096 % 16 ≠ clsSite) then .next s else .next (s.reportAt src sev (det % 65536) false true 0 row)

/-- FIRST_FAULT_WINDOW_CLOSE (R516): 2.6 ns after its opening the window has closed; when it does so between 2.0 ns and 2.6 ns shows in which
reports are candidates alone, a free draw for each. -/
def execFirstFaultWindowClose (s : State) : Host.Outcome State Fault Refusal :=
  if s.fc.winAt.isSome then .next ((s.reachLoc (s.fc.winLoc + 10649)).closeWindow) else .next s

/-- OD 0x9003.00 (R538). -/
def wrFaultClear (h : Hdr) (d : Sys2Proof.Data) (s : State) : State × Nat :=
  s.item490 h d tU64 anyLen false (fun s => (s.clearSources (dNat d), eOk))

/-- FAULT_CLEAR (R517): OD 0x9003.00 or a write of FC_STATUS. -/
def execFaultClear (path : Path) (mask : Nat) (s : State) : Host.Outcome State Fault Refusal :=
  .next (s.viaPath (.faultClear path mask) path wrFaultClear (fun s => s.clearSources mask))

/-- Clears the first-fault capture and re-arms it within 40 ns (R517); a capture of this very instant stays (R509). -/
def State.rearmFirst (s : State) : State :=
  if s.heldBit F.FC_FIRST_valid 0 0 0 then s
  else
  let (d, s) := s.firstDue.draw 163841
  let s := s.setBit F.FC_FIRST_valid 0 0 false
  let s := s.setBit F.FC_FIRST_inj 0 0 false
  let s := s.setBit F.FC_FIRST_inj_masked 0 0 false
  let s := s.setFld F.FC_FIRST_sev 0 0 0
  let s := s.setFld F.FC_FIRST_src 0 0 0
  let s := s.setFld F.FC_FIRST_DET_detail 0 0 0
  { s with fc := { s.fc with firstAt := 0, firstRearm := (s.tb.loc, s.tb.loc + d) } }

/-- OD 0x9004.00. -/
def wrRearm (h : Hdr) (d : Sys2Proof.Data) (s : State) : State × Nat :=
  s.item490 h d tBool anyLen false (fun s => (if dFlag d then s.rearmFirst else s, eOk))

/-- FIRST_FAULT_REARM (R517). -/
def execFirstFaultRearm (path : Path) (s : State) : Host.Outcome State Fault Refusal :=
  .next (s.viaPath (.firstFaultRearm path) path wrRearm State.rearmFirst)

/-- Clears the reports not captured (R517), unless one comes at this very instant (R509). -/
def State.clearOvf (s : State) : State :=
  if s.heldBit F.FC_OVF_ovf 0 0 0 then s else (s.setBit F.FC_OVF_ovf 0 0 false).setFld F.FC_OVF_count 0 0 0

/-- FC_OVF_CLEAR (R517): FC_OVF.ovf is written 1. -/
def execFcOvfClear (s : State) : Host.Outcome State Fault Refusal := .next s.clearOvf

/-- Presents the report FC_INJ describes (R524). -/
def State.injectReg (s : State) : State :=
  s.reportAt (s.fld F.FC_INJ_src) (s.fld F.FC_INJ_sev) (s.fld F.FC_INJ_detail) true (s.bit F.FC_INJ_inj_esc) 0

/-- OD 0x9008.00. -/
def wrInject (h : Hdr) (d : Sys2Proof.Data) (s : State) : State × Nat :=
  s.item490 h d tBlob (fun n => n == 5) false (fun s =>
    if 63 < dSub d 0 1 ∨ 3 < dSub d 1 1 then s.hostErr
    else (s.reportAt (dSub d 0 1) (dSub d 1 1) (dSub d 2 2) true (decide (dSub d 4 1 ≠ 0)) 0, eOk))

/-- FAULT_INJECT (R524). -/
def execFaultInject (path : Path) (s : State) : Host.Outcome State Fault Refusal :=
  .next (s.viaPath (.faultInject path) path wrInject State.injectReg)

/-- COLLECTOR_SELF_CHECK (R524): every 10 s each source path is checked on its shadow latch; `failing` are the paths that fail. -/
def execCollectorSelfCheck (failing : List Nat) (s : State) : Host.Outcome State Fault Refusal :=
  let s := s.nextLoc (ms 10000)
  let s := { s with fc := { s.fc with shadowBad := failing } }
  .next (failing.foldl (fun s k => if k < 64 then s.report 62 sevDegraded (detail clsSource k) else s) s)

/-! ### The log, the escalation time and the restore commands -/

/-- FAULT_LOG_WRITE (R526): the Keystone writes the oldest record that waits. -/
def execFaultLogWrite (s : State) : Host.Outcome State Fault Refusal :=
  if s.ks.running && !s.ks.outage then .next s.flushLog else .next s

/-- OD 0x9005.00 (R538): rounded up to whole microseconds and clamped as R519 states. -/
def wrEscTime (h : Hdr) (d : Sys2Proof.Data) (s : State) : State × Nat :=
  s.item490 h d tU64 anyLen false (fun s =>
    let u := clampNat 100 1000000 (ceilDiv (dNat d) 1000000)
    ((s.storeOd 0x9005 0 (toBe 8 (ceilDiv (dNat d) 1000000 * 1000000))).setFld F.FC_ESC_esc_us 0 0 u, eOk))

/-- ESCALATION_TIME_WRITE (R538). -/
def execEscalationTimeWrite (h : Hdr) (d : Sys2Proof.Data) (s : State) : Host.Outcome State Fault Refusal :=
  .next (s.hostItem (.escalationTimeWrite h d) h (wrEscTime h d))

/-- Releases a parked site's threads (R523). -/
def State.unparkThreads (s : State) (site : Nat) : State :=
  (s.threadsOf site).foldl (fun s k =>
    if !(s.thr k).parked then s
    else
      let s := s.modThr k (fun x => { x with parked := false })
      if s.tstate k == stHeld && (s.thr k).holds.isEmpty then s.setTstate k stRunning else s) s

/-- OD 0x9031.ss: the source is the site's home Course. -/
def wrRestoreSite (h : Hdr) (site : Nat) (d : Sys2Proof.Data) (s : State) : State × Nat :=
  s.item490 h d tBool anyLen false (fun s =>
    if !dFlag d ∨ !(s.fc.parked.contains site || s.fc.parking.contains site) then (s, eOk)
    else if s.srcSet ((s.homeCourse site).getD (site / 8)) then (s, eFaultActive)
    else
      (({ s with fc := { s.fc with parked := removeNat s.fc.parked site, parking := removeNat s.fc.parking site } }).unparkThreads site, eOk))

/-- RESTORE_SITE (R523). -/
def execRestoreSite (h : Hdr) (d : Sys2Proof.Data) (site : Nat) (s : State) : Host.Outcome State Fault Refusal :=
  if 256 ≤ site then .next s else .next (s.hostItem (.restoreSite h d site) h (wrRestoreSite h site d))

/-- A derated Course's bits are cleared; its threads stay stopped (R523). With them go the parked bits of its sites, whose threads elsewhere are
released (DEDUCED, log entry 59: R522 parked them). -/
def State.undeRate (s : State) (c : Nat) : State :=
  let sites := ((List.range 8).map (fun t => s.siteOf (8 * c + t))).eraseDups
  let s := { s with fc := { s.fc with
    derated := removeNat s.fc.derated c
    parked := s.fc.parked.filter (fun x => !sites.contains x)
    parking := s.fc.parking.filter (fun x => !sites.contains x) } }
  let s := (List.range 8).foldl (fun s t =>
    let k := 8 * c + t
    if (s.thr k).parked then (s.modThr k (fun x => { x with parked := false, holds := [] })).setTstate k stStopped else s) s
  sites.foldl (fun s x => s.unparkThreads x) s

/-- OD 0x9032.cc. -/
def wrRestoreCourse (h : Hdr) (c : Nat) (d : Sys2Proof.Data) (s : State) : State × Nat :=
  s.item490 h d tBool anyLen false (fun s =>
    if !dFlag d ∨ !s.fc.derated.contains c then (s, eOk)
    else if s.srcSet c then (s, eFaultActive)
    else (s.undeRate c, eOk))

/-- RESTORE_COURSE (R523). -/
def execRestoreCourse (h : Hdr) (d : Sys2Proof.Data) (c : Nat) (s : State) : Host.Outcome State Fault Refusal :=
  if 32 ≤ c then .next s else .next (s.hostItem (.restoreCourse h d c) h (wrRestoreCourse h c d))

end Sys2Proof.Machine
end

