-- ==== Sys2Proof/Machine/Frames.lean ====
section
/-! DEFINITION. The bits of BOND line frames and the bytes of bond messages (R41, R42, R65; Tables 2.2, 2.3 and 2.9). -/

namespace Sys2Proof.Machine

/-! ### CRC-8, polynomial x⁸ + x² + x + 1 -/

/-- Takes one more bit into a CRC-8. -/
def crc8Bit (c : Nat) (b : Bool) : Nat := if c.testBit 7 != b then (2 * c % 256) ^^^ 7 else 2 * c % 256
/-- Takes the low `n` bits of `x`, most significant first, into a CRC-8. -/
def crc8 : (n x c : Nat) → Nat
  | 0, _, c => c
  | n + 1, x, c => crc8 n x (crc8Bit c (x.testBit n))

/-! ### Line frames (Table 2.2): bit k of a payload is bit 8 + k of the frame -/

/-- A frame of a type with a 48-bit payload. -/
def lineWord (kind payload : Nat) : Nat :=
  let body := kind % 16 * 2 ^ 48 + payload % 2 ^ 48
  0b1011 * 2 ^ 60 + body * 256 + crc8 52 body 0
/-- Whether a frame's preamble and CRC are good (R42). -/
def goodLine (w : Nat) : Bool := bitsAt w 63 60 == 0b1011 && crc8 52 (bitsAt w 59 8) 0 == bitsAt w 7 0
/-- A frame's type. -/
def lineKind (w : Nat) : Nat := bitsAt w 59 56

/-- Type codes of Table 2.3, which the bond messages share. -/
def Frame.kind : Frame → Nat
  | .presence .. => 0x1 | .defer .. => 0x2 | .split .. => 0x3 | .beat .. => 0x4 | .memberBeat .. => 0x5 | .time .. => 0x6
  | .align .. => 0x7 | .trim .. => 0x8 | .calReport .. => 0x9 | .join .. => 0xA | .ready .. => 0xB

/-- The payload of a frame that names a bond and an instant. -/
def instPayload (bond inst : Nat) : Nat := bond % 65536 * 2 ^ 32 + inst / 4096 % 2 ^ 32

/-- A frame's payload (Table 2.3), reserved bits zero. -/
def Frame.payload : Frame → Nat
  | .presence chip pos mode tstate unassigned sync =>
    chip % 262144 * 2 ^ 30 + pos % 64 * 2 ^ 24 + mode % 8 * 2 ^ 21 + tstate % 8 * 2 ^ 18 + unassigned.toNat * 2 ^ 17 + sync.toNat * 2 ^ 16
  | .defer bond inst => instPayload bond inst
  | .split bond inst => instPayload bond inst
  | .beat bond inst => instPayload bond inst
  | .memberBeat bond chip => bond % 65536 * 2 ^ 32 + chip % 262144 * 2 ^ 14
  | .time n unlocked holdover => n % 2 ^ 34 * 2 ^ 14 + unlocked.toNat * 2 ^ 13 + holdover.toNat * 2 ^ 12
  | .align phi => phi / 4096 % 2 ^ 30 * 2 ^ 18 + phi % 4096 * 2 ^ 6
  | .trim t => ofSigned 32 t * 2 ^ 16
  | .calReport pos meas => pos % 64 * 2 ^ 42 + ofSigned 24 meas * 2 ^ 18
  | .join bond chip tstate sync _ => bond % 65536 * 2 ^ 32 + chip % 262144 * 2 ^ 14 + tstate % 8 * 2 ^ 11 + sync.toNat * 2 ^ 10
  | .ready bond inst => instPayload bond inst

/-- A frame as it goes on a line. -/
def Frame.word (f : Frame) : Nat := lineWord f.kind f.payload

/-- A frame as a receiver has it from its line: `check` is the preamble in bits [11:8] and the CRC-8 in bits [7:0], as they came. -/
def Frame.heard (f : Frame) (check : Nat) : Nat :=
  check / 256 % 16 * 2 ^ 60 + (f.kind % 16 * 2 ^ 48 + f.payload % 2 ^ 48) * 256 + check % 256
/-- The preamble and CRC-8 that a frame is sent with. -/
def Frame.check (f : Frame) : Nat := 0b1011 * 256 + crc8 52 (f.kind % 16 * 2 ^ 48 + f.payload % 2 ^ 48) 0

/-- In how many consecutive cycles a frame is sent (R46). -/
def Frame.copies : Frame → Nat
  | .defer .. => 3 | .split .. => 3 | .beat .. => 3 | .ready .. => 3
  | _ => 1

/-! ### Bond messages (Table 2.9) -/

/-- UDP port of bond messages. -/
def bondPort : Nat := 48293

/-- The multicast group of a bond: ff15::4442:b, or 239.192.bh.bl. Which of the two IP versions a port uses is left open (log entry 39). -/
def bondGroup (port id : Nat) : List Byte :=
  if Config.openNat 39 [port] % 2 = 0 then toBe 2 0xFF15 ++ List.replicate 10 0 ++ toBe 2 0x4442 ++ toBe 2 id
  else [239, 192] ++ toBe 2 id

/-- The bond a frame names. -/
def Frame.bond : Frame → Nat
  | .defer b _ => b | .split b _ => b | .beat b _ => b | .memberBeat b _ => b | .join b _ _ _ _ => b | .ready b _ => b
  | _ => 0

/-- The instant of a message: t0, the grant horizon or the activation instant; a MEMBER_BEAT has none. -/
def Frame.inst : Frame → Nat
  | .defer _ t => t | .split _ t => t | .beat _ t => t | .join _ _ _ _ t => t | .ready _ t => t
  | _ => 0

/-- What a JOIN message's flags carry beside bit 0. -/
def Frame.joinFlags : Frame → Nat
  | .join _ _ tstate sync _ => tstate % 8 * 2 + sync.toNat * 16
  | _ => 0

/-- A frame as a message's 32 bytes: sent from a port at `tx`, under a sequence number. -/
def Frame.message (f : Frame) (port sender tx seq : Nat) : List Byte :=
  toBe 2 0x4442 ++ [1, BitVec.ofNat 8 f.kind] ++ toBe 2 f.bond ++ toBe 3 (sender % 262144) ++
    [BitVec.ofNat 8 (port % 2 + f.joinFlags)] ++ time80 f.inst ++ time80 tx ++ toBe 2 seq

/-- Bytes of a message as a number. -/
def msgNat (m : List Byte) (off n : Nat) : Nat := beNat ((m.drop off).take n)
/-- Whether bytes are a bond message: 32 of them, with the magic and the version of Table 2.9. -/
def goodMsg (m : List Byte) : Bool := m.length == 32 && msgNat m 0 2 == 0x4442 && msgNat m 2 1 == 1

/-! ### ADP messages (Tables 16.2 and 16.6) -/

/-- A control response as its datagram's payload (Table 16.2). -/
def Response.bytes (r : Response) : List Byte :=
  toBe 2 0x4144 ++ [1, BitVec.ofNat 8 (r.kind % 128 + 128)] ++ toBe 4 r.session ++ toBe 4 r.seq ++ toBe 2 r.status ++
    [BitVec.ofNat 8 (r.beyond.toNat + 2 * r.replay.toNat + 4 * r.late.toNat), BitVec.ofNat 8 r.items] ++ r.body.flatten

/-- A bulk header (Table 16.6). -/
def bulkHeader (kind session transfer frame offset len flags : Nat) : List Byte :=
  toBe 2 0x4142 ++ [1, BitVec.ofNat 8 kind] ++ toBe 4 session ++ toBe 4 transfer ++ toBe 4 frame ++ toBe 8 offset ++ toBe 2 len ++
    [BitVec.ofNat 8 flags] ++ List.replicate 5 0

/-- An ACK's bitmap: bit i, with bit 7 of its first byte for i = 0, says that frame next + 1 + i has arrived. -/
def ackBitmap (l : List Nat) : List Byte :=
  (List.range 128).map (fun j => BitVec.ofNat 8 ((List.range 8).foldl (fun a i => a + if l.contains (8 * j + i) then 2 ^ (7 - i) else 0) 0))

/-- The payload of the datagram that a message of the control, bulk or telemetry port goes out in. -/
def OutMsg.payload : OutMsg → List Byte
  | .response r => r.bytes
  | .telemetry _ _ _ _ body => body
  | .bulkData _ session transfer frame offset last data =>
    bulkHeader 1 session transfer frame offset data.length last.toNat ++ data
  | .bulkAck _ session transfer next bitmap => bulkHeader 2 session transfer next 0 0 0 ++ ackBitmap bitmap
  | .bulkEnd _ session transfer frames bytes status => bulkHeader 3 session transfer frames bytes status 0
  | .bondMsg _ _ _ msg => msg
  | .line _ _ _ => []
  | .lldp _ _ _ _ _ _ => []
  | .delayReq _ => []

/-! ### What a receiver reads -/

/-- What a bond frame or message says to its receiver. -/
structure BondRx where
  bond : Nat
  inst : Nat          -- on the lines its low 32 bits of nanoseconds, in a message whole ticks
  chip : Nat
  tstate : Nat
  sync : Bool
deriving DecidableEq, Repr

/-- Reads a bond frame's word: a JOIN and a MEMBER_BEAT name a chip, the others an instant (Table 2.3). -/
def rxLine (w : Nat) : BondRx :=
  ⟨bitsAt w 55 40, bitsAt w 39 8, bitsAt w 39 22, bitsAt w 21 19, w.testBit 18⟩

/-- Reads a bond message: the chip is its sender (Table 2.9). -/
def rxMsg (m : List Byte) : BondRx :=
  ⟨msgNat m 4 2, timeTicks ((m.drop 10).take 10), msgNat m 6 3 % 262144, msgNat m 9 1 / 2 % 8, (msgNat m 9 1).testBit 4⟩

end Sys2Proof.Machine
end

