-- ==== Sys2Proof/Machine/Shift.lean ====
section
/-! DEFINITION. What moves when domain time is set at a SYNC edge: work in progress keeps its local length (R32), and on leaving
UNSET every held instant keeps its physical moment (R63). -/

namespace Sys2Proof.Machine

/-- An instant moved by a correction. -/
def mv (d : Int) (t : Nat) : Nat := (t + d).toNat
/-- An instant that may be absent, moved. -/
def mvO (d : Int) (t : Option Nat) : Option Nat := t.map (mv d)
/-- A table with every value changed. -/
def Tbl.map {α : Type} (t : Tbl α) (f : α → α) : Tbl α := List.map (fun (e : Nat × α) => (e.1, f e.2)) t

/-- An acquisition unit's running intervals moved. -/
def AcqUnit.shift (d : Int) (m : AcqUnit) : AcqUnit :=
  { m with
    arm := m.arm.map (fun x => { x with at_ := mv d x.at_ }), trig := mvO d m.trig, lastAt := mv d m.lastAt,
    firstAt := mv d m.firstAt, pre := m.pre.map (fun e => (mv d e.1, e.2)),
    hist := m.hist.map (fun e => { e with at_ := mv d e.at_ }), deadFrom := mvO d m.deadFrom,
    deadEnd := mv d m.deadEnd, holdTo := mv d m.holdTo }

/-- Intervals in progress, whose lengths are local (R32), when domain time moves by `d`. -/
def State.shiftRunning (s : State) (d : Int) : State :=
  { s with
    acq := { s.acq with
      un := Tbl.map s.acq.un (AcqUnit.shift d)
      trg := Tbl.map s.acq.trg (fun x => { x with lastEvent := mvO d x.lastEvent, lastFire := mv d x.lastFire })
      balls := Tbl.map s.acq.balls (fun x => { x with until_ := mvO d x.until_ }) }
    rk := { s.rk with inbox := s.rk.inbox.map (fun a => { a with at_ := mv d a.at_, t0 := mv d a.t0 }) }
    md := { s.md with
      settle := s.md.settle.map (fun q => (mv d q.1, mv d q.2)) }
    tb := { s.tb with booked := s.tb.booked.map (mv d), lastPresence := mvO d s.tb.lastPresence }
    fc := { s.fc with winAt := mvO d s.fc.winAt } }

/-- A step's instants moved. -/
def Step.shift (d : Int) (x : Step) : Step := { x with t0 := mv d x.t0, source := mv d x.source }
/-- A T0 in whole nanoseconds moved. -/
def mvNs (d : Int) (t : Nat) : Nat := mv d (t * 4096) / 4096

/-- Every held instant when the chip leaves UNSET (R63): launch records, admitted and committed steps, each thread's T0 and end of its
preceding admitted step. -/
def State.rebase (s : State) (d : Int) : State :=
  { s with
    lq := Tbl.map s.lq (List.map (fun r => { r with inst := mv d r.inst, exec := mv d r.exec, entered := mv d r.entered }))
    lqLast := Tbl.map s.lqLast (fun e => (mv d e.1, mv d e.2.1, e.2.2))
    tally := { s.tally with entries := s.tally.entries.map (fun e => { e with t0 := mv d e.t0, t1 := mvO d e.t1 }) }
    seq := { s.seq with th := Tbl.map s.seq.th (fun x => { x with
      step := x.step.map (Step.shift d), nxt := x.nxt.map (Step.shift d), olds := x.olds.map (Step.shift d)
      issued := x.issued.map (mvNs d)
      m := { x.m with t0 := mvNs d x.m.t0 }
      com := { x.com with t0 := mvNs d x.com.t0 }
      prevEnd := mv d x.prevEnd }) }
    md := { s.md with pend := s.md.pend.map (fun (p : ModePending) => { p with t := mvO d p.t, accepted := mv d p.accepted }) } }

end Sys2Proof.Machine
end

