-- ==== Sys2Proof/Machine/TimeBase.lean ====
section
/-! DEFINITION. Domain time, the card timekeeper, BOND line frames, skew calibration and holdover (R31 to R49, R58 to R63, R85, R87,
R465, R466, R590). -/

namespace Sys2Proof.Machine

/-- Time states of Table 2.1. -/
def tsUnset : Nat := 0
def tsCard : Nat := 1
def tsLocked : Nat := 2
def tsDomain : Nat := 3
def tsRef : Nat := 4

/-- TB_STATUS.time_state. -/
def State.timeState (s : State) : Nat := s.fld F.TB_STATUS_time_state
/-- The time state but for a loss of REFCLK: under REF_HOLDOVER, the one it will return to (R58, R60). -/
def State.domState (s : State) : Nat := if s.timeState = tsRef then s.tb.priorState else s.timeState

/-- Enters a time state; under REF_HOLDOVER it is kept for the return to REFCLK. The time in DOMAIN_HOLDOVER counts from its entry (R36). -/
def State.setDom (s : State) (st : Nat) : State :=
  let old := s.domState
  let s := if s.timeState = tsRef then { s with tb := { s.tb with priorState := st } } else s.setFld F.TB_STATUS_time_state 0 0 st
  if st = tsDomain then
    if old = tsDomain then s
    else ({ s with tb := { s.tb with holdoverAt := some s.tb.loc, limitPassed := false } }).setBit F.TB_STATUS_holdover 0 0 true
  else { s with tb := { s.tb with holdoverAt := none, limitPassed := false } }

/-- A chip in CARD or LOCKED enters DOMAIN_HOLDOVER; in UNSET it stays UNSET (R34, R85). -/
def State.loseLeader (s : State) : State :=
  if s.domState = tsCard ∨ s.domState = tsLocked then s.setDom tsDomain else s

/-- A BOND frame with a bad preamble or CRC (R42). -/
def State.badFrame (s : State) : State :=
  ({ s with tb := { s.tb with crcCount := s.tb.crcCount + 1, crcSinceEdge := true } }).setBit F.TB_STATUS_frame_crc 0 0 true

/-- Restarts the initial skew calibration (R48). That cal_valid reads 0 until its end, not only after lines_en is set again (R85) but at
every restart, is the model's reading (DEDUCED, log entry 40). -/
def State.restartCal (s : State) : State :=
  ({ s with tb := { s.tb with calRunning := true, calAt := s.tb.loc, reports := [] } }).setBit F.TB_STATUS_cal_valid 0 0 false

/-- The chip takes the card timekeeper at position `p` (R33); after a change it calibrates anew (R48). -/
def State.takeTk (s : State) (p : Nat) : State :=
  let me := p == s.tb.posId && s.linesUp
  let same := s.fld F.TB_STATUS_tk_pos_eff = p ∧ s.bit F.TB_STATUS_is_tk = me
  let s := s.setFld F.TB_STATUS_tk_pos_eff 0 0 p
  let s := s.setBit F.TB_STATUS_is_tk 0 0 me
  if same then s else s.restartCal

/-- Positions whose PRESENCE was received in the last 1 ms, lowest first (R33). -/
def State.heard (s : State) : List Nat :=
  (s.tb.roster.filter (fun e => decide (s.tb.loc ≤ e.2.heard + ms 1))).map (·.1)

/-- The choice of the card timekeeper from the frames heard (R33). One that was absent serves again only from the next SYNC edge (R34). -/
def State.chooseTk (s : State) : State :=
  if s.bit F.TB_CTRL_tk_auto then
    match s.heard with
    | p :: _ => s.takeTk p
    | [] => s
  else if s.tb.tkGone then s
  else if s.heard.contains (s.fld F.TB_CTRL_tk_pos) then s.takeTk (s.fld F.TB_CTRL_tk_pos) else s

/-! ### Frames received -/

/-- A frame on the lines: nothing while they are off (R85); one with a bad preamble or CRC is counted (R42); one of another type than the
command's is not this command's frame; `k` takes up a good one. -/
def State.onLine (s : State) (word kind : Nat) (k : State → State) : State :=
  if !s.linesUp then s else if !goodLine word then s.badFrame else if lineKind word != kind then s else k s

/-- A PRESENCE frame's place in the roster, and what it says of the timekeeper (R33, R34). -/
def State.hearPresence (s : State) (chip pos mode tstate : Nat) (unassigned sync : Bool) : State :=
  let e : RosterEntry := ⟨chip, mode, tstate, unassigned, sync, s.tb.loc⟩
  let s := { s with tb := { s.tb with roster := Tbl.put s.tb.roster pos e } }
  let s := if s.tb.tkGone && !s.bit F.TB_CTRL_tk_auto && pos == s.fld F.TB_CTRL_tk_pos
    then { s with tb := { s.tb with tkReturn := true } } else s
  s.chooseTk

/-- TIME: N and the lock flags for the next SYNC edge (R35, R36). -/
def execTimeFrame (n : Nat) (unlocked holdover : Bool) (check : Nat) (s : State) : Host.Outcome State Fault Refusal :=
  let word := (Frame.time n unlocked holdover).heard check
  .next (s.onLine word 0x6 (fun s =>
    { s with tb := { s.tb with rx := { s.tb.rx with time := some (bitsAt word 55 22, word.testBit 21, word.testBit 20) } } }))

/-- ALIGN: φ for the next SYNC edge. -/
def execAlignFrame (phiNs frac : Nat) (check : Nat) (s : State) : Host.Outcome State Fault Refusal :=
  let word := (Frame.align (phiNs * 4096 + frac % 4096)).heard check
  .next (s.onLine word 0x7 (fun s =>
    { s with tb := { s.tb with rx := { s.tb.rx with align := some (bitsAt word 55 26 * 4096 + bitsAt word 25 14) } } }))

/-- TRIM: the rate correction for the next SYNC edge. -/
def execTrimFrame (trim : Int) (check : Nat) (s : State) : Host.Outcome State Fault Refusal :=
  let word := (Frame.trim trim).heard check
  .next (s.onLine word 0x8 (fun s =>
    { s with tb := { s.tb with rx := { s.tb.rx with trim := some (toSigned 32 (bitsAt word 55 24)) } } }))

/-- Half a difference of ticks, rounded to nearest with halves away from zero. -/
def halfOf (x : Int) : Int := if x < 0 then -((1 - x) / 2) else (x + 1) / 2

/-- A quotient rounded to nearest with halves away from zero. -/
def divNear (x : Int) (n : Nat) : Int := if x < 0 then -((2 * -x + n) / (2 * n)) else (2 * x + n) / (2 * n)

/-- θ = (mean d_AB − mean d_BA) / 2 over the latest 4,096 exchanges (R47): `dab` is the one mean, and the other is that of the latest 64
reports, each a mean over 64. Rounded to whole ticks, the unit of TB_SYNC_OFFSET (DESIGN CHOICE, log entry 9). -/
def State.findSkew (s : State) (dab : Int) : State :=
  if s.bit F.TB_STATUS_is_tk || s.tb.reports.isEmpty then s
  else
    let n := s.tb.reports.length
    { s with tb := { s.tb with skewPending := divNear (dab * n - s.tb.reports.foldl (· + ·) 0) (2 * n) } }

/-- CAL: the timekeeper's mean d_BA over its last 64 measurements of a position; `dab` is this chip's own mean d_AB over its latest 4,096
exchanges (R47). No exchange is made without a timekeeper (R34). -/
def execCalFrame (pos : Nat) (meas dab : Int) (check : Nat) (s : State) : Host.Outcome State Fault Refusal :=
  let word := (Frame.calReport pos meas).heard check
  .next (s.onLine word 0x9 (fun s =>
    if bitsAt word 55 50 ≠ s.tb.posId ∨ s.tb.tkGone = true then s
    else
      let s := { s with tb := { s.tb with reports := (toSigned 24 (bitsAt word 49 26) :: s.tb.reports).take 64 } }
      if s.bit F.TB_STATUS_cal_valid then s.findSkew dab else s))

/-- The time of 4,096 exchanges, one a line cycle (R48). -/
def calTime : Nat := ns (4096 * 2304)

/-- INITIAL_CALIBRATION_COMPLETE: 4,096 exchanges since the calibration began, with a mean d_AB of `dab` (R47, R48). No exchange is made
without a timekeeper (R34). -/
def execInitialCalibrationComplete (dab : Int) (s : State) : Host.Outcome State Fault Refusal :=
  if !s.tb.calRunning || !s.linesUp || s.tb.tkGone then .next s
  else
    let s := s.reachLoc (s.tb.calAt + calTime)
    let s := { s with tb := { s.tb with calRunning := false } }
    .next ((s.findSkew dab).setBit F.TB_STATUS_cal_valid 0 0 true)

/-- OD 0x200A.00: restarts the calibration. -/
def wrCalRestart (h : Hdr) (d : Sys2Proof.Data) (s : State) : State × Nat :=
  s.item490 h d tBool anyLen false (fun s => (if dFlag d then s.restartCal else s, eOk))

/-- CAL_RESTART: OD 0x200A.00 or TB_CTRL.cal_restart (R48). -/
def execCalRestart (path : Path) (s : State) : Host.Outcome State Fault Refusal :=
  .next (s.viaPath (.calRestart path) path wrCalRestart State.restartCal)

/-! ### SYNC edges (R36 to R38, R47, R59, R60, R63) -/

/-- Whether R37's limits hold: LOCKED, and some chip of the card neither in Safe nor in Survey by its PRESENCE frames. -/
def State.slews (s : State) : Bool :=
  decide (s.timeState = tsLocked) && (decide (2 ≤ s.md.mode.code) ||
    s.tb.roster.any (fun (e : Nat × RosterEntry) => decide (2 ≤ e.2.mode) && decide (s.tb.loc ≤ e.2.heard + ms 1)))

/-- A domain second number and phase as an instant. -/
def edgeTime (n phi : Nat) : Nat := n * 4096000000000 + phi

/-- Subtracts the pending skew from TB_SYNC_OFFSET, at most ±4 ticks an edge while R37 limits it (R47); TB_SYNC_OFFSET keeps its value
without a timekeeper (R34) and while the lines are off (R85). -/
def State.applySkew (s : State) : State :=
  if s.tb.tkGone || !s.linesUp then s else
  let p := s.tb.skewPending
  let x := if s.slews then clampInt (-4) 4 p else p
  let s := s.setFld F.TB_SYNC_OFFSET_offset 0 0 (ofSigned 24 (toSigned 24 (s.fld F.TB_SYNC_OFFSET_offset) - x))
  { s with tb := { s.tb with skewPending := p - x } }

/-- The time state that a complete set gives (R36): a follower's from its TIME frame, the timekeeper's from its own servo. -/
def State.setState (s : State) (unlocked holdover : Bool) : State :=
  if s.bit F.TB_STATUS_is_tk then
    if s.tb.servoLock then s.setDom tsLocked else if s.domState = tsDomain then s else s.setDom tsCard
  else s.setDom (if !unlocked then tsLocked else if holdover then tsDomain else tsCard)

/-- Sets domain time to `t` at the edge's instant; work in progress keeps its length, and leaving UNSET moves every held instant (R63). -/
def State.setTime (s : State) (t : Int) (leaving : Bool) : State :=
  let d := t - s.tb.dom
  let s := s.shiftRunning d
  let s := if leaving then s.rebase d else s
  { s with tb := { s.tb with dom := t.toNat, acc := 0 } }

/-- Whether the chip returns to REFCLK at the edge that has just come (R60): armed, and no launch record, in any queue or of a mode change
that has been accepted, has an instant within 100 µs after the edge. -/
def State.mayReturn (s : State) : Bool :=
  let soon (t : Nat) : Bool := decide (s.now ≤ t) && decide (t ≤ s.now + us 100)
  s.tb.refStable && decide (s.timeState = tsRef) && !s.lq.any (fun e => e.2.any (fun r => soon r.inst)) &&
    !s.md.pend.any (fun (p : ModePending) => p.t.any soon)

/-- What an edge does to a chip in REF_HOLDOVER: it returns to REFCLK, with the phase step applied at that edge (R60), or its steered
oscillator leaves domain time within ±200 ns of the card (R59). `timed` says that the edge set domain time. -/
def State.refEdge (s : State) (timed : Bool) : State :=
  if s.timeState ≠ tsRef then s
  else if s.mayReturn then
    ({ s with tb := { s.tb with refStable := false, refLossAt := none } }).setFld F.TB_STATUS_time_state 0 0 s.tb.priorState
  else if !timed then s
  else
    let (e, s) := s.draw 1638401
    s.setTime ((s.tb.dom : Int) + e - 819200) false

/-- The timekeeper that came back serves from this edge, and every chip calibrates anew (R34). -/
def State.tkBack (s : State) : State :=
  if !s.tb.tkReturn then s
  else
    let s := { s with tb := { s.tb with tkGone := false, tkReturn := false } }
    (s.takeTk (s.fld F.TB_CTRL_tk_pos)).restartCal

/-- SYNC_EDGE: SYNC rises at local instant `capture`. -/
def State.syncEdge (capture : Nat) (s : State) : State :=
  let s := s.reachLoc capture
  let s := { s with tb := { s.tb with lastSync := some s.tb.loc, syncGone := false } }
  let s := s.setBit F.TB_STATUS_sync_present 0 0 true
  let s := s.applySkew
  let off := toSigned 24 (s.fld F.TB_SYNC_OFFSET_offset)
  let unset := s.domState == tsUnset
  let s :=
    match s.tb.rx.time, s.tb.rx.align, s.tb.rx.trim with
    | some (n, u, h), some phi, some t =>
      let s := (s.setTime ((edgeTime n phi : Nat) - off) unset).refEdge true
      let s := { s with tb := { s.tb with n := n, phi := phi, trim := t } }
      s.setState u h
    | _, _, _ =>
      let s := if s.tb.crcSinceEdge then s.setBit F.TB_STATUS_frame_crc 0 0 true else s
      let s := { s with tb := { s.tb with n := (s.tb.n + 1) % 2 ^ 34 } }
      if unset then s.refEdge false else (s.setTime ((edgeTime s.tb.n s.tb.phi : Nat) - off) false).refEdge true
  let s := { s with tb := { s.tb with rx := {}, crcSinceEdge := false, servoFresh := false, edgeAt := s.tb.dom } }
  (s.sourceEvent 0x08 3 s.now none).tkBack

/-! ### Losing REFCLK, SYNC and the timekeeper -/

/-- REFCLK_LOSS: no edge for 40 ns (R58). -/
def execRefclkLoss (s : State) : Host.Outcome State Fault Refusal :=
  let s := { s with tb := { s.tb with refStable := false } }
  let s := s.setBit F.TB_STATUS_refclk_present 0 0 false
  if s.timeState = tsRef then .next s
  else
    let s := { s with tb := { s.tb with priorState := s.timeState, refLossAt := some s.tb.loc } }
    let s := s.setFld F.TB_STATUS_time_state 0 0 tsRef
    let s := s.setBit F.TB_STATUS_holdover 0 0 true
    .next (s.report 39 sevDegraded (detail clsNone 0))

/-- REFCLK_STABLE: REFCLK has been present and stable for 10 ms, so the return of R60 is armed. -/
def execRefclkStable (s : State) : Host.Outcome State Fault Refusal :=
  let s := s.setBit F.TB_STATUS_refclk_present 0 0 true
  .next { s with tb := { s.tb with refStable := decide (s.timeState = tsRef) } }

/-- SYNC_ABSENT: 1.5 s since the last SYNC edge, or since reset release (R61). -/
def execSyncAbsent (s : State) : Host.Outcome State Fault Refusal :=
  if s.tb.syncGone then .next s
  else
    let s := s.reachLoc ((s.tb.lastSync.getD s.pw.t0) + ms 1500)
    let s := { s with tb := { s.tb with syncGone := true } }
    let s := s.setBit F.TB_STATUS_sync_present 0 0 false
    .next (if s.bit F.TB_STATUS_refclk_present then s.report 40 sevAdvisory (detail clsNone 0) else s)

/-- TIMEKEEPER_ABSENT: no PRESENCE from position tk_pos for 1 ms (R34). -/
def execTimekeeperAbsent (s : State) : Host.Outcome State Fault Refusal :=
  if s.bit F.TB_CTRL_tk_auto || s.tb.tkGone || !s.linesUp then .next s
  else
    let last := (Tbl.find s.tb.roster (s.fld F.TB_CTRL_tk_pos)).elim s.tb.linesAt (·.heard)
    let s := s.reachLoc (last + ms 1)
    let s := { s with tb := { s.tb with tkGone := true, tkReturn := false } }
    let s := s.setBit F.TB_STATUS_is_tk 0 0 false
    let s := s.setBit F.TB_STATUS_tk_absent 0 0 true
    .next ((s.loseLeader).report 40 sevAdvisory (detail clsNone 0))

/-- The domain holdover limit of OD 0x2005.00 in ticks. -/
def State.holdLimit (s : State) : Nat := beNat (s.od 0x2005 0 (toBe 8 10000000000000)) * 4096 / 1000

/-- DOMAIN_HOLDOVER_LIMIT: more than the limit since the chip's own entry to DOMAIN_HOLDOVER (R62). -/
def execDomainHoldoverLimit (s : State) : Host.Outcome State Fault Refusal :=
  match s.tb.holdoverAt with
  | none => .next s
  | some t =>
    if s.tb.limitPassed then .next s
    else
      let s := s.reachLoc (t + s.holdLimit + 1)
      let s := { s with tb := { s.tb with limitPassed := true } }
      .next (s.report 40 sevDegraded (detail clsNone 0))

/-! ### The PTP port and the servo (R35, R36, R465, R466) -/

/-- A network setting in force since the last start-up (R487). -/
def State.netSet (s : State) (idx sub : Nat) (dflt : List Byte) : List Byte := Tbl.get s.eth.inForce dflt (odKey idx sub)
/-- PTP transport: 2 is Layer 2. -/
def State.ptpTransport (s : State) : Nat := beNat (((s.netSet 0x8008 0 [0, 0, 0]).drop 1).take 1)
/-- The preferred PTP port. -/
def State.ptpPrefers (s : State) : Nat := beNat ((s.netSet 0x8008 0 [0, 0, 0]).drop 2) % 2
/-- Whether a port's link is up. -/
def State.linkUp (s : State) (p : Nat) : Bool := if p = 0 then s.bit F.ETH_STATUS_e0_up else s.bit F.ETH_STATUS_e1_up
/-- Whether MACsec is enabled on a port. -/
def State.macsec (s : State) (p : Nat) : Bool := if p = 0 then s.bit F.ETH_STATUS_e0_macsec else s.bit F.ETH_STATUS_e1_macsec
/-- A port's link comes up, FEC locked and training complete. -/
def State.portUp (s : State) (p : Nat) : State :=
  if p = 0 then ((s.setBit F.ETH_STATUS_e0_up 0 0 true).setBit F.ETH_STATUS_e0_an 0 0 true).setBit F.ETH_STATUS_e0_fec 0 0 true
  else ((s.setBit F.ETH_STATUS_e1_up 0 0 true).setBit F.ETH_STATUS_e1_an 0 0 true).setBit F.ETH_STATUS_e1_fec 0 0 true
/-- Whether a port can carry PTP (R466). -/
def State.ptpCan (s : State) (p : Nat) : Bool := s.linkUp p && (!s.macsec p || decide (s.ptpTransport = 2))
/-- The port on which PTP runs (R465). -/
def State.ptpPortNow (s : State) : Option Nat :=
  let p := s.ptpPrefers
  if s.ptpCan p then some p else if s.ptpCan (1 - p) then some (1 - p) else none

/-- The PTP port follows the links and MACsec; a change of port restarts the phase measurement (R465), and a block by MACsec is shown and
reported once (R466). Only the timekeeper runs PTP. -/
def State.ptpFollow (s : State) : State :=
  if !s.bit F.TB_STATUS_is_tk then s
  else
    match s.ptpPortNow with
    | some p =>
      let s := s.setBit F.ETH_STATUS_ptp_blocked 0 0 false
      let s := s.setFld F.ETH_STATUS_ptp_port 0 0 p
      if s.tb.ptpPort = some p then s
      else { s with tb := { s.tb with ptpPort := some p, pathDelay := 0, syncDiff := 0, delayReqAt := none } }
    | none =>
      let cause := decide (s.ptpTransport ≠ 2) && (s.linkUp 0 && s.macsec 0 || s.linkUp 1 && s.macsec 1)
      let was := s.bit F.ETH_STATUS_ptp_blocked
      let s := s.setBit F.ETH_STATUS_ptp_blocked 0 0 cause
      if cause && !was then s.report 54 sevAdvisory (detail clsNone 0) else s

/-- Whether this chip runs PTP on a port now: the servo stops in an outage of the Keystone (R25). -/
def State.ptpOn (s : State) (port : Nat) : Bool :=
  s.bit F.TB_STATUS_is_tk && !s.ks.outage && s.bit F.TB_CTRL_ptp_en && decide (s.ptpPortNow = some port)

/-- PTP_SYNC_RECEIVE: a Sync with origin instant `origin` (with its correction) arrives on a port. `n`, `phi`, `trim` and `lock` are what the
servo derives from it, whose filter the spec does not give (R35). -/
def execPtpSyncReceive (port origin n phi : Nat) (trim : Int) (lock : Bool) (s : State) : Host.Outcome State Fault Refusal :=
  let s := s.ptpFollow
  if !s.ptpOn port then .next s
  else
    let diff : Int := (s.tb.dom : Int) - origin
    let s := { s with tb := { s.tb with
      lastPtp := some s.tb.loc, servoFresh := true, syncDiff := diff, servoOffset := diff - s.tb.pathDelay, servoLock := lock
      servoN := n % 2 ^ 34, servoPhi := phi % 4096000000000, servoTrim := clampInt (-2147483648) 2147483648 trim } }
    .next (
      if s.domState = tsUnset then s
      else if lock then s.setDom tsLocked
      else if s.domState = tsLocked then s.setDom tsCard else s)

/-- PTP_DELAY_REQ: the timekeeper sends a one-step Delay_Req (R465). -/
def execPtpDelayReq (port : Nat) (s : State) : Host.Outcome State Fault Refusal :=
  let s := s.ptpFollow
  if !s.ptpOn port then .next s
  else .next (({ s with tb := { s.tb with delayReqAt := some s.tb.dom } }).send (.delayReq port))

/-- PTP_DELAY_RESP_RECEIVE: the grandmaster received the Delay_Req at `received`; the path delay is the mean of both directions (R35, R465). -/
def execPtpDelayRespReceive (port received : Nat) (s : State) : Host.Outcome State Fault Refusal :=
  if !s.ptpOn port then .next s
  else
    match s.tb.delayReqAt with
    | none => .next s
    | some t3 =>
      let d := halfOf (s.tb.syncDiff + ((received : Int) - t3))
      .next { s with tb := { s.tb with delayReqAt := none, pathDelay := d, servoOffset := s.tb.syncDiff - d } }

/-- PTP_SYNC_TIMEOUT: a LOCKED timekeeper without Sync for 3 s (R36, R466). -/
def execPtpSyncTimeout (s : State) : Host.Outcome State Fault Refusal :=
  let s := s.ptpFollow
  if !s.bit F.TB_STATUS_is_tk || decide (s.domState ≠ tsLocked) then .next s
  else
    let s := s.reachLoc ((s.tb.lastPtp.getD s.pw.t0) + ms 3000)
    let s := { s with tb := { s.tb with servoLock := false } }
    .next (s.setDom tsDomain)

/-! ### Frames sent (R35, R40, R45) -/

/-- The length of a line cycle, and of a slot (R40). -/
def lineCycle : Nat := ns 2304
def lineSlot : Nat := ns 256

/-- The first start at or after `t` of this chip's position slot (`own`) or of the leader slot, in its own domain time (R40): cycles run from
each SYNC edge, 434,027 in a second, and from each whole second after an edge while SYNC is absent (DEDUCED, log entry 41). Before
the first edge they are counted from reset. -/
def State.slotAfter (s : State) (own : Bool) (t : Nat) : Nat :=
  let sec := ms 1000
  let off := if own then lineSlot * (1 + s.tb.posId / 8) else 0
  let base := s.tb.edgeAt + (t - s.tb.edgeAt) / sec * sec
  let k := ceilDiv (t - (base + off)) lineCycle
  if k ≤ 434026 then base + off + k * lineCycle else base + sec + off

/-- The next `n` slot starts from `t` on. -/
def State.slotsFrom (s : State) (own : Bool) : (n t : Nat) → List Nat
  | 0, _ => []
  | n + 1, t =>
    let a := s.slotAfter own t
    a :: State.slotsFrom s own n (a + 1)

/-- The last position slot that keeps PRESENCE within 100 µs of the one before (R45): no bond frame takes it. -/
def State.keptSlot (s : State) : Option Nat :=
  s.tb.lastPresence.map (fun l => ((s.slotsFrom true 3 (l + us 100 - 2 * lineCycle)).filter (fun a => decide (a ≤ l + us 100))).getLastD l)

/-- Whether a position slot is free for a bond frame. -/
def State.slotFree (s : State) (t : Nat) : Bool := !s.tb.booked.contains t && s.keptSlot != some t

/-- The first `n` position slots of consecutive cycles from `t` on that are all free. -/
def State.freeRun (s : State) (n : Nat) : (fuel t : Nat) → List Nat
  | 0, t => s.slotsFrom true n t
  | k + 1, t =>
    let l := s.slotsFrom true n t
    if l.all s.slotFree then l else State.freeRun s n k (l.headD t + 1)

/-- Sends a frame on this chip's line in its next free position slots, in as many consecutive cycles as R46 gives it. Frames that wait for
one slot go in the order in which they were made (DESIGN CHOICE, log entry 41). -/
def State.sendOwn (s : State) (f : Frame) : State :=
  let kept := s.tb.booked.filter (fun t => decide (s.now ≤ t))
  let s := { s with tb := { s.tb with booked := kept } }
  let l := s.freeRun f.copies (4 * kept.length + 8) s.now
  let s := { s with tb := { s.tb with booked := s.tb.booked ++ l } }
  l.foldl (fun s t => s.send (.line (2 ^ (s.tb.posId % 8)) t f.word)) s

/-- The chip's own PRESENCE frame (Table 2.3, R87). -/
def State.presence (s : State) : Frame :=
  .presence s.chip18 s.tb.posId s.md.mode.code s.timeState s.unassigned (s.bit F.TB_STATUS_sync_present)

/-- The start of its next position slot that has no bond traffic (R40, R45). -/
def State.presenceSlot (s : State) : Nat :=
  ((s.slotsFrom true (s.tb.booked.length + 1) s.now).find? (fun t => !s.tb.booked.contains t)).getD s.now

/-- PRESENCE_SEND: the chip sends PRESENCE in its next position slot that has no bond traffic (R40, R45), and hears it itself (R33, R43). -/
def execPresenceSend (s : State) : Host.Outcome State Fault Refusal :=
  if !s.linesUp then .next s
  else
    let t := s.presenceSlot
    let s := s.reach t
    let s := s.send (.line (2 ^ (s.tb.posId % 8)) t s.presence.word)
    let s := { s with tb := { s.tb with lastPresence := some t } }
    .next (s.hearPresence s.chip18 s.tb.posId s.md.mode.code s.timeState s.unassigned (s.bit F.TB_STATUS_sync_present))

/-- N, φ and trim for the next edge, with R37's limits against the values in force: the servo's, or those in force carried on by one second
where it has given none since the last edge (R36; frozen in an outage, R25). -/
def State.nextEdge (s : State) : Nat × Nat × Int :=
  let base := edgeTime (s.tb.n + 1) s.tb.phi
  let want := if s.tb.servoFresh then edgeTime s.tb.servoN s.tb.servoPhi else base
  let wantTrim := if s.tb.servoFresh then s.tb.servoTrim else s.tb.trim
  let t : Int := if s.slews then (base : Int) + clampInt (-4) 4 ((want : Int) - base) else want
  let trim := if s.slews then s.tb.trim + clampInt (-1) 1 (wantTrim - s.tb.trim) else wantTrim
  (t.toNat / 4096000000000 % 2 ^ 34, t.toNat % 4096000000000, trim)

/-- The timekeeper's frames for the next edge: the set eight times, and a CAL for each position in `cal` (R35, R47). -/
def State.leaderFrames (s : State) (cal : List (Nat × Int)) : List Frame :=
  let (n, phi, trim) := s.nextEdge
  let set : List Frame := [.time n (s.timeState != tsLocked) (s.timeState == tsDomain), .align phi, .trim trim]
  (List.replicate 8 set).flatten ++ cal.map (fun e => .calReport e.1 e.2)

/-- The leader slots that they take, from SYNC + 100 ms on. -/
def State.leaderSlots (s : State) (cal : List (Nat × Int)) : List Nat :=
  s.slotsFrom false (24 + cal.length) (max s.now (s.tb.edgeAt + ms 100))

/-- LEADER_FRAMES_SEND: the timekeeper broadcasts TIME, ALIGN and TRIM, each eight times, and CAL with its mean d_BA over the last 64
measurements of each position in `cal`, one frame a leader slot on all eight lines, between SYNC + 100 ms and SYNC + 900 ms (R35, R40,
R47). It receives its own frames (R43), so the set is also its own for the next edge (R36). -/
def execLeaderFramesSend (cal : List (Nat × Int)) (s : State) : Host.Outcome State Fault Refusal :=
  let (n, phi, trim) := s.nextEdge
  let slots := s.leaderSlots cal
  if s.tb.lastSync.isNone || !s.bit F.TB_STATUS_is_tk || !s.linesUp || s.tb.tkGone ||
      decide (s.tb.edgeAt + ms 900 < slots.getLastD 0 + lineSlot) then .next s
  else
    let frames := s.leaderFrames cal
    let s := s.reach (slots.headD s.now)
    let s := (slots.zip frames).foldl (fun s (e : Nat × Frame) => s.send (.line 0xFF e.1 e.2.word)) s
    .next { s with tb := { s.tb with rx :=
      { time := some (n, s.timeState != tsLocked, s.timeState == tsDomain), align := some phi, trim := some trim } } }

/-- POS_CONFLICT: the chip's own frame has failed its CRC in 16 consecutive cycles (R43). -/
def execPosConflict (s : State) : Host.Outcome State Fault Refusal :=
  if !s.linesUp then .next s
  else .next ((s.setBit F.TB_STATUS_pos_conflict 0 0 true).report 40 sevAdvisory (detail clsNone 0))

/-! ### TB_CTRL, the timekeeper selection and the chip number -/

/-- Loads a timekeeper selection into TB_CTRL (R590). -/
def State.loadSel (s : State) (auto : Bool) (pos : Nat) : State :=
  (s.setBit F.TB_CTRL_tk_auto 0 0 auto).setFld F.TB_CTRL_tk_pos 0 0 pos

/-- The lines come up: the engine starts afresh on the selection held pending, if any, and calibrates (R48, R85, R590). -/
def State.linesStart (s : State) : State :=
  let s := match s.tb.selPending with
    | some (a, p) => ({ s with tb := { s.tb with selPending := none } }).loadSel a p
    | none => s
  ({ s with tb := { s.tb with
    rx := {}, tkGone := false, tkReturn := false, roster := [], booked := [], lastPresence := none, linesAt := s.tb.loc } }).restartCal

/-- What follows a change of TB_CTRL.lines_en (R85, R590). With the lines off no set is held, so N, φ and trim go on by themselves. -/
def State.linesChanged (s : State) (on : Bool) : State :=
  if on then s.linesStart
  else
    let s := { s with tb := { s.tb with calRunning := false, rx := {}, booked := [] } }
    let s := s.setBit F.TB_STATUS_is_tk 0 0 false
    s.loseLeader

/-- LINES_EN_WRITE: a register write gives TB_CTRL.lines_en the value `on` (R85). -/
def execLinesEnWrite (on : Bool) (s : State) : Host.Outcome State Fault Refusal :=
  if s.bit F.TB_CTRL_lines_en = on then .next s
  else .next ((s.setBit F.TB_CTRL_lines_en 0 0 on).linesChanged on)

/-- OD 0x2003.00 (R590). -/
def wrTkSel (h : Hdr) (d : Sys2Proof.Data) (s : State) : State × Nat :=
  s.item490 h d tU8 anyLen false (fun s =>
    let v := dNat d
    if 64 ≤ v ∧ v < 255 then (s, eAddrRange)
    else
      let s := s.storeOd 0x2003 0 d.bytes
      let a := v == 255
      let p := if a then s.fld F.TB_CTRL_tk_pos else v
      -- a write at once supersedes one held pending (DESIGN CHOICE, log entry 42)
      (if s.bit F.TB_CTRL_lines_en then { s with tb := { s.tb with selPending := some (a, p) } }
       else ({ s with tb := { s.tb with selPending := none } }).loadSel a p, eOk))

/-- TIMEKEEPER_SELECTION_WRITE: OD 0x2003.00. -/
def execTimekeeperSelectionWrite (h : Hdr) (d : Sys2Proof.Data) (s : State) : Host.Outcome State Fault Refusal :=
  .next (s.hostItem (.timekeeperSelectionWrite h d) h (wrTkSel h d))

/-- OD 0x2002.00 (R87). -/
def wrChipNumber (h : Hdr) (d : Sys2Proof.Data) (s : State) : State × Nat :=
  s.item490 h d tU32 anyLen false (fun s =>
    let v := dNat d
    if 262144 ≤ v ∧ v ≠ 0xFFFFFFFF then (s, eAddrRange)
    else if 2 ≤ s.md.mode.code ∨ s.bonds.any (fun e => e.2.st != .empty) then (s, eModeConflict)
    else (s.storeOd 0x2002 0 d.bytes, eOk))

/-- CHIP_NUMBER_WRITE: OD 0x2002.00. -/
def execChipNumberWrite (h : Hdr) (d : Sys2Proof.Data) (s : State) : Host.Outcome State Fault Refusal :=
  .next (s.hostItem (.chipNumberWrite h d) h (wrChipNumber h d))

end Sys2Proof.Machine
end

