-- ==== Sys2Proof/Machine/Steps.lean ====
section
/-! DEFINITION. Steps from request to end: slots, admission, commitment, what a step launches, DEFER and its consequences
(R22, R52, R71 to R82, R98 to R106, R275 to R278, R314, R315, R320, R592). -/

namespace Sys2Proof.Machine

/-! ### A step instruction (Tables 9.1 and 9.2) -/

/-- The opcode of a step instruction (Table 9.1). -/
def opOf (w : Nat) : Nat := bitsAt w 63 56
/-- Its thread mask. -/
def maskField (w : Nat) : Nat := bitsAt w 55 48
/-- Its operands. -/
def oprOf (w : Nat) : Nat := bitsAt w 47 0
/-- First context of the context form (Table 9.2). -/
def oprCtx (o : Nat) : Nat := bitsAt o 47 28
/-- Count of contexts. -/
def oprCount (o : Nat) : Nat := bitsAt o 27 20
/-- Argument. -/
def oprArg (o : Nat) : Nat := bitsAt o 19 8
/-- Bond slot of a bonded step. -/
def oprBond (o : Nat) : Option Nat := if o.testBit 7 then some (bitsAt o 6 1) else none

/-- Whether the thread's latest request waits for its decision, or was deferred. -/
def Thread.asking (x : Thread) : Bool :=
  match x.nxt.getLast? with
  | some a => a.st == .requested || a.st == .provisional || a.st == .deferred
  | none => false

/-- The bond slot of the step instruction a thread runs. -/
def Thread.bonded (x : Thread) : Option Nat := oprBond x.opr

/-! ### Bond slots and bond frames -/

/-- Sends a bond frame of slot n (R64, R65): on the lines, and where the bond's medium is ETHERNET as a message on E0 and E1 at once, under one
sequence number and stamped by the MACs; none while the chip number is unassigned (R87). -/
def State.sendBond (s : State) (n : Nat) (f : Frame) : State :=
  if s.unassigned then s
  else
    let s := if s.linesUp then s.sendOwn f else s
    if (s.bond n).medium == .eth then
      let msg (p : Nat) : OutMsg := .bondMsg p bondPort (bondGroup p f.bond) (f.message p s.chipNumber s.now s.net.seq)
      (({ s with net := { s.net with seq := (s.net.seq + 1) % 65536 } }).send (msg 0)).send (msg 1)
    else s

/-- Whether this chip is the Quoin of slot n. -/
def State.isQuoin (s : State) (n : Nat) : Bool := (s.bond n).quoin == s.chipNumber

/-- Whether a time state permits launches of a bond (Table 2.8). -/
def permits (m : Medium) (tstate : Nat) (sync limit : Bool) : Bool :=
  if tstate = tsUnset then false
  else if tstate = tsCard then m == .lines
  else if tstate = tsRef then sync || m == .lines
  else if tstate = tsDomain then !limit || m == .lines
  else true

/-- Whether this chip's time state permits launches of slot n. -/
def State.bondTime (s : State) (n : Nat) : Bool :=
  permits (s.bond n).medium s.timeState (s.bit F.TB_STATUS_sync_present) s.tb.limitPassed

/-- A split step is counted (R75). -/
def State.countSplit (s : State) (n : Nat) : State :=
  let s := s.modBond n (fun b => { b with splits := b.splits + 1 })
  (s.setBit F.TB_STATUS_split 0 0 true).report 40 sevDegraded (detail clsBond n)

/-- Whether slot n's view of the bond is ageing (R82). -/
def State.ageing (s : State) (n : Nat) : Bool :=
  let b := s.bond n
  if s.isQuoin n then
    (b.members.filter (fun m => m != s.chipNumber)).any (fun m =>
      let i := Tbl.get b.info {} m
      i.absent || decide (i.lastBeat + us 200 < s.now))
  else decide (b.lastRx + us 200 < s.now)

/-! ### Slots and T0 (R274, R275) -/

/-- The slot pitch of a thread, ns. -/
def State.pitch (s : State) (k : Nat) : Nat := max 100 (s.fld F.SEQ_TPITCH_pitch_ns (k / 8) (k % 8))
/-- The slot origin of a thread, ns. -/
def State.origin (s : State) (k : Nat) : Nat := s.pair F.SEQ_TORG_LO_origin F.SEQ_TORG_HI_origin (k / 8) (k % 8)
/-- The first slot at or after an instant, both in ns. -/
def State.slotFrom (s : State) (k t : Nat) : Nat :=
  let o := s.origin k
  if t ≤ o then o else o + ceilDiv (t - o) (s.pitch k) * s.pitch k

/-- The T0 to which the DEFERs that slot n has sent or received in time move a T0 of a thread's program, and the T0 the last of them named,
both in ns (R73, R74): 0 where none did. -/
def State.afterDefers (s : State) (k n : Nat) : (fuel t src : Nat) → Nat × Nat
  | 0, t, src => (t, src)
  | f + 1, t, src =>
    if (s.bond n).deferSent.contains (ns t) || (s.bond n).deferRx.contains (ns t) then
      State.afterDefers s k n f (s.slotFrom k (t + 100000)) t
    else (t, src)

/-- The T0 that R275 chooses, and the T0 of the DEFER that moved it there, both in ns; a bonded step of a rejoined member starts at the step its
resume command named (R83). -/
def State.chooseT0 (s : State) (k : Nat) (bonded : Option Nat) : Nat × Nat :=
  let x := s.thr k
  let base := ceilDiv x.prevEnd 4096 + (if x.gap then 60000 else 0)
  match bonded with
  | some n =>
    let r := ((s.bond n).resumeAt.getD 0) / 4096
    let b := s.bond n
    s.afterDefers k n (b.deferSent.length + b.deferRx.length) (s.slotFrom k (max base r) + x.delay * s.pitch k) 0
  | none => (s.slotFrom k (max base (ceilDiv s.now 4096 + 51000)) + x.delay * s.pitch k, 0)

/-- A step requests admission: it becomes the thread's current step (R290). -/
def State.requestStep (s : State) (k : Nat) (st : Step) : State :=
  let late := decide (st.t0 < s.now + us 50)
  let s := s.modThr k (fun x => { x with nxt := x.nxt ++ [{ st with st := .requested, lateReq := late }], gap := false, delay := 0, decided := none, asked := true })
  if s.tstate k == stRunning then s.setTstate k stWaiting else s

/-- Changes the step of a thread that has asked for admission last. -/
def State.modLast (s : State) (k : Nat) (f : Step → Step) : State :=
  s.modThr k (fun x => { x with nxt := match x.nxt.getLast? with | some a => x.nxt.dropLast ++ [f a] | none => [] })
/-- Drops that step. -/
def State.dropLast (s : State) (k : Nat) : State := s.modThr k (fun x => { x with nxt := x.nxt.dropLast })

/-! ### The end of an instruction and of a step -/

/-- A thread's region base (R267). -/
def State.regBase (s : State) (k : Nat) : Nat := s.fld F.SEQ_TREGION_base (k / 8) (k % 8)
/-- A step address as an offset into the thread's region. -/
def State.regOff (s : State) (k a : Nat) : Nat := (a + 32768 - s.regBase k) % 32768

/-- The step instruction's routines end (R293): the thread is at its step boundary, its step PC on the next instruction. -/
def State.endInstr (s : State) (k : Nat) : State :=
  let x := s.thr k
  let last := decide (s.regOff k (s.spc k) = 32767)
  let s := if x.pcSet then s else s.setSpc k ((s.spc k + 1) % 32768)
  let s := s.modThr k (fun x => { x with
    dec := false, pastEnd := !x.pcSet && last, pcSet := false, phase := .idle, waitSince := none, waitSum := 0, waitUntil := none
    service := none, retried := false, asked := false, urgent := false, needT0 := false
    m := { x.m with cost := none }, com := { x.com with cost := none } })
  if s.tstate k == stWaiting then s.setTstate k stRunning else s

/-- What the site link brought a non-home thread for an instruction that its home thread gives up is withdrawn. -/
def Thread.unlink (x : Thread) : Thread :=
  match x.link.getLast? with
  | some (.instr _) => { x with link := x.link.dropLast }
  | _ => { x with m := x.com, outbox := [], dec := false, pcSet := false, phase := .idle, waitSince := none, waitSum := 0, service := none, needT0 := false }

/-- The instruction is given up: the thread is at its boundary and decodes the same instruction again. -/
def State.retryInstr (s : State) (k : Nat) : State :=
  let s := if 0xC0 ≤ s.fld F.SEQ_TSTAT_opcode (k / 8) (k % 8) ∧ s.isHome k then
      ((s.threadsOf (s.siteOf k)).filter (fun j => j != k && s.running j)).foldl (fun s j => s.modThr j Thread.unlink) s
    else s
  (s.modThr k (fun x => { x with pcSet := true, m := x.com, outbox := [] })).endInstr k

/-- A routine is discarded and its step instruction ends (SEQ ABORT, R52): the current step is ABORTED, and INVALID with it. -/
def State.abortRoutine (s : State) (k : Nat) : State :=
  let s := s.modThr k (fun x => { x with m := x.com, outbox := [] })
  (s.markCur (s.homeThr k) mkAborted).endInstr k

/-- The site's tally summary is posted at each step end (R260). -/
def State.endPost (s : State) (k : Nat) : State := if s.isHome k then (s.postTally (s.siteOf k)).tryComplete (s.siteOf k) else s

/-- A finite step's interval is over. -/
def State.stepOver (s : State) (k : Nat) : State :=
  match (s.thr k).step with
  | some a =>
    if a.st == .launched then
      ((s.modStep k (fun a => { a with st := .ended })).endPost k).safeTSet.parkDone (s.siteOf k)
    else s
  | none => s

/-- A launched step ends now, before its d has elapsed or as an open-ended one (R88, R92). -/
def State.stepEndsNow (s : State) (k : Nat) : State :=
  match (s.thr k).step with
  | some a =>
    if a.st == .launched then
      let s := s.ledgerEnd k a.t0 s.now
      let s := s.modStep k (fun a => { a with d := some (s.now - a.t0) })
      let e := (s.thr k).prevEnd
      let e := if a.d.isNone then max e s.now else if a.end? = some e then min e s.now else e
      (s.modThr k (fun x => { x with prevEnd := e })).stepOver k
    else s
  | none => s

/-- A thread branches, out of its launched step while no later one has been asked for: that step ends early (R92). BR, LOOP and CALL branch
(Table 9.3; DEDUCED, log entry 48). -/
def State.branchOut (s : State) (k : Nat) : State := if (s.thr k).nxt.isEmpty then s.stepEndsNow k else s

/-- STEP_END (R92, R260, R321): the current step's interval ends. An open-ended step ends at its thread's boundary instead (R88). -/
def execStepEnd (k : Nat) (s : State) : Host.Outcome State Fault Refusal :=
  if 256 ≤ k then .next s
  else
    match (s.thr k).step with
    | some a =>
      match a.end? with
      | some e => if a.st == .launched then .next ((s.reach e).stepOver k).launchDue else .next s
      | none => .next s
    | none => .next s

/-! ### What a step launches (R278, R286, R314, R315, R320) -/

/-- The threads that apply a step's contexts: the home thread, and the site's other threads that run (R265, R314). -/
def State.appliers (s : State) (k : Nat) : List Nat := k :: (s.threadsOf (s.siteOf k)).filter (fun j => j != k && s.running j)

/-- The contexts a step names, as the thread's Course sees them. -/
def State.stepCtxs (s : State) (k : Nat) (st : Step) : List (List Byte) := (ctxRange st.ctx st.count).map (fun n => s.ctx (k / 8) n)

/-- Stages an SMU context (Table 10.3). -/
def State.stageSmu (s : State) (b : List Byte) : State :=
  let m := ctxTarget b
  let w := ctxAt b 16 4
  let put (s : State) (f : Fld) (v : Nat) : State := s.setFld f (smuQ m) (smuN m) v
  let s := [F.SMU_CFG_connect, F.SMU_CFG_fmode, F.SMU_CFG_vrange, F.SMU_CFG_irange, F.SMU_CFG_pulse, F.SMU_CFG_mon_en].foldl
    (fun s f => put s f (w / 2 ^ f.lo)) s
  let s := put s F.SMU_FORCE_CODE_force (ctxAt b 20 3)
  let s := put s F.SMU_CLAMP_HI_clamp (ctxAt b 24 3)
  let s := put s F.SMU_CLAMP_LO_clamp (ctxAt b 28 3)
  let s := put s F.SMU_MON_HI_mon (ctxAt b 32 3)
  let s := put s F.SMU_MON_LO_mon (ctxAt b 36 3)
  let s := put s F.SMU_APER_ns (ctxAt b 40 4)
  let s := put s F.SMU_APER_DLY_ns (ctxAt b 44 4)
  put s F.SMU_PULSE_width_ns (ctxAt b 48 4)

/-- Stages a WAV context (Table 10.3, R370). -/
def State.stageWav (s : State) (b : List Byte) : State :=
  let w := ctxTarget b
  let c := ctxAt b 16 4
  let put (s : State) (f : Fld) (v : Nat) : State := s.setFld f (w / 32) (w % 32) v
  let s := [F.WAV_CFG_src_en, F.WAV_CFG_dig_en, F.WAV_CFG_kind].foldl (fun s f => put s f (c / 2 ^ f.lo)) s
  let s := put s F.WAV_PINC_LO_inc (ctxAt b 20 4)
  let s := put s F.WAV_PINC_HI_inc (ctxAt b 24 2)
  let s := put s F.WAV_PINC_HI_pofs (ctxAt b 26 2)
  let s := put s F.WAV_AMP_code (ctxAt b 28 4)
  let s := put s F.WAV_OFS_code (ctxAt b 32 4)
  let s := put s F.WAV_SRATE_rate (ctxAt b 36 4)
  let s := put s F.WAV_DRATE_rate (ctxAt b 40 4)
  let s := put s F.WAV_SLEW_STEP_code (ctxAt b 44 4)
  let s := put s F.WAV_SLEW_RATE_rate (ctxAt b 48 4)
  put s F.WAV_CAPLEN_samples (ctxAt b 52 4)

/-- Stages an FLN context (Table 10.3, R428). -/
def State.stageFln (s : State) (b : List Byte) : State :=
  let n := ctxTarget b
  let c := ctxAt b 16 4
  let put (s : State) (f : Fld) (v : Nat) : State := s.setFld f 0 n v
  let s := [F.FLN_LCFG_tx_en, F.FLN_LCFG_rx_en, F.FLN_LCFG_pam4, F.FLN_LCFG_pattern].foldl (fun s f => put s f (c / 2 ^ f.lo)) s
  let s := put s F.FLN_RATE_rate_mbps (ctxAt b 20 4)
  let s := put s F.FLN_FFE_A_pre2 (ctxAt b 24 1)
  let s := put s F.FLN_FFE_A_pre1 (ctxAt b 25 1)
  let s := put s F.FLN_FFE_A_main (ctxAt b 26 1)
  let s := put s F.FLN_FFE_A_post1 (ctxAt b 27 1)
  let s := put s F.FLN_FFE_B_post2 (ctxAt b 28 1)
  let s := put s F.FLN_SJ_sj_mui (ctxAt b 32 4)
  let s := put s F.FLN_SJ_sj_khz (ctxAt b 36 4)
  put s F.FLN_RJ_rj_mui (ctxAt b 40 4)

/-- Writes a context's settings into its channels' staged sets, for thread `j` (CTXA, R314): PIN contexts of its own Course, shared
instruments only on the home thread. -/
def State.stageCtx (s : State) (j : Nat) (b : List Byte) : State :=
  match ctxType b with
  | 1 => if ctxTarget b = j / 8 then s.stagePin b else s
  | 2 => if s.isHome j && decide (ctxTarget b < 128) then s.stageSmu b else s
  | 3 => if s.isHome j && decide (ctxTarget b < 64) then s.stageWav b else s
  | 4 => if s.isHome j && decide (ctxTarget b < 8) then s.stageFln b else s
  | _ => s

/-- The objects a MEAS gives result slots, in order, each once (R320). -/
def measObjs (l : List (List Byte)) : List Nat :=
  (l.flatMap (fun b => match ctxType b with
    | 1 => if ctxMeas b then (bitsOf 32 (ctxPins b)).map (fun p => objPmu (ctxTarget b) p) else []
    | 2 => [objSmu (ctxTarget b)]
    | 3 => [objWav (ctxTarget b)]
    | 4 => [objFln (ctxTarget b)]
    | _ => []))

/-- Pairs objects with slots from `r` on; a pin named again takes none. -/
def pairSlots (r : Nat) : List Nat → List Nat → List (Nat × Nat)
  | _, [] => []
  | seen, o :: l => if seen.contains o && decide (o < 0x2000) then pairSlots r seen l else (o, r) :: pairSlots (r + 1) (o :: seen) l

/-- A record a step launches: queue, target, action, payload and instant. -/
structure OutRec where
  queue : Nat
  target : Nat
  action : Nat
  payload : Nat
  inst : Nat
deriving DecidableEq, Repr

/-- A number of bits set at a position. -/
def bitIf (b : Bool) (k : Nat) : Nat := if b then 2 ^ k else 0

/-- The records of a step's shared instruments, in context order; `slots` pairs the objects with result slots. -/
def sharedRecs (meas : Bool) (t0 : Nat) : List (List Byte) → List (Nat × Nat) → List OutRec
  | [], _ => []
  | b :: l, slots =>
    let n := ctxTarget b
    let slot (o : Nat) : Option Nat := (slots.find? (fun e => e.1 == o)).bind (fun e => if e.2 < 256 then some e.2 else none)
    let used (o : Nat) : List (Nat × Nat) := match slots.find? (fun e => e.1 == o) with | some e => slots.erase e | none => slots
    match ctxType b with
    | 2 =>
      if 128 ≤ n then sharedRecs meas t0 l slots
      else
        let o := objSmu n
        let force : OutRec := ⟨32 + n / 32, n % 32, 0x10, 2 ^ 46 + 2 ^ 45 + 2 ^ 44, t0⟩
        let aper : List OutRec := match slot o with
          | some r => [⟨32 + n / 32, n % 32, 0x11, r * 2 ^ 39 + bitIf (ctxQuiet b) 38 + ctxAt b 40 4 % 2 ^ 30, t0 + ns (ctxAt b 44 4 % 2 ^ 30)⟩]
          | none => []
        (force :: (if meas then aper else [])) ++ sharedRecs meas t0 l (used o)
    | 3 =>
      if 64 ≤ n then sharedRecs meas t0 l slots
      else
        let o := objWav n
        let rslt := if meas then (match slot o with | some r => 2 ^ 43 + r * 2 ^ 35 | none => 0) else 0
        ⟨36 + n / 32, n % 32, 0x20, 2 ^ 46 + 2 ^ 45 + rslt + bitIf (ctxQuiet b) 34, t0⟩ :: sharedRecs meas t0 l (used o)
    | 4 =>
      if 8 ≤ n then sharedRecs meas t0 l slots
      else
        let o := objFln n
        let rslt := if meas then (match slot o with | some r => 2 ^ 44 + 2 ^ 43 + r * 2 ^ 35 + 2 ^ 33 | none => 2 ^ 44) else 0
        ⟨38, n, 0x30, 2 ^ 46 + 2 ^ 45 + rslt, t0⟩ :: sharedRecs meas t0 l (used o)
    | _ => sharedRecs meas t0 l slots

/-- The strobe and the SEGMENT_START of one applying thread's Course. -/
def State.courseRecs (s : State) (j : Nat) (st : Step) (l : List (List Byte)) : List OutRec :=
  let c := j / 8
  let mine := l.filter (fun b => ctxType b == 1 && ctxTarget b == c)
  let mask := mine.foldl (fun m b => m ||| ctxPins b) 0
  let isMeas := match st.kind with | .meas _ => true | _ => false
  let meas := isMeas && mine.any ctxMeas
  let strobe : List OutRec := if mask = 0 then [] else [⟨c, 0, 0x01, mask * 2 ^ 14 + 2 ^ 13 + 2 ^ 12 + 2 ^ 11 + bitIf meas 9, st.t0⟩]
  match st.kind with
  | .run seg => if seg ≠ 0xFFF ∧ s.fld F.SEQ_CTRL_stream_owner c = j % 8 then strobe ++ [⟨c, 0, 0x02, seg * 2 ^ 35, st.t0⟩] else strobe
  | _ => strobe

/-- The first slot of a MEAS. -/
def Step.measSlot (st : Step) : Option Nat := match st.kind with | .meas r => some r | _ => none

/-- The objects of a MEAS with their result slots. -/
def State.stepSlots (s : State) (k : Nat) (st : Step) : List (Nat × Nat) :=
  match st.measSlot with | some r => pairSlots r [] (measObjs (s.stepCtxs k st)) | none => []

/-- What a thread launches for an admitted vendor step or ISSUE: its Course's records, and on the home thread those of shared instruments. -/
def State.stepRecs (s : State) (k : Nat) (st : Step) : List OutRec :=
  let l := s.stepCtxs k st
  s.courseRecs k st l ++ (if s.isHome k then sharedRecs st.measSlot.isSome st.t0 l (s.stepSlots k st) else [])

/-- Whether every queue has credits for the records a Course sends it; the Keystone's 16 are kept back (R52). -/
def State.roomFor (s : State) (l : List OutRec) : Bool :=
  (List.range 40).all (fun q => decide ((l.filter (fun r => r.queue == q)).length ≤ s.credits q - 16))

/-- What follows when a thread's records find no credits (R52): the current step of its site is ABORTED. -/
def State.launchFull (s : State) (k : Nat) : State :=
  let c := k / 8
  let s := (s.markCur (s.homeThr k) mkAborted).setBit F.SEQ_STATUS_lq_full c 0 true
  s.report c sevAdvisory (detail clsSite (s.siteOf k))

/-- Enters a thread's records in order. -/
def State.enterAll (s : State) (k : Nat) (l : List OutRec) : State :=
  l.foldl (fun (s : State) (r : OutRec) => s.enterRecord r.queue r.inst r.target r.action false (s.siteOf k) r.payload k) s

/-- A thread stages the contexts of an admitted vendor step or ISSUE and commits its records; the home thread gives out the result slots. -/
def State.emitStep (s : State) (k : Nat) (st : Step) : State :=
  let recs := s.stepRecs k st
  if !s.roomFor recs then s.launchFull k
  else
    let site := s.siteOf k
    let slots := s.stepSlots k st
    let s := (s.stepCtxs k st).foldl (fun s b => s.stageCtx k b) s
    let s := if st.measSlot.isSome && s.isHome k then
        let t := s.rk.slotOf.filter (fun (e : Nat × Nat) => e.1 / 65536 != site)
        let t := slots.foldl (fun (t : Tbl Nat) (e : Nat × Nat) => if e.2 < 256 then Tbl.put t (65536 * site + e.1) (e.2 + 1) else t) t
        { s with rk := { s.rk with slotOf := t } }
      else s
    s.enterAll k recs

/-- Gives a thread the T0 of a step, in ticks. -/
def State.giveT0 (s : State) (k t0 : Nat) : State :=
  s.modThr k (fun x => { x with m := { x.m with t0 := t0 / 4096 }, com := { x.com with t0 := t0 / 4096 } })

/-- The site link brings a non-home thread the T0 of a step that its home thread's routine asked for (R265): at once where it has passed that
request, else kept until it comes there. -/
def State.sendT0 (s : State) (k t0 : Nat) : State :=
  ((s.appliers k).drop 1).foldl (fun s j =>
    if (s.thr j).needT0 then (s.giveT0 j t0).modThr j (fun x => { x with needT0 := false })
    else s.modThr j (fun x => { x with issued := x.issued ++ [t0 / 4096] })) s

/-- An admitted vendor step goes over the site link: each non-home thread applies it for its own Course, one that is HELD once it runs on (R265,
R294). -/
def State.sendStep (s : State) (k : Nat) (st : Step) : State :=
  ((s.appliers k).drop 1).foldl (fun s j =>
    if s.tstate j == stHeld then s.modThr j (fun x => { x with link := x.link ++ [.step st] })
    else (s.giveT0 j st.t0).emitStep j st) s

/-- The home thread's own part of an admitted vendor step or ISSUE; `next` follows, or without credits the end of the instruction as an ABORT (R52). -/
def State.emitHome (s : State) (k : Nat) (st : Step) (next : State → State) : State :=
  let s := s.giveT0 k st.t0
  if s.roomFor (s.stepRecs k st) then next (s.emitStep k st) else (s.launchFull k).abortRoutine k

/-- A committed step: its interval bounds the next (R275), its records are committed, and its routine goes on or ends. -/
def State.commitStep (s : State) (k : Nat) : State :=
  match (s.thr k).nxt.getLast? with
  | none => s
  | some st =>
    let s := s.modLast k (fun a => { a with st := .committed })
    let s := s.modThr k (fun x => { x with decided := some true, prevEnd := (st.end?.getD st.t0) })
    match st.kind with
    | .routine => (s.modThr k (fun x => { x with urgent := true })).sendT0 k st.t0
    | .waitev _ timeout =>
      let lim := if timeout = 0 then us (max 1 (s.fld F.SEQ_WLIMIT_limit_us (k / 8))) else ns timeout
      s.modThr k (fun x => { x with waitUntil := some (s.now + lim), m := { x.m with t0 := st.t0 / 4096 } })
    | .issue =>
      (s.sendT0 k st.t0).emitHome k st (fun s => s.modThr k (fun x => { x with service := none, phase := .seq }))
    | _ => (s.sendStep k st).emitHome k st (fun s => s.endInstr k)

/-! ### Refusals and DEFER (R22, R71 to R74, R100) -/

/-- Moves a thread's latest step to a T0 (ns) and asks again, at once where that horizon has passed too (R22); a step of a site that is being
parked is not asked again (R521). -/
def State.askAgain (s : State) (k t : Nat) (source : Nat) : State :=
  if s.fc.parking.contains (s.siteOf k) then (s.dropLast k).retryInstr k
  else s.modLast k (fun a => { a with t0 := ns t, st := .requested, lateReq := decide (ns t < s.now + us 50), source })

/-- An unbonded step, or one its bond does not let in, goes to the next slot its program allows. -/
def State.nextSlot (s : State) (k : Nat) (st : Step) : State :=
  s.askAgain k (s.slotFrom k (max (st.t0 / 4096 + 1) (ceilDiv s.now 4096 + 51000))) st.source

/-- What follows a refusal: a routine's own request ends refused, a vendor step or ISSUE asks again. -/
def State.refused (s : State) (k : Nat) (st : Step) (again : State → State) : State :=
  match st.kind with
  | .routine =>
    let s := ((s.appliers k).drop 1).foldl (fun s j => s.modThr j (fun x => { x with needT0 := false })) s
    (s.dropLast k).modThr k (fun x => { x with decided := some false })
  | _ => again s

/-- The thread's step is not asked for now: it holds at its boundary on a source (R79, R140). -/
def State.holdStep (s : State) (k : Nat) (h : HoldSrc) : State :=
  (((s.dropLast k).modThr k (fun x => { x with decided := some false })).addHold k h).retryInstr k

/-- A timely DEFER moves a bonded step to the first slot at or after t0 + 100 µs (R74). -/
def State.moveStep (s : State) (k : Nat) (st : Step) : State :=
  let s := s.ledgerDrop k st.t0
  match st.kind with
  | .routine => s.modLast k (fun a => { a with st := .deferred, deferred := true })
  | _ => (s.modLast k (fun a => { a with deferred := true })).askAgain k (s.slotFrom k (st.t0 / 4096 + 100000)) st.t0

/-- This chip sends DEFER for a bonded step (R73), which its partition log shows until the Quoin's next BEAT (R81). -/
def State.sendDefer (s : State) (n t0 : Nat) : State :=
  let b := s.bond n
  if b.deferSent.contains t0 then s
  else
    let s := s.sendBond n (.defer b.id t0)
    s.modBond n (fun b => { b with
      deferSent := b.deferSent.filter (fun t => decide (s.now ≤ t + ms 10)) ++ [t0], unanswered := b.unanswered ++ [t0] })

/-- Notes a step that this chip's own DEFER keeps from launching, for a SPLIT that may follow (R77). -/
def State.noteDefer (s : State) (n k : Nat) (st : Step) : State :=
  s.modBond n (fun b => { b with
    ownDefers := b.ownDefers.filter (fun (e : Nat × Nat × Nat) => decide (s.now ≤ e.2.1 + ms 10)) ++ [(k, st.t0, st.end?.getD st.t0)] })

/-- Releases a bonded reservation (R104). -/
def State.countRelease (s : State) : State :=
  ({ s with tally := { s.tally with releases := s.tally.releases + 1 } }).setBit F.TLY_STATUS_released 0 0 true

/-- The threads whose latest step is the provisional bonded step of slot n at t0. -/
def State.provisional (s : State) (n t0 : Nat) : List Nat :=
  (s.seq.th.filter (fun (e : Nat × Thread) => match e.2.nxt.getLast? with
    | some a => a.st == .provisional && a.bslot == some n && a.t0 == t0
    | none => false)).map (fun (e : Nat × Thread) => e.1)

/-- Defers the provisional steps of slot n at t0 on this chip. -/
def State.deferAll (s : State) (n t0 : Nat) : State :=
  (s.provisional n t0).foldl (fun s k =>
    match (s.thr k).nxt.getLast? with
    | some a => (s.countRelease).moveStep k a
    | none => s) s

/-- DEFER to the other members, with which every provisional step of this chip's own sites at t0 moves (R73, R74). -/
def State.deferHere (s : State) (n t0 : Nat) : State :=
  let s := s.sendDefer n t0
  let s := (s.provisional n t0).foldl (fun s k => match (s.thr k).nxt.getLast? with | some a => s.noteDefer n k a | none => s) s
  s.deferAll n t0

/-- A bonded step this chip does not launch: DEFER, and it moves (R73, R74). -/
def State.deferOwn (s : State) (k n : Nat) (st : Step) : State :=
  let s := (s.deferHere n st.t0).noteDefer n k st
  s.refused k st (fun s => s.moveStep k st)

/-! ### The Tally's decision (R98 to R100, R592) -/

/-- Whether a context that the step names could not be read (R527). -/
def State.badCtx (s : State) (st : Step) : Bool := (ctxRange st.ctx st.count).any (fun n => s.corruptLine (1072693248 + n))

/-- Enters an admitted step's cost (R90). -/
def State.ledgerAdd (s : State) (k : Nat) (st : Step) : State :=
  let e : LedgerEntry := ⟨k, st.t0, st.end?, st.c, st.smu⟩
  let s := { s with tally := { s.tally with entries := s.tally.entries ++ [e] } }
  if s.badCtx st then s.modLast k (fun a => { a with marks := a.marks ||| withInvalid mkAborted }) else s

/-- A refusal in Safe is counted and holds the thread (R140). -/
def State.refuseSafe (s : State) (k : Nat) (st : Step) : State :=
  let s := s.countRefusal
  match st.kind with
  | .routine => ((s.dropLast k).modThr k (fun x => { x with decided := some false })).addHold k .safe
  | _ => s.holdStep k .safe

/-- The blocks a thread's step needs, as BIST targets: those of every step, the Courses of its site, and those of the contexts it names. -/
def State.stepNeeds (s : State) (k : Nat) (st : Step) : List Nat :=
  let of_ (b : List Byte) : List Nat :=
    let t := ctxTarget b
    match ctxType b with
    | 1 => [t]
    | 2 => [44 + (if t < 128 then t / 32 else t - 128)]
    | 3 => [48 + t / 32]
    | 4 => [50]
    | _ => []
  [38, 39, 41, 58] ++ (s.appliers k).map (· / 8) ++ (if st.count = 0 then [] else [59]) ++
    (ctxRange st.ctx st.count).flatMap (fun n => of_ (s.ctx (k / 8) n))

/-- Whether an exclusive BIST run has a block the step needs: the step is then refused and its site reported (R532). -/
def State.stepExcl (s : State) (k : Nat) (st : Step) : Bool := (s.stepNeeds k st).any (fun t => s.bistExcl t)

/-- The report of a step refused for an exclusive run (R532). -/
def State.reportExcl (s : State) (k : Nat) : State := s.report 56 sevSite (detail clsSite (s.siteOf k))

/-- The decision on an unbonded step. -/
def State.decideAlone (s : State) (k : Nat) (st : Step) : State :=
  if s.inSafe then s.refuseSafe k st
  else if s.stepExcl k st then (s.reportExcl k).refused k st (fun s => s.nextSlot k st)
  else if st.lateReq || !s.tallyAdmits st then (s.countRefusal).refused k st (fun s => s.nextSlot k st)
  else (s.ledgerAdd k st).commitStep k

/-- Slot n launches no further step: DEFER goes out for this one, the slot is HELD with its fault and its log lines, and its sites hold at the first
step they do not admit. So it is when the grant has run out (`lost`; R71, R79, R81), and when this chip's time state no longer lets the
bond launch: every bond with a member on another card is then unreachable (Table 2.8, R62; DEDUCED, log entry 44). -/
def State.bondHeld (s : State) (n t0 : Nat) (lost : Bool) : State :=
  let s := s.deferHere n t0
  let s := if lost then s.setBit F.TB_STATUS_quoin_lost 0 0 true else s
  let s := s.report 40 sevDegraded (detail clsBond n)
  let s := ((s.partLog n 0 (s.bond n).grant).partLog n 3 s.now)
  s.modBond n (fun b => { b with st := .held })

/-- Whether slot n's grant does not reach the horizon of a step at t0 (R71); the Quoin's own always does. -/
def State.grantLost (s : State) (n t0 : Nat) : Bool := !s.isQuoin n && decide ((s.bond n).grant + us 50 < t0)

/-- A step carries the PARTITION mark exactly when its bond ages at its horizon (R82). -/
def Step.partition (a : Step) (age : Bool) : Step :=
  { a with marks := if age then a.marks ||| mkPartition else clrMask a.marks mkPartition }

/-- The decision on a bonded step through slot n. A step before the resume instant of a member that rejoined waits for that instant, and no DEFER
is sent for it (R83). -/
def State.decideBonded (s : State) (k n : Nat) (st : Step) : State :=
  let b := s.bond n
  let r := b.resumeAt.getD 0
  if st.t0 < r then s.refused k st (fun s => s.askAgain k (s.slotFrom k (ceilDiv r 4096)) st.source)
  else if s.inSafe then ((s.refuseSafe k st).deferHere n st.t0).noteDefer n k st
  else if s.grantLost n st.t0 || !s.bondTime n then
    ((s.bondHeld n st.t0 (s.grantLost n st.t0)).noteDefer n k st).holdStep k .bond
  else if s.stepExcl k st then (s.reportExcl k).deferOwn k n st
  else if st.lateReq || !s.tallyAdmits st then (s.countRefusal).deferOwn k n st
  else
    let age := s.ageing n
    let s := s.ledgerAdd k st
    let s := s.modLast k (fun a => ({ a with st := .provisional }).partition age)
    -- a DEFER for the step that came, or went, before this decision (R74, R104)
    if (s.bond n).deferRx.contains st.t0 || (s.bond n).deferSent.contains st.t0 then s.deferAll n st.t0 else s

/-- Decides a thread's latest request at its horizon, by the state of its bond slot (R592). -/
def State.decideStep (s : State) (k : Nat) (st : Step) : State :=
  match st.bslot with
  | none => s.decideAlone k st
  | some n =>
    let b := s.bond n
    let site := s.siteOf k
    if b.st == .empty || !b.sites.contains site || b.passed.contains site then
      (s.modLast k (fun a => { a with bslot := none })).decideAlone k { st with bslot := none }
    else
      match b.st with
      | .active => s.decideBonded k n st
      | .forming => if b.ready && decide (b.activation ≤ st.t0) then s.decideBonded k n st else s.refused k st (fun s => s.nextSlot k st)
      | .held => s.holdStep k .bond
      | .rejoined => s.holdStep k .bond
      | _ => s.refused k st (fun s => s.nextSlot k st)

/-- The request decided next (R99): the earliest horizon; among equal ones analogue steps first in Precision, then by thread. A request
that came after its horizon is decided now. -/
def State.nextRequest (s : State) : Option (Nat × Step) :=
  let reqs := s.seq.th.filterMap (fun (e : Nat × Thread) => match e.2.nxt.getLast? with
    | some a => if a.st == .requested then some (e.1, a) else none
    | none => none)
  let key (e : Nat × Step) : Nat := if e.2.lateReq then 0 else e.2.t0
  let before (a b : Nat × Step) : Bool :=
    if key a ≠ key b then decide (key a < key b)
    else if a.2.analogue != b.2.analogue && s.modeAt a.2.t0 == .precision then a.2.analogue
    else decide (a.1 < b.1)
  reqs.foldl (fun m e => match m with | some b => if before e b then some e else some b | none => some e) none

/-- Whether a slot may let a bonded step of a site through (R592). -/
def State.bondOpen (s : State) (n site t0 : Nat) : Bool :=
  let b := s.bond n
  b.sites.contains site && !b.passed.contains site && decide (b.resumeAt.getD 0 ≤ t0) &&
    (b.st == .active || (b.st == .forming && b.ready && decide (b.activation ≤ t0)))

/-- The home threads that have decoded a bonded step and still wait for its contexts: thread, slot and the T0 of the step, earliest first (R73). -/
def State.nextUnready (s : State) : Option (Nat × Nat × Nat) :=
  let l := s.seq.th.filterMap (fun (e : Nat × Thread) =>
    let k := e.1
    let x := e.2
    let op := s.fld F.SEQ_TSTAT_opcode (k / 8) (k % 8)
    if s.isHome k && s.running k && x.dec && x.waitSince.isSome && !x.asking && (op == 0x08 || op == 0x09 || op == 0x0A || x.service == some 0) then
      match x.bonded with
      | some n =>
        let t := ns (s.chooseT0 k (some n)).1
        if s.bondOpen n (s.siteOf k) t then some (k, n, t) else none
      | none => none
    else none)
  l.foldl (fun m e => match m with | some b => if e.2.2 < b.2.2 then some e else some b | none => some e) none

/-- A bonded step whose thread is not ready at its horizon: DEFER, or the end of the bond's launches where the grant has run out too (R71, R73).
The step's thread asks for the slot that R74 gives once it is ready. -/
def State.missHorizon (s : State) (n t0 : Nat) : State :=
  if s.grantLost n t0 || !s.bondTime n then s.bondHeld n t0 (s.grantLost n t0) else s.deferHere n t0

/-- The instant of a request's decision: its admission horizon, or, for a step that this chip's DEFER moved, the next tick where a SPLIT arriving
at the horizon itself is to be taken first (R77). -/
def State.horizonOf (s : State) (st : Step) : Nat :=
  match st.bslot with
  | some n =>
    if (s.bond n).deferSent.contains st.source && decide (st.t0 ≤ st.source + us 100) then st.t0 - us 50 + 1 else st.t0 - us 50
  | none => st.t0 - us 50

/-- ADMISSION_DECISION (R22, R71, R73, R98 to R100, R140, R592): the next horizon, of a request or of a bonded step whose thread is not ready. -/
def execAdmissionDecision (s : State) : Host.Outcome State Fault Refusal :=
  let miss (u : Nat × Nat × Nat) : State := ((s.reach (u.2.2 - us 50)).launchDue).missHorizon u.2.1 u.2.2
  match s.nextRequest, s.nextUnready with
  | none, none => .next s
  | none, some u => .next (miss u)
  | some (k, st), u =>
    match u with
    | some u => if !st.lateReq && decide (u.2.2 < st.t0) then .next (miss u) else .next (((if st.lateReq then s else s.reach (s.horizonOf st)).launchDue).decideStep k st)
    | none => .next (((if st.lateReq then s else s.reach (s.horizonOf st)).launchDue).decideStep k st)

/-- The provisional bonded step whose instant comes first. -/
def State.nextProvisional (s : State) : Option (Nat × Step) :=
  let l := s.seq.th.filterMap (fun (e : Nat × Thread) => match e.2.nxt.getLast? with
    | some a => if a.st == .provisional then some (e.1, a) else none
    | none => none)
  l.foldl (fun m e => match m with | some b => if e.2.t0 < b.2.t0 then some e else some b | none => some e) none

/-- BONDED_COMMIT (R78): at t0 − 5 µs a provisional step is committed. A DEFER received at that very instant is timely (R74), so the commit falls on
the tick after it (DESIGN CHOICE, log entry 45). -/
def execBondedCommit (s : State) : Host.Outcome State Fault Refusal :=
  match s.nextProvisional with
  | none => .next s
  | some (k, st) => .next (((s.reach (st.t0 - us 5 + 1)).launchDue).commitStep k)

end Sys2Proof.Machine
end

