-- ==== Sys2Proof/Machine/Bonds.lean ====
section
/-! DEFINITION. Bonds: their slots, formation, beats and grants, DEFER and SPLIT as they are received, dissolving and resuming
(R10, R44, R46, R64 to R70, R72 to R77, R83, R86, R87, R591). -/

namespace Sys2Proof.Machine

/-! ### Frames and messages received (R44, R46, R65, R66, R87) -/

/-- Whether a slot has joined its multicast groups (R463). -/
def BondSlot.live (b : BondSlot) : Bool :=
  match b.st with
  | .forming | .active | .held | .rejoined => true
  | _ => false

/-- The slot a bond ID names. -/
def State.slotOfId (s : State) (id : Nat) : Option Nat :=
  (s.bonds.find? (fun (e : Nat × BondSlot) => e.2.id == id && e.2.st != .empty && decide (id ≠ 0))).map (fun (e : Nat × BondSlot) => e.1)

/-- Whether the chip has joined a slot's multicast groups: from FORMING until the slot is EMPTY again (R463). -/
def BondSlot.joined (b : BondSlot) : Bool := b.st != .empty && b.st != .defined

/-- The multicast groups that a port has joined (R463). -/
def State.groups (s : State) (port : Nat) : List (List Byte) :=
  (s.bonds.filter (fun (e : Nat × BondSlot) => e.2.joined)).map (fun (e : Nat × BondSlot) => bondGroup port e.2.id)

/-- The instant that a frame or a message carries, in ticks: the low 32 bits of nanoseconds on the lines (R44), the whole instant in a message. -/
def State.bondInstant (s : State) (via : Via) (r : BondRx) : Nat :=
  match via with
  | .lines => s.resolve32 r.inst
  | .eth _ => r.inst

/-- Whether a time state lets latency be measured (R66). -/
def latencyState (t : Nat) (past : Bool) : Bool := t == tsLocked || (t == tsDomain && !past)

/-- Counts a message's latency for its slot, in picoseconds: its ingress timestamp less its tx_time (R66). -/
def State.bondLatency (s : State) (n sender tx : Nat) : State :=
  if latencyState s.timeState s.tb.limitPassed && latencyState (Tbl.get (s.bond n).info {} sender).tstate false then
    let lat := ticksToPs (s.now - tx)
    s.modBond n (fun b => { b with latMax := max b.latMax lat, latSum := b.latSum + lat, latN := b.latN + 1 })
  else s

/-- A bond frame `f`, or the message of its type: a frame that arrives badly on the lines is counted, a message of a sender and number accepted in the last
100 ms is discarded, an unassigned chip accepts none, and a chip does not take up what it sent itself; `k` acts on it for the slot it names. -/
def State.onBond (s : State) (via : Via) (f : Frame) (check : Nat) (k : Nat → BondRx → State → State) : State :=
  match via with
  | .lines =>
    s.onLine (f.heard check) f.kind (fun s =>
      let r := rxLine (f.heard check)
      let s := s.frameEvent f.kind r.bond r.inst
      if s.unassigned then s else match s.slotOfId r.bond with | some n => k n r s | none => s)
  | .eth m =>
    let r := rxMsg m
    let seq := msgNat m 30 2
    if s.unassigned || !goodMsg m || msgNat m 3 1 != f.kind || r.chip == s.chipNumber then s
    else
      let kept := s.net.accepted.filter (fun (e : Nat × Nat × Nat) => decide (s.tb.loc ≤ e.2.2 + ms 100))
      if kept.any (fun (e : Nat × Nat × Nat) => e.1 == r.chip && e.2.1 == seq) then s
      else
        match s.slotOfId r.bond with
        | none => s
        | some n =>
          if !(s.bond n).live then s
          else
            let s := { s with net := { s.net with accepted := kept ++ [(r.chip, seq, s.tb.loc)] } }
            let s := s.frameEvent f.kind r.bond (r.inst / 4096 % 4294967296)
            k n r (s.bondLatency n r.chip (timeTicks ((m.drop 20).take 10)))

/-- Takes up the first good copy of a frame of a kind and instant, the instant in whole nanoseconds as the lines carry it; instants of more than 10 ms ago are forgotten (R46). -/
def State.firstCopy (s : State) (n kind t : Nat) (k : State → State) : State :=
  let t := t / 4096 * 4096
  if (s.bond n).seen.contains (kind, t) then s
  else
    k (s.modBond n (fun b => { b with seen := b.seen.filter (fun (e : Nat × Nat) => decide (s.now ≤ e.2 + ms 10)) ++ [(kind, t)] }))

/-! ### Forming (R64, R68, R70, R591) -/

/-- Changes what is known of a member. -/
def State.modMember (s : State) (n chip : Nat) (f : MemberInfo → MemberInfo) : State :=
  s.modBond n (fun b => { b with info := Tbl.set b.info {} chip (f (Tbl.get b.info {} chip)) })

/-- The other members of a slot. -/
def State.others (s : State) (n : Nat) : List Nat := (s.bond n).members.filter (fun m => m != s.chipNumber)

/-- Whether a member has joined and its time state permits the medium, by its latest JOIN and, on LINES, its latest PRESENCE. -/
def State.memberReady (s : State) (n chip : Nat) : Bool :=
  let b := s.bond n
  let i := Tbl.get b.info {} chip
  i.joined && permits b.medium i.tstate i.sync false &&
    (b.medium == .eth || s.tb.roster.any (fun (e : Nat × RosterEntry) =>
      e.2.chip == chip && !e.2.unassigned && permits b.medium e.2.tstate e.2.sync false))

/-- Formation has succeeded here: the first grant runs to A + 400 µs, and beats are expected from A (R70). -/
def State.armBond (s : State) (n : Nat) : State :=
  s.modBond n (fun b => { b with
    ready := true, grant := b.activation + us 400, lastRx := b.activation
    info := b.members.foldl (fun (t : Tbl MemberInfo) (m : Nat) =>
      Tbl.set t {} m { Tbl.get t {} m with lastBeat := b.activation, absent := false }) b.info })

/-- The Quoin sends READY once every member has joined (R68, R70). -/
def State.tryReady (s : State) (n : Nat) : State :=
  let b := s.bond n
  if b.st == .forming && !b.ready && s.isQuoin n && s.bondTime n && decide (s.now + ms 1 ≤ b.activation) &&
      (s.others n).all (fun m => s.memberReady n m) then
    (s.sendBond n (.ready b.id b.activation)).armBond n
  else s

/-- Every slot whose formation may now succeed. -/
def State.tryReadyAll (s : State) : State := s.bonds.foldl (fun s (e : Nat × BondSlot) => s.tryReady e.1) s

/-- The slot returns to EMPTY: sub-indices 0x01 to 0x04 are at their defaults, and its sites run unbonded (R86). -/
def State.emptyBond (s : State) (n : Nat) : State :=
  let b := s.bond n
  let s := s.setBond n { splits := b.splits, log := b.log, latMaxPub := b.latMaxPub, latMeanPub := b.latMeanPub }
  let s := { s with dict := Tbl.drop s.dict (odKey (0x2100 + n) 3) }
  b.sites.foldl (fun s site => (s.threadsOf site).foldl (fun s k => s.dropHold k .bond) s) s

/-- BOND_SLOT_WRITE: bond ID, Quoin, member list or site mask (R591). -/
def wrBondSlot (n sub : Nat) (h : Hdr) (d : Sys2Proof.Data) (s : State) : State × Nat :=
  let ty := if sub = 1 then tU16 else if sub = 2 then tU32 else tBlob
  s.item490 h d ty (fun l => l == (if sub = 3 then 256 else 32)) (s.bond n).live (fun s =>
    let s := if sub = 3 then s.setOd (0x2100 + n) 3 d.bytes else s
    (s.modBond n (fun b =>
      let b := { b with st := .defined }
      match sub with
      | 1 => { b with id := dNat d }
      | 2 => { b with quoin := dNat d }
      | 3 =>
        { b with members := ((List.range 64).map (fun k => dSub d (4 * k) 4)).filter (fun m => decide (m < 262144)) |>.eraseDups }
      | _ => { b with sites := (List.range 256).filter (fun k => (dNat d).testBit k) }), eOk))

/-- BOND_SLOT_WRITE. -/
def execBondSlotWrite (h : Hdr) (d : Sys2Proof.Data) (n sub : Nat) (s : State) : Host.Outcome State Fault Refusal :=
  if 64 ≤ n ∨ sub = 0 ∨ 4 < sub then .next s
  else .next (s.hostItem (.bondSlotWrite h d n sub) h (wrBondSlot n sub h d))

/-- The form command: the medium is settled, and JOIN is sent with the time state and SYNC present (R64, R591). -/
def wrBondForm (n : Nat) (h : Hdr) (d : Sys2Proof.Data) (s : State) : State × Nat :=
  s.item490 h d tTime80 anyLen false (fun s =>
    let b := s.bond n
    if b.st == .empty || b.id == 0 || s.unassigned then (s, eAddrRange)
    else if b.live then (s, eBlockEnabled)
    else
      let here (m : Nat) : Bool := m == s.chipNumber || s.tb.roster.any (fun (e : Nat × RosterEntry) => e.2.chip == m && !e.2.unassigned)
      let s := s.setBond n { b with
        st := .forming, activation := dTime d, ready := false, medium := if b.members.all here then .lines else .eth, resumeAt := none
        dissolving := false, passed := [], deferSent := [], ownDefers := [], deferRx := [], splitSent := [], seen := [], unanswered := [] }
      let sync := s.bit F.TB_STATUS_sync_present
      let s := s.modMember n s.chipNumber (fun i => { i with joined := true, tstate := s.timeState, sync })
      let s := s.sendBond n (.join b.id s.chipNumber s.timeState sync b.activation)
      (s.tryReady n, eOk))

/-- BOND_FORM. -/
def execBondForm (h : Hdr) (d : Sys2Proof.Data) (n : Nat) (s : State) : Host.Outcome State Fault Refusal :=
  if 64 ≤ n then .next s else .next (s.hostItem (.bondForm h d n) h (wrBondForm n h d))

/-- JOIN (R64): the Quoin keeps each member's latest time state. -/
def execJoin (via : Via) (bond chip tstate : Nat) (sync : Bool) (check : Nat) (s : State) : Host.Outcome State Fault Refusal :=
  .next (s.onBond via (.join bond chip tstate sync 0) check (fun n r s =>
    (s.modMember n r.chip (fun i => { i with joined := true, tstate := r.tstate, sync := r.sync })).tryReady n))

/-- PRESENCE (R33, R64; Table 2.3): the roster and the choice of the timekeeper follow; a Quoin on LINES judges its members by it. -/
def execPresence (chip pos mode tstate : Nat) (unassigned sync : Bool) (check : Nat) (s : State) : Host.Outcome State Fault Refusal :=
  let word := (Frame.presence chip pos mode tstate unassigned sync).heard check
  .next (s.onLine word 0x1 (fun s =>
    let chip := bitsAt word 55 38
    let tstate := bitsAt word 28 26
    let unassigned := word.testBit 25
    let sync := word.testBit 24
    let s := s.hearPresence chip (bitsAt word 37 32) (bitsAt word 31 29) tstate unassigned sync
    let s := if unassigned then s else
      s.bonds.foldl (fun s (e : Nat × BondSlot) =>
        if e.2.members.contains chip && (Tbl.get e.2.info {} chip).joined then
          s.modMember e.1 chip (fun i => { i with tstate, sync }) else s) s
    s.tryReadyAll))

/-- SYNC_EDGE (R31 to R38, R47, R59, R60): the time base moves; a Quoin whose own time state then permits its medium sends READY. -/
def execSyncEdge (capture : Nat) (s : State) : Host.Outcome State Fault Refusal := .next (s.syncEdge capture).tryReadyAll

/-- READY (R68, R70): it counts for the activation instant of the slot's form command, until 1 ms before it. -/
def execReady (via : Via) (bond inst check : Nat) (s : State) : Host.Outcome State Fault Refusal :=
  .next (s.onBond via (.ready bond inst) check (fun n r s =>
    let b := s.bond n
    if b.st == .forming && !b.ready && !s.isQuoin n && s.bondInstant via r / 4096 == b.activation / 4096 &&
      decide (s.now + ms 1 ≤ b.activation) then s.armBond n else s))

/-- BOND_READY_DEADLINE (R68): 1 ms before the activation instant without READY. JOINs received so far count no more. -/
def execBondReadyDeadline (n : Nat) (s : State) : Host.Outcome State Fault Refusal :=
  let b := s.bond n
  if b.st == .forming && !b.ready then
    let s := s.reach (b.activation - ms 1)
    if b.dissolving then .next (s.emptyBond n)
    else .next (s.modBond n (fun b => { b with st := .formFailed, info := [] }))
  else .next s

/-- BOND_ACTIVATION (R68): a slot that has READY becomes ACTIVE at A. -/
def State.activateBond (s : State) (n : Nat) : State :=
  let b := s.bond n
  if b.st == .forming && b.ready then (s.reach b.activation).modBond n (fun b => { b with st := .active }) else s

/-- BOND_ACTIVATION. -/
def execBondActivation (n : Nat) (s : State) : Host.Outcome State Fault Refusal := .next (s.activateBond n)

/-! ### Beats and grants (R70, R72, R83) -/

/-- The instant of the next beat: A + k × 100 µs, after the one sent last. -/
def State.nextBeat (s : State) (n : Nat) : Nat :=
  let b := s.bond n
  let m := match b.beatAt with | some t => max s.now (t + us 100) | none => s.now
  if m ≤ b.activation then b.activation else b.activation + ceilDiv (m - b.activation) (us 100) * us 100

/-- BEAT_SEND (R70): the Quoin's beat with G 400 µs after it. -/
def execBeatSend (n : Nat) (s : State) : Host.Outcome State Fault Refusal :=
  let s := s.tryReady n
  let s := if decide ((s.bond n).activation ≤ s.now) then s.activateBond n else s
  if (s.bond n).st == .active && s.isQuoin n then
    let t := s.nextBeat n
    let s := s.reach t
    let s := s.sendBond n (.beat (s.bond n).id (t + us 400))
    -- a DEFER of its own is answered by its own next beat (R81)
    .next (s.modBond n (fun b => { b with grant := t + us 400, beatAt := some t, unanswered := [] }))
  else .next s

/-- MEMBER_BEAT_SEND (R70): every other member's beat, in a HELD or REJOINED slot too (R83). -/
def execMemberBeatSend (n : Nat) (s : State) : Host.Outcome State Fault Refusal :=
  let s := if decide ((s.bond n).activation ≤ s.now) then s.activateBond n else s
  let b := s.bond n
  if (b.st == .active || b.st == .held || b.st == .rejoined) && !s.isQuoin n then
    let t := s.nextBeat n
    let s := (s.reach t).sendBond n (.memberBeat b.id s.chip18)
    .next (s.modBond n (fun b => { b with beatAt := some t }))
  else .next s

/-- BEAT (R70, R81, R83): the member takes the grant; a HELD slot becomes REJOINED. -/
def execBeat (via : Via) (bond inst check : Nat) (s : State) : Host.Outcome State Fault Refusal :=
  .next (s.onBond via (.beat bond inst) check (fun n r s =>
    let b := s.bond n
    let g := s.bondInstant via r
    if s.isQuoin n || !(b.live && (b.ready || b.st != .forming)) then s
    else s.firstCopy n 4 g (fun s =>
      s.modBond n (fun b => { b with
        grant := g, lastRx := s.now, unanswered := [], st := if b.st == .held then .rejoined else b.st }))))

/-- MEMBER_BEAT (R72): the Quoin hears a member. -/
def execMemberBeat (via : Via) (bond chip check : Nat) (s : State) : Host.Outcome State Fault Refusal :=
  .next (s.onBond via (.memberBeat bond chip) check (fun n r s =>
    if s.isQuoin n && (s.others n).contains r.chip && (s.bond n).ready then
      s.modMember n r.chip (fun i => { i with lastBeat := s.now, absent := false })
    else s))

/-- MEMBER_ABSENT (R72): 300 µs without a MEMBER_BEAT. -/
def execMemberAbsent (n chip : Nat) (s : State) : Host.Outcome State Fault Refusal :=
  let i := Tbl.get (s.bond n).info {} chip
  if s.isQuoin n && (s.bond n).st == .active && (s.others n).contains chip && !i.absent then
    .next ((s.reach (i.lastBeat + us 300)).modMember n chip (fun i => { i with absent := true }))
  else .next s

/-- BOND_LATENCY_CHECK (R66, R67): each second's maximum and mean are published for every slot; one above 20 µs is an Advisory fault. -/
def execBondLatencyCheck (s : State) : Host.Outcome State Fault Refusal :=
  let s := s.nextLoc (ms 1000)
  .next (s.bonds.foldl (fun s (e : Nat × BondSlot) =>
    let b := e.2
    let s := s.setBond e.1 { b with
      latMaxPub := b.latMax, latMeanPub := if b.latN = 0 then 0 else b.latSum / b.latN, latMax := 0, latSum := 0, latN := 0 }
    if 20000000 < b.latMax then s.report 40 sevAdvisory (detail clsBond e.1) else s) s)

/-! ### DEFER and SPLIT received (R74 to R77) -/

/-- Whether a thread has a committed, launched or ended step of slot n at t0. -/
def Thread.ranBonded (x : Thread) (n t0 : Nat) : Bool :=
  let is (a : Step) : Bool := a.bslot == some n && a.t0 == t0
  x.nxt.any (fun a => is a && a.st == .committed) || x.step.any is || x.olds.any is

/-- The threads of such steps. -/
def State.ranThreads (s : State) (n t0 : Nat) : List Nat :=
  (s.seq.th.filter (fun (e : Nat × Thread) => e.2.ranBonded n t0)).map (fun (e : Nat × Thread) => e.1)

/-- A split step on this chip: INVALID for its sites, once counted (R75). -/
def State.splitStep (s : State) (n t0 : Nat) : State :=
  let ks := s.ranThreads n t0
  if ks.isEmpty || (s.bond n).seen.contains (0, t0) then s
  else
    let s := ks.foldl (fun s k => s.markAt k t0 mkSplit) s
    (s.modBond n (fun b => { b with seen := b.seen ++ [(0, t0)] })).countSplit n

/-- Sends SPLIT for a step, once (R76). -/
def State.sendSplit (s : State) (n t0 : Nat) : State :=
  if (s.bond n).splitSent.contains t0 then s
  else (s.sendBond n (.split (s.bond n).id t0)).modBond n (fun b => { b with splitSent := b.splitSent ++ [t0] })

/-- Whether the slot takes part in DEFER and SPLIT: until the resume instant a rejoined member does not (R83). -/
def BondSlot.takesPart (b : BondSlot) (t0 : Nat) : Bool :=
  (b.st == .active || b.st == .held || (b.st == .forming && b.ready)) && (match b.resumeAt with | some r => decide (r ≤ t0) | none => true)

/-- DEFER (R74, R75, R104): timely, the step moves; late, it is split, and SPLIT follows at t0. -/
def execDefer (via : Via) (bond inst check : Nat) (s : State) : Host.Outcome State Fault Refusal :=
  .next (s.onBond via (.defer bond inst) check (fun n r s =>
    let t0 := s.bondInstant via r
    if !(s.bond n).takesPart t0 then s
    else s.firstCopy n 2 t0 (fun s =>
      if s.now + us 5 ≤ t0 then
        (s.modBond n (fun b => { b with deferRx := b.deferRx ++ [t0] })).deferAll n t0
      else s.splitStep n t0)))

/-- SPLIT_SEND (R75, R76): at t0, for a step that was split here, or whose DEFER this chip sent while no other member's was timely. -/
def execSplitSend (n t0 : Nat) (s : State) : Host.Outcome State Fault Refusal :=
  let b := s.bond n
  let mine := b.deferSent.contains t0 && !b.deferRx.contains t0
  if b.live && b.takesPart t0 && (mine || b.seen.contains (0, t0)) then .next (((s.reach t0).launchDue).sendSplit n t0) else .next s

/-- A step of a thread that this chip's DEFER named was launched by others: its sites' results are INVALID, it is not run later, and the thread
goes on from its end (R77). -/
def State.withdrawOwn (s : State) (n t0 : Nat) (e : Nat × Nat × Nat) : State :=
  let k := e.1
  let site := s.siteOf k
  let s := s.setItem site 1 (s.item site 1 ||| withInvalid mkSplit)
  let s := s.modThr k (fun x => { x with prevEnd := max x.prevEnd e.2.2 })
  match (s.thr k).nxt.getLast? with
  | none => s
  | some a =>
    if a.bslot == some n && (a.source == t0 || a.t0 == t0) && (a.st == .requested || a.st == .deferred) then
      let s := (s.dropLast k).modThr k (fun x => { x with decided := some false })
      match a.kind with
      | .routine => s
      | _ => s.endInstr k
    else s

/-- The steps of this chip that its DEFER named are withdrawn, and the split is counted (R75, R77). -/
def State.withdrawSplit (s : State) (n t0 : Nat) : State :=
  let mine := (s.bond n).ownDefers.filter (fun (e : Nat × Nat × Nat) => e.2.1 == t0)
  let s := mine.foldl (fun s e => s.withdrawOwn n t0 e) s
  let counted := (s.bond n).seen.contains (0, t0)
  let s := s.modBond n (fun b => { b with
    seen := if counted then b.seen else b.seen ++ [(0, t0)], deferSent := removeNat b.deferSent t0
    ownDefers := b.ownDefers.filter (fun (e : Nat × Nat × Nat) => e.2.1 != t0) })
  if counted then s else s.countSplit n

/-- SPLIT (R76, R77). -/
def execSplit (via : Via) (bond inst check : Nat) (s : State) : Host.Outcome State Fault Refusal :=
  .next (s.onBond via (.split bond inst) check (fun n r s =>
    let t0 := s.bondInstant via r
    if !(s.bond n).takesPart t0 then s
    else s.firstCopy n 3 t0 (fun s =>
      let s := s.launchDue
      let s := if (s.ranThreads n t0).isEmpty then s else (s.splitStep n t0).sendSplit n t0
      if (s.bond n).deferSent.contains t0 && decide (s.now ≤ t0 + us 50) then s.withdrawSplit n t0 else s)))

/-! ### Dissolve and resume (R83, R86, R591) -/

/-- Whether a site lies at a step boundary now: no thread of it runs an instruction. -/
def State.siteAtRest (s : State) (site : Nat) : Bool :=
  match s.homeOf site with
  | some k => !s.running k || s.tstate k == stHeld
  | none => true

/-- The dissolve command. -/
def wrBondDissolve (n : Nat) (h : Hdr) (d : Sys2Proof.Data) (s : State) : State × Nat :=
  s.item490 h d tBool anyLen false (fun s =>
    let b := s.bond n
    if !dFlag d || b.dissolving then (s, eOk)
    else if !b.live then (if b.st == .empty then s else s.emptyBond n, eOk)
    else (s.setBond n { b with dissolving := true, passed := b.sites.filter s.siteAtRest }, eOk))

/-- BOND_DISSOLVE. -/
def execBondDissolve (h : Hdr) (d : Sys2Proof.Data) (n : Nat) (s : State) : Host.Outcome State Fault Refusal :=
  if 64 ≤ n then .next s else .next (s.hostItem (.bondDissolve h d n) h (wrBondDissolve n h d))

/-- BOND_DISSOLVE_COMPLETE (R86): every site has passed its boundary, and no bonded step admitted before it waits for its launch. -/
def execBondDissolveComplete (n : Nat) (s : State) : Host.Outcome State Fault Refusal :=
  let s := s.launchDue
  let b := s.bond n
  let waits (a : Step) : Bool := a.bslot == some n && (a.st == .provisional || a.st == .committed)
  if b.dissolving && b.sites.all (fun x => b.passed.contains x || s.siteAtRest x) && !s.seq.th.any (fun (e : Nat × Thread) => e.2.nxt.any waits) then
    .next (s.emptyBond n)
  else .next s

/-- The resume command: the slot is ACTIVE again from the bonded step at T on (R83). -/
def wrBondResume (n : Nat) (h : Hdr) (d : Sys2Proof.Data) (s : State) : State × Nat :=
  s.item490 h d tTime80 anyLen false (fun s =>
    let b := s.bond n
    let t := dTime d
    if b.st != .rejoined then (s, eModeConflict)
    else if t < s.now + us 50 then (s, eHorizonPassed)
    else
      let s := s.setBond n { b with st := .active, resumeAt := some t }
      (b.sites.foldl (fun s site => (s.threadsOf site).foldl (fun s k => s.dropHold k .bond) s) s, eOk))

/-- BOND_RESUME. -/
def execBondResume (h : Hdr) (d : Sys2Proof.Data) (n : Nat) (s : State) : Host.Outcome State Fault Refusal :=
  if 64 ≤ n then .next s else .next (s.hostItem (.bondResume h d n) h (wrBondResume n h d))

end Sys2Proof.Machine
end

