-- ==== Sys2Proof/Machine/OdTable.lean ====
section
/-! DEFINITION. The object dictionary: which entries there are, with their types, access codes and fixed BLOB lengths (R488 to R490). -/

namespace Sys2Proof.Machine

/-- Access of an entry; `cmd` covers CMD and WO entries, `rw` RW and RWS (R492). -/
inductive OdAcc where
  | ro | rw | cmd
deriving DecidableEq, Repr

/-- One line of a dictionary table: `cnt` indices from `base`, `stride` apart, each with the sub-indices `lo` to `hi`. `len` is a
BLOB's fixed length, 0 where it varies. -/
structure OdRow where
  base : Nat
  cnt : Nat
  stride : Nat
  lo : Nat
  hi : Nat
  ty : Nat
  acc : OdAcc
  len : Nat
deriving DecidableEq, Repr

/-- Identity entries (Table 17.2). -/
def identR : List OdRow := [
  ⟨0x1000, 1, 1, 0, 0, tU32, .ro, 0⟩,
  ⟨0x1001, 1, 1, 0, 0, tU8, .ro, 0⟩,
  ⟨0x1002, 1, 1, 0, 0, tU32, .ro, 0⟩,
  ⟨0x1003, 1, 1, 0, 0, tU8, .ro, 0⟩,
  ⟨0x1004, 1, 1, 0, 0, tBlob, .ro, 8⟩,
  ⟨0x1005, 1, 1, 0, 0, tBlob, .ro, 16⟩,
  ⟨0x1006, 1, 1, 0, 0, tU8, .ro, 0⟩,
  ⟨0x1007, 1, 1, 0, 0, tU16, .ro, 0⟩,
  ⟨0x1008, 1, 1, 0, 0, tU64, .ro, 0⟩,
  ⟨0x1009, 1, 1, 0, 0, tU32, .ro, 0⟩,
  ⟨0x100A, 1, 1, 0, 0, tU8, .ro, 0⟩,
  ⟨0x1010, 1, 1, 0, 0, tBool, .cmd, 0⟩]

/-- Modes, time, bonds and Tally (Tables 4.7, 2.11 and 3.6). -/
def timeR : List OdRow := [
  ⟨0x1100, 1, 1, 0, 0, tU8, .ro, 0⟩,
  ⟨0x1101, 1, 1, 0, 0, tBlob, .cmd, 0⟩,
  ⟨0x1102, 1, 1, 0, 0, tBlob, .ro, 11⟩,
  ⟨0x1103, 1, 1, 0, 0, tBlob, .ro, 11⟩,
  ⟨0x1104, 1, 1, 0, 0, tU64, .ro, 0⟩,
  ⟨0x1105, 1, 1, 0, 0, tU64, .ro, 0⟩,
  ⟨0x1106, 1, 1, 0, 0, tU64, .ro, 0⟩,
  ⟨0x1107, 1, 1, 0, 0, tU64, .ro, 0⟩,
  ⟨0x2000, 1, 1, 0, 0, tTime80, .ro, 0⟩,
  ⟨0x2001, 1, 1, 0, 0, tU8, .ro, 0⟩,
  ⟨0x2002, 1, 1, 0, 0, tU32, .rw, 0⟩,
  ⟨0x2003, 1, 1, 0, 0, tU8, .rw, 0⟩,
  ⟨0x2004, 1, 1, 0, 0, tI64, .ro, 0⟩,
  ⟨0x2005, 1, 1, 0, 0, tU64, .rw, 0⟩,
  ⟨0x2006, 1, 1, 0, 0, tI32, .ro, 0⟩,
  ⟨0x2007, 1, 1, 0, 0, tI32, .ro, 0⟩,
  ⟨0x2008, 1, 1, 0, 0, tU64, .ro, 0⟩,
  ⟨0x2009, 1, 1, 0, 0, tU64, .ro, 0⟩,
  ⟨0x200A, 1, 1, 0, 0, tBool, .cmd, 0⟩,
  ⟨0x200B, 1, 1, 0, 0, tBlob, .ro, 448⟩,
  ⟨0x200C, 1, 1, 0, 0, tU64, .ro, 0⟩,
  ⟨0x2100, 64, 1, 1, 1, tU16, .rw, 0⟩,
  ⟨0x2100, 64, 1, 2, 2, tU32, .rw, 0⟩,
  ⟨0x2100, 64, 1, 3, 3, tBlob, .rw, 256⟩,
  ⟨0x2100, 64, 1, 4, 4, tBlob, .rw, 32⟩,
  ⟨0x2100, 64, 1, 5, 5, tU8, .ro, 0⟩,
  ⟨0x2100, 64, 1, 6, 6, tU8, .ro, 0⟩,
  ⟨0x2100, 64, 1, 7, 7, tTime80, .cmd, 0⟩,
  ⟨0x2100, 64, 1, 8, 8, tBool, .cmd, 0⟩,
  ⟨0x2100, 64, 1, 9, 9, tTime80, .cmd, 0⟩,
  ⟨0x2100, 64, 1, 10, 10, tU64, .ro, 0⟩,
  ⟨0x2100, 64, 1, 11, 11, tU64, .ro, 0⟩,
  ⟨0x2100, 64, 1, 12, 12, tU64, .ro, 0⟩,
  ⟨0x2100, 64, 1, 13, 13, tBlob, .ro, 0⟩,
  ⟨0x2200, 1, 1, 0, 0, tU32, .rw, 0⟩,
  ⟨0x2201, 1, 1, 0, 0, tU8, .rw, 0⟩,
  ⟨0x2202, 1, 1, 0, 0, tU16, .ro, 0⟩,
  ⟨0x2203, 1, 1, 1, 6, tU32, .ro, 0⟩,
  ⟨0x2204, 1, 1, 0, 0, tU32, .ro, 0⟩,
  ⟨0x2205, 1, 1, 0, 0, tU16, .ro, 0⟩,
  ⟨0x2206, 1, 1, 0, 0, tU64, .ro, 0⟩,
  ⟨0x2207, 1, 1, 0, 0, tU64, .ro, 0⟩,
  ⟨0x2208, 1, 1, 0, 0, tU32, .ro, 0⟩,
  ⟨0x2209, 1, 1, 0, 0, tBool, .cmd, 0⟩]

/-- Pin channels (Table 5.8). -/
def pinR : List OdRow := [
  ⟨0x3000, 32, 32, 0, 32, tU8, .ro, 0⟩,
  ⟨0x3001, 32, 32, 0, 32, tI64, .rw, 0⟩,
  ⟨0x3002, 32, 32, 0, 32, tI64, .rw, 0⟩,
  ⟨0x3003, 32, 32, 0, 32, tI64, .rw, 0⟩,
  ⟨0x3004, 32, 32, 0, 32, tI64, .rw, 0⟩,
  ⟨0x3005, 32, 32, 0, 32, tI64, .rw, 0⟩,
  ⟨0x3006, 32, 32, 0, 32, tI64, .rw, 0⟩,
  ⟨0x3007, 32, 32, 0, 32, tI64, .rw, 0⟩,
  ⟨0x3008, 32, 32, 0, 32, tI64, .rw, 0⟩,
  ⟨0x3009, 32, 32, 0, 32, tU32, .rw, 0⟩,
  ⟨0x300A, 32, 32, 0, 32, tU32, .rw, 0⟩,
  ⟨0x300B, 32, 32, 0, 32, tU32, .rw, 0⟩,
  ⟨0x300C, 32, 32, 0, 32, tU32, .rw, 0⟩,
  ⟨0x300D, 32, 32, 0, 32, tI64, .rw, 0⟩,
  ⟨0x300E, 32, 32, 0, 32, tBlob, .rw, 0⟩,
  ⟨0x300F, 32, 32, 0, 32, tBlob, .rw, 0⟩,
  ⟨0x3010, 32, 32, 0, 32, tBlob, .rw, 0⟩,
  ⟨0x3011, 32, 32, 0, 32, tI64, .rw, 0⟩,
  ⟨0x3012, 32, 32, 0, 32, tBool, .cmd, 0⟩,
  ⟨0x3013, 32, 32, 0, 32, tU64, .ro, 0⟩,
  ⟨0x3014, 32, 32, 0, 32, tI64, .ro, 0⟩,
  ⟨0x3015, 32, 32, 0, 32, tU64, .ro, 0⟩,
  ⟨0x3016, 32, 32, 32, 32, tU8, .cmd, 0⟩,
  ⟨0x3017, 32, 32, 32, 32, tU8, .ro, 0⟩,
  ⟨0x3018, 32, 32, 0, 32, tU64, .ro, 0⟩,
  ⟨0x3019, 32, 32, 0, 32, tBool, .cmd, 0⟩,
  ⟨0x301F, 32, 32, 0, 0, tBool, .cmd, 0⟩]

/-- SMUs and waveform channels (Tables 11.7 and 12.7). -/
def analogR : List OdRow := [
  ⟨0x4000, 1, 1, 0, 131, tU8, .ro, 0⟩,
  ⟨0x4001, 1, 1, 0, 131, tU32, .rw, 0⟩,
  ⟨0x4002, 1, 1, 0, 131, tI64, .rw, 0⟩,
  ⟨0x4003, 1, 1, 0, 131, tBlob, .rw, 16⟩,
  ⟨0x4004, 1, 1, 0, 131, tBlob, .rw, 16⟩,
  ⟨0x4005, 1, 1, 0, 131, tU32, .rw, 0⟩,
  ⟨0x4006, 1, 1, 0, 131, tU64, .rw, 0⟩,
  ⟨0x4007, 1, 1, 0, 131, tU32, .rw, 0⟩,
  ⟨0x4008, 1, 1, 0, 131, tBlob, .rw, 16⟩,
  ⟨0x4009, 1, 1, 0, 131, tBlob, .rw, 16⟩,
  ⟨0x400A, 1, 1, 0, 131, tI64, .rw, 0⟩,
  ⟨0x400B, 1, 1, 0, 131, tBool, .cmd, 0⟩,
  ⟨0x400C, 1, 1, 0, 131, tU64, .ro, 0⟩,
  ⟨0x400D, 1, 1, 0, 131, tI64, .ro, 0⟩,
  ⟨0x400E, 1, 1, 0, 131, tU64, .ro, 0⟩,
  ⟨0x400F, 1, 1, 0, 131, tU32, .ro, 0⟩,
  ⟨0x4010, 1, 1, 0, 131, tBlob, .ro, 14⟩,
  ⟨0x4011, 1, 1, 0, 131, tBool, .cmd, 0⟩,
  ⟨0x4400, 1, 1, 0, 3, tU8, .cmd, 0⟩,
  ⟨0x4401, 1, 1, 0, 3, tU8, .ro, 0⟩,
  ⟨0x4402, 1, 1, 0, 0, tBlob, .ro, 16⟩,
  ⟨0x4403, 1, 1, 0, 3, tBool, .cmd, 0⟩,
  ⟨0x4800, 1, 1, 0, 63, tU16, .ro, 0⟩,
  ⟨0x4801, 1, 1, 0, 63, tU32, .rw, 0⟩,
  ⟨0x4802, 1, 1, 0, 63, tU64, .rw, 0⟩,
  ⟨0x4803, 1, 1, 0, 63, tU16, .rw, 0⟩,
  ⟨0x4804, 1, 1, 0, 63, tI64, .rw, 0⟩,
  ⟨0x4805, 1, 1, 0, 63, tI64, .rw, 0⟩,
  ⟨0x4806, 1, 1, 0, 63, tBlob, .rw, 8⟩,
  ⟨0x4807, 1, 1, 0, 63, tBlob, .rw, 12⟩,
  ⟨0x4808, 1, 1, 0, 63, tU32, .rw, 0⟩,
  ⟨0x4809, 1, 1, 0, 63, tBlob, .rw, 16⟩,
  ⟨0x480A, 1, 1, 0, 63, tI64, .ro, 0⟩,
  ⟨0x480B, 1, 1, 0, 63, tBlob, .rw, 16⟩,
  ⟨0x480C, 1, 1, 0, 63, tBool, .cmd, 0⟩,
  ⟨0x480D, 1, 1, 0, 63, tU64, .ro, 0⟩,
  ⟨0x480E, 1, 1, 0, 63, tBlob, .ro, 14⟩,
  ⟨0x480F, 1, 1, 0, 63, tBool, .cmd, 0⟩,
  ⟨0x4880, 1, 1, 0, 0, tBlob, .rw, 16⟩]

/-- Streams, timing, APGs and sequencers (Tables 7.6, 6.4, 8.6 and 9.18). -/
def streamR : List OdRow := [
  ⟨0x5000, 1, 1, 0, 0, tU8, .rw, 0⟩,
  ⟨0x5000, 1, 1, 1, 1, tBlob, .ro, 8⟩,
  ⟨0x5001, 1, 1, 0, 0, tBlob, .ro, 36⟩,
  ⟨0x5002, 1, 1, 0, 0, tU32, .ro, 0⟩,
  ⟨0x5003, 1, 1, 0, 3, tBlob, .rw, 5⟩,
  ⟨0x5100, 32, 8, 0, 0, tBlob, .cmd, 0⟩,
  ⟨0x5101, 32, 8, 0, 0, tU16, .rw, 0⟩,
  ⟨0x5102, 32, 8, 0, 0, tBlob, .ro, 32⟩,
  ⟨0x5103, 32, 8, 0, 0, tBlob, .ro, 11⟩,
  ⟨0x5104, 32, 8, 0, 0, tBlob, .ro, 12⟩,
  ⟨0x5105, 32, 8, 0, 0, tU64, .ro, 0⟩,
  ⟨0x5106, 32, 8, 0, 0, tBool, .cmd, 0⟩,
  ⟨0x5107, 32, 8, 0, 0, tU64, .ro, 0⟩,
  ⟨0x5400, 32, 16, 0, 63, tU32, .rw, 0⟩,
  ⟨0x5401, 32, 16, 0, 63, tBlob, .rw, 768⟩,
  ⟨0x5402, 32, 16, 0, 31, tBlob, .rw, 8⟩,
  ⟨0x5403, 32, 16, 0, 31, tBlob, .ro, 12⟩,
  ⟨0x5404, 32, 16, 0, 31, tBlob, .ro, 15⟩,
  ⟨0x5405, 32, 16, 0, 63, tBlob, .ro, 772⟩,
  ⟨0x5406, 32, 16, 0, 0, tBool, .cmd, 0⟩,
  ⟨0x5600, 32, 16, 0, 0, tBlob, .rw, 0⟩,
  ⟨0x5601, 32, 16, 0, 0, tU16, .rw, 0⟩,
  ⟨0x5602, 32, 16, 0, 0, tBlob, .rw, 40⟩,
  ⟨0x5603, 32, 16, 0, 0, tBlob, .rw, 72⟩,
  ⟨0x5604, 32, 16, 0, 0, tBlob, .rw, 12⟩,
  ⟨0x5605, 32, 16, 0, 31, tU8, .rw, 0⟩,
  ⟨0x5606, 32, 16, 0, 0, tBlob, .rw, 8⟩,
  ⟨0x5607, 32, 16, 0, 0, tBlob, .rw, 16⟩,
  ⟨0x5608, 32, 16, 0, 7, tBlob, .ro, 13⟩,
  ⟨0x5609, 32, 16, 0, 7, tBlob, .ro, 0⟩,
  ⟨0x560A, 32, 16, 0, 7, tBool, .cmd, 0⟩,
  ⟨0x560B, 32, 16, 0, 0, tBool, .rw, 0⟩,
  ⟨0x560C, 32, 16, 0, 0, tBlob, .ro, 20⟩,
  ⟨0x5800, 32, 16, 0, 0, tBlob, .rw, 0⟩,
  ⟨0x5801, 32, 16, 0, 7, tBlob, .rw, 9⟩,
  ⟨0x5802, 32, 16, 0, 7, tBlob, .rw, 18⟩,
  ⟨0x5803, 32, 16, 0, 7, tBool, .cmd, 0⟩,
  ⟨0x5804, 32, 16, 0, 7, tBool, .cmd, 0⟩,
  ⟨0x5805, 32, 16, 0, 7, tBool, .cmd, 0⟩,
  ⟨0x5806, 32, 16, 0, 7, tBool, .cmd, 0⟩,
  ⟨0x5807, 32, 16, 0, 7, tBlob, .ro, 31⟩,
  ⟨0x5808, 32, 16, 0, 7, tU8, .cmd, 0⟩,
  ⟨0x5809, 32, 16, 0, 0, tU64, .rw, 0⟩,
  ⟨0x580A, 32, 16, 0, 0, tU8, .rw, 0⟩,
  ⟨0x580B, 32, 16, 0, 0, tU32, .ro, 0⟩,
  ⟨0x580C, 32, 16, 0, 0, tBool, .cmd, 0⟩,
  ⟨0x580D, 32, 16, 0, 0, tU64, .ro, 0⟩,
  ⟨0x5A00, 1, 1, 0, 0, tBlob, .cmd, 0⟩,
  ⟨0x5A01, 1, 1, 0, 0, tBlob, .ro, 69⟩,
  ⟨0x5A02, 1, 1, 0, 0, tBlob, .ro, 68⟩]

/-- Contexts, results, acquisition, fast lanes and serial engines (Tables 10.9, 13.7, 14.6 and 15.7). -/
def resultR : List OdRow := [
  ⟨0x6000, 1, 1, 0, 0, tBlob, .cmd, 0⟩,
  ⟨0x6001, 1, 1, 0, 0, tBlob, .rw, 6⟩,
  ⟨0x6001, 1, 1, 1, 1, tBlob, .ro, 0⟩,
  ⟨0x6002, 1, 1, 0, 0, tBlob, .ro, 16⟩,
  ⟨0x6100, 32, 1, 0, 0, tBlob, .ro, 26⟩,
  ⟨0x6100, 32, 1, 1, 1, tU8, .rw, 0⟩,
  ⟨0x6400, 256, 1, 1, 1, tBlob, .rw, 2048⟩,
  ⟨0x6400, 256, 1, 2, 2, tBlob, .ro, 2048⟩,
  ⟨0x6400, 256, 1, 3, 3, tBlob, .ro, 2048⟩,
  ⟨0x6400, 256, 1, 4, 4, tBlob, .rw, 4096⟩,
  ⟨0x6400, 256, 1, 5, 5, tBlob, .rw, 2048⟩,
  ⟨0x6400, 256, 1, 6, 6, tBlob, .ro, 112⟩,
  ⟨0x6400, 256, 1, 7, 7, tBool, .cmd, 0⟩,
  ⟨0x6F00, 1, 1, 0, 0, tU32, .ro, 0⟩,
  ⟨0x6F01, 1, 1, 0, 0, tU64, .ro, 0⟩,
  ⟨0x6F02, 1, 1, 0, 0, tU64, .rw, 0⟩,
  ⟨0x6F03, 1, 1, 0, 0, tBlob, .rw, 10⟩,
  ⟨0x6F04, 1, 1, 0, 0, tBlob, .ro, 0⟩,
  ⟨0x6F05, 1, 1, 0, 0, tU8, .rw, 0⟩,
  ⟨0x6F06, 1, 1, 0, 0, tU64, .ro, 0⟩,
  ⟨0x6F07, 1, 1, 0, 0, tBlob, .ro, 512⟩,
  ⟨0x7000, 1, 1, 0, 0, tBlob, .ro, 8⟩,
  ⟨0x7001, 1, 1, 0, 0, tBlob, .ro, 8⟩,
  ⟨0x7002, 1, 1, 0, 0, tBool, .cmd, 0⟩,
  ⟨0x7003, 1, 1, 0, 0, tBlob, .ro, 8⟩,
  ⟨0x7004, 1, 1, 0, 0, tU64, .ro, 0⟩,
  ⟨0x7005, 1, 1, 0, 0, tU64, .rw, 0⟩,
  ⟨0x7006, 1, 1, 0, 0, tBlob, .rw, 10⟩,
  ⟨0x7007, 1, 1, 0, 0, tBlob, .ro, 0⟩,
  ⟨0x7008, 1, 1, 0, 0, tU64, .cmd, 0⟩,
  ⟨0x7100, 264, 1, 1, 1, tU32, .rw, 0⟩,
  ⟨0x7100, 264, 1, 2, 2, tBlob, .rw, 16⟩,
  ⟨0x7100, 264, 1, 3, 3, tBlob, .rw, 8⟩,
  ⟨0x7100, 264, 1, 4, 4, tBlob, .ro, 8⟩,
  ⟨0x7100, 264, 1, 5, 5, tBlob, .rw, 9⟩,
  ⟨0x7100, 264, 1, 6, 6, tBlob, .ro, 27⟩,
  ⟨0x7400, 16, 1, 1, 1, tU32, .rw, 0⟩,
  ⟨0x7400, 16, 1, 2, 2, tU32, .rw, 0⟩,
  ⟨0x7400, 16, 1, 3, 3, tU16, .rw, 0⟩,
  ⟨0x7400, 16, 1, 4, 4, tBlob, .rw, 16⟩,
  ⟨0x7400, 16, 1, 5, 5, tU32, .rw, 0⟩,
  ⟨0x7400, 16, 1, 6, 6, tTime80, .ro, 0⟩,
  ⟨0x7400, 16, 1, 7, 7, tU64, .ro, 0⟩,
  ⟨0x7400, 16, 1, 8, 8, tBool, .cmd, 0⟩,
  ⟨0x7480, 1, 1, 0, 3, tU32, .rw, 0⟩,
  ⟨0x7490, 1, 1, 0, 3, tBool, .rw, 0⟩,
  ⟨0x7800, 1, 1, 0, 7, tU8, .ro, 0⟩,
  ⟨0x7801, 1, 1, 0, 7, tU32, .rw, 0⟩,
  ⟨0x7802, 1, 1, 0, 7, tU32, .rw, 0⟩,
  ⟨0x7803, 1, 1, 0, 7, tI32, .rw, 0⟩,
  ⟨0x7804, 1, 1, 0, 7, tBlob, .rw, 5⟩,
  ⟨0x7805, 1, 1, 0, 7, tI64, .rw, 0⟩,
  ⟨0x7806, 1, 1, 0, 7, tBlob, .rw, 12⟩,
  ⟨0x7807, 1, 1, 0, 7, tBlob, .rw, 514⟩,
  ⟨0x7808, 1, 1, 0, 7, tBlob, .rw, 16⟩,
  ⟨0x7809, 1, 1, 0, 7, tBlob, .ro, 32⟩,
  ⟨0x780A, 1, 1, 0, 7, tBool, .cmd, 0⟩,
  ⟨0x780B, 1, 1, 0, 7, tBlob, .ro, 13⟩,
  ⟨0x780C, 1, 1, 0, 7, tBlob, .rw, 13⟩,
  ⟨0x780D, 1, 1, 0, 7, tBlob, .cmd, 0⟩,
  ⟨0x780E, 1, 1, 0, 7, tBlob, .ro, 3⟩,
  ⟨0x780F, 1, 1, 0, 7, tBlob, .ro, 66300⟩,
  ⟨0x7810, 1, 1, 0, 7, tBlob, .ro, 16⟩,
  ⟨0x7811, 1, 1, 0, 7, tBool, .cmd, 0⟩,
  ⟨0x7C00, 32, 16, 0, 0, tU32, .rw, 0⟩,
  ⟨0x7C01, 32, 16, 0, 0, tBlob, .rw, 12⟩,
  ⟨0x7C02, 32, 16, 0, 0, tBlob, .rw, 16⟩,
  ⟨0x7C03, 32, 16, 0, 0, tU32, .rw, 0⟩,
  ⟨0x7C04, 32, 16, 0, 14, tBlob, .rw, 12⟩,
  ⟨0x7C05, 32, 16, 0, 0, tBlob, .cmd, 0⟩,
  ⟨0x7C06, 32, 16, 0, 0, tBlob, .ro, 0⟩,
  ⟨0x7C07, 32, 16, 0, 0, tU16, .cmd, 0⟩,
  ⟨0x7C08, 32, 16, 0, 0, tU8, .cmd, 0⟩,
  ⟨0x7C09, 32, 16, 0, 0, tBool, .cmd, 0⟩,
  ⟨0x7C0A, 32, 16, 0, 0, tBlob, .ro, 40⟩]

/-- Host link, security, faults, calibration, thermal, rails and tunnel (Tables 16.8, 19.11, 18.6, 3.6, 20.11 and 17.5). -/
def hostR : List OdRow := [
  ⟨0x8000, 1, 1, 0, 0, tBlob, .ro, 12⟩,
  ⟨0x8001, 1, 1, 0, 1, tBlob, .rw, 3⟩,
  ⟨0x8002, 1, 1, 0, 1, tBlob, .ro, 84⟩,
  ⟨0x8003, 1, 1, 0, 1, tBlob, .rw, 10⟩,
  ⟨0x8004, 1, 1, 0, 1, tBlob, .rw, 19⟩,
  ⟨0x8005, 1, 1, 0, 1, tU8, .rw, 0⟩,
  ⟨0x8006, 1, 1, 0, 1, tBlob, .ro, 40⟩,
  ⟨0x8007, 1, 1, 0, 1, tBlob, .ro, 66⟩,
  ⟨0x8008, 1, 1, 0, 0, tBlob, .rw, 3⟩,
  ⟨0x8009, 1, 1, 0, 0, tU8, .rw, 0⟩,
  ⟨0x800A, 1, 1, 0, 1, tBlob, .cmd, 0⟩,
  ⟨0x8010, 1, 1, 0, 0, tBool, .rw, 0⟩,
  ⟨0x8011, 1, 1, 0, 0, tBool, .cmd, 0⟩,
  ⟨0x8012, 1, 1, 0, 0, tBlob, .ro, 100⟩,
  ⟨0x8013, 1, 1, 0, 0, tBlob, .rw, 0⟩,
  ⟨0x8014, 1, 1, 0, 0, tU64, .ro, 0⟩,
  ⟨0x8015, 1, 1, 0, 0, tTime80, .ro, 0⟩,
  ⟨0x8016, 1, 1, 0, 0, tBlob, .ro, 320⟩,
  ⟨0x8100, 1, 1, 0, 0, tBlob, .ro, 0⟩,
  ⟨0x8102, 1, 1, 0, 0, tBlob, .rw, 32⟩,
  ⟨0x8102, 1, 1, 1, 1, tBlob, .ro, 992⟩,
  ⟨0x8104, 1, 1, 0, 0, tBool, .cmd, 0⟩,
  ⟨0x8105, 1, 1, 0, 0, tBlob, .cmd, 0⟩,
  ⟨0x8106, 1, 1, 0, 0, tBlob, .ro, 65⟩,
  ⟨0x8107, 1, 1, 0, 0, tBlob, .cmd, 0⟩,
  ⟨0x8108, 1, 1, 0, 0, tBool, .cmd, 0⟩,
  ⟨0x8109, 1, 1, 0, 0, tBlob, .ro, 5⟩,
  ⟨0x810B, 1, 1, 0, 0, tBlob, .ro, 3⟩,
  ⟨0x9000, 1, 1, 0, 0, tU64, .ro, 0⟩,
  ⟨0x9001, 1, 1, 0, 0, tBlob, .ro, 15⟩,
  ⟨0x9002, 1, 1, 0, 0, tU16, .ro, 0⟩,
  ⟨0x9003, 1, 1, 0, 0, tU64, .cmd, 0⟩,
  ⟨0x9004, 1, 1, 0, 0, tBool, .cmd, 0⟩,
  ⟨0x9005, 1, 1, 0, 0, tU64, .rw, 0⟩,
  ⟨0x9006, 1, 1, 0, 63, tBlob, .ro, 5⟩,
  ⟨0x9007, 1, 1, 0, 0, tBlob, .ro, 896⟩,
  ⟨0x9008, 1, 1, 0, 0, tBlob, .cmd, 0⟩,
  ⟨0x9010, 1, 1, 0, 0, tBlob, .rw, 6⟩,
  ⟨0x9010, 1, 1, 1, 1, tBlob, .ro, 0⟩,
  ⟨0x9011, 1, 1, 0, 0, tBlob, .ro, 8⟩,
  ⟨0x9020, 1, 1, 0, 0, tBlob, .cmd, 0⟩,
  ⟨0x9021, 1, 1, 0, 0, tBool, .cmd, 0⟩,
  ⟨0x9022, 1, 1, 0, 0, tBlob, .ro, 39⟩,
  ⟨0x9023, 1, 1, 0, 0, tU64, .rw, 0⟩,
  ⟨0x9024, 1, 1, 0, 0, tBlob, .ro, 12⟩,
  ⟨0x9030, 1, 1, 0, 0, tBlob, .ro, 32⟩,
  ⟨0x9031, 1, 1, 0, 255, tBool, .cmd, 0⟩,
  ⟨0x9032, 1, 1, 0, 31, tBool, .cmd, 0⟩,
  ⟨0x9033, 1, 1, 0, 0, tU32, .ro, 0⟩,
  ⟨0x9040, 1, 1, 0, 0, tBlob, .ro, 0⟩,
  ⟨0x9041, 1, 1, 0, 0, tBool, .cmd, 0⟩,
  ⟨0x9042, 1, 1, 0, 0, tBlob, .ro, 0⟩,
  ⟨0x9050, 1, 1, 0, 3, tBlob, .ro, 32⟩,
  ⟨0x9051, 1, 1, 0, 3, tBlob, .ro, 0⟩,
  ⟨0x9052, 1, 1, 0, 3, tBool, .cmd, 0⟩,
  ⟨0xA000, 1, 1, 0, 0, tBlob, .ro, 67⟩,
  ⟨0xA001, 1, 1, 0, 0, tBlob, .ro, 16⟩,
  ⟨0xA002, 1, 1, 0, 0, tBlob, .rw, 196608⟩,
  ⟨0xA003, 1, 1, 0, 0, tBool, .cmd, 0⟩,
  ⟨0xA004, 1, 1, 0, 0, tBool, .cmd, 0⟩,
  ⟨0xA005, 1, 1, 0, 0, tBlob, .rw, 9⟩,
  ⟨0xA006, 1, 1, 0, 0, tI64, .rw, 0⟩,
  ⟨0xA007, 1, 1, 0, 0, tU8, .cmd, 0⟩,
  ⟨0xA008, 1, 1, 0, 0, tBlob, .ro, 0⟩,
  ⟨0xA009, 1, 1, 0, 0, tBlob, .ro, 28⟩,
  ⟨0xB000, 1, 1, 0, 0, tI32, .ro, 0⟩,
  ⟨0xB001, 1, 1, 0, 0, tBlob, .ro, 276⟩,
  ⟨0xB002, 1, 1, 0, 0, tU8, .ro, 0⟩,
  ⟨0xB003, 1, 1, 0, 0, tU8, .ro, 0⟩,
  ⟨0xB004, 1, 1, 0, 0, tBlob, .ro, 9⟩,
  ⟨0xB005, 1, 1, 0, 0, tBlob, .ro, 15⟩,
  ⟨0xB006, 1, 1, 0, 0, tU32, .ro, 0⟩,
  ⟨0xB080, 1, 1, 0, 0, tBlob, .ro, 12⟩,
  ⟨0xB100, 1, 1, 0, 10, tBlob, .ro, 16⟩,
  ⟨0xB101, 1, 1, 0, 10, tBlob, .ro, 24⟩,
  ⟨0xB102, 1, 1, 0, 0, tBlob, .ro, 48⟩,
  ⟨0xB103, 1, 1, 0, 0, tBlob, .ro, 44⟩,
  ⟨0xB104, 1, 1, 0, 31, tBlob, .ro, 8⟩,
  ⟨0xC000, 1, 1, 0, 0, tBlob, .ro, 182⟩,
  ⟨0xC001, 1, 1, 0, 0, tBlob, .ro, 24⟩]

/-- The rows whose indices share an index's leading digits. -/
def odRows (idx : Nat) : List OdRow :=
  if idx < 0x1100 then identR
  else if idx < 0x3000 then timeR
  else if idx < 0x4000 then pinR
  else if idx < 0x5000 then analogR
  else if idx < 0x6000 then streamR
  else if idx < 0x8000 then resultR
  else hostR

/-- Whether a row has an index. -/
def OdRow.covers (r : OdRow) (idx : Nat) : Bool :=
  decide (r.base ≤ idx) && (idx - r.base) % r.stride == 0 && decide ((idx - r.base) / r.stride < r.cnt)

/-- The entry at an index and sub-index, or NO_OBJECT or NO_SUBINDEX (R488). -/
def odFind (idx sub : Nat) : Except Nat OdRow :=
  let l := (odRows idx).filter (fun r => r.covers idx)
  if l.isEmpty then .error eNoObject
  else
    match l.find? (fun r => decide (r.lo ≤ sub) && decide (sub ≤ r.hi)) with
    | some r => .ok r
    | none => .error eNoSubindex

/-- The entries that the recovery service answers for (R552). -/
def recoveryHas (idx : Nat) : Bool := (decide (0x1000 ≤ idx) && decide (idx ≤ 0x100A)) || idx == 0x8100 || idx == 0x810B || idx == 0x8107

end Sys2Proof.Machine
end

