-- ==== Sys2Proof/Machine/Nvm.lean ====
section
/-! DEFINITION. The NVM journal: wear levelling, and the records of Stored values (R494, R495, R562 to R565). -/

namespace Sys2Proof.Machine

/-- Whether a program or an erase is in progress (NVM_STATUS). -/
def State.nvmBusy (s : State) : Bool := !s.eth.jrn.isEmpty

/-- A stored value as its record holds it: a number least significant byte first (R6), a BLOB in the order of its entry. -/
def jData (key : Nat) (v : List Byte) : List Byte :=
  match odFind (key / 256) (key % 256) with
  | .ok r => if r.ty = tBlob then v else v.reverse
  | .error _ => v

/-- A record has been programmed and verified: its value is stored. -/
def State.storeRecord (s : State) (j : JournalRec) : State :=
  { (s.program j.key (jData j.key j.val)) with stored := Tbl.put s.stored j.key j.val }

/-- STORED_VALUE_JOURNALED (R494): the oldest record in progress is verified, its value is stored, and the write that waits for it is
answered; when the program fails its block is retired and the record is programmed again (R564). -/
def execStoredValueJournaled (bad : Bool) (s : State) : Host.Outcome State Fault Refusal :=
  match s.eth.jrn with
  | [] => .next s
  | j :: rest =>
    if s.ks.outage then .next s
    else if bad then
      let (b, s) := s.takePage
      let s := match b with
        | some (b, _) => ({ s with nvm := { s.nvm with openBlock := none } }).modBlock b (fun x => { x with retired := true })
        | none => s
      .next (s.report 36 sevDegraded (detail clsNone 0))
    else
      let s := ({ s with eth := { s.eth with jrn := rest } }).storeRecord j
      let s := if s.thm.halted then s.flushAll else s
      let s := match j.told with
        | some m => s.send m
        | none => s
      .next (match j.resp with
        | some r => s.sendResponse r
        | none => s)

/-- A block's live records are copied elsewhere (R564). -/
def State.moveLive (s : State) (b : Nat) : State :=
  s.nvm.pages.foldl (fun s (e : Nat × List JPage) =>
    if e.2.any (fun p => p.block == b) then s.program e.1 (e.2.flatMap (fun p => p.data)) else s) s

/-- A block is erased. -/
def State.eraseBlock (s : State) (b : Nat) (bad : Bool) : State :=
  let s := s.modBlock b (fun x => { x with erases := x.erases + 1, used := 0, retired := x.retired || bad })
  let s := { s with nvm := { s.nvm with
    eraseOf := none, intents := removeNat s.nvm.intents b, openBlock := if s.nvm.openBlock = some b then none else s.nvm.openBlock } }
  let s := if (s.block b).erases = 90001 then s.report 36 sevAdvisory (detail clsNone 0) else s
  if bad then s.report 36 sevDegraded (detail clsNone 0) else s

/-- Whether R564 has a block reclaimed (few blocks are free and no other block has fewer live pages) or moved (its erase count is the
lowest and lies more than 2,000 below the highest). -/
def State.mayErase (s : State) (b : Nat) : Bool :=
  let x := s.block b
  decide (b < journalBlocks) && !x.retired && s.nvm.openBlock != some b &&
    ((decide (s.freeBlocks < 64) && decide (x.used ≠ 0) &&
        s.nvm.blocks.all (fun (e : Nat × NvmBlock) => e.2.retired || decide (e.2.used = 0) || decide (s.livePages b ≤ s.livePages e.1))) ||
      (decide (s.minErase + 2000 < s.maxErase) && decide (x.erases = s.minErase)))

/-- NVM_WEAR_LEVELLING (R136, R564): the first event of an erase moves the block's live records and writes its intent; the next one ends it. -/
def execNvmWearLevelling (b : Nat) (bad : Bool) (s : State) : Host.Outcome State Fault Refusal :=
  if !s.ks.running ∨ s.ks.outage ∨ s.inQuiet then .next s
  else
    match s.nvm.eraseOf with
    | some e => .next (s.eraseBlock e bad)
    | none =>
      if !s.mayErase b then .next s
      else
        let s := (s.moveLive b).program (jKey 9 b) (toLe 2 b)
        .next { s with
          nvm := { s.nvm with eraseOf := some b, intents := insertAsc s.nvm.intents b }, ks := { s.ks with wearRuns := s.ks.wearRuns + 1 } }

/-- OD 0x1010.00: 1 marks the host's Stored values for restore at the next start-up, 0 cancels the mark (R495). -/
def wrRestoreDefaults (h : Hdr) (d : Sys2Proof.Data) (s : State) : State × Nat :=
  s.item490 h d tBool anyLen false (fun s => ({ s with eth := { s.eth with restore := dFlag d } }, eOk))

/-- RESTORE_DEFAULTS (R495). -/
def execRestoreDefaults (h : Hdr) (d : Data) (s : State) : Host.Outcome State Fault Refusal :=
  .next (s.hostItem (.restoreDefaults h d) h (wrRestoreDefaults h d))

end Sys2Proof.Machine
end

