-- ==== Sys2Proof/Machine/Eth.lean ====
section
/-! DEFINITION. Sessions and the Owner lease, the host-link settings, links, MACsec and LLDP (R461 to R464, R476 to R480, R487). -/

namespace Sys2Proof.Machine

/-! ### Sessions (R476 to R480) -/

/-- Whether the first `n` bits of two addresses agree. -/
def prefixMatch (n : Nat) (a b : List Byte) : Bool :=
  beNat a / 2 ^ (128 - min n 128) == beNat b / 2 ^ (128 - min n 128)

/-- Whether the Owner allowlist lets an address in: an empty list lets every address in (R477). -/
def State.allowed (s : State) (addr : List Byte) : Bool :=
  let l := s.od 0x8013 0 [0]
  let n := beNat (l.take 1)
  n == 0 || (List.range n).any (fun k =>
    let e := l.drop (1 + 17 * k)
    prefixMatch (beNat ((e.drop 16).take 1)) addr (e.take 16))

/-- A new session's ID: random, not 0, and no ID in use. -/
def State.newId (s : State) : Nat × State :=
  let (x, s) := s.draw 4294967295
  let id := ((List.range 5).map (fun k => 1 + (x + k) % 4294967295)).find? (fun i => (s.session i).isNone)
  (id.getD 1, s)

/-- Answers an OPEN, which has no session and no replay protection. -/
def State.answerOpen (s : State) (port seq status : Nat) (body : List (List Byte)) : State :=
  s.send (.response { port, kind := 0x01, session := 0, seq, status, items := 0, body, late := s.ks.serving.isSome })

/-- Creates a session and answers with its ID, the lease period, the chip number and the release in force (Table 16.3). -/
def State.openSession (s : State) (port : Nat) (addr : List Byte) (seq telPort : Nat) (owner : Bool) : State :=
  let (id, s) := s.newId
  let x : Session := { id, owner, addr, telPort, renewed := s.ingress, port }
  let s := { s with adp := { s.adp with sessions := s.adp.sessions ++ [x] } }
  s.showSessions.answerOpen port seq eOk
    [toBe 4 id, toBe 2 1500, toBe 4 s.chipNumber, toBe 4 (s.tr.banks.getD s.tr.bank {}).release]

/-- An OPEN's checks and effect (R476, R477): a role that Table 16.3 does not name acts as one of the two, which is open. -/
def State.openRequest (s : State) (port : Nat) (addr : List Byte) (seq role telPort : Nat) : State :=
  let s := s.expireSessions s.ingress
  let owner := (if role < 2 then role else Config.openNat 30 [role] % 2) == 1
  if owner then
    if !s.allowed addr then
      ((s.setBit F.ADP_STATUS_acl_reject 0 0 true).report 53 sevAdvisory (detail clsNone 0)).answerOpen port seq eAccessDenied []
    else if s.owner.isSome then s.answerOpen port seq eOwnerPresent []
    else s.openSession port addr seq telPort true
  else if 3 ≤ (s.adp.sessions.filter (fun x => !x.owner)).length then s.answerOpen port seq eSessionFull []
  else s.openSession port addr seq telPort false

/-- OPEN (R476): buffered like any request while the Keystone serves none (R469). -/
def execAdpOpen (port : Nat) (addr : List Byte) (seq role telPort bytes : Nat) (s : State) : Host.Outcome State Fault Refusal :=
  .next (s.gate (.adpOpen port addr seq role telPort bytes) port bytes (fun s => s.openRequest port addr seq role telPort))

/-- CLOSE (R476, R478): an Owner's CLOSE is a lapse at its ingress instant. -/
def execAdpClose (h : Hdr) (s : State) : Host.Outcome State Fault Refusal :=
  .next (s.request (.adpClose h) h (fun s =>
    (if s.isOwner h.session then s.lapse s.ingress else s.closeSession h.session).answer h eOk 0 []))

/-- Whole milliseconds that a session's lease has left. -/
def State.msLeft (s : State) (x : Session) : Nat := min 1500 ((x.renewed + leaseTicks - s.tb.loc) / 4096000000)

/-- RENEW (R478). -/
def execAdpRenew (h : Hdr) (s : State) : Host.Outcome State Fault Refusal :=
  .next (s.request (.adpRenew h) h (fun s =>
    s.answer h eOk 0 [toBe 2 (match s.session h.session with | some x => s.msLeft x | none => 0)]))

/-- Whether ADP service runs and no buffered request can still renew a lease: only then does a deadline act (R25, R478). -/
def State.judging (s : State) : Bool := (s.ks.running || s.tr.recovery) && !s.ks.outage && s.ks.buffered.isEmpty

/-- LEASE_LAPSE (R479): the Owner's deadline passes. -/
def execLeaseLapse (s : State) : Host.Outcome State Fault Refusal :=
  match s.owner with
  | none => .next s
  | some o => .next (if s.judging then (s.reachLoc (o.renewed + leaseTicks)).lapse (o.renewed + leaseTicks) else s)

/-- OBSERVER_TIMEOUT (R478): an Observer's deadline passes. -/
def execObserverTimeout (id : Nat) (s : State) : Host.Outcome State Fault Refusal :=
  match s.session id with
  | none => .next s
  | some x => .next (if s.judging && !x.owner then (s.reachLoc (x.renewed + leaseTicks)).closeSession id else s)

/-- OD 0x8011.00: threads that a lapse holds run on from their boundaries (R480). -/
def wrLeaseResume (h : Hdr) (d : Sys2Proof.Data) (s : State) : State × Nat :=
  s.item490 h d tBool anyLen false (fun s =>
    if !dFlag d then (s, eOk)
    else ((List.range 256).foldl (fun s k => s.dropHold k .lapse) (s.setBit F.ADP_STATUS_lapse_hold 0 0 false), eOk))
/-- LEASE_RESUME (R480). -/
def execLeaseResume (h : Hdr) (d : Data) (s : State) : Host.Outcome State Fault Refusal :=
  .next (s.hostItem (.leaseResume h d) h (wrLeaseResume h d))

/-- OD 0x8010.00. -/
def wrAutonomous (h : Hdr) (d : Sys2Proof.Data) (s : State) : State × Nat :=
  s.item490 h d tBool anyLen false (fun s => (s.setBit F.ADP_STATUS_autonomous 0 0 (dFlag d), eOk))
/-- AUTONOMOUS_RUN_WRITE (R479). -/
def execAutonomousRunWrite (h : Hdr) (d : Data) (s : State) : Host.Outcome State Fault Refusal :=
  .next (s.hostItem (.autonomousRunWrite h d) h (wrAutonomous h d))

/-! ### Stored settings (R464, R477, R487) -/

/-- OD 0x8013.00: the allowlist that the next Owner OPEN meets. -/
def wrAllowlist (h : Hdr) (d : Sys2Proof.Data) (s : State) : State × Nat :=
  s.item490 h d tBlob (fun n => n == 1 + 17 * dSub d 0 1 && decide (dSub d 0 1 ≤ 8)) false (fun s => (s.storeOd 0x8013 0 d.bytes, eOk))
/-- ALLOWLIST_WRITE (R487). -/
def execAllowlistWrite (h : Hdr) (d : Data) (s : State) : Host.Outcome State Fault Refusal :=
  .next (s.hostItem (.allowlistWrite h d) h (wrAllowlist h d))

/-- A network setting's type and length (Table 16.8). -/
def netShape (idx : Nat) : Option (Nat × Nat) :=
  match idx with
  | 0x8001 => some (tBlob, 3) | 0x8003 => some (tBlob, 10) | 0x8004 => some (tBlob, 19)
  | 0x8005 => some (tU8, 1) | 0x8008 => some (tBlob, 3) | 0x8009 => some (tU8, 1)
  | _ => none

/-- Whether a network setting has the sub-index. -/
def netSub (idx p : Nat) : Bool := p == 0 || (p == 1 && idx != 0x8008 && idx != 0x8009)

/-- Whether a network setting holds only values that Tables 16.1 and 16.8 name. -/
def netOk (idx : Nat) (b : List Byte) : Bool :=
  let f (off n : Nat) : Nat := beNat ((b.drop off).take n)
  match idx with
  | 0x8001 => decide (f 0 2 ≤ 4094 ∧ f 2 1 ≤ 7)
  | 0x8003 => decide (f 0 1 ≤ 2 ∧ f 5 1 ≤ 32)
  | 0x8004 => decide (f 18 1 ≤ 128)
  | 0x8005 => decide (f 0 1 ≤ 1)
  | 0x8008 => decide (f 1 1 ≤ 2 ∧ f 2 1 ≤ 1)
  | _ => decide (f 0 1 ≤ 3)

/-- A written BOOL byte is kept as 0 or 1 (R491). -/
def boolByte (b : Byte) : Byte := if b = 0 then 0 else 1

/-- The value a network setting keeps: the two BOOLs of OD 0x8004 as 0 or 1; a reserved value leaves the entry open (R4). -/
def State.netValue (s : State) (idx : Nat) (b : List Byte) : List Byte × State :=
  if netOk idx b then (if idx = 0x8004 then (b.take 2).map boolByte ++ b.drop 2 else b, s)
  else
    let (x, s) := s.draw (256 ^ b.length)
    (toBe b.length x, s)

/-- A port. -/
def State.eport (s : State) (p : Nat) : Port := if p = 0 then s.eth.p0 else s.eth.p1
/-- Changes a port. -/
def State.modEport (s : State) (p : Nat) (f : Port → Port) : State :=
  if p = 0 then { s with eth := { s.eth with p0 := f s.eth.p0 } } else { s with eth := { s.eth with p1 := f s.eth.p1 } }

/-- OD 0x8009.00 takes effect at once on a port that holds both keys (R487). -/
def State.secNow (s : State) (v p : Nat) : State :=
  let x := s.eport p
  if x.tx.isSome && x.rx.isSome then
    let old := beNat (s.netSet 0x8009 0 [0])
    let on := v.testBit p
    let new := if on then setBitAt old p else clrBitAt old p
    let s := { s with eth := { s.eth with inForce := Tbl.put s.eth.inForce (odKey 0x8009 0) (toBe 1 new) } }
    s.setBit (if p = 0 then F.ETH_STATUS_e0_macsec else F.ETH_STATUS_e1_macsec) 0 0 on
  else s

/-- OD 0x8001, 0x8003, 0x8004, 0x8005, 0x8008 and 0x8009: stored for the next start-up (R487). -/
def wrNetwork (h : Hdr) (idx p : Nat) (d : Sys2Proof.Data) (s : State) : State × Nat :=
  match netShape idx with
  | none => (s, eNoObject)
  | some (ty, len) =>
    if !netSub idx p then (s, eNoSubindex)
    else s.item490 h d ty (fun n => n == len) false (fun s =>
      let (b, s) := s.netValue idx d.bytes
      let s := s.storeOd idx p b
      (if idx = 0x8009 then ((s.secNow (beNat b) 0).secNow (beNat b) 1).ptpFollow else s, eOk))
/-- NETWORK_CONFIG_WRITE (R487). -/
def execNetworkConfigWrite (h : Hdr) (d : Data) (idx p : Nat) (s : State) : Host.Outcome State Fault Refusal :=
  .next (s.hostItem (.networkConfigWrite h d idx p) h (wrNetwork h idx p d))

/-- OD 0x800A.0p: the key of one direction, kept in the journal (R464). -/
def wrMacsecKey (h : Hdr) (p : Nat) (d : Sys2Proof.Data) (s : State) : State × Nat :=
  if 2 ≤ p then (s, eNoSubindex)
  else s.item490 h d tBlob (fun n => n == 50) false (fun s =>
    let (dir, s) := if dSub d 49 1 < 2 then (dSub d 49 1, s) else s.draw 2
    let k : SecKey := ⟨dSub d 0 1, (d.bytes.drop 1).take 32, dSub d 33 4, (d.bytes.drop 37).take 12⟩
    let s := s.modEport p (fun x => if dir = 0 then { x with tx := some k } else { x with rx := some k })
    (s.journal (odKey 0x800A (p + 2 * dir)) (d.bytes.take 49 ++ toBe 1 dir), eOk))
/-- MACSEC_KEY_WRITE (R464). -/
def execMacsecKeyWrite (h : Hdr) (d : Data) (p : Nat) (s : State) : Host.Outcome State Fault Refusal :=
  .next (s.hostItem (.macsecKeyWrite h d p) h (wrMacsecKey h p d))

/-! ### Links (R461, R462, R464) -/

/-- MACSEC_INTEGRITY_FAIL (R464): the frame is discarded and counted. -/
def execMacsecIntegrityFail (p : Nat) (s : State) : Host.Outcome State Fault Refusal :=
  .next (if p < 2 && s.linkUp p && s.macsec p then
      (s.modEport p (fun x => { x with discards := x.discards + 1 })).report 54 sevAdvisory (detail clsNone 0)
    else s)

/-- A port's link goes down. -/
def State.portDown (s : State) (p : Nat) : State :=
  if p = 0 then (((s.setBit F.ETH_STATUS_e0_up 0 0 false).setBit F.ETH_STATUS_e0_an 0 0 false).setBit F.ETH_STATUS_e0_fec 0 0 false).setBit
    F.ETH_STATUS_e0_down_evt 0 0 true
  else (((s.setBit F.ETH_STATUS_e1_up 0 0 false).setBit F.ETH_STATUS_e1_an 0 0 false).setBit F.ETH_STATUS_e1_fec 0 0 false).setBit
    F.ETH_STATUS_e1_down_evt 0 0 true

/-- LINK_DOWN (R462). -/
def execLinkDown (p : Nat) (s : State) : Host.Outcome State Fault Refusal :=
  .next (if p < 2 && s.linkUp p then ((s.portDown p).report (51 + p) sevAdvisory (detail clsPort p)).ptpFollow else s)

/-- Whether the ports may be up: past step 10 of the start-up, or in the recovery service (R552, Table 20.8). -/
def State.portsOn (s : State) : Bool :=
  s.pw.powered && !s.pw.resetLow && !s.thm.halted && (decide (10 ≤ s.pw.startStep) || s.tr.recovery)

/-- LINK_UP (R462): link training has ended. -/
def execLinkUp (p : Nat) (s : State) : Host.Outcome State Fault Refusal :=
  .next (if p < 2 && s.portsOn && !s.linkUp p then (s.portUp p).ptpFollow else s)

/-- A number's decimal digits in ASCII, at most `fuel` of them. -/
def decimal : (fuel n : Nat) → List Byte
  | 0, _ => []
  | fuel + 1, n => (if n < 10 then [] else decimal fuel (n / 10)) ++ [BitVec.ofNat 8 (48 + n % 10)]

/-- The system name: "DN7680-" and the chip number in decimal, or "unassigned" (R87). -/
def State.lldpName (s : State) : List Byte :=
  [68, 78, 55, 54, 56, 48, 45] ++ (if s.unassigned then [117, 110, 97, 115, 115, 105, 103, 110, 101, 100] else decimal 6 s.chipNumber)

/-- The organisational TLV: the fused OUI, subtype 1, the chip number and POS_ID. -/
def State.lldpOrg (s : State) : List Byte := toBe 3 Config.oui ++ [1] ++ toBe 4 s.chipNumber ++ toBe 1 s.tb.posId

/-- One LLDP frame goes out on each port that is up (Table 16.1): chassis ID, the port's MAC address; port ID, "E0" or "E1"; TTL 120 s. -/
def State.lldpOut (s : State) : State :=
  [0, 1].foldl (fun s p =>
    if s.linkUp p then s.send (.lldp p (toBe 6 (Config.macBase + p)) [69, BitVec.ofNat 8 (48 + p)] 120 s.lldpName s.lldpOrg) else s) s

/-- LLDP_TRANSMIT (R461): the next multiple of 30 s since reset. -/
def execLldpTransmit (s : State) : Host.Outcome State Fault Refusal :=
  .next (if s.portsOn && !s.ks.outage then (s.nextLoc (ms 30000)).lldpOut else s)

/-- 32 bytes of an LLDP field, padded with zeros. -/
def pad32 (b : List Byte) : List Byte := (b ++ List.replicate 32 0).take 32

/-- LLDP_RECEIVE (R461): the port keeps its latest neighbour. -/
def execLldpReceive (p : Nat) (chassis portId : List Byte) (ttl : Nat) (s : State) : Host.Outcome State Fault Refusal :=
  .next (if p < 2 && s.linkUp p then
      s.modEport p (fun x => { x with chassis := pad32 chassis, portId := pad32 portId, ttl := ttl % 65536, ttlAt := s.tb.loc })
    else s)

end Sys2Proof.Machine
end

