-- ==== Sys2Proof/Machine/Sequencer.lean ====
section
/-! DEFINITION. Threads and the vendor step opcodes: start, stop and holds, step boundaries, step memory and the opcodes of Table 9.3
(R263 to R278, R281, R290 to R294, R298, R304, R313). -/

namespace Sys2Proof.Machine

/-! ### Step memory and regions (R267) -/

/-- A step instruction of a Course. -/
def State.stepWord (s : State) (c a : Nat) : Nat := Tbl.get s.seq.stepMem 0 (32768 * c + a % 32768)

/-- The word a thread reads at an address, open after a host error of its site. -/
def State.stepSeen (s : State) (k a : Nat) : Nat :=
  match (s.thr k).wild with
  | some v => Config.openNat 31 [v, k, a] % 18446744073709551616
  | none => s.stepWord (k / 8) a
/-- A thread's region length; 0 acts as 32,768. -/
def State.regLen (s : State) (k : Nat) : Nat :=
  let n := s.fld F.SEQ_TREGION_len (k / 8) (k % 8)
  if n = 0 ∨ 32768 < n then 32768 else n

/-! ### The autonomy walk (R24, R268) -/

/-- The address of a place past the end of a region, which the walk gives no step. -/
def offEnd : Nat := 65536

/-- A place of the walk: address, step stack, pitch in force, time covered in ns. -/
structure Walk where
  addr : Nat
  stack : List Nat
  pitch : Nat
  sum : Nat
deriving DecidableEq, Repr

/-- The time that the contexts a step names cover, ns; an open-ended one counts a slot. -/
def State.ctxCover (s : State) (k o pitch : Nat) : Nat :=
  if oprCount o = 0 then pitch
  else
    match (ctxCost ((ctxRange (oprCtx o) (oprCount o)).map (fun n => s.ctx (k / 8) n))).2.1 with
    | some d => d
    | none => pitch

/-- One step of the walk: whether this place refuses the start, and the places that follow. -/
def State.walkStep (s : State) (k : Nat) (w : Walk) : Bool × List Walk :=
  let len := s.regLen k
  let off := s.regOff k w.addr
  if w.addr = offEnd ∨ len ≤ off then (decide (w.sum < 5000000), [])          -- fell off the region's end
  else
    let i := s.stepWord (k / 8) w.addr
    let o := oprOf i
    let next (sum pitch : Nat) : Walk := { w with addr := if off + 1 < len then (w.addr + 1) % 32768 else offEnd, sum, pitch }
    let out (t : Nat) : Bool := decide (len ≤ s.regOff k t)
    let tgt := bitsAt o 47 33
    let go (t : Nat) : Walk := { w with addr := t }
    if !(maskField i).testBit (k % 8) then (false, [next w.sum w.pitch])
    else
      match opOf i with
      | 0x01 => (false, [])
      | 0x02 => (decide (w.sum < 5000000), [])
      | 0x03 => (false, [next w.sum (max 100 (bitsAt o 47 16))])
      | 0x08 | 0x09 | 0x0A => (false, [next (w.sum + s.ctxCover k o w.pitch) w.pitch])
      | 0x10 =>
        let cond := bitsAt o 32 27
        let always := (cond == 0 && !o.testBit 26) || ((cond == 1 || cond == 63) && o.testBit 26)
        let never := ((cond == 1 || cond == 63) && !o.testBit 26) || (cond == 0 && o.testBit 26)
        let br := if never then [] else [go tgt]
        (!never && out tgt, br ++ (if always then [] else [next w.sum w.pitch]))
      | 0x11 => (out tgt, [next w.sum w.pitch, go tgt])
      | 0x12 => if 4 ≤ w.stack.length then (false, []) else (out tgt, [{ w with addr := tgt, stack := (w.addr + 1) % 32768 :: w.stack }])
      | 0x13 =>
        match w.stack with
        | [] => (false, [])
        | t :: r => (out t, [{ w with addr := t, stack := r }])
      | 0x20 => if o.testBit 31 then (false, []) else (false, [next w.sum w.pitch])
      | 0x28 => (false, [next (w.sum + w.pitch) w.pitch])
      | 0x30 => (false, [next (w.sum + bitsAt o 47 16 * w.pitch) w.pitch])
      | op =>
        if 0xC0 ≤ op then
          (false, [next (w.sum + (if s.bit F.CTX_CTRL_pf_cust (k / 8) then s.ctxCover k o w.pitch else w.pitch)) w.pitch])
        else if op = 0x00 ∨ op = 0x18 ∨ op = 0x19 ∨ op = 0x21 then (false, [next w.sum w.pitch])
        else (false, [])

/-- The walk: every place is taken again only when it is reached with less time covered. -/
def State.walk (s : State) (k : Nat) : Nat → List Walk → List Walk → Bool
  | 0, _, _ => true
  | _ + 1, [], _ => true
  | n + 1, w :: work, seen =>
    if seen.any (fun v => v.addr == w.addr && v.stack == w.stack && v.pitch == w.pitch && decide (v.sum ≤ w.sum)) then State.walk s k n work seen
    else
      let (bad, l) := s.walkStep k w
      if bad then false else State.walk s k n (l ++ work) (w :: seen)

/-- Whether a thread's program may start (R268), a non-home thread's too. -/
def State.autonomous (s : State) (k : Nat) : Bool :=
  s.walk k 1099511627776 [⟨s.fld F.SEQ_TCFG_entry (k / 8) (k % 8), [], s.pitch k, 0⟩] []

/-! ### Start, stop, hold (R264, R268, R284, R293, R294, R298) -/

/-- Whether a site is parked, or to be parked. -/
def State.siteParked (s : State) (site : Nat) : Bool := s.fc.parked.contains site || s.fc.parking.contains site

/-- Starts a thread; the answer's code. -/
def State.startThread (s : State) (k : Nat) : State × Nat :=
  if s.fc.derated.contains (k / 8) then (s, eFaultActive)
  else if s.running k || !s.bit F.SEQ_CTRL_en (k / 8) then (s, eOk)
  else if !s.autonomous k then (s, eAutonomyShort)
  else
    let x := s.thr k
    let fresh : Thread := {
      step := x.step, nxt := x.nxt, olds := x.olds, prevEnd := x.prevEnd, pitchNext := x.pitchNext, originNext := x.originNext
      orgHi := x.orgHi, parked := x.parked, holds := x.holds.filter (fun h => h != .empty && h != .safe) }
    let s := s.setThr k fresh
    let s := s.setFld F.SEQ_TEVT_flags (k / 8) (k % 8) 0
    let s := s.setFld F.SEQ_TSTAT_opcode (k / 8) (k % 8) 0
    let s := s.setSpc k (s.fld F.SEQ_TCFG_entry (k / 8) (k % 8))
    (s.setTstate k stRunning, eOk)

/-- A start by the run bit: a refused one sets SEQ_STATUS.start_refused (R268). -/
def State.startReg (s : State) (k : Nat) : State :=
  let (s, c) := s.startThread k
  if c = eOk then s else s.setBit F.SEQ_STATUS_start_refused (k / 8) 0 true

/-- A launched open-ended step ends: its thread is at a boundary (R88). -/
def State.endOpen (s : State) (k : Nat) : State :=
  match (s.thr k).step with
  | some a => if a.st = StepSt.launched ∧ a.d.isNone then s.stepEndsNow k else s
  | none => s

/-- A thread comes to rest in a state: its staged context is discarded (R316), and an open-ended step it has launched ends (R88). -/
def State.restThread (s : State) (k st : Nat) : State := (((s.dropStaged k).releaseCtx k).endOpen k).setTstate k st

/-- A thread stops at a boundary. -/
def State.stopNow (s : State) (k : Nat) : State :=
  ((s.modThr k (fun x => { x with stopReq := false, dec := false })).restThread k stStopped).parkDone (s.siteOf k)

/-- A thread is asked to stop; one that holds is at its boundary. -/
def State.stopThread (s : State) (k : Nat) : State :=
  if !s.running k then s
  else if s.tstate k == stHeld then s.stopNow k
  else s.modThr k (fun x => { x with stopReq := true })

/-- Asks for an Owner hold. -/
def State.holdThread (s : State) (k : Nat) : State :=
  let s := s.setBitIn F.SEQ_TCTRL_hold (k / 8) 0 (k % 8)
  if s.tstate k == stHeld then s.addHold k .owner else s

/-- Releases an Owner hold. -/
def State.resumeThread (s : State) (k : Nat) : State := (s.clrBitIn F.SEQ_TCTRL_hold (k / 8) 0 (k % 8)).dropHold k .owner

/-- Sets event flags. -/
def State.setEvents (s : State) (k m : Nat) : State := s.setFld F.SEQ_TEVT_flags (k / 8) (k % 8) (s.fld F.SEQ_TEVT_flags (k / 8) (k % 8) ||| m % 16)

/-- A BOOL command of a thread. -/
def wrThreadCmd (f : State → State × Nat) (h : Hdr) (d : Sys2Proof.Data) (s : State) : State × Nat :=
  s.item490 h d tBool anyLen false (fun s => if dFlag d then f s else (s, eOk))

/-- Function 0x3. -/
def wrStart (k : Nat) : Hdr → Sys2Proof.Data → State → State × Nat := wrThreadCmd (fun s => s.startThread k)
/-- Function 0x4. -/
def wrStop (k : Nat) : Hdr → Sys2Proof.Data → State → State × Nat := wrThreadCmd (fun s => (s.stopThread k, eOk))
/-- Function 0x5. -/
def wrHold (k : Nat) : Hdr → Sys2Proof.Data → State → State × Nat := wrThreadCmd (fun s => (s.holdThread k, eOk))
/-- Function 0x6. -/
def wrResume (k : Nat) : Hdr → Sys2Proof.Data → State → State × Nat := wrThreadCmd (fun s => (s.resumeThread k, eOk))
/-- Function 0x8. -/
def wrEvents (k : Nat) (h : Hdr) (d : Sys2Proof.Data) (s : State) : State × Nat :=
  s.item490 h d tU8 anyLen false (fun s => (s.setEvents k (dNat d), eOk))

/-- THREAD_START (R268). -/
def execThreadStart (path : Path) (k : Nat) (s : State) : Host.Outcome State Fault Refusal :=
  if 256 ≤ k then .next s else .next (s.viaPath (.threadStart path k) path (wrStart k) (fun s => s.startReg k))
/-- THREAD_STOP (R293). -/
def execThreadStop (path : Path) (k : Nat) (s : State) : Host.Outcome State Fault Refusal :=
  if 256 ≤ k then .next s else .next (s.viaPath (.threadStop path k) path (wrStop k) (fun s => s.stopThread k))
/-- OWNER_HOLD (R294). -/
def execOwnerHold (path : Path) (k : Nat) (s : State) : Host.Outcome State Fault Refusal :=
  if 256 ≤ k then .next s else .next (s.viaPath (.ownerHold path k) path (wrHold k) (fun s => s.holdThread k))
/-- OWNER_RESUME (R294). -/
def execOwnerResume (path : Path) (k : Nat) (s : State) : Host.Outcome State Fault Refusal :=
  if 256 ≤ k then .next s else .next (s.viaPath (.ownerResume path k) path (wrResume k) (fun s => s.resumeThread k))
/-- SET_EVENT_FLAGS (R284): a dictionary command carries its own mask. -/
def execSetEventFlags (path : Path) (k mask : Nat) (s : State) : Host.Outcome State Fault Refusal :=
  if 256 ≤ k then .next s else .next (s.viaPath (.setEventFlags path k mask) path (wrEvents k) (fun s => s.setEvents k mask))

/-- The Course restart: the words come from the shadow, every thread is left stopped, and a derating by the check ends (R298, R522). -/
def State.courseRestart (s : State) (c : Nat) : State :=
  if !s.bit F.SEQ_STATUS_mc c then s
  else
    let s := { s with seq := { s.seq with store := Tbl.set s.seq.store {} c s.seq.shadow } }
    let s := s.setBit F.SEQ_STATUS_mc c 0 false
    let s := (List.range 8).foldl (fun s t =>
      let k := 8 * c + t
      (s.modThr k (fun x => { x with dec := false, phase := .idle, stall := none, holds := [] })).setTstate k stStopped) s
    let sites := (List.range 8).map (fun t => s.siteOf (8 * c + t))
    let s := (List.range 256).foldl (fun s k => if sites.contains (s.siteOf k) then s.dropHold k .machineCheck else s) s
    if s.fc.derated.contains c then s.undeRate c else s

/-- Function 0xC. -/
def wrRestart (c : Nat) : Hdr → Sys2Proof.Data → State → State × Nat := wrThreadCmd (fun s => (s.courseRestart c, eOk))
/-- COURSE_RESTART (R298). -/
def execCourseRestart (path : Path) (c : Nat) (s : State) : Host.Outcome State Fault Refusal :=
  if 32 ≤ c then .next s else .next (s.viaPath (.courseRestart path c) path (wrRestart c) (fun s => s.courseRestart c))

/-! ### Host writes (R267, R269, R274, R304) -/

/-- Writes step instructions from an address up; a thread that holds for the word at its step PC decodes it again (R269). -/
def State.putSteps (s : State) (c a : Nat) (b : List Byte) : Nat → State
  | 0 => s
  | n + 1 =>
    let s := { s with seq := { s.seq with stepMem := Tbl.set s.seq.stepMem 0 (32768 * c + a % 32768) (beNat (b.take 8)) } }
    let s := (List.range 8).foldl (fun s t =>
      let k := 8 * c + t
      if s.spc k = a % 32768 then s.dropHold k .empty else s) s
    State.putSteps s c (a + 1) (b.drop 8) n

/-- The places a walk from some places comes to, HOLD and END being the last of theirs. -/
def State.places (s : State) (k : Nat) : Nat → List Walk → List Walk → List Nat
  | 0, _, seen => seen.map (·.addr)
  | _ + 1, [], seen => seen.map (·.addr)
  | n + 1, w :: work, seen =>
    if seen.any (fun v => v.addr == w.addr && v.stack == w.stack && v.pitch == w.pitch && decide (v.sum ≤ w.sum)) then State.places s k n work seen
    else State.places s k n ((s.walkStep k w).2 ++ work) (w :: seen)

/-- Whether a running thread may still come to an address: from its step PC, or past it once that instruction is decoded. -/
def State.mayReach (s : State) (k a : Nat) : Bool :=
  let w : Walk := ⟨s.spc k, (s.thr k).sstack, s.pitch k, 0⟩
  s.running k && decide (s.regOff k a < s.regLen k) &&
    (s.places k 1099511627776 (if (s.thr k).dec then (s.walkStep k w).2 else [w]) []).contains a

/-- A host write of a word that a running thread may still reach, HOLD apart, leaves open what the threads of its region go on to read (R269). -/
def State.rewriteSteps (s : State) (c a n : Nat) : State :=
  let hit := ((List.range n).map (fun i => (a + i) % 32768)).filter (fun x =>
    opOf (s.stepWord c x) != 0x02 && (List.range 8).any (fun t => s.mayReach (8 * c + t) x))
  if hit.isEmpty then s
  else (List.range 8).foldl (fun s t =>
    let k := 8 * c + t
    if s.running k && hit.any (fun x => decide (s.regOff k x < s.regLen k)) then s.goWild k else s) s

/-- Function 0x0. -/
def wrStepMem (c : Nat) (h : Hdr) (d : Sys2Proof.Data) (s : State) : State × Nat :=
  s.item490 h d tBlob (fun n => decide (2 ≤ n ∧ (n - 2) % 8 = 0)) false (fun s =>
    let n := (d.bytes.length - 2) / 8
    ((s.rewriteSteps c (dSub d 0 2) n).putSteps c (dSub d 0 2) (d.bytes.drop 2) n, eOk))
/-- STEP_MEMORY_WRITE (R269). -/
def execStepMemoryWrite (h : Hdr) (d : Sys2Proof.Data) (c : Nat) (s : State) : Host.Outcome State Fault Refusal :=
  if 32 ≤ c then .next s else .next (s.hostItem (.stepMemoryWrite h d c) h (wrStepMem c h d))

/-- Function 0x1 (R264). -/
def wrThreadCfg (k : Nat) (h : Hdr) (d : Sys2Proof.Data) (s : State) : State × Nat :=
  let c := k / 8
  let t := k % 8
  s.item490 h d tBlob (fun n => n == 9) (s.running k) (fun s =>
    let s := s.setFld F.SEQ_TCFG_site c t (dSub d 0 1)
    let s := s.setBit F.SEQ_TCFG_home c t (decide (dSub d 1 1 ≠ 0))
    let s := s.setFld F.SEQ_TCFG_home_course c t (dSub d 2 1)
    let s := s.setFld F.SEQ_TCFG_entry c t (dSub d 3 2)
    let s := s.setFld F.SEQ_TREGION_base c t (dSub d 5 2)
    (s.setFld F.SEQ_TREGION_len c t (dSub d 7 2), eOk))
/-- THREAD_CONFIG_WRITE (R264). -/
def execThreadConfigWrite (h : Hdr) (d : Sys2Proof.Data) (k : Nat) (s : State) : Host.Outcome State Fault Refusal :=
  if 256 ≤ k then .next s else .next (s.hostItem (.threadConfigWrite h d k) h (wrThreadCfg k h d))

/-- Takes a new pitch or origin that waits for the boundary (R274). -/
def State.takeGrid (s : State) (k : Nat) : State :=
  let x := s.thr k
  let s := match x.pitchNext with | some p => s.setFld F.SEQ_TPITCH_pitch_ns (k / 8) (k % 8) p | none => s
  let s := match x.originNext with | some o => s.setPair F.SEQ_TORG_LO_origin F.SEQ_TORG_HI_origin (k / 8) (k % 8) o | none => s
  s.modThr k (fun x => { x with pitchNext := none, originNext := none })

/-- Whether a thread lies at a step boundary now. -/
def State.atRest (s : State) (k : Nat) : Bool := !s.running k || s.tstate k == stHeld

/-- Gives a thread a new pitch or origin. -/
def State.newGrid (s : State) (k : Nat) (p o : Option Nat) : State :=
  let s := s.modThr k (fun x => { x with pitchNext := p.orElse (fun _ => x.pitchNext), originNext := o.orElse (fun _ => x.originNext) })
  if s.atRest k then s.takeGrid k else s

/-- Function 0x2: the origin and the pitch, each rounded up to whole nanoseconds. -/
def wrSlotGrid (k : Nat) (h : Hdr) (d : Sys2Proof.Data) (s : State) : State × Nat :=
  s.item490 h d tBlob (fun n => n == 18) false (fun s =>
    (s.newGrid k (some (min 4294967295 (ceilDiv (dSub d 10 8) 1000))) (some (ceilDiv (timeTicks d.bytes) 4096)), eOk))
/-- SLOT_GRID_WRITE (R274). -/
def execSlotGridWrite (h : Hdr) (d : Sys2Proof.Data) (k : Nat) (s : State) : Host.Outcome State Fault Refusal :=
  if 256 ≤ k then .next s else .next (s.hostItem (.slotGridWrite h d k) h (wrSlotGrid k h d))

/-- Function 0x9: stored, and written to SEQ_WLIMIT rounded up to whole microseconds (R304). -/
def wrWaitLimit (c : Nat) (h : Hdr) (d : Sys2Proof.Data) (s : State) : State × Nat :=
  s.item490 h d tU64 anyLen false (fun s =>
    ((s.storeOd (0x5809 + 16 * c) 0 d.bytes).setFld F.SEQ_WLIMIT_limit_us c 0 (min 4294967295 (ceilDiv (dNat d) 1000000)), eOk))
/-- WAIT_LIMIT_WRITE (R304). -/
def execWaitLimitWrite (h : Hdr) (d : Sys2Proof.Data) (c : Nat) (s : State) : Host.Outcome State Fault Refusal :=
  if 32 ≤ c then .next s else .next (s.hostItem (.waitLimitWrite h d c) h (wrWaitLimit c h d))

/-! ### Conditions (Table 9.9, R290) -/

/-- The current step of a thread's site, which its home thread asked for (R265, R290). -/
def State.siteStep (s : State) (k : Nat) : Option Step := (s.thr (s.homeThr k)).cur

/-- Whether the current step's interval is over; with no current step nothing is left to wait for. -/
def State.condEnded (s : State) (k : Nat) : Bool :=
  match s.siteStep k with
  | none => true
  | some a => a.st == .ended || a.st == .withdrawn || (match a.end? with | some e => decide (e ≤ s.now) | none => false)

/-- COMPLETE: ended, and every result in the Reckoner. -/
def State.condComplete (s : State) (k : Nat) : Bool :=
  match s.siteStep k with
  | none => true
  | some a => s.condEnded k && (a.complete || a.st == .withdrawn)

/-- A condition of the current step's own. -/
def State.curStep (s : State) (k : Nat) (p : Step → Bool) : Bool := (s.siteStep k).any p

/-- The outcome of the latest admission request of a thread's site; a non-home thread learns it with the T0 its home thread sends (R265). -/
def State.outcome (s : State) (k : Nat) : Option Bool := if (s.thr k).needT0 then none else (s.thr (s.homeThr k)).decided

/-- The truth of a condition code for a thread. -/
def State.cond (s : State) (k code : Nat) : Bool :=
  let x := s.thr k
  let c := k / 8
  let site := s.siteOf k
  match code with
  | 0 => true
  | 1 => false
  | 2 => x.m.z
  | 3 => !x.m.z
  | 4 => x.m.n
  | 5 => !x.m.n
  | 6 => x.m.c
  | 7 => !x.m.c
  | 8 => x.m.v
  | 9 => !x.m.v
  | 10 => x.m.n != x.m.v
  | 11 => x.m.n == x.m.v
  | 12 => !x.m.z && x.m.n == x.m.v
  | 13 => !(!x.m.z && x.m.n == x.m.v)
  | 14 => x.m.c && !x.m.z
  | 15 => !(x.m.c && !x.m.z)
  | 16 => s.outcome k == some true
  | 17 => s.outcome k == some false
  | 18 => (s.outcome k).isSome || s.curStep k (fun a => a.st == .deferred)
  | 19 => decide (ns x.m.t0 ≤ s.now)
  | 20 => s.condEnded k
  | 21 => s.condComplete k
  | 22 => s.curStep k (fun a => a.late)
  | 23 => s.curStep k (fun a => a.marks.testBit 1)
  | 24 => s.ctxReady k
  | 25 => x.ctxTaken
  | 26 => s.curStep k (fun a => a.bslot.isSome)
  | 27 => s.curStep k (fun a => a.deferred)
  | 28 => s.curStep k (fun a => a.split || a.marks.testBit 3)
  | 29 => s.isHome k
  | 30 => !x.holds.isEmpty || s.bitOf F.SEQ_TCTRL_hold c 0 (k % 8) || s.ringFull
  | 31 => s.curStep k (fun a => a.marks.testBit 0)
  | 32 => s.item site 8 == 0
  | 33 => s.item site 8 != 0
  | 34 => s.rk.ckpt.contains site
  | 35 => (s.item site 5).testBit 34
  | 36 => s.measReady site
  | 37 => Tbl.find s.rk.tested site == some true
  | 38 => Tbl.find s.rk.tested site == some false
  | 39 => s.curStep k (fun a => a.clamp)
  | 40 => (s.threadsOf site).any (fun j => (s.pinsOwned j).any (fun p => s.latched (j / 8) p))
  | 41 => (List.range 132).any (fun m => (s.smuCh m).owner == some site && s.smuLatched m)
  | 42 => (List.range 64).any (fun w => (s.wavCh w).owner == some site && (s.wavBit F.WAV_STATE_underrun w || s.wavBit F.WAV_STATE_ilim w))
  | 43 =>
    match s.siteStep k with
    | some a =>
      !(s.queue 39).any (fun r => r.action == 0x48 && r.thread == k && r.step == some a.t0) &&
        !s.acq.un.any (fun (e : Nat × AcqUnit) => match e.2.arm with | some r => r.thread == some k && r.t0 == a.t0 | none => false)
    | none => true
  | 44 => x.trigSeen
  | 45 => !(s.eng c).rxq.isEmpty
  | 46 => s.bit F.SER_STATUS_err c
  | 47 => !(s.eng c).run.any (fun e => decide (s.tb.loc < e.finish)) && !(s.eng c).sel && (s.eng c).txq.isEmpty && !(s.queue c).any (fun r => r.action == 0x38 && !r.payload.testBit 38)
  | 48 => s.bit F.PAT_STATUS_jlatch c
  | 49 => s.streaming c
  | 50 => s.bit F.APG_STATUS_halted c
  | 51 => s.bitOf F.SEQ_TEVT_flags c (k % 8) 0
  | 52 => s.bitOf F.SEQ_TEVT_flags c (k % 8) 1
  | 53 => s.bitOf F.SEQ_TEVT_flags c (k % 8) 2
  | 54 => s.bitOf F.SEQ_TEVT_flags c (k % 8) 3
  | 55 => x.timerDone
  | 56 => s.inQuiet
  | 57 => decide (s.fld F.TLY_MULT_m_q < 1024)
  | 58 => !s.ringFull
  | 59 => x.lc.headD 0 == 0
  | 60 => (x.lc.drop 1).headD 0 == 0
  | 61 => (x.lc.drop 2).headD 0 == 0
  | 62 => (x.lc.drop 3).headD 0 == 0
  | _ => false

/-! ### Waits (R292) -/

/-- A counted wait begins `at_` (local ticks); the thread waits. -/
def State.beginWait (s : State) (k at_ : Nat) : State :=
  let s := s.modThr k (fun x => if x.waitSince.isSome then x else { x with waitSince := some at_ })
  if s.tstate k == stRunning then s.setTstate k stWaiting else s

/-- A wait is over. -/
def State.endWait (s : State) (k : Nat) : State :=
  let s := s.modThr k (fun x => match x.waitSince with
    | some t => { x with waitSince := none, waitSum := x.waitSum + (s.tb.loc - t) }
    | none => x)
  if s.tstate k == stWaiting then s.setTstate k stRunning else s

/-- The local instant from which a wait for COMPLETE counts: the step's end (R292 counts no wait for ENDED). -/
def State.completeFrom (s : State) (k : Nat) : Nat :=
  match (s.siteStep k).bind Step.end? with
  | some e => s.tb.loc + (e - s.now)
  | none => s.tb.loc

/-! ### Step boundaries (R293, R294) -/

/-- A site's program ends: the END record is posted, and its threads end (Table 9.3). -/
def State.endProgram (s : State) (k : Nat) : State :=
  let s := s.post k kEnd
  let s := (s.appliers k).foldl (fun s j =>
    (s.modThr j (fun x => { x with dec := false, phase := .idle, waitSince := none, waitSum := 0 })).restThread j stEnded) s
  s.parkDone (s.siteOf k)

/-- A thread holds at its boundary. -/
def State.holdNow (s : State) (k : Nat) : State :=
  ((s.dropStaged k).modThr k (fun x => { x with fetched := [] })).setTstate k stHeld

/-! ### The decode queue (R19, R270) -/

/-- Where a thread's fetcher stands: step address, step stack and loop counters, as the instructions in the queue will leave them. -/
structure FetchPos where
  addr : Nat
  stack : List Nat
  lc : List Nat
deriving DecidableEq, Repr

/-- Where the instruction `w` at a place leads, if nothing that is still to come decides it: a branch on any condition but ALWAYS and NEVER, END,
BIN with stop and a step stack misused stop the fetcher. -/
def FetchPos.next (t : Nat) (f : FetchPos) (w : Nat) : Option FetchPos :=
  let o := oprOf w
  let f1 : FetchPos := { f with addr := (f.addr + 1) % 32768 }
  let tgt := bitsAt o 47 33
  if !(maskField w).testBit t then some f1
  else
    match opOf w with
    | 0x01 => none
    | 0x10 =>
      let cond := bitsAt o 32 27
      if cond = 0 ∨ cond = 1 ∨ cond = 63 then some (if (cond == 0) != o.testBit 26 then { f with addr := tgt } else f1) else none
    | 0x11 =>
      let n := bitsAt o 32 31
      let cur := (f.lc.drop n).headD 0
      let v := (if cur = 0 then max 1 (bitsAt o 30 0) else cur) - 1
      some { f with addr := if v = 0 then f1.addr else tgt, lc := f.lc.set n v }
    | 0x12 => if 4 ≤ f.stack.length then none else some { f with addr := tgt, stack := f1.addr :: f.stack }
    | 0x13 => match f.stack with | [] => none | a :: r => some { f with addr := a, stack := r }
    | 0x20 => if o.testBit 31 then none else some f1
    | _ => some f1

/-- The instructions a fetcher holds from a place on, `n` at most: those already queued while they lie on its path, then words of step memory. It
stops before a HOLD, which is decoded afresh each time it is written (R269), and at the region's end. -/
def State.fetchFrom (s : State) (k : Nat) : (n : Nat) → FetchPos → List (Nat × Nat) → List (Nat × Nat)
  | 0, _, _ => []
  | n + 1, f, old =>
    if s.regLen k ≤ s.regOff k f.addr then []
    else
      let kept := match old with | e :: _ => e.1 == f.addr | [] => false
      let w := match old with | e :: _ => if kept then e.2 else s.stepSeen k f.addr | [] => s.stepSeen k f.addr
      if (maskField w).testBit (k % 8) && opOf w == 0x02 then []
      else (f.addr, w) :: (match f.next (k % 8) w with
        | some g => if s.regOff k f.addr = 32767 ∧ g.addr = (f.addr + 1) % 32768 then [] else State.fetchFrom s k n g (if kept then old.tail else [])
        | none => [])

/-- The fetcher fills a thread's decode queue while it holds a credit for it, one for each of the 16 places free (R18, R19, R270). -/
def State.fetchSteps (s : State) (k : Nat) : State :=
  s.modThr k (fun x => { x with fetched := if x.pastEnd then [] else s.fetchFrom k 16 ⟨s.spc k, x.sstack, x.lc⟩ x.fetched })

/-- The word at a thread's step PC: the head of its decode queue, or, when that is empty, what step memory holds. -/
def State.nextWord (s : State) (k : Nat) : Nat :=
  match (s.thr k).fetched with
  | e :: _ => e.2
  | [] => s.stepSeen k (s.spc k)

/-- The opcodes that R273 reserves. -/
def reservedOp (op : Nat) : Bool :=
  decide (op < 0xC0) && !([0x00, 0x01, 0x02, 0x03, 0x08, 0x09, 0x0A, 0x10, 0x11, 0x12, 0x13, 0x18, 0x19, 0x20, 0x21, 0x28, 0x30].contains op)

/-- Decodes the instruction at a home thread's step PC, which leaves the decode queue, and sends it over the site link (R265, R270, R281). -/
def State.decodeStep (s : State) (k : Nat) : State :=
  if (s.thr k).pastEnd ∨ s.regLen k ≤ s.regOff k (s.spc k) then (s.addHold k .empty).holdNow k
  else
    let s := s.fetchSteps k
    let w := s.nextWord k
    let s := if (maskField w).testBit (k % 8) && reservedOp (opOf w) then s.goWild k else s
    let w := s.nextWord k
    let op := opOf w
    let acts := (maskField w).testBit (k % 8)
    if acts && decide (0xC0 ≤ op) && s.bit F.SEQ_STATUS_cust_block (k / 8) then s
    else
      let s := s.setFld F.SEQ_TSTAT_opcode (k / 8) (k % 8) op
      let s := s.modThr k (fun x => { x with
        fetched := x.fetched.tail, opr := oprOf w, tmask := maskField w, dec := true, posts := 0, waitSum := 0, retried := false, asked := false })
      if !acts then s
      else ((s.appliers k).drop 1).foldl (fun s j =>
        let s := s.setFld F.SEQ_TSTAT_opcode (j / 8) (j % 8) op
        if 0xC0 ≤ op then s.modThr j (fun x => { x with link := x.link ++ [.instr w] }) else s) s

/-- A non-home thread takes the oldest of what its home thread sent: a customer instruction, or a step to apply for its own Course. -/
def State.decodeLink (s : State) (k : Nat) : State :=
  match (s.thr k).link with
  | [] => s
  | .step st :: rest => (((s.modThr k (fun x => { x with link := rest })).giveT0 k st.t0).emitStep k st)
  | .instr w :: rest =>
    if s.bit F.SEQ_STATUS_cust_block (k / 8) then s
    else
      let s := s.setFld F.SEQ_TSTAT_opcode (k / 8) (k % 8) (opOf w)
      s.modThr k (fun x => { x with
        link := rest, opr := oprOf w, tmask := maskField w, dec := true, pcSet := true, posts := 0, waitSum := 0, retried := false, asked := false, needT0 := false })

/-- Adds the holds that apply at a boundary (R294). -/
def State.sampleHolds (s : State) (k : Nat) : State :=
  let s := if s.ringFull || !(s.postQ k).isEmpty then s.addHold k .ringFull else s
  if s.bitOf F.SEQ_TCTRL_hold (k / 8) 0 (k % 8) then s.addHold k .owner else s

/-- STEP_BOUNDARY (R88, R293): the first that applies of a stop, a park, a machine check and a hold; otherwise the thread decodes. -/
def execStepBoundary (k : Nat) (s : State) : Host.Outcome State Fault Refusal :=
  if 256 ≤ k ∨ !s.running k ∨ (s.thr k).dec ∨ s.tstate k = stWaiting then .next s
  else
    let site := s.siteOf k
    let s := s.launchDue.endOpen k
    let s := (s.releaseCtx k).takeGrid k
    let s := if s.isHome k then s.passBonds site else s
    if (s.thr k).stopReq then .next (s.stopNow k)
    else if s.siteParked site then .next (s.parkThread k)
    else if s.isHome k && s.rk.stopAsked.contains site then
      .next (({ s with rk := { s.rk with stopAsked := removeNat s.rk.stopAsked site } }).endProgram k)
    else if s.bit F.SEQ_STATUS_mc (k / 8) then .next (s.restThread k stMachineCheck)
    else
      let s := s.sampleHolds k
      if !(s.thr k).holds.isEmpty then .next (s.holdNow k)
      else
        let s := if s.tstate k == stHeld then s.setTstate k stRunning else s
        .next (if s.isHome k then s.decodeStep k else s.decodeLink k)

/-! ### Parity errors and machine checks (R295, R296) -/

/-- A Course machine check: the microaddress, or the opcode of a dispatch entry, goes to SEQ_MC. -/
def State.machineCheck (s : State) (k addr : Nat) : State :=
  let c := k / 8
  let sites := ((List.range 8).map (fun t => s.siteOf (8 * c + t))).eraseDups
  let s := sites.foldl (fun s x => match s.homeOf x with | some j => s.markDropped j mkAborted | none => s.markSite x mkAborted) s
  let s := (List.range 8).foldl (fun s t =>
    let j := 8 * c + t
    let run := s.running j
    let s := s.modThr j (fun x => { x with
      m := x.com, outbox := [], phase := .idle, dec := false, stall := none, service := none, waitSince := none, waitUntil := none
      asked := false, urgent := false, needT0 := false
      nxt := x.nxt.filter (fun a => a.st == .committed) })
    if run then s.restThread j stMachineCheck else s) s
  let s := s.setBit F.SEQ_STATUS_mc c 0 true
  let s := s.setBit F.SEQ_MC_valid c 0 true
  let s := s.setBit F.SEQ_MC_disp c 0 (decide (8192 ≤ addr))
  let s := s.setFld F.SEQ_MC_thread c 0 (k % 8)
  let s := s.setFld F.SEQ_MC_uaddr c 0 (addr % 8192)
  let s := s.setFld F.SEQ_MC_opcode c 0 (s.fld F.SEQ_TSTAT_opcode c (k % 8))
  let s := (List.range 256).foldl (fun s j => if j / 8 != c && sites.contains (s.siteOf j) && s.running j then s.addHold j .machineCheck else s) s
  (s.serCut c).report c sevDegraded (detail clsBlock 0x0A)

/-- A word or entry read with a parity error: the routine's uncommitted effects go, and it runs again after the reload (R295). `addr` is the
microaddress, or 8,192 + the opcode. -/
def State.parityError (s : State) (k addr : Nat) : State :=
  let c := k / 8
  if (s.thr k).retried then s.machineCheck k addr
  else
    let s := s.setBit F.SEQ_STATUS_par_retry c 0 true
    let s := s.setFld F.SEQ_PAR_CNT_retries c 0 (satInc 16 (s.fld F.SEQ_PAR_CNT_retries c))
    let s := { s with seq := { s.seq with retries := Tbl.set s.seq.retries 0 c (Tbl.get s.seq.retries 0 c + 1) } }
    s.modThr k (fun x => { x with m := x.com, outbox := [], stall := some addr, retried := true })

/-! ### The vendor opcodes (Table 9.3) -/

/-- A home thread's decoded vendor instruction acts; `bad` when its dispatch entry is read with a parity error. -/
def State.vendor (s : State) (k op : Nat) (bad : Bool) (f : State → State) : State :=
  let x := s.thr k
  if decide (k < 256) && s.running k && x.dec && s.isHome k && x.stall.isNone && x.tmask.testBit (k % 8) &&
      s.fld F.SEQ_TSTAT_opcode (k / 8) (k % 8) == op then
    if s.entryBad k op bad then s.parityError k (8192 + op) else f s
  else s

/-- NOP (R272): opcode 0x00, or a cleared mask bit. -/
def execStepNop (k : Nat) (bad : Bool) (s : State) : Host.Outcome State Fault Refusal :=
  let x := s.thr k
  if decide (k < 256) && s.running k && x.dec && s.isHome k && !x.tmask.testBit (k % 8) then .next (s.endInstr k)
  else .next (s.vendor k 0x00 bad (fun s => s.endInstr k))

/-- END (R273). -/
def execProgEnd (k : Nat) (bad : Bool) (s : State) : Host.Outcome State Fault Refusal :=
  .next (s.vendor k 0x01 bad (fun s => s.endProgram k))

/-- HOLD (R269): the step queue is empty; the word is decoded again when it is written. -/
def execStepHold (k : Nat) (bad : Bool) (s : State) : Host.Outcome State Fault Refusal :=
  .next (s.vendor k 0x02 bad (fun s => ((s.modThr k (fun x => { x with dec := false })).addHold k .empty).holdNow k))

/-- SLOT (R274): the pitch of the thread's steps from the next on. -/
def execStepSlot (k : Nat) (bad : Bool) (s : State) : Host.Outcome State Fault Refusal :=
  .next (s.vendor k 0x03 bad (fun s =>
    (s.modThr k (fun x => { x with pitchNext := some (bitsAt x.opr 47 16) })).endInstr k))

/-- The request of a step that names contexts in OPR: they are fetched, their cost formed, and T0 chosen (R88, R275, R277, R299). -/
def State.askStep (s : State) (k : Nat) (kind : StepKind) : State :=
  let x := s.thr k
  let o := x.opr
  if x.asking then s
  else
    let s := if x.ctxf.isSome then s else s.ctxFetch k (oprCtx o) (oprCount o)
    if !s.ctxReady k then s.beginWait k s.tb.loc
    else
      let s := s.endWait k
      let (c, d, smu, ana) := ctxCost ((ctxRange (oprCtx o) (oprCount o)).map (fun n => s.ctx (k / 8) n))
      let d := if oprCount o = 0 then some (s.pitch k) else d
      let (t0, src) := s.chooseT0 k (oprBond o)
      s.requestStep k {
        opcode := s.fld F.SEQ_TSTAT_opcode (k / 8) (k % 8), spc := s.spc k, kind, t0 := ns t0, c, d := d.map ns, smu, analogue := ana
        bslot := oprBond o, ctx := oprCtx o, count := oprCount o, source := ns src }

/-- RUN (R278, R315). -/
def execStepRun (k : Nat) (bad : Bool) (s : State) : Host.Outcome State Fault Refusal :=
  .next (s.vendor k 0x08 bad (fun s => s.askStep k (.run (oprArg (s.thr k).opr))))
/-- LEVEL (R315). -/
def execStepLevel (k : Nat) (bad : Bool) (s : State) : Host.Outcome State Fault Refusal :=
  .next (s.vendor k 0x09 bad (fun s => s.askStep k .level))
/-- MEAS (R320): the first result slot stands in arg [19:12]. -/
def execStepMeas (k : Nat) (bad : Bool) (s : State) : Host.Outcome State Fault Refusal :=
  .next (s.vendor k 0x0A bad (fun s => s.askStep k (.meas (bitsAt (s.thr k).opr 19 12))))

/-- The branch of a BR whose condition may now be evaluated (R291). -/
def State.branchNow (s : State) (k : Nat) : State :=
  let o := (s.thr k).opr
  let code := bitsAt o 32 27
  let taken := s.cond k code != o.testBit 26
  let s := s.endWait k
  let s := if 16 ≤ code ∧ code ≤ 47 then s.modThr k (fun x => { x with gap := true }) else s
  let s := if taken then ((s.branchOut k).setSpc k (bitsAt o 47 33)).modThr k (fun x => { x with pcSet := true }) else s
  s.endInstr k

/-- BR (R291): a condition from 16 to 47 waits for COMPLETE first. -/
def execStepBr (k : Nat) (bad : Bool) (s : State) : Host.Outcome State Fault Refusal :=
  .next (s.vendor k 0x10 bad (fun s =>
    let code := bitsAt (s.thr k).opr 32 27
    if 16 ≤ code ∧ code ≤ 47 ∧ !s.condComplete k then s.beginWait k (s.completeFrom k) else s.branchNow k))

/-- LOOP (R273). -/
def execStepLoop (k : Nat) (bad : Bool) (s : State) : Host.Outcome State Fault Refusal :=
  .next (s.vendor k 0x11 bad (fun s =>
    let x := s.thr k
    let n := bitsAt x.opr 32 31
    let cur := (x.lc.drop n).headD 0
    let v := (if cur = 0 then max 1 (bitsAt x.opr 30 0) else cur) - 1
    let s := s.modThr k (fun x => { x with lc := x.lc.set n v, pcSet := decide (v ≠ 0) })
    (if v = 0 then s else (s.branchOut k).setSpc k (bitsAt x.opr 47 33)).endInstr k))

/-- The step stack is misused: a host error of the site (R273). The thread goes on at an open address of its open program. -/
def State.badStep (s : State) (k : Nat) : State :=
  let (a, s) := (s.goWild k).draw 32768
  ((s.modThr k (fun x => { x with pcSet := true })).setSpc k a).endInstr k

/-- CALL (R273); a fifth entry is a host error of the site. -/
def execStepCall (k : Nat) (bad : Bool) (s : State) : Host.Outcome State Fault Refusal :=
  .next (s.vendor k 0x12 bad (fun s =>
    let x := s.thr k
    if 4 ≤ x.sstack.length then s.badStep k
    else
      let s := s.modThr k (fun x => { x with sstack := (s.spc k + 1) % 32768 :: x.sstack, pcSet := true })
      ((s.branchOut k).setSpc k (bitsAt x.opr 47 33)).endInstr k))

/-- RET (R273); from an empty stack it is a host error of the site. -/
def execStepRet (k : Nat) (bad : Bool) (s : State) : Host.Outcome State Fault Refusal :=
  .next (s.vendor k 0x13 bad (fun s =>
    match (s.thr k).sstack with
    | [] => s.badStep k
    | a :: rest => ((s.modThr k (fun x => { x with sstack := rest, pcSet := true })).setSpc k a).endInstr k))

/-- The local instant of the current step's T0 + an offset of ticks. -/
def State.stepInstant (s : State) (k off : Nat) : Nat :=
  match s.siteStep k with
  | some a => s.tb.loc + (a.t0 + off) - s.now
  | none => s.tb.loc + off

/-- JUMP (R223, R273). -/
def execStepJump (k : Nat) (bad : Bool) (s : State) : Host.Outcome State Fault Refusal :=
  .next (s.vendor k 0x18 bad (fun s => (s.raiseSiteJump (s.siteOf k) (s.stepInstant k (s.thr k).opr)).endInstr k))

/-- Issues a tally clear of a site at a local instant, on every Course it spans (R261). -/
def State.clearSite (s : State) (site t : Nat) : State :=
  ((s.threadsOf site).map (fun k => s.apgLeader (k / 8))).eraseDups.foldl (fun s c =>
    s.modApg c (fun a => { a with clr := a.clr ++ [(site, t + ns 40)] })) s

/-- TALCLR (R261, R273). -/
def execTalclr (k : Nat) (bad : Bool) (s : State) : Host.Outcome State Fault Refusal :=
  .next (s.vendor k 0x19 bad (fun s => (s.clearSite (s.siteOf k) (s.stepInstant k (s.thr k).opr)).endInstr k))

/-- BIN (R326): item 0x002 takes the bin; with stop it then acts as END. -/
def execStepBin (k : Nat) (bad : Bool) (s : State) : Host.Outcome State Fault Refusal :=
  .next (s.vendor k 0x20 bad (fun s =>
    let o := (s.thr k).opr
    let s := s.setItem (s.siteOf k) 2 (bitsAt o 47 32)
    if o.testBit 31 then s.endProgram k else s.endInstr k))

/-- POST (R329). -/
def execStepPost (k : Nat) (bad : Bool) (s : State) : Host.Outcome State Fault Refusal :=
  .next (s.vendor k 0x21 bad (fun s => (s.post k kPost).endInstr k))

/-- WAITEV (R273): admitted at no cost, open-ended. -/
def execWaitev (k : Nat) (bad : Bool) (s : State) : Host.Outcome State Fault Refusal :=
  .next (s.vendor k 0x28 bad (fun s =>
    let x := s.thr k
    if x.asking || x.waitUntil.isSome then s
    else s.requestStep k {
      opcode := 0x28, spc := s.spc k, kind := .waitev (bitsAt x.opr 47 44) (bitsAt x.opr 39 0), t0 := ns (s.chooseT0 k none).1
      c := 0, d := none, smu := 0, analogue := false, bslot := none, ctx := 0, count := 0 }))

/-- DELAY (R275). -/
def execStepDelay (k : Nat) (bad : Bool) (s : State) : Host.Outcome State Fault Refusal :=
  .next (s.vendor k 0x30 bad (fun s => (s.modThr k (fun x => { x with delay := x.delay + bitsAt x.opr 47 16 })).endInstr k))

/-- The event mask of a WAITEV whose flag has been set, once its step has launched: the routine and its step end (R88). -/
def State.waitevDone (s : State) (k : Nat) : State :=
  let x := s.thr k
  if s.fld F.SEQ_TEVT_flags (k / 8) (k % 8) &&& bitsAt x.opr 47 44 = 0 then s
  else
    let s := (s.reach (ns x.m.t0)).launchDue
    let s := (s.stepEndsNow k).modThr k (fun x => { x with waitUntil := none, gap := true })
    s.endInstr k

/-! ### Prefetch (R313) -/

/-- Prefetches the contexts of the context-form instructions within `n` words from a step address, up to the first branch. -/
def State.prefetchFrom (s : State) (k a : Nat) : Nat → State
  | 0 => s
  | n + 1 =>
    let c := k / 8
    let w := s.stepSeen k a
    let op := opOf w
    if s.regLen k ≤ s.regOff k a ∨ (0x10 ≤ op ∧ op ≤ 0x13) ∨ op = 0x01 ∨ op = 0x02 then s
    else
      let form := (op == 0x08 || op == 0x09 || op == 0x0A || (decide (0xC0 ≤ op) && s.bit F.CTX_CTRL_pf_cust c)) && (maskField w).testBit (k % 8)
      let s := if !form then s else
        (ctxRange (oprCtx (oprOf w)) (oprCount (oprOf w))).foldl (fun s n =>
          if ((s.cache c).find n).isSome then s
          else s.modCache c (fun x => let y := x.add ⟨n, s.ctxMem n, [], [], none⟩; { y with prefetches := y.prefetches + 1 })) s
      State.prefetchFrom s k ((a + 1) % 32768) n

/-- CONTEXT_PREFETCH (R313): not while a demand fetch waits. -/
def execContextPrefetch (k : Nat) (s : State) : Host.Outcome State Fault Refusal :=
  if 256 ≤ k ∨ !s.running k ∨ !s.bit F.CTX_CTRL_pf_en (k / 8) ∨ !(s.cache (k / 8)).missing.isEmpty ∨ !(s.cache (k / 8)).waiting.isEmpty then .next s
  else .next (s.prefetchFrom k (s.spc k) (min 16 (s.fld F.CTX_CTRL_pf_depth (k / 8))))

end Sys2Proof.Machine
end

