-- ==== Sys2Proof/Machine/Thermal.lean ====
section
/-! DEFINITION. Thermal sensing, levels and Thermal Halt, and the compensation against temperature (R107 to R119). -/

namespace Sys2Proof.Machine

/-! ### Sensors (R107 to R109) -/

/-- Sensors: 0 to 63 two in each Course region, 64 to 68 elsewhere. -/
def sensors : Nat := 69

/-- Takes in one sample of every sensor, to the resolution of 0.125 °C. -/
def State.takeSamples (s : State) (l : List Int) : State :=
  let put (t : Tbl (List Int)) (i : Nat) : Tbl (List Int) :=
    Tbl.put t i (((roundAway (l.getD i 0) 125 * 125) :: Tbl.get t [] i).take 4)
  { s with thm := { s.thm with samples := (List.range sensors).foldl put s.thm.samples } }

/-- A sensor's latest reading. -/
def State.sensorNow (s : State) (i : Nat) : Int := (Tbl.get s.thm.samples [] i).headD 0

/-- The sensors a main-die sensor is compared with: the other of its region and those of the adjacent regions, failed ones too (R108). -/
def peers (i : Nat) : List Nat :=
  ((i / 2) :: (Config.adjacentCourses (i / 2)).filter (fun c => decide (c < 32) && c != i / 2)).flatMap (fun c => [2 * c, 2 * c + 1])
    |>.filter (fun x => x != i)

/-- Whether a reading is invalid (R108). -/
def State.badSensor (s : State) (i : Nat) : Bool :=
  let r := s.sensorNow i
  if r < -40000 ∨ 150000 < r then true
  else if 64 ≤ i then false
  else
    let p := peers i
    let sum : Int := p.foldl (fun a x => a + s.sensorNow x) 0
    decide (15000 * p.length < (r * p.length - sum).natAbs)

/-- A sensor fails: its mask bit and its faults (R108, R109). -/
def State.failSensor (s : State) (i : Nat) : State :=
  let s := { s with thm := { s.thm with failed := insertAsc s.thm.failed i } }
  let s := (s.setBit F.THM_STATUS_sensor_fail 0 0 true).report 42 sevDegraded (detail clsSensor i)
  if 64 ≤ i ∨ 4 ≤ (s.thm.failed.filter (fun x => decide (x < 64))).length then s.report 42 sevChip (detail clsSensor i) else s

/-- Tmax and the sensor that sets it, from the means of four samples rounded up to 0.125 °C (R107). Among sensors with the same mean
the lowest numbered one sets it (DESIGN CHOICE, log entry 49: R107 names none). -/
def State.findTmax (s : State) : Int × Nat :=
  let mean (i : Nat) : Int := ceilDivInt ((Tbl.get s.thm.samples [] i).foldl (fun (a x : Int) => a + x) 0) 500 * 125
  match (List.range sensors).filter (fun i => !s.thm.failed.contains i) with
  | [] => (150000, 0xFF)
  | a :: l => l.foldl (fun (b : Int × Nat) i => if b.1 < mean i then (mean i, i) else b) (mean a, a)

/-- Recomputes Tmax, and how long it has stayed below 105 °C (R119). -/
def State.setTmax (s : State) : State :=
  let t := s.findTmax
  let s := { s with thm := { s.thm with
    tmax := t.1, belowSince := if t.1 < 105000 then (if s.thm.belowSince.isSome then s.thm.belowSince else some s.tb.loc) else none } }
  (s.setFld F.THM_TMAX_tmax_mc 0 0 (ofSigned 32 t.1)).setFld F.THM_STATUS_tmax_src 0 0 t.2

/-! ### Thermal Halt (R118) -/

/-- The sensor's number as the fault's object. -/
def State.tmaxDetail (s : State) : Nat := detail clsSensor (s.fld F.THM_STATUS_tmax_src)

/-- THERM_N (R114). -/
def State.driveThermN (s : State) : State :=
  { s with thm := { s.thm with
    thermN := s.bit F.THM_STATUS_first_set && (s.bit F.THM_STATUS_warning || s.thm.halted) && !s.pw.resetLow && s.pw.powered } }

/-- The Courses stop: their streams and engines with their outputs, and every thread that runs. -/
def State.stopCourses (s : State) : State :=
  let s := (List.range 32).foldl (fun s c => s.stopStream c) s
  (s.seq.th.map (fun (e : Nat × Thread) => e.1)).foldl (fun s k => if s.running k then s.setTstate k stStopped else s) s

/-- The Keystone, the Courses and the ports stop; ALIVE rests low (R118, R577). -/
def State.stopChip (s : State) : State :=
  let s := s.stopCourses
  let s := { s with ks := { s.ks with running := false, outage := false, serving := none, checks := [] }, pw := { s.pw with alive := false } }
  let s := s.setBit F.ETH_STATUS_e0_up 0 0 false
  s.setBit F.ETH_STATUS_e1_up 0 0 false

/-- The halt's record (R118, item 4): written once the page program in progress, if there is one, has completed. -/
def State.logHalt (s : State) (src : Nat) : State :=
  let arg := toLe 4 (ofSigned 32 s.thm.tmax) ++ [BitVec.ofNat 8 src]
  match s.eth.jrn with
  | [] => s.logFault 3 42 sevChip s.tmaxDetail 0 arg
  | j :: _ =>
    let s := { s with eth := { s.eth with jrn := [{ j with resp := none, told := none }] } }
    s.logAt true s.now 3 42 sevChip s.tmaxDetail 0 arg

/-- Enters Thermal Halt (R118). -/
def State.thermalHalt (s : State) : State :=
  let s := (s.serHalt.escalateSafe 3).smuParkAll.wavParkAll
  let s := match s.nvm.eraseOf with
    | some b => { s with nvm := { s.nvm with eraseOf := none, intents := insertAsc s.nvm.intents b } }
    | none => s
  let src := s.fld F.THM_STATUS_tmax_src
  let s := s.logHalt src
  let s := s.report 42 sevChip s.tmaxDetail
  let s := { s with thm := { s.thm with halted := true, lastHalt := some (s.now, s.thm.tmax, src) }, mem := [] }
  s.stopChip.driveThermN

/-! ### Levels (R110, R112) -/

/-- Assertion and release points of Table 3.5, m°C. -/
def levelPoints : Nat → Int × Int
  | 0 => (95000, 92000) | 1 => (100000, 97000) | _ => (115000, 105000)
/-- A level's status bit. -/
def levelFld : Nat → Fld
  | 0 => F.THM_STATUS_warning | 1 => F.THM_STATUS_throttle | _ => F.THM_STATUS_shutdown

/-- A level changes state now. -/
def State.setLevel (s : State) (i : Nat) (on : Bool) : State :=
  let s := s.setBit (levelFld i) 0 0 on
  { s with thm := { s.thm with changed := s.thm.changed.set i (some s.tb.loc) } }

/-- What a level does on assertion (Table 3.5). -/
def State.levelActs (s : State) (i : Nat) : State :=
  if i = 0 then s.report 42 sevAdvisory s.tmaxDetail
  else if i = 1 then s.report 42 sevDegraded s.tmaxDetail
  else s.thermalHalt

/-- Evaluates a level against Tmax. -/
def State.evalLevel (s : State) (i : Nat) : State :=
  let on := s.bit (levelFld i)
  let want := if on then decide (s.thm.tmax < (levelPoints i).2) else decide ((levelPoints i).1 ≤ s.thm.tmax)
  let free := (i == 2 && !on) || (match s.thm.changed.getD i none with | some t => decide (t + ms 10 ≤ s.tb.loc) | none => true)
  if want && free then
    let s := s.setLevel i (!on)
    if on then s else s.levelActs i
  else s

/-- The first complete set of samples after reset (R112). -/
def State.firstSet (s : State) : State :=
  let s := s.setBit F.THM_STATUS_first_set 0 0 true
  (List.range 3).foldl (fun s i =>
    if s.thm.tmax < (levelPoints i).2 then s.setLevel i false
    else if i = 2 then s else s.levelActs i) s

/-- THERMAL_SAMPLE (R107 to R112, R118): the readings of every sensor in m°C at the next 10 µs sample. -/
def execThermalSample (readings : List Int) (s : State) : Host.Outcome State Fault Refusal :=
  if !s.pw.powered ∨ s.pw.resetLow then .next s
  else
    let s := (s.nextLoc (us 10)).takeSamples readings
    let bad := (List.range sensors).filter (fun i => !s.thm.failed.contains i && s.badSensor i)
    let s := bad.foldl (fun s i => s.failSensor i) s
    if (List.range sensors).any (fun i => decide ((Tbl.get s.thm.samples [] i).length < 4)) then .next s
    else
      let s := s.setTmax
      let s := if s.bit F.THM_STATUS_first_set then (List.range 3).foldl (fun s i => s.evalLevel i) s else s.firstSet
      .next s.driveThermN

/-- LEVEL_DWELL_END (R110). -/
def execLevelDwellEnd (level : Nat) (s : State) : Host.Outcome State Fault Refusal :=
  match s.thm.changed.getD level none with
  | some t =>
    if level < 3 ∧ s.bit F.THM_STATUS_first_set then .next ((s.reachLoc (t + ms 10)).evalLevel level).driveThermN else .next s
  | none => .next s

/-- THROTTLE_UPDATE (R111). -/
def execThrottleUpdate (s : State) : Host.Outcome State Fault Refusal :=
  let s := s.nextLoc (us 100)
  let excess := s.thm.tmax - 100000
  let m : Nat := if excess ≤ 0 then 1024 else 1024 - (ceilDivInt (excess * 128) 1000).toNat
  .next ((s.setFld F.TLY_MULT_m_q 0 0 m).setBit F.TLY_STATUS_throttle_active 0 0 (decide (m < 1024)))

/-! ### Compensation (R115 to R117) -/

/-- TEMPERATURE_CORRECTION_RECOMPUTE (R115, R116, R162, R198, R361, R388): every 1 ms each correction is recomputed for its region and
waits for its apply point. -/
def execTemperatureCorrectionRecompute (s : State) : Host.Outcome State Fault Refusal :=
  let s := s.nextLoc (ms 1)
  if s.thm.halted ∨ !s.bit F.THM_STATUS_first_set then .next s
  else
    let s := (List.range 32).foldl (fun s c => s.tempTimingAll c) s
    let s := (List.range 1056).foldl (fun s n => s.pchPend (n / 33) (n % 33)) s
    let s := (List.range 132).foldl (fun s m => s.smuPend m) s
    let s := (List.range 64).foldl (fun s w => s.wavPend w) s
    .next { s with thm := { s.thm with corrCount := s.thm.corrCount + 1 } }

end Sys2Proof.Machine
end

