-- ==== Sys2Proof/Machine/Port.lean ====
section
/-! DEFINITION. The register port: reads and writes of registers by address, with the access codes, the CFG rule, register
pairs, holes and the actions that a register write starts (R497 to R510). -/

namespace Sys2Proof.Machine

/-! ### Addresses (R497) -/

/-- The element of a row's array that an offset addresses. -/
def RegRow.elementAt (r : RegRow) (inst off : Nat) : Option Nat :=
  if inst < r.iLo || r.iHi < inst || off < r.off then none
  else if r.stride = 0 then (if off = r.off then some 0 else none)
  else if (off - r.off) % r.stride = 0 && (off - r.off) / r.stride < r.cnt then some ((off - r.off) / r.stride)
  else none

/-- The register at an offset of a block instance; a hole has none. -/
def findReg (blk inst off : Nat) : Option (RegRow × Nat) :=
  (blockRows blk).findSome? (fun r => (r.elementAt inst off).map (fun e => (r, e)))

/-- The element a register shows, through its selection field where it has one. -/
def State.shown (s : State) (w : Win) (i e : Nat) : Nat :=
  match w with
  | .none => e
  | .tmgSet => s.fld F.TMG_WIN_set i
  | .tmgSetPin => s.fld F.TMG_WIN_set i * 32 + s.fld F.TMG_WIN_pin i
  | .tmgEdge => (s.fld F.TMG_WIN_set i * 32 + s.fld F.TMG_WIN_pin i) * 5 + e
  | .tmgPin => s.fld F.TMG_WIN_pin i
  | .apgProg => s.fld F.APG_PROG_SEL_addr i
  | .apgScr => 32 * s.fld F.APG_SCR_SEL_axis i + s.fld F.APG_SCR_SEL_bit i
  | .fcSrc => s.fld F.FC_SEL_src
  | .pwrRail => s.fld F.PWR_SEL_rail
  | .flnUpat => 128 * e + s.fld F.FLN_UPAT_IDX_word 0 e
  | .acqUnit => s.fld F.ACQ_USEL_unit
  | .trgUnit => s.fld F.TRG_SEL_unit

/-! ### Fields that hardware derives from its state -/

/-- Age of a Plumb measurement in whole seconds, saturating (TMG_PLUMB.age_s). -/
def State.plumbAge (s : State) (c p : Nat) : Nat :=
  match (s.chTim (32 * c + p)).acceptedLoc with
  | none => 0xFFFFFF
  | some t => min 0xFFFFFF ((s.tb.loc - t) / 4096000000000)

/-- Milliseconds to the Owner's deadline (ADP_LEASE). -/
def State.leaseLeft (s : State) : Nat :=
  match s.owner with
  | none => 0
  | some o => min 65535 ((o.renewed + leaseTicks - s.tb.loc) / 4096000000)

/-- Sets several fields of one element. -/
def State.setMany (s : State) (i n : Nat) (l : List (Fld × Nat)) : State := l.foldl (fun s e => s.setFld e.1 i n e.2) s

/-- Rails outside their operating range now. -/
def State.railsOut (s : State) : Nat :=
  maskOf ((List.range 11).filter (fun r => !railIn r (Tbl.get s.pw.rails {} r).mv))

/-- Whether the pin-electronics rails, 4 to 6, are good. -/
def railPowered (s : State) : Bool := [4, 5, 6].all (fun r => railGood r (Tbl.get s.pw.rails {} r).mv)

/-- Brings a block's derived status fields up to the present instant before a read. -/
def State.refresh (s : State) (blk i n : Nat) : State :=
  match blk with
  | 0x05 =>
    -- the power estimate is good to ±5 % and its reckoning is not stated: a free value (R581)
    let (x, s) := s.draw 262144
    (s.setMany i 0 [(F.CRS_STATE_derated, (s.fc.derated.contains i).toNat), (F.CRS_STATE_pe_powered, (railPowered s).toNat),
      (F.CRS_TEMP_temp_mc, ofSigned 32 ((s.sensorNow (2 * i) + s.sensorNow (2 * i + 1)) / 2)), (F.CRS_PWR_pwr_mw, x)])
  | 0x07 => s.setMany i 0 [(F.TMG_STATUS_pending, (s.tmgPending i).toNat)]
      |>.setFld F.TMG_PLUMB_age_s i n (s.plumbAge i n)
  | 0x08 => if i < 32 then s.setMany i 0 [(F.PAT_DEMAND_vec_lines, s.vecDemand i), (F.PAT_DEMAND_jump_lines, s.jumpLines i)] else s
  | 0x0C =>
    if i < 32 then
      let ready := maskOf ((List.range 8).filter (fun t => s.measReady (s.siteOf (8 * i + t))))
      let hold := maskOf ((List.range 8).filter (fun t => s.tstate (8 * i + t) == stHeld && !(s.postQ (8 * i + t)).isEmpty))
      s.setMany i 0 [(F.RCK_STATUS_ready_mask, ready), (F.RCK_STATUS_post_hold, hold)]
    else s
  | 0x0D => s.smuSettle (smuAt i n)
  | 0x09 => s.drainFails i s.tb.loc
  | 0x0F => (if 32 ≤ n ∧ n < 64 then s.drainFails (n - 32) s.tb.loc else s).setMany 0 0 [(F.ACQ_DEMAND_share, acqShare s.md.mode), (F.ACQ_DEMAND_demand, s.acqDemand)]
  | 0x11 => (List.range 8).foldl (fun s k => (s.flnCount k).scanShow k) s
  | 0x12 =>
    let x := s.eng i
    let s := s.setMany i 0 [(F.SER_QSTAT_rx, x.rxq.length), (F.SER_QSTAT_tx, txUse x.txq)]
    (match x.rxq with
    | [] => s.setMany i 0 [(F.SER_RX_STAT_valid, 0), (F.SER_RX_STAT_last, 0), (F.SER_RX_STAT_short, 0), (F.SER_RX_STAT_long, 0),
        (F.SER_RX_STAT_trip, 0), (F.SER_RX_STAT_abort, 0), (F.SER_RX_STAT_tpl, 0), (F.SER_RX_STAT_phase, 0), (F.SER_RX_STAT_bits, 0)]
    | e :: _ => s.setMany i 0 [(F.SER_RX_STAT_valid, 1), (F.SER_RX_STAT_last, e.last.toNat), (F.SER_RX_STAT_short, e.short.toNat),
        (F.SER_RX_STAT_long, e.long.toNat), (F.SER_RX_STAT_trip, e.trip.toNat), (F.SER_RX_STAT_abort, e.abort.toNat),
        (F.SER_RX_STAT_tpl, e.tpl), (F.SER_RX_STAT_phase, e.phase), (F.SER_RX_STAT_bits, e.bits)])
  | 0x15 => s.firstDue
  | 0x14 => s.setMany 0 0 [(F.ADP_LEASE_left_ms, s.leaseLeft)]
  | 0x17 =>
    s.setMany 0 0 [(F.CAL_REF_STATE_mode, if s.md.mode == .survey && !s.thm.halted then s.cal.refMode else 0)]
  | 0x18 =>
    s.setMany 0 0 [(F.SEC_STATUS_rollback, s.tr.rollback), (F.SEC_STATUS_enrolled, s.tr.keys.length),
      (F.SEC_STATUS_bank_a_ok, (s.tr.banks.getD 0 {}).pass.toNat), (F.SEC_STATUS_bank_b_ok, (s.tr.banks.getD 1 {}).pass.toNat)]
  | 0x19 =>
    s.setMany 0 0 [(F.NVM_STATUS_busy, s.nvmBusy.toNat), (F.NVM_STATUS_erasing, s.nvm.eraseOf.isSome.toNat),
      (F.NVM_STATUS_free_blocks, s.freeBlocks), (F.NVM_WEAR_max_erase, s.maxErase)]
  | 0x1A =>
    let r := Tbl.get s.pw.rails {} n
    let s := s.setMany 0 n [(F.PWR_RAIL_in_range, (railIn n r.mv).toNat), (F.PWR_RAIL_power_good, (railGood n r.mv).toNat),
      (F.PWR_RAIL_v_mv, ofSigned 16 r.mv), (F.PWR_RAIL_I_i_ma, r.ma)]
    s.setMany 0 0 [(F.PWR_STATUS_out_now, s.railsOut)]
  | _ => s

/-- Reads a register of a block instance (R499): SC fields and reserved bits read 0, holes read 0. -/
def State.regRead (s : State) (blk i off : Nat) : Nat × State :=
  match findReg blk i off with
  | none => (0, s)
  | some (r, e) =>
    let n := s.shown r.win i e
    let s := s.refresh blk i n
    (r.fields.foldl (fun a f => if f.acc = .sc then a else a + s.fld f i n * 2 ^ f.lo) 0, s)

/-! ### Writes (R499, R500) -/

/-- Whether the enable that governs a register's CFG fields is set (R500). -/
def State.cfgOn (s : State) (r : RegRow) (i n : Nat) : Bool :=
  match r.cfg with
  | .none => false
  | .tbLines => s.linesUp
  | .thread => s.bitOf F.SEQ_TCTRL_run i 0 n
  | .acqUnit =>
    if 32 ≤ n ∧ n < 64 ∧ r.off ≠ 0x00C then decide (s.fld F.APG_FC_CFG_mode (n - 32) ≠ 0) else s.unitEn n
  | .trgUnit => s.bit F.TRG_CFG_en 0 n
  | .block =>
    match r.blk with
    | 0x06 => s.bit F.PCH_CTRL_en i
    | 0x09 => s.bit F.APG_CTRL_en i
    | 0x0D => s.bit F.SMU_QCTRL_en i
    | 0x12 => s.bit F.SER_CTRL_en i
    | _ => false

/-- The cfg_ignored bit of a block that has one. -/
def cfgIgnored (blk : Nat) : Option Fld :=
  match blk with
  | 0x02 => some F.TB_STATUS_cfg_ignored
  | 0x06 => some F.PCH_STATUS_cfg_ignored
  | 0x09 => some F.APG_STATUS_cfg_ignored
  | 0x0A => some F.SEQ_STATUS_cfg_ignored
  | 0x0D => some F.SMU_QSTATUS_cfg_ignored
  | 0x0F => some F.ACQ_STATUS_cfg_ignored
  | 0x12 => some F.SER_STATUS_cfg_ignored
  | _ => none

/-- A CFG field of an enabled block was written with another value than it holds (R500, step 3). -/
def State.noteIgnored (s : State) (blk i : Nat) (ign : Bool) : State × Bool :=
  match cfgIgnored blk, ign with
  | some f, true => (s.setBit f i 0 true, true)
  | _, _ => (s, ign)

/-- A written register word's part for one field. -/
def Fld.of (f : Fld) (v : Nat) : Nat := v / 2 ^ f.lo % 2 ^ f.wid

/-- Applies a written word to one field by its access code; the Bool says that a CFG field was ignored and differed. -/
def State.writeField (on : Bool) (i n v : Nat) (x : State × Bool) (f : Fld) : State × Bool :=
  let s := x.1
  match f.acc with
  | .ro | .sc => x
  | .rw => (s.setFld f i n (f.of v), x.2)
  | .w1c => (s.setFld f i n (clrMask (s.fld f i n) (s.softClear f i n (f.of v))), x.2)
  | .cfg => if on then (s, x.2 || f.of v != s.fld f i n) else (s.setFld f i n (f.of v), x.2)

/-- Applies a written word to all fields of a register (R499, R500). -/
def State.writeFields (s : State) (r : RegRow) (i n v : Nat) : State × Bool :=
  let (s, ign) := r.fields.foldl (State.writeField (s.cfgOn r i n) i n v) (s, false)
  s.noteIgnored r.blk i ign

/-- The bits that no field of a register covers. -/
def RegRow.reserved (r : RegRow) (v : Nat) : Nat :=
  v - r.fields.foldl (fun a f => a + f.of v * 2 ^ f.lo) 0

/-- A non-zero write to reserved bits is UNPREDICTABLE, confined to the register (R4): the word written is a free value. -/
def State.settleWord (s : State) (r : RegRow) (v : Nat) : Nat × State :=
  if r.reserved v = 0 then (v, s) else s.draw 4294967296

/-- Runs an action for each bit set in a mask below `w`. -/
def State.forBits (s : State) (w m : Nat) (f : State → Nat → State) : State := (bitsOf w m).foldl f s

/-- SEQ_TCTRL (R268, R293, R294): hold bits are stored, run bits start and stop threads, resume bits release holds. -/
def State.writeTctrl (s : State) (c v : Nat) : State :=
  let run := F.SEQ_TCTRL_run.of v
  let hold := F.SEQ_TCTRL_hold.of v
  let was := s.fld F.SEQ_TCTRL_hold c
  let s := s.setFld F.SEQ_TCTRL_hold c 0 hold
  let s := s.forBits 8 (clrMask hold was) (fun s t => s.holdThread (8 * c + t))
  let s := (List.range 8).foldl (fun s t =>
    if run.testBit t then (if s.running (8 * c + t) then s else s.startReg (8 * c + t)) else s.stopThread (8 * c + t)) s
  s.forBits 8 (F.SEQ_TCTRL_resume.of v) (fun s t => s.resumeThread (8 * c + t))

/-- APG_FC_CFG (R255, R256): a configuration the calendar cannot carry is refused. -/
def State.writeFcCfg (s : State) (r : RegRow) (c v : Nat) : State × Bool :=
  let (s', ign) := s.writeFields r c 0 v
  if s.bit F.APG_CTRL_en c then (s', ign)
  else if s'.fits s.md.mode then (s'.modApg c (fun a => { a with taken := 0 }), ign)
  else (s, false)

/-- Registers whose write is more than storing its fields; the others are stored field by field (R499). -/
def State.writeRow (s : State) (r : RegRow) (i n e v : Nat) : State × Bool :=
  let plain := s.writeFields r i n v
  let then_ := fun (f : State → State) => (f plain.1, plain.2)
  match r.blk * 65536 + r.off with
  | 0x020000 => -- TB_CTRL
    let on := v.testBit 0
    then_ (fun s' =>
      let s' := if s.linesUp = on then s' else s'.linesChanged on
      if v.testBit 2 then s'.restartCal else s')
  | 0x030000 => then_ (fun s => if v.testBit 1 then s.kReset else s)
  | 0x030004 => (s.setBudget (F.TLY_BUDGET_budget_mw.of v), false)
  | 0x060000 => then_ (fun s' => if s.bit F.PCH_CTRL_en i && !v.testBit 0 then s'.parkCourse i else s')
  | 0x060008 => (s.forBits 32 v (fun s p => s.clearLatchSoft i p), false)
  | 0x070000 => then_ (fun s => if v.testBit 1 then s.applyNow i else s)
  | 0x07000C => ((s.writePeriod i n v).1, false)
  | 0x070010 => let s' := ((s.preSnap i).writeFields r i n v).1; (s'.tmgTouch i, false)
  | 0x070024 => let s' := ((s.preSnap i).writeFields r i n v).1; (s'.tmgTouch i, false)
  | 0x070028 => (((s.preSnap i).setFld F.TMG_FIX_DRV_fix_drv i n (clampFix (toSigned 18 v))).tmgTouch i, false)
  | 0x07002C => (((s.preSnap i).setFld F.TMG_FIX_CMP_fix_cmp i n (clampFix (toSigned 18 v))).tmgTouch i, false)
  | 0x080000 =>
    -- PAT_MARK in the marker block, whose offset stays within ±20 ns (R231)
    if i = 32 then then_ (fun s => s.setFld F.PAT_MARK_offset 32 n (clampFix (toSigned 18 (s.fld F.PAT_MARK_offset 32 n)))) else then_ (fun s => if v.testBit 1 then s.raiseJump i s.tb.loc else s)
  | 0x090000 => -- APG_CTRL
    then_ (fun s' =>
      let s' := if F.APG_CTRL_fc_restart.of v = 1 then s'.fcRestart i else s'
      -- C00 has no Course below it to follow (R251)
      let s' := if i = 0 then s'.setBit F.APG_CTRL_carry_in 0 0 false else s'
      (s'.setBit F.APG_CTRL_en i 0 (s.bit F.APG_CTRL_en i)).apgEnable i (F.APG_CTRL_en.of v = 1))
  | 0x090010 =>
    if s.bit F.APG_CTRL_en i then plain else (s.modApg i (fun a => { a with loHeld := v }), false)
  | 0x090014 =>
    let next := fun (s : State) => s.setFld F.APG_PROG_SEL_addr i 0 (n + 1)
    if s.bit F.APG_CTRL_en i then then_ next
    else (next ((s.setFld F.APG_PROG_LO_instr i n (s.apgOf i).loHeld).setFld F.APG_PROG_HI_instr i n v), false)
  | 0x090054 => s.writeFcCfg r i v
  | 0x090064 => (s.forBits 8 (F.APG_TALLY_CLR_clr.of v) (fun s t => s.tallyClear i (s.siteOf (8 * i + t))), false)
  | 0x0A0000 => -- SEQ_CTRL
    then_ (fun s' =>
      let s' := if F.SEQ_CTRL_en.of v = 0 then
          (List.range 8).foldl (fun s t => if s.running (8 * i + t) then s.stopNow (8 * i + t) else s) s'
        else s'
      if F.SEQ_CTRL_mc_restart.of v = 1 then s'.courseRestart i else s')
  | 0x0A0008 => (s.writeTctrl i v, false)
  | 0x0A004C => (s.newGrid (8 * i + n) (some v) none, false)
  | 0x0A0050 => (s.newGrid (8 * i + n) none (some (v + 4294967296 * (s.thr (8 * i + n)).orgHi)), false)
  | 0x0A0054 => (s.modThr (8 * i + n) (fun x => { x with orgHi := v }), false)
  | 0x0A0058 => then_ (fun s => s.setEvents (8 * i + n) (F.SEQ_TEVT_set.of v))
  | 0x0B0000 => then_ (fun s =>
      if F.CTX_CTRL_flush.of v = 1 then s.modCache i (fun x => { x with entries := x.entries.filter (·.locked) }) else s)
  | 0x0C0000 =>
    if i = 32 then then_ (fun s => s.ringMoved)
    else (s.forBits 8 (F.RCK_CTRL_stat_clr.of v) (fun s t => s.clearStats (s.siteOf (8 * i + t))), false)
  | 0x0D0000 => then_ (fun s' => if s.bit F.SMU_QCTRL_en i && F.SMU_QCTRL_en.of v = 0 then s'.smuParkQuad i else s')
  | 0x0D0008 => (s.forBits 32 v (fun s k => s.smuClearSoft (smuAt i k)), false)
  | 0x0E0000 => then_ (fun s' => if s.bit F.WAV_HCTRL_en i && F.WAV_HCTRL_en.of v = 0 then s'.wavParkHalf i else s')
  | 0x0E0008 => (s.forBits 32 v (fun s k => s.wavUnflag (32 * i + k)), false)
  | 0x0E0104 => (s.modWav (32 * i + n) (fun x => { x with pincLo := v }), false)
  | 0x0E0108 => then_ (fun s => s.setFld F.WAV_PINC_LO_inc i n (s.wavCh (32 * i + n)).pincLo)
  | 0x0F0000 => then_ (fun s => if F.ACQ_CTRL_disarm_all.of v = 1 then s.disarmAll else s)
  | 0x0F000C => then_ (fun s' => (s'.setBit F.ACQ_UCFG_en 0 n (s.unitEn n)).regEnable n (F.ACQ_UCFG_en.of v = 1))
  | 0x0F0024 => (s.hostRd n v, false)
  | 0x100004 => then_ (fun s' => if !s.bit F.TRG_CFG_en 0 n && v.testBit 31 then s'.trgEnabled n else s')
  | 0x110000 => then_ (fun s' => if s.bit F.FLN_CTRL_en && F.FLN_CTRL_en.of v = 0 then s'.flnStopAll else s')
  | 0x110134 => then_ (fun s => s.setFld F.FLN_UPAT_IDX_word 0 e (s.fld F.FLN_UPAT_IDX_word 0 e + 1))
  | 0x11015C => then_ (fun s => if F.FLN_SCAN_CFG_start.of v = 1 then s.scanStart n else s)
  | 0x120000 => then_ (fun s' =>
      let on := F.SER_CTRL_en.of v = 1
      if s.bit F.SER_CTRL_en i = on then s' else s'.serEnabled i on)
  | 0x150000 => (s.clearSources v, false)
  | 0x150004 => (s.clearSources (v * 4294967296), false)
  | 0x150008 => (if v.testBit 31 then s.rearmFirst else s, false)
  | 0x150010 => (if v.testBit 31 then s.clearOvf else s, false)
  | 0x150014 => then_ (fun s => if v.testBit 31 then s.injectReg else s)
  | 0x160000 => then_ (fun s =>
      let s := if v.testBit 0 then s.bistStartReg else s
      if v.testBit 1 then s.bistStop else s)
  | _ => plain

/-- Registers whose write starts an action. -/
def actRegs : List Nat :=
  [0x020000, 0x030000, 0x030004, 0x060000, 0x060008, 0x070000, 0x080000, 0x090000, 0x090010, 0x090014, 0x090054, 0x090064, 
    0x0A0000, 0x0A0008, 0x0A004C, 0x0A0050, 0x0A0054, 0x0A0058, 0x0B0000, 0x0C0000, 0x0D0000, 0x0D0008, 0x0E0000, 0x0E0008, 0x0F0000, 
    0x0F000C, 0x0F0024, 0x100004, 0x110000, 0x110134, 0x11015C, 0x120000, 0x150000, 0x150004, 0x150008, 0x150010, 0x150014, 0x160000]

/-- A write whose word is open (R2, R4): a register that only holds what it is given takes any word; one whose write starts actions takes `plain`,
what the host asked for in the bits that are not reserved, or nothing. FC_INJ and BST_CTRL, whose action reaches beyond their registers, take
nothing (DESIGN CHOICE, log entry 47). -/
def State.openWrite (s : State) (r : RegRow) (i n e : Nat) (plain : Option Nat) : State × Bool :=
  let key := r.blk * 65536 + r.off
  if key = 0x150014 ∨ key = 0x160000 then (s, false)
  else if actRegs.contains key then
    let (k, s) := s.draw 2
    match plain with
    | some v => if k = 0 then (s, false) else s.writeRow r i n e v
    | none => (s, false)
  else
    let (v, s) := s.draw 4294967296
    s.writeRow r i n e v

/-- Writes a register of a block instance; a hole discards the write (a non-zero one is UNPREDICTABLE and touches nothing
but the hole). The Bool says BLOCK_ENABLED (R500, step 4). -/
def State.regWrite (s : State) (blk i off v : Nat) : State × Bool :=
  match findReg blk i off with
  | none => (s, false)
  | some (r, e) =>
    let v := v % 4294967296
    let n := s.shown r.win i e
    if r.reserved v = 0 then s.writeRow r i n e v else s.openWrite r i n e (some (v - r.reserved v))

/-- A write that is UNPREDICTABLE for its access (R504) leaves what its register takes open. -/
def State.oddWrite (s : State) (blk i off : Nat) : State × Bool :=
  match findReg blk i off with
  | none => (s, false)
  | some (r, e) => s.openWrite r i (s.shown r.win i e) e none

/-! ### Accesses by address (R503 to R508) -/

/-- Whether an address names a block instance that exists (R506). -/
def addrExists (a : Nat) : Bool := (blockLast (a / 16777216) (a / 65536 % 256)).isSome

/-- Whether an offset lies beyond the last register of its instance (R506). -/
def addrBeyond (a : Nat) : Bool :=
  match blockLast (a / 16777216) (a / 65536 % 256) with
  | none => true
  | some l => decide (l + 3 < a % 65536)

/-- The eight blocks that microcode reaches, by their microcode numbers (Table 17.3). -/
def microBlock (b : Nat) : Nat :=
  match b % 8 with
  | 0 => 0x06 | 1 => 0x07 | 2 => 0x08 | 3 => 0x09 | 4 => 0x0A | 5 => 0x12 | 6 => 0x0C | _ => 0x0B

/-- REGISTER_WRITE (R500): one aligned 32-bit write to a register by address, as WRREG or a tunnel word brings it; a write
beyond the last register, or to an instance that does not exist, is discarded. -/
def execRegisterWrite (addr v : Nat) (s : State) : Host.Outcome State Fault Refusal :=
  if !addrExists addr || addrBeyond addr || addr % 4 ≠ 0 then .next s
  else .next (s.regWrite (addr / 16777216 % 256) (addr / 65536 % 256) (addr % 65536) v).1

end Sys2Proof.Machine
end

