-- ==== Sys2Proof/Machine/Calib.lean ====
section
/-! DEFINITION. The calibration set: selection at start-up, drafts, runs, commits, and CAL_REF (R539 to R549, R566). -/

namespace Sys2Proof.Machine

/-- Bytes of a set (R539). -/
def calBytes : Nat := 196608

/-- A sparse byte table from bytes. -/
def blobTbl (l : List Byte) : Tbl Byte :=
  (l.zipIdx.filter (fun (e : Byte × Nat) => e.1 != 0)).map (fun (e : Byte × Nat) => (e.2, e.1))

/-- The bytes of a sparse table, `n` of them. -/
def tblBytes (t : Tbl Byte) (n : Nat) : List Byte := (List.range n).map (fun k => Tbl.get t 0 k)

/-- CAL_STATUS follows the set in force and its store: 0 fuse slot, 1 NVM copy. -/
def State.showCal (s : State) (store : Nat) : State :=
  let s := s.setFld F.CAL_STATUS_gen 0 0 (match s.cal.force with | some x => x.gen | none => 0)
  let s := s.setFld F.CAL_STATUS_store 0 0 store
  s.setFld F.CAL_STATUS_slots_used 0 0 (min 16 s.cal.slots.length)

/-! ### Selection at start-up (R540 to R542) -/

/-- The current slot's index: the highest with a valid marker and no revoke marker. -/
def currentSlot (l : List CalSlot) : Option Nat :=
  (List.range l.length).reverse.find? (fun i => match l[i]? with | some x => x.valid && !x.revoked | none => false)

/-- Slots that the selection revokes: valid ones below the current slot, and slots that hold data but no valid marker. -/
def settleSlots (cur : Option Nat) (l : List CalSlot) : List CalSlot :=
  l.zipIdx.map (fun (e : CalSlot × Nat) =>
    if !e.1.valid || (e.1.valid && !e.1.revoked && (match cur with | some c => decide (e.2 < c) | none => false)) then { e.1 with revoked := true } else e.1)

/-- The highest generation number of the slots. -/
def topGen (l : List CalSlot) : Nat := l.foldl (fun m (x : CalSlot) => max m x.set.gen) 0

/-- No calibration: nominal coefficients (R542). -/
def State.noCal (s : State) : State :=
  let s := { s with cal := { s.cal with force := none } }
  ((s.setBit F.CAL_STATUS_absent 0 0 true).showCal 0).report 61 sevDegraded (detail clsNone 0)

/-- The selection of R541: the first case that holds. -/
def State.selectCal (s : State) : State :=
  let l := s.cal.slots
  let cur := currentSlot l
  let s := { s with cal := { s.cal with slots := settleSlots cur l } }
  let nvm := match s.cal.nvm with | some (x, true) => some x | _ => none
  let take := fun (s : State) (x : CalSet) (store : Nat) => ({ s with cal := { s.cal with force := some x } }).showCal store
  match nvm, cur.bind (fun i => l[i]?) with
  | some x, c =>
    if l.length ≥ 16 && decide (topGen l < x.gen) then
      take { s with cal := { s.cal with slots := s.cal.slots.map (fun y => { y with revoked := true }) } } x 1
    else
      (match c with
      | some y =>
        if y.sound then take { s with cal := { s.cal with nvm := some (y.set, true) } } y.set 0
        else if y.set.gen = x.gen then
          ((take s x 1).setBit F.CAL_STATUS_fallback 0 0 true).report 61 sevDegraded (detail clsNone 0)
        else s.noCal
      | none => if l.all (fun y => y.revoked || !y.valid) then take s x 1 else s.noCal)
  | none, some y => if y.sound then take { s with cal := { s.cal with nvm := some (y.set, true) } } y.set 0 else s.noCal
  | none, none => s.noCal

/-- The NVM copy is written as one record of 834 pages (Table 19.2, R541). -/
def State.programCal (s : State) : State :=
  match s.cal.nvm with
  | some (x, _) => s.program (jKey 2 0) (toLe 2 x.gen ++ tblBytes x.data calBytes)
  | none => s

/-! ### A new generation reaches the outputs (R545) -/

/-- Values that Plumb, autozero and waveform Plumb accepted are discarded, and the new set waits at every apply point. -/
def State.applyCal (s : State) : State :=
  let s := (List.range 1024).foldl (fun s n =>
    (s.modChTim n (fun x => { x with plumb := {}, cand := none, acceptedAt := none, acceptedLoc := none })).pendCorr (n / 32) (n % 32)) s
  let s := (List.range 32).foldl (fun s c => s.tmgTouch c) s
  let s := (List.range 1056).foldl (fun s n => s.pchPend (n / 33) (n % 33)) s
  let s := (List.range 132).foldl (fun s m => (s.modSmu m (fun y => { y with azI := [], azV := [], azAt := none })).smuPend m) s
  (List.range 64).foldl (fun s w => (s.modWav w (fun x => { x with plumbVals := [], plumbAt := none })).wavPend w) s

/-! ### Drafts (R543, R566) -/

/-- OD 0xA003.00. -/
def wrCalLoad (h : Hdr) (d : Sys2Proof.Data) (s : State) : State × Nat :=
  s.item490 h d tBool anyLen false (fun s =>
    (if dFlag d then { s with cal := { s.cal with draft := s.calData } } else s, eOk))
/-- CAL_LOAD_DRAFT. -/
def execCalLoadDraft (h : Hdr) (d : Data) (s : State) : Host.Outcome State Fault Refusal :=
  .next (s.hostItem (.calLoadDraft h d) h (wrCalLoad h d))

/-- OD 0xA002.00. -/
def wrCalDraft (h : Hdr) (d : Sys2Proof.Data) (s : State) : State × Nat :=
  s.item490 h d tBlob (fun n => n == calBytes) false (fun s => ({ s with cal := { s.cal with draft := blobTbl d.bytes } }, eOk))
/-- CAL_DRAFT_WRITE. -/
def execCalDraftWrite (h : Hdr) (d : Data) (s : State) : Host.Outcome State Fault Refusal :=
  .next (s.hostItem (.calDraftWrite h d) h (wrCalDraft h d))

/-! ### Commit (R543, R546) -/

/-- OD 0xA004.00: the checks of R543, and step 1 of Table 19.2. -/
def wrCalCommit (h : Hdr) (d : Sys2Proof.Data) (s : State) : State × Nat :=
  s.item490 h d tBool anyLen false (fun s =>
    if !dFlag d then (s, eOk)
    else if (s.md.mode != .safe && s.md.mode != .survey) || s.cal.run.isSome || s.cal.commit.isSome then (s, eModeConflict)
    else
      let flagged := Config.implausible s.cal.draft s.calData
      let gen := (match s.cal.force with | some x => x.gen | none => 0) + 1
      let set : CalSet := ⟨gen, Config.keptBack s.cal.draft s.calData⟩
      let s := { s with cal := { s.cal with commit := some ⟨set, s.tb.loc, flagged⟩ } }
      let s := s.setBit F.CAL_STATUS_committing 0 0 true
      let s := if flagged.isEmpty then s else s.setBit F.CAL_STATUS_flagged 0 0 true
      (flagged.foldl (fun s x => s.report 55 sevAdvisory x) s, eOk))
/-- CAL_COMMIT. -/
def execCalCommit (h : Hdr) (d : Data) (s : State) : Host.Outcome State Fault Refusal :=
  .next (s.hostItem (.calCommit h d) h (wrCalCommit h d))

/-- Slots that read back wrong are revoked one after another (Table 19.2, step 2). -/
def State.badSlots (s : State) (x : CalSet) : Nat → State
  | 0 => s
  | n + 1 =>
    if s.cal.slots.length ≥ 16 then s
    else
      let y : CalSlot := ⟨x, false, false, true⟩
      State.badSlots (({ s with cal := { s.cal with slots := s.cal.slots ++ [y] } }).report 61 sevDegraded (detail clsNone 0)) x n

/-- The longest time that the steps of a commit take (Table 19.2): step 1 alone where nothing is written, and step 2 once for each of `tries` slots. -/
def commitTime (unchanged : Bool) (tries : Nat) : Nat :=
  if unchanged then ms 50 else ms (50 + 420 * tries + (if tries = 0 then 0 else 2) + 834)

/-- CAL_COMMIT_COMPLETE (Table 19.2): `bad` slots read back wrong before one holds the set. The steps end within their times. -/
def execCalCommitComplete (bad : Nat) (s : State) : Host.Outcome State Fault Refusal :=
  match s.cal.commit with
  | none => .next s
  | some c =>
    let done (s : State) (r g : Nat) : State :=
      let x : State := { s with cal := { s.cal with commit := none, report := (r, g, c.flagged) } }
      x.setBit F.CAL_STATUS_committing 0 0 false
    let gen := match s.cal.force with | some x => x.gen | none => 0
    let same := s.cal.force.isSome && decide (c.set.data = s.calData)
    let (d, s) := s.draw (commitTime same (min (bad + 1) (16 - s.cal.slots.length)) + 1)
    let s := s.reachLoc (c.started + d)
    if same then .next (done s 1 gen)
    else
      let s := s.badSlots c.set bad
      let slot := decide (s.cal.slots.length < 16)
      let y : CalSlot := ⟨c.set, true, true, false⟩
      let old : List CalSlot := s.cal.slots.map (fun (z : CalSlot) => { z with revoked := true })
      let s : State := { s with cal := { s.cal with slots := old ++ (if slot then [y] else []), nvm := some (c.set, true), force := some c.set } }
      let s := s.programCal
      let s := ((s.setBit F.CAL_STATUS_absent 0 0 false).showCal (!slot).toNat).setBit F.CAL_STATUS_committed 0 0 true
      .next (done s.applyCal 0 c.set.gen)

/-! ### CAL_REF and the external standard (R547, R549, R566) -/

/-- The CAL_REF mode in force: it acts only in Survey (R547). -/
def State.calRef (s : State) : Nat := if s.md.mode == .survey && !s.thm.halted then s.cal.refMode else 0

/-- OD 0xA005.00: mode and FORCE_V value, kept to ±12 V; a reserved mode is a host error of the entry. -/
def wrCalRef (h : Hdr) (d : Sys2Proof.Data) (s : State) : State × Nat :=
  s.item490 h d tBlob (fun n => n == 9) false (fun s =>
    let m := dSub d 0 1
    let m := if m < 4 then m else Config.openNat 27 [m] % 4
    let v := clampInt (-12000000000) 12000000000 (toSigned 64 (dSub d 1 8))
    ({ s with cal := { s.cal with refMode := m, refForce := v } }, eOk))
/-- CAL_REF_MODE_WRITE. -/
def execCalRefModeWrite (h : Hdr) (d : Data) (s : State) : Host.Outcome State Fault Refusal :=
  .next (s.hostItem (.calRefModeWrite h d) h (wrCalRef h d))

/-- OD 0xA006.00. -/
def wrStandard (h : Hdr) (d : Sys2Proof.Data) (s : State) : State × Nat :=
  s.item490 h d tI64 anyLen false (fun s => ({ s with cal := { s.cal with standard := dInt d } }, eOk))
/-- STANDARD_VALUE_WRITE. -/
def execStandardValueWrite (h : Hdr) (d : Data) (s : State) : Host.Outcome State Fault Refusal :=
  .next (s.hostItem (.standardValueWrite h d) h (wrStandard h d))

/-! ### Calibration runs (R548, R549) -/

/-- Duration of a run class, s (Table 19.5). -/
def runSeconds : Nat → Nat
  | 0 => 5 | 1 => 5 | 2 => 10 | 3 => 30 | 4 => 60 | 5 => 20 | 6 => 5 | _ => 115

/-- OD 0xA007.00: a run during a run aborts the one in progress; a reserved class is a host error of the entry. -/
def wrCalRun (h : Hdr) (d : Sys2Proof.Data) (s : State) : State × Nat :=
  s.item490 h d tU8 anyLen false (fun s =>
    if s.md.mode != .survey then (s, eModeConflict)
    else
      let s := s.calAbort
      let c := if dNat d < 8 then dNat d else Config.openNat 28 [dNat d] % 8
      (({ s with cal := { s.cal with run := some ⟨c, s.tb.loc⟩ } }).setBit F.CAL_STATUS_run_busy 0 0 true, eOk))
/-- CAL_RUN. -/
def execCalRun (h : Hdr) (d : Data) (s : State) : Host.Outcome State Fault Refusal :=
  .next (s.hostItem (.calRun h d) h (wrCalRun h d))

/-- What a run writes into the draft (R548, R549). Class 0 takes the zero reading; class 1 gives the meter the gain g × Vs / (M1 − M0) and the offset
less M0, class 2 the current gain g × Is / M1, and both have the internal references measured again; the other classes write their channels. -/
def runDraft (cls : Nat) (draft : Tbl Byte) (m0 m1 standard : Int) : Tbl Byte :=
  let gain (i : Bool) (den off : Int) : Tbl Byte :=
    Config.measureRefs (Config.setMeter draft i (Config.meterGain draft i * standard) den (Config.meterOffset draft i - off))
  if cls = 0 then draft
  else if cls = 1 then gain false (m1 - m0) m0
  else if cls = 2 then gain true m1 0
  else Config.calRun cls draft

/-- CAL_RUN_COMPLETE (R548, R549): the run ends after its class's duration and writes its class into the draft; `reading` is what the
reference meter read, in nV or fA. -/
def execCalRunComplete (reading : Int) (s : State) : Host.Outcome State Fault Refusal :=
  match s.cal.run with
  | none => .next s
  | some r =>
    let s := s.reachLoc (r.started + ms (1000 * runSeconds r.cls))
    let m0 := if r.cls = 0 then reading else s.cal.m0
    let m1 := if r.cls = 1 ∨ r.cls = 2 then reading else s.cal.m1
    let s := { s with cal := { s.cal with
      run := none, m0, m1, lastRun := (r.cls, 0, s.now), draft := runDraft r.cls s.cal.draft m0 m1 s.cal.standard } }
    .next (s.setBit F.CAL_STATUS_run_busy 0 0 false)

end Sys2Proof.Machine
end

