-- ==== Sys2Proof/Machine/Dram.lean ====
section
/-! DEFINITION. DRAM errors: corrected and uncorrectable lines, the candidate list and post-package repair (R527, R528). -/

namespace Sys2Proof.Machine

/-- The stack Dn. -/
def State.stack (s : State) (n : Nat) : DramStack := Tbl.get s.bist.drams {} n
/-- Gives the stack Dn a value. -/
def State.setStack (s : State) (n : Nat) (x : DramStack) : State := { s with bist := { s.bist with drams := Tbl.set s.bist.drams {} n x } }

/-- The object of a fault of class DRAM for a row: the spec does not lay out the row address that holds it (Table 18.2). -/
def rowDet (row : Nat) : Nat := detail clsDram (Config.openNat 69 [row])

/-- Rows for which a stack has post-package repair left; the spec does not give how many a new stack has. -/
def State.pprLeft (s : State) (n : Nat) : Nat := Config.openNat 24 [n] - (s.stack n).hard.length

/-- Puts a row on the stack's candidate list, which is kept in the journal. -/
def State.addCandidate (s : State) (n row : Nat) : State :=
  let x := s.stack n
  if x.cands.contains row then s
  else
    let l := x.cands ++ [row]
    (s.setStack n { x with cands := l }).journal (odKey 0x9051 n) (toBe 4 l.length ++ l.flatMap (toBe 8))

/-- PATROL_SCRUB (R136, R527): a pass of a stack corrects one symbol in a line of each row listed. -/
def execPatrolScrub (n : Nat) (rows : List Nat) (s : State) : Host.Outcome State Fault Refusal :=
  if 4 ≤ n ∨ s.inQuiet ∨ !s.ks.running ∨ s.thm.halted then .next s
  else
    let x := s.stack n
    let day := ms 86400000
    let seen := rows.eraseDups.foldl (fun (t : Tbl (List Nat)) r =>
      Tbl.put t r (s.tb.loc :: (Tbl.get t [] r).filter (fun a => decide (s.tb.loc < a + day)))) x.patrol
    let s := s.setStack n { x with corrected := x.corrected + rows.length, patrol := seen }
    let s := { s with ks := { s.ks with patrols := s.ks.patrols + 1 } }
    .next (rows.eraseDups.foldl (fun s r => if 16 ≤ (Tbl.get (s.stack n).patrol [] r).length then s.addCandidate n r else s) s)

/-- DRAM_LINE_RETRY (R226, R527, R228): a line of stack `n` that the outer code cannot correct is read again `tries` times; `ok` says
whether the last read was corrected. After three failures the line stays corrupt until the host rewrites it. -/
def execDramLineRetry (n pc bank row line tries : Nat) (ok : Bool) (s : State) : Host.Outcome State Fault Refusal :=
  if 4 ≤ n then .next s
  else
    let det := detail clsDram (pc % 32 * 128 + bank % 128)
    let k := clampNat 1 3 tries
    let k := if ok then k else 3
    let s := s.setStack n { s.stack n with retries := (s.stack n).retries + k, corrected := (s.stack n).corrected + ok.toNat }
    let s := (List.range k).foldl (fun s _ => s.reportAt (32 + n) sevAdvisory det false true 0 row) s
    if ok then .next s
    else
      let s := s.setStack n { s.stack n with uncorrectable := (s.stack n).uncorrectable + 1 }
      let s := { s with bist := { s.bist with corrupt := Tbl.put s.bist.corrupt line 3 } }
      .next (((s.reportAt (32 + n) sevDegraded det false true 0 row).addCandidate n row).abortStarved)

/-- OD 0x9052.0n: fuses the listed rows (R528); a row without a resource stays listed. -/
def wrHardPpr (h : Hdr) (n : Nat) (d : Sys2Proof.Data) (s : State) : State × Nat :=
  s.item490 h d tBool anyLen false (fun s =>
    if s.md.mode != .safe then (s, eModeConflict)
    else if !dFlag d then (s, eOk)
    else
      let x := s.stack n
      let k := s.pprLeft n
      let done := x.cands.take k
      let left := x.cands.drop k
      let s := s.setStack n { x with cands := left, hard := x.hard ++ done }
      let s := if done.isEmpty then s else s.journal (odKey 0x9051 n) (toBe 4 left.length ++ left.flatMap (toBe 8))
      let s := done.foldl (fun s r => s.logRepair (32 + n) (rowDet r) 3 r) s
      (left.foldl (fun s r => s.reportAt (32 + n) sevAdvisory (rowDet r) false true 0 r) s, eOk))

/-- HARD_PPR (R528). -/
def execHardPpr (h : Hdr) (d : Sys2Proof.Data) (n : Nat) (s : State) : Host.Outcome State Fault Refusal :=
  if 4 ≤ n then .next s else .next (s.hostItem (.hardPpr h d n) h (wrHardPpr h n d))

end Sys2Proof.Machine
end

