-- ==== Sys2Proof/Machine/Operands.lean ====
section
/-! DEFINITION. The operand fields of a microword (Table 9.5) and how a thread reads them. -/

namespace Sys2Proof.Machine

/-- NEXT, bits [127:115]. -/
def wNext (w : Nat) : Nat := bitsAt w 127 115
/-- SEQ, bits [114:112]; the reserved code acts as an open one (R4). -/
def wSeq (w : Nat) : Nat := if bitsAt w 114 112 < 7 then bitsAt w 114 112 else Config.openNat 60 [w] % 7
/-- COND, bits [111:106]. -/
def wCond (w : Nat) : Nat := bitsAt w 111 106
/-- WAIT, bit [105]. -/
def wWait (w : Nat) : Bool := w.testBit 105
/-- The ALU operation, bits [104:99]; a reserved code acts as an open one (R4). -/
def wAlu (w : Nat) : Nat := if bitsAt w 104 99 < 0x14 then bitsAt w 104 99 else Config.openNat 61 [w] % 0x14
/-- The ALU destination, bits [98:95]. -/
def wDst (w : Nat) : Nat := bitsAt w 98 95
/-- The A operand, bits [94:91]. -/
def wSrcA (w : Nat) : Nat := bitsAt w 94 91
/-- The B operand, bits [90:87]. -/
def wSrcB (w : Nat) : Nat := bitsAt w 90 87
/-- B is the immediate, bit [86]. -/
def wBimm (w : Nat) : Bool := w.testBit 86
/-- The unit operation, bits [85:81]; a reserved code acts as an open one (R4). -/
def wUnit (w : Nat) : Nat := if bitsAt w 85 81 < 0x18 then bitsAt w 85 81 else Config.openNat 62 [w] % 0x18
/-- The unit register, bits [80:77]. -/
def wUreg (w : Nat) : Nat := bitsAt w 80 77
/-- The unit argument, bits [76:64]. -/
def wUarg (w : Nat) : Nat := bitsAt w 76 64
/-- The immediate, bits [47:0], sign-extended to 64 bits. -/
def wImm (w : Nat) : Word64 := (BitVec.ofNat 48 w).signExtend 64

/-- A G register. -/
def Thread.greg (x : Thread) (n : Nat) : Word64 := (x.m.g.drop n).headD 0

/-- The B operand of a microword: the immediate or a register. -/
def Thread.opB (x : Thread) (w : Nat) : Word64 := if wBimm w then wImm w else x.greg (wSrcB w)

/-- The A operand. -/
def Thread.opA (x : Thread) (w : Nat) : Word64 := x.greg (wSrcA w)

/-- Gives a G register a value; it stays uncommitted until the routine commits (R287). -/
def Thread.setG (x : Thread) (n : Nat) (v : Word64) : Thread := { x with m := { x.m with g := x.m.g.set n v } }

/-- Gives a thread's G register a value. -/
def State.setG (s : State) (k n : Nat) (v : Word64) : State := s.modThr k (fun x => x.setG n v)

end Sys2Proof.Machine
end

