-- ==== Sys2Proof/Machine/Flags.lean ====
section
/-! DEFINITION. The results and flags of the microsequencer's ALU (Table 9.7). -/

namespace Sys2Proof.Machine

/-- What an ALU operation gives: the value its Z and N flags come from, C and V, and whether dst takes the value. -/
structure AluOut where
  val : Word64
  c : Bool := false
  v : Bool := false
  write : Bool := true
deriving DecidableEq, Repr

/-- The sign of a value. -/
def neg64 (x : Word64) : Bool := x.msb

/-- ADD: C is the carry out, V the signed overflow. -/
def aluAdd (a b : Word64) : AluOut :=
  { val := a + b, c := decide (2 ^ 64 ≤ a.toNat + b.toNat)
    v := neg64 a == neg64 b && neg64 (a + b) != neg64 a }

/-- SUB: C = 1 means no borrow. -/
def aluSub (a b : Word64) : AluOut :=
  { val := a - b, c := decide (b.toNat ≤ a.toNat)
    v := neg64 a != neg64 b && neg64 (a - b) != neg64 a }

/-- The shift count or bit number, B[5:0]. -/
def shiftOf (b : Word64) : Nat := b.toNat % 64

/-- EXT: B[11:6] is the width, 0 for 64. -/
def aluExtract (a b : Word64) : Word64 :=
  let w := b.toNat / 64 % 64
  BitVec.ofNat 64 (a.toNat / 2 ^ shiftOf b % 2 ^ (if w = 0 then 64 else w))

/-- SEXT: A sign-extended from bit B[5:0]. -/
def aluSext (a b : Word64) : Word64 := BitVec.ofInt 64 (toSigned (shiftOf b + 1) a.toNat)

/-- MULH: the high 64 bits of the signed product. -/
def aluMulh (a b : Word64) : Word64 := BitVec.ofInt 64 (a.toInt * b.toInt / 2 ^ 64)

/-- One ALU operation by its code; none for NOP and the reserved codes. -/
def aluOp (code : Nat) (a b : Word64) : Option AluOut :=
  match code with
  | 0x01 => some { val := b }
  | 0x02 => some (aluAdd a b)
  | 0x03 => some (aluSub a b)
  | 0x04 => some { val := a &&& b }
  | 0x05 => some { val := a ||| b }
  | 0x06 => some { val := a ^^^ b }
  | 0x07 => some { val := a <<< shiftOf b }
  | 0x08 => some { val := a >>> shiftOf b }
  | 0x09 => some { val := a.sshiftRight (shiftOf b) }
  | 0x0A => some { aluSub a b with write := false }
  | 0x0B => some { val := a &&& b, write := false }
  | 0x0C => some { val := a * b }
  | 0x0D => some { val := aluMulh a b }
  | 0x0E => some { val := if a.toInt ≤ b.toInt then a else b }
  | 0x0F => some { val := if a.toInt ≤ b.toInt then b else a }
  | 0x10 => some { val := aluExtract a b }
  | 0x11 => some { val := aluSext a b }
  | 0x12 => some { val := a ||| (1#64 <<< shiftOf b) }
  | 0x13 => some { val := a &&& ~~~(1#64 <<< shiftOf b) }
  | _ => none

/-- A thread's registers and flags after an ALU operation. -/
def AluOut.put (r : AluOut) (dst : Nat) (m : MicroRegs) : MicroRegs :=
  let g := if r.write then m.g.set dst r.val else m.g
  { m with g, z := r.val == 0, n := neg64 r.val, c := r.c, v := r.v }

end Sys2Proof.Machine
end

