-- ==== Sys2Proof/Machine/Micro.lean ====
section
/-! DEFINITION. Microwords: waits, ALU, units, sequencing and commit; the exported vendor services; waits and the wait limit;
parity reloads; customer images (R279 to R303). -/

namespace Sys2Proof.Machine

/-! ### Where a thread stands in its microword (R283) -/

/-- The phase in which a word acts first once its wait is over. -/
def actPhase (w : Nat) : Phase := if wAlu w ≠ 0 then .alu else if wUnit w ≠ 0 then .unit else .seq

/-- Conditions whose waits are bounded by the slot grid and never counted (R292). -/
def freeWait (code : Nat) : Bool := code == 18 || code == 19 || code == 20

/-- A thread comes to a microword: it waits there, or acts. -/
def State.enterWord (s : State) (k addr : Nat) : State :=
  let s := s.modThr k (fun x => { x with upc := addr })
  let w := s.microword k
  if wWait w && !s.cond k (wCond w) then
    let s := s.modThr k (fun x => { x with phase := .wait })
    if freeWait (wCond w) then s.setTstate k stWaiting else s.beginWait k s.tb.loc
  else s.modThr k (fun x => { x with phase := actPhase w })

/-- Whether a thread runs a routine and no reload holds it up. -/
def State.inRoutine (s : State) (k : Nat) : Bool :=
  decide (k < 256) && s.running k && (s.thr k).dec && (s.thr k).stall.isNone

/-! ### Turns (R266) -/

/-- Whether a thread has a microword to act on: one in a WAIT or in a vendor service takes no turn. -/
def State.ready (s : State) (k : Nat) : Bool :=
  s.inRoutine k && (s.thr k).service.isNone && (s.thr k).phase != .idle && (s.thr k).phase != .wait

/-- Whether a thread has begun its microword and not ended it. -/
def State.midWord (s : State) (k : Nat) : Bool := s.ready k && (s.thr k).phase != actPhase (s.microword k)

/-- The thread of a Course whose turn it is: one in the middle of its microword; else, in the order of their numbers after the thread that had
the latest turn, the first urgent thread that is ready, and where none is urgent the first that is ready (R266). -/
def State.turnOf (s : State) (c : Nat) : Option Nat :=
  let l := (List.range 8).map (fun i => 8 * c + (Tbl.get s.seq.turn 0 c + i) % 8)
  ((l.find? s.midWord).orElse (fun _ => l.find? (fun k => s.ready k && (s.thr k).urgent))).orElse (fun _ => l.find? s.ready)

/-- Whether the microsequencer serves a thread now. -/
def State.served (s : State) (k : Nat) : Bool := s.inRoutine k && s.turnOf (k / 8) == some k

/-- A thread has ended a microword: the turn goes on (R266). -/
def State.passTurn (s : State) (k : Nat) : State := { s with seq := { s.seq with turn := Tbl.set s.seq.turn 0 (k / 8) ((k % 8 + 1) % 8) } }

/-! ### The next microword -/

/-- The microaddress NEXT of the word a thread stands at; from the customer region it never leaves it (R299). -/
def State.nextAddr (s : State) (k : Nat) : Nat :=
  let n := wNext (s.microword k)
  if custBase ≤ (s.thr k).upc then custBase + n % 2048 else n

/-- This address + 1, within the store and, in the customer region, within the region. -/
def State.succAddr (s : State) (k : Nat) : Nat :=
  let a := (s.thr k).upc + 1
  if a < 8192 then a else if custBase ≤ (s.thr k).upc then custBase else 0

/-- Goes on to a microword; a VCALL's routine starts there (R287). -/
def State.goTo (s : State) (k a : Nat) (newRoutine : Bool) : State :=
  let fresh := newRoutine || (wUnit (s.microword k) == 0x17 && decide (custBase ≤ (s.thr k).upc))
  let s := if fresh then s.modThr k (fun x => { x with rstart := a, retried := false }) else s
  s.enterWord k a

/-! ### ALU (Table 9.7) -/

/-- A word's ALU operation, when it is the one with this code. -/
def State.alu (s : State) (k code : Nat) : State :=
  let w := s.microword k
  if s.served k && (s.thr k).phase == .alu && wAlu w == code then
    match aluOp code ((s.thr k).opA w) ((s.thr k).opB w) with
    | none => s
    | some r => s.modThr k (fun x => { x with m := r.put (wDst w) x.m, phase := if wUnit w ≠ 0 then .unit else .seq })
  else s

/-- MOV (R284). -/
def execMov (k : Nat) (s : State) : Host.Outcome State Fault Refusal := .next (s.alu k 0x01)
/-- ADD (R284). -/
def execAdd (k : Nat) (s : State) : Host.Outcome State Fault Refusal := .next (s.alu k 0x02)
/-- SUB (R284). -/
def execSub (k : Nat) (s : State) : Host.Outcome State Fault Refusal := .next (s.alu k 0x03)
/-- AND (R284). -/
def execAluAnd (k : Nat) (s : State) : Host.Outcome State Fault Refusal := .next (s.alu k 0x04)
/-- OR (R284). -/
def execAluOr (k : Nat) (s : State) : Host.Outcome State Fault Refusal := .next (s.alu k 0x05)
/-- XOR (R284). -/
def execAluXor (k : Nat) (s : State) : Host.Outcome State Fault Refusal := .next (s.alu k 0x06)
/-- SHL (R284). -/
def execShl (k : Nat) (s : State) : Host.Outcome State Fault Refusal := .next (s.alu k 0x07)
/-- SHR (R284). -/
def execShr (k : Nat) (s : State) : Host.Outcome State Fault Refusal := .next (s.alu k 0x08)
/-- ASR (R284). -/
def execAsr (k : Nat) (s : State) : Host.Outcome State Fault Refusal := .next (s.alu k 0x09)
/-- CMP (R284). -/
def execCmp (k : Nat) (s : State) : Host.Outcome State Fault Refusal := .next (s.alu k 0x0A)
/-- TST (R284). -/
def execTst (k : Nat) (s : State) : Host.Outcome State Fault Refusal := .next (s.alu k 0x0B)
/-- MUL (R284). -/
def execMul (k : Nat) (s : State) : Host.Outcome State Fault Refusal := .next (s.alu k 0x0C)
/-- MULH (R284). -/
def execMulh (k : Nat) (s : State) : Host.Outcome State Fault Refusal := .next (s.alu k 0x0D)
/-- MIN (R284). -/
def execAluMin (k : Nat) (s : State) : Host.Outcome State Fault Refusal := .next (s.alu k 0x0E)
/-- MAX (R284). -/
def execAluMax (k : Nat) (s : State) : Host.Outcome State Fault Refusal := .next (s.alu k 0x0F)
/-- EXT (R284). -/
def execAluExt (k : Nat) (s : State) : Host.Outcome State Fault Refusal := .next (s.alu k 0x10)
/-- SEXT (R284). -/
def execSext (k : Nat) (s : State) : Host.Outcome State Fault Refusal := .next (s.alu k 0x11)
/-- BSET (R284). -/
def execBset (k : Nat) (s : State) : Host.Outcome State Fault Refusal := .next (s.alu k 0x12)
/-- BCLR (R284). -/
def execBclr (k : Nat) (s : State) : Host.Outcome State Fault Refusal := .next (s.alu k 0x13)

/-! ### Units (Table 9.8) -/

/-- A word's unit operation, when it is the one with this code; sequencing follows. -/
def State.unitOp (s : State) (k code : Nat) (f : State → Nat → State) : State :=
  let w := s.microword k
  if s.served k && (s.thr k).phase == .unit && wUnit w == code then
    (f s w).modThr k (fun x => { x with phase := .seq })
  else s

/-- Buffers an effect; the 33rd is a host error of the site (R289). -/
def State.buffer (s : State) (k : Nat) (e : Effect) : State :=
  if 32 ≤ (s.thr k).outbox.length then
    let (n, s) := (s.goWild k).draw 33
    s.modThr k (fun x => { x with outbox := (x.outbox ++ [e]).take n })
  else s.modThr k (fun x => { x with outbox := x.outbox ++ [e] })

/-- A buffered unit operation. -/
def State.bufOp (s : State) (k code : Nat) (e : Thread → Nat → Effect) : Host.Outcome State Fault Refusal :=
  .next (s.unitOp k code (fun s w => s.buffer k (e (s.thr k) w)))

/-- A buffered operation of the site, which a non-home thread skips (R265). -/
def State.homeOp (s : State) (k code : Nat) (e : Thread → Nat → Effect) : Host.Outcome State Fault Refusal :=
  .next (s.unitOp k code (fun s w => if s.isHome k then s.buffer k (e (s.thr k) w) else s))

/-- The unit register's value. -/
def Thread.ur (x : Thread) (w : Nat) : Word64 := x.greg (wUreg w)

/-- RDREG (R285, R508). -/
def execRdreg (k : Nat) (s : State) : Host.Outcome State Fault Refusal :=
  .next (s.unitOp k 0x01 (fun s w =>
    let (v, s) := s.regRead (microBlock (bitsAt (wUarg w) 12 10)) (k / 8) (wUarg w % 1024 * 4)
    s.setG k (wUreg w) (BitVec.ofNat 64 v)))

/-- WRREG. -/
def execWrreg (k : Nat) (s : State) : Host.Outcome State Fault Refusal :=
  s.bufOp k 0x02 (fun x w => .wrreg (bitsAt (wUarg w) 12 10) (wUarg w % 1024) ((x.ur w).toNat % 4294967296))

/-- CTXF (R310, R311). -/
def execCtxf (k : Nat) (s : State) : Host.Outcome State Fault Refusal :=
  .next (s.unitOp k 0x03 (fun s w => s.ctxFetch k (((s.thr k).ur w).toNat % 1048576) (((s.thr k).opB w).toNat % 256)))

/-- CTXS (R207). -/
def execCtxs (k : Nat) (s : State) : Host.Outcome State Fault Refusal :=
  s.bufOp k 0x04 (fun x w => .ctxs ((x.ur w).toNat % 1048576))

/-- CTXA (R314). -/
def execCtxa (k : Nat) (s : State) : Host.Outcome State Fault Refusal :=
  s.bufOp k 0x05 (fun x w => .ctxa ((x.ur w).toNat % 1048576) ((x.opB w).toNat % 256))

/-- COST (R88): no contexts cost nothing and last one slot pitch. -/
def execCost (k : Nat) (s : State) : Host.Outcome State Fault Refusal :=
  .next (s.unitOp k 0x06 (fun s w =>
    let n := ((s.thr k).opB w).toNat % 256
    let x := ctxCost ((ctxRange (((s.thr k).ur w).toNat % 1048576) n).map (fun i => s.ctx (k / 8) i))
    let x := if n = 0 then (x.1, some (s.pitch k), x.2.2) else x
    s.modThr k (fun t => { t with m := { t.m with cost := some x } })))

/-- SLOT (R274): a non-home thread chooses no instant and keeps the T0 its home thread sends (R265). -/
def execUnitSlot (k : Nat) (s : State) : Host.Outcome State Fault Refusal :=
  .next (s.unitOp k 0x07 (fun s w =>
    if !s.isHome k then s else
    let t := s.slotFrom k ((s.thr k).ur w).toNat
    s.modThr k (fun x => { x with m := { x.m with t0 := t % 18446744073709551616 } })))

/-- A non-home thread passes an admission request of its routine: it takes the T0 that its home thread sends when the step is admitted (R265). -/
def State.passAdmit (s : State) (k : Nat) : State :=
  match (s.thr k).issued with
  | t :: rest => (s.giveT0 k (ns t)).modThr k (fun x => { x with issued := rest })
  | [] => s.modThr k (fun x => { x with needT0 := true })

/-- ADMIT (R88, R100): the cost is what COST formed for this request; without one it is that of no contexts (R277). A non-home thread skips it. -/
def execUnitAdmit (k : Nat) (s : State) : Host.Outcome State Fault Refusal :=
  .next (s.unitOp k 0x08 (fun s w =>
    if s.isHome k then
      let x := s.thr k
      let c := x.m.cost.getD (0, some (s.pitch k), 0, false)
      let s := s.buffer k (.admission x.m.t0 c.1 c.2.1 c.2.2.1 c.2.2.2 (if (wUarg w).testBit 6 then some (wUarg w % 64) else none))
      s.modThr k (fun x => { x with m := { x.m with cost := none } })
    else s.passAdmit k))

/-- LAUNCH (R286): queue code 63 is the thread's own Course. -/
def execLaunch (k : Nat) (s : State) : Host.Outcome State Fault Refusal :=
  s.bufOp k 0x09 (fun x w =>
    let q := bitsAt (wUarg w) 12 7
    let q := if q = 63 then k / 8 else if q < 40 then q else Config.openNat 25 [q] % 40
    let g := (x.ur w).toNat
    .launch ((x.m.t0 * 4096 : Int) + (x.opB w).toInt).toNat q (bitsAt g 52 47) (wUarg w % 128) (g.testBit 53) (bitsAt g 46 0))

/-- RKRD (R325): item uarg + B of the thread's site. -/
def execRkrd (k : Nat) (s : State) : Host.Outcome State Fault Refusal :=
  .next (s.unitOp k 0x0A (fun s w =>
    let i := (wUarg w + ((s.thr k).opB w).toNat % 8192) % 8192
    let v := s.itemRead (s.siteOf k) i
    (s.setG k (wUreg w) (BitVec.ofNat 64 v)).itemTaken (s.siteOf k) i))

/-- RKWR. -/
def execRkwr (k : Nat) (s : State) : Host.Outcome State Fault Refusal :=
  s.homeOp k 0x0B (fun x w => .rkwr ((wUarg w + (x.opB w).toNat % 8192) % 8192) (x.ur w).toNat)

/-- POST (R329). -/
def execUnitPost (k : Nat) (s : State) : Host.Outcome State Fault Refusal := s.homeOp k 0x0C (fun _ _ => .post)

/-- JREQ (R223). -/
def execJreq (k : Nat) (s : State) : Host.Outcome State Fault Refusal := s.bufOp k 0x0D (fun _ _ => .jreq)

/-- TCLR (R261). -/
def execTclr (k : Nat) (s : State) : Host.Outcome State Fault Refusal := s.bufOp k 0x0E (fun _ _ => .tclr)

/-- SPUSH (R447): uarg[3:0] is the template and uarg[4] the continue flag. -/
def execSpush (k : Nat) (s : State) : Host.Outcome State Fault Refusal :=
  s.bufOp k 0x0F (fun x w => .spush (wUarg w % 32) (x.ur w).toNat)

/-- Receive entries that a routine has taken and not yet removed. -/
def Thread.popped (x : Thread) : Nat := (x.outbox.filter (fun e => e == .spop)).length

/-- SPOP (R454): an empty queue gives a value the spec does not state, a free one. -/
def execSpop (k : Nat) (s : State) : Host.Outcome State Fault Refusal :=
  .next (s.unitOp k 0x10 (fun s w =>
    let s := match ((s.eng (k / 8)).rxq.drop (s.thr k).popped).head? with
      | some e => s.setG k (wUreg w) (BitVec.ofNat 64 e.data)
      | none => let (v, s) := s.draw (2 ^ 64); s.setG k (wUreg w) (BitVec.ofNat 64 v)
    s.buffer k .spop))

/-- EVSET. -/
def execEvset (k : Nat) (s : State) : Host.Outcome State Fault Refusal :=
  s.bufOp k 0x11 (fun _ w => .evset (bitsAt (wUarg w) 4 2) (wUarg w % 4))

/-- EVCLR. -/
def execEvclr (k : Nat) (s : State) : Host.Outcome State Fault Refusal :=
  s.bufOp k 0x12 (fun _ w => .evclr (wUarg w % 4))

/-- SPC. -/
def execSpc (k : Nat) (s : State) : Host.Outcome State Fault Refusal :=
  s.homeOp k 0x13 (fun x w => .spc ((x.ur w).toNat % 32768))

/-- A special's value (Table 9.10); reserved ones are free values. -/
def State.special (s : State) (k n : Nat) : Nat × State :=
  let x := s.thr k
  match n with
  | 0 => (x.m.t0, s)
  | 1 => (x.opr, s)
  | 2 => (s.fld F.SEQ_TSTAT_opcode (k / 8) (k % 8) * 256 + x.tmask, s)
  | 3 => (s.spc k, s)
  | 4 => (s.siteOf k, s)
  | 5 => (k % 8, s)
  | 6 => (s.nowNs, s)
  | 7 => (x.prevEnd / 4096, s)
  | 8 => (x.lc.headD 0, s)
  | 9 => ((x.lc.drop 1).headD 0, s)
  | 10 => ((x.lc.drop 2).headD 0, s)
  | 11 => ((x.lc.drop 3).headD 0, s)
  | 12 => (s.pitch k, s)
  | 13 =>
    match x.cur with
    | some a => ((a.d.map (· / 4096)).getD 0xFFFFFFFF, s)
    | none => s.draw 4294967296
  | _ => s.draw (2 ^ 64)

/-- MOVS. -/
def execMovs (k : Nat) (s : State) : Host.Outcome State Fault Refusal :=
  .next (s.unitOp k 0x14 (fun s w =>
    let (v, s) := s.special k (wUarg w)
    s.setG k (wUreg w) (BitVec.ofNat 64 v)))

/-- MOVT. -/
def execMovt (k : Nat) (s : State) : Host.Outcome State Fault Refusal :=
  s.bufOp k 0x15 (fun x w => .movt (wUarg w) (x.ur w).toNat)

/-- TIMER: the expiry is reckoned from the instant the word acts. -/
def execTimer (k : Nat) (s : State) : Host.Outcome State Fault Refusal :=
  s.bufOp k 0x16 (fun x w => .timer (s.tb.loc + ns (x.ur w).toNat))

/-! ### Commit (R287) -/

/-- Launch records of an outbox, for the check of R52. -/
def Effect.rec? (e : Effect) : Option OutRec :=
  match e with
  | .launch inst q target action _ payload => some ⟨q, target, action, payload, inst⟩
  | _ => none

/-- One buffered effect takes place. -/
def State.drain (k : Nat) (s : State) (e : Effect) : State :=
  let c := k / 8
  match e with
  | .wrreg b word v => (s.regWrite (microBlock b) c (4 * word) v).1
  | .ctxs n => s.stageNext k n
  | .ctxa first count => (ctxRange first count).foldl (fun s n => s.stageCtx k (s.ctx c n)) s
  | .admission t0 cost d smu ana bslot =>
    let st := s.tstate k
    (s.requestStep k {
      opcode := s.fld F.SEQ_TSTAT_opcode c (k % 8), spc := s.spc k, kind := .routine, t0 := ns t0, c := cost, d := d.map ns
      smu, analogue := ana, bslot, ctx := 0, count := 0 }).setTstate k st
  | .launch inst q target action cw payload =>
    -- a mode change is the Keystone's own record (R130); microcode cannot enter one
    if action = 0x04 then s else s.enterRecord q inst target action cw (s.siteOf k) payload k
  | .rkwr i v => s.itemWrite (s.siteOf k) i v
  | .post => s.post k kPost
  | .jreq => s.raiseSiteJump (s.siteOf k) s.tb.loc
  | .tclr => s.clearSite (s.siteOf k) s.tb.loc
  | .spush t v => s.serAppend c (t % 16) (t.testBit 4) v s.tb.loc
  | .spop => s.modEng c (fun x => { x with rxq := x.rxq.drop 1 })
  | .evset t f => s.setEvents (8 * c + t) (2 ^ f)
  | .evclr f => (s.clrBitIn F.SEQ_TEVT_flags c (k % 8) f).modThr k (fun x => { x with trigSeen := false })
  | .spc v => (s.setSpc k v).modThr k (fun x => { x with pcSet := true })
  | .movt sp v =>
    if sp = 0 then s.modThr k (fun x => { x with m := { x.m with t0 := v }, com := { x.com with t0 := v } })
    else if sp = 3 then (s.setSpc k v).modThr k (fun x => { x with pcSet := true })
    else if 8 ≤ sp ∧ sp ≤ 11 then s.modThr k (fun x => { x with lc := x.lc.set (sp - 8) (v % 4294967296) })
    else s
  | .timer t => s.modThr k (fun x => { x with timer := some t, timerDone := false })

/-- A routine commits, and what follows it happens; without credits it ends as an ABORT (R52, R287). -/
def State.commitRoutine (s : State) (k : Nat) (after : State → State) : State :=
  let x := s.thr k
  if !s.roomFor (x.outbox.filterMap Effect.rec?) then (s.launchFull k).abortRoutine k
  else
    let launches := !(x.outbox.filterMap Effect.rec?).isEmpty
    let s := s.modThr k (fun x => { x with com := x.m, outbox := [], retried := false, urgent := x.urgent && !launches })
    after (x.outbox.foldl (State.drain k) s)

/-! ### Sequencing (Table 9.6) -/

/-- A word's sequencing, when it is the one with this code. A word read with a parity error acts not at all: the error is found as the
word is fetched, before its wait, ALU or unit operation (R295). -/
def State.seqOp (s : State) (k code : Nat) (bad : Bool) (f : State → Nat → State) : State :=
  let w := s.microword k
  let x := s.thr k
  if !s.inRoutine k || x.phase == .idle || x.service.isSome || wSeq w != code then s
  else if s.wordBad k bad then (if x.phase == .wait || (s.served k && x.phase == actPhase w) then s.parityError k x.upc else s)
  else if s.served k && x.phase == .seq then f (s.passTurn k) w
  else s

/-- CONT. -/
def execCont (k : Nat) (bad : Bool) (s : State) : Host.Outcome State Fault Refusal :=
  .next (s.seqOp k 0 bad (fun s _ => s.goTo k (s.nextAddr k) false))

/-- BRANCH; after a WAIT, COND has already been found true (R283). -/
def execBranch (k : Nat) (bad : Bool) (s : State) : Host.Outcome State Fault Refusal :=
  .next (s.seqOp k 1 bad (fun s w =>
    s.goTo k (if wWait w || s.cond k (wCond w) then s.nextAddr k else s.succAddr k) false))

/-- The microstack is misused: a host error of the site. The thread goes on at an open microaddress of its open program. -/
def State.badMicro (s : State) (k : Nat) : State :=
  let (a, s) := (s.goWild k).draw 8192
  s.goTo k a false

/-- CALL; a fifth entry is a host error of the site. -/
def execMicroCall (k : Nat) (bad : Bool) (s : State) : Host.Outcome State Fault Refusal :=
  .next (s.seqOp k 2 bad (fun s _ =>
    if 4 ≤ (s.thr k).m.ustack.length then s.badMicro k
    else
      let r := s.succAddr k
      let a := s.nextAddr k
      (s.modThr k (fun x => { x with m := { x.m with ustack := r :: x.m.ustack } })).goTo k a false))

/-- RET; from an empty microstack it is a host error of the site. -/
def execMicroRet (k : Nat) (bad : Bool) (s : State) : Host.Outcome State Fault Refusal :=
  .next (s.seqOp k 3 bad (fun s _ =>
    match (s.thr k).m.ustack with
    | [] => s.badMicro k
    | a :: rest => (s.modThr k (fun x => { x with m := { x.m with ustack := rest } })).goTo k a false))

/-- COMMIT. -/
def execCommit (k : Nat) (bad : Bool) (s : State) : Host.Outcome State Fault Refusal :=
  .next (s.seqOp k 4 bad (fun s _ => s.commitRoutine k (fun s => s.goTo k (s.nextAddr k) true)))

/-- The end of a customer instruction: a routine that ends after its own step separates it from the next (R275). -/
def State.endRoutine (s : State) (k : Nat) : State :=
  (if (s.thr k).asked && s.condEnded k then s.modThr k (fun x => { x with gap := true }) else s).endInstr k

/-- END. -/
def execMicroEnd (k : Nat) (bad : Bool) (s : State) : Host.Outcome State Fault Refusal :=
  .next (s.seqOp k 5 bad (fun s _ => s.commitRoutine k (fun s => s.endRoutine k)))

/-- ABORT. -/
def execAbort (k : Nat) (bad : Bool) (s : State) : Host.Outcome State Fault Refusal :=
  .next (s.seqOp k 6 bad (fun s _ => s.abortRoutine k))

/-! ### Customer opcodes and the exported vendor services (R281, R299) -/

/-- CUSTOMER_OPCODE (R281): the dispatch entry starts the thread at its microaddress; an entry that is not valid is a host error of the
site (R273). -/
def execCustomerOpcode (k : Nat) (bad : Bool) (s : State) : Host.Outcome State Fault Refusal :=
  let x := s.thr k
  let op := s.fld F.SEQ_TSTAT_opcode (k / 8) (k % 8)
  if !s.inRoutine k || x.phase != .idle || op < 0xC0 || (s.isHome k && !x.tmask.testBit (k % 8)) then .next s
  else if s.entryBad k op bad then .next (s.parityError k (8192 + op))
  else
    let e := (s.store (k / 8)).entry op
    if !e.testBit 13 then
      let (a, s) := (s.goWild k).draw 8192
      .next ((s.modThr k (fun x => { x with rstart := a, com := x.m, retried := false })).enterWord k a)
    else .next ((s.modThr k (fun x => { x with rstart := e % 8192, com := x.m, retried := false })).enterWord k (e % 8192))

/-- VCALL: commits, then calls service uarg; from the vendor region it acts as NOP. -/
def execVcall (k : Nat) (bad : Bool) (s : State) : Host.Outcome State Fault Refusal :=
  let w := s.microword k
  let x := s.thr k
  if !s.inRoutine k || x.service.isSome || wUnit w != 0x17 || x.phase == .idle then .next s
  else if s.wordBad k bad then .next (if x.phase == .wait || (s.served k && x.phase == actPhase w) then s.parityError k x.upc else s)
  else if x.phase != .unit || !s.served k then .next s
  else if x.upc < custBase then .next (s.modThr k (fun x => { x with phase := .seq }))
  else .next ((s.passTurn k).commitRoutine k (fun s =>
    let n := if wUarg w < 3 then wUarg w else Config.openNat 26 [wUarg w] % 3
    s.modThr k (fun x => { x with service := some n, ctxf := if n = 0 then none else x.ctxf })))

/-- Whether a thread stands in a service. -/
def State.inService (s : State) (k n : Nat) : Bool := s.inRoutine k && (s.thr k).service == some n

/-- ISSUE: the home thread requests the step its OPR names; the others take the T0 it sends (R265). -/
def execIssue (k : Nat) (s : State) : Host.Outcome State Fault Refusal :=
  if !s.inService k 0 then .next s
  else if s.isHome k then .next (s.askStep k .issue)
  else
    match (s.thr k).issued with
    | [] => .next s
    | t :: rest =>
      let o := (s.thr k).opr
      let st : Step := {
        opcode := s.fld F.SEQ_TSTAT_opcode (k / 8) (k % 8), spc := s.spc k, kind := .issue, t0 := ns t, c := 0, d := none, smu := 0
        analogue := false, bslot := none, ctx := oprCtx o, count := oprCount o }
      let s := s.modThr k (fun x => { x with issued := rest })
      .next (s.emitHome k st (fun s => s.modThr k (fun x => { x with service := none, phase := .seq })))

/-- FINISH: waits for COMPLETE, posts the finish record and ends the instruction. -/
def execFinish (k : Nat) (s : State) : Host.Outcome State Fault Refusal :=
  if !s.inService k 1 then .next s
  else if !s.condComplete k then .next (s.beginWait k (s.completeFrom k))
  else
    let s := s.endWait k
    let s := if s.isHome k then s.post k kFinish else s
    .next (s.endRoutine k)

/-- SEGSTART: commits SEGMENT_START of segment G[ureg][11:0] at T0 when the thread is the stream owner. -/
def execSegstart (k : Nat) (s : State) : Host.Outcome State Fault Refusal :=
  if !s.inService k 2 then .next s
  else
    let c := k / 8
    let back := fun (s : State) => s.modThr k (fun x => { x with service := none, phase := .seq })
    if s.fld F.SEQ_CTRL_stream_owner c ≠ k % 8 then .next (back s)
    else
      let r : OutRec := ⟨c, 0, 0x02, ((s.thr k).ur (s.microword k)).toNat % 4096 * 2 ^ 35, ns (s.thr k).m.t0⟩
      if !s.roomFor [r] then .next ((s.launchFull k).abortRoutine k) else .next (back (s.enterAll k [r]))

/-! ### Waits (R291, R292, R304) -/

/-- Lets time pass to what a wait for LAUNCHED or ENDED waits for. -/
def State.reachWait (s : State) (k code : Nat) : State :=
  if code = 19 then (s.reach (ns (s.thr k).m.t0)).launchDue
  else if code = 20 then
    match (s.siteStep k).bind Step.end? with
    | some e => s.reach e
    | none => s
  else s

/-- WAIT_RELEASE (R292): what a thread waits for has come about, and it goes on. -/
def execWaitRelease (k : Nat) (s : State) : Host.Outcome State Fault Refusal :=
  let x := s.thr k
  let op := s.fld F.SEQ_TSTAT_opcode (k / 8) (k % 8)
  if !s.inRoutine k then .next s
  else if x.phase = .wait then
    let w := s.microword k
    let s := s.reachWait k (wCond w)
    if s.cond k (wCond w) then .next ((s.endWait k).modThr k (fun x => { x with phase := actPhase w })) else .next s
  else if x.waitUntil.isSome then .next (s.waitevDone k)
  else if x.waitSince.isNone then .next s
  else if op = 0x10 then (if s.condComplete k then .next (s.branchNow k) else .next s)
  else if x.service = some 1 then (if s.condComplete k then .next (s.endWait k) else .next s)
  else if s.ctxReady k then .next (s.endWait k)
  else .next s

/-- The wait limit of a Course, in ticks. -/
def State.waitLimit (s : State) (c : Nat) : Nat := us (max 1 (s.fld F.SEQ_WLIMIT_limit_us c))

/-- What follows a wait past its limit (R292). -/
def State.timeOut (s : State) (k : Nat) : State :=
  let site := s.siteOf k
  let s := s.markDropped (s.homeThr k) mkAborted
  let s := s.modThr k (fun x => { x with
    m := x.com, outbox := [], phase := .idle, dec := false, service := none, waitSince := none, waitSum := 0, waitUntil := none
    asked := false, urgent := false, needT0 := false
    nxt := x.nxt.filter (fun a => a.st == .committed) })
  let s := (s.restThread k stTimedOut).setBit F.SEQ_STATUS_wait_to (k / 8) 0 true
  s.report (k / 8) sevSite (detail clsSite site)

/-- WAIT_LIMIT_TIMEOUT (R292): the counted waits of one step instruction exceed the limit, or a WAITEV its own timeout. -/
def execWaitLimitTimeout (k : Nat) (s : State) : Host.Outcome State Fault Refusal :=
  let x := s.thr k
  if !s.inRoutine k then .next s
  else
    match x.waitUntil, x.waitSince with
    | some t, _ => .next ((s.reach t).launchDue.timeOut k)
    | none, some t => .next ((s.reachLoc (t + (s.waitLimit (k / 8) - x.waitSum))).timeOut k)
    | none, none => .next s

/-- THREAD_TIMER_EXPIRY (R284): condition 55 becomes true. -/
def execThreadTimerExpiry (k : Nat) (s : State) : Host.Outcome State Fault Refusal :=
  match (s.thr k).timer with
  | some t => .next ((s.reachLoc t).modThr k (fun x => { x with timer := none, timerDone := true }))
  | none => .next s

/-! ### Parity reloads and the shadow (R295, R297) -/

/-- PARITY_RELOAD_COMPLETE (R295): the word or entry comes from the shadow, within 4 µs, and the routine runs again from its start; a second
error makes a machine check (R296). -/
def execParityReloadComplete (k : Nat) (bad : Bool) (s : State) : Host.Outcome State Fault Refusal :=
  match (s.thr k).stall with
  | none => .next s
  | some addr =>
    let (d, s) := s.draw (us 4 + 1)
    let s := s.pass d
    if bad then .next (s.machineCheck k addr)
    else
      let c := k / 8
      let t := s.store c
      let t := if addr < 8192 then { t with words := Tbl.put t.words addr (s.seq.shadow.word addr) }
        else { t with disp := Tbl.put t.disp (addr - 8192) (s.seq.shadow.entry (addr - 8192)) }
      let s := { s with seq := { s.seq with store := Tbl.set s.seq.store {} c t } }
      let s := s.modThr k (fun x => { x with stall := none })
      .next (if addr < 8192 then s.enterWord k (s.thr k).rstart else s)

/-- SHADOW_UNCORRECTABLE (R297): the Keystone repairs the shadow word from the bank or the journal, which hold the same word. -/
def execShadowUncorrectable (addr : Nat) (s : State) : Host.Outcome State Fault Refusal :=
  if addr < 8192 then .next (s.report 60 sevDegraded (detail clsNone 0)) else .next s

/-! ### Customer images (R300 to R302) -/

/-- The layout of a customer image (Table 9.14); anything else is malformed. -/
def imageOk (b : List Byte) : Bool :=
  let n := leNat ((b.drop 6).take 2)
  let first := leNat ((b.drop 8).take 2)
  let flags := leNat ((b.drop 10).take 2)
  leNat (b.take 4) == 0x44434D31 && leNat ((b.drop 4).take 2) == 1 && decide (1 ≤ n) && decide (n ≤ 2048) &&
    decide (custBase ≤ first) && decide (first + n ≤ 0x2000) && decide (flags < 2) &&
    (List.range 64).all (fun i => leNat ((b.drop (16 + 2 * i)).take 2) / 8192 % 4 == 0) &&
    b.length == 144 + 16 * n + (if flags = 1 then 512 else 0)

/-- Words of an image, 16 bytes each, into a store from an address, with the parity generated on load (R280). -/
def putWords (t : Tbl Nat) (a : Nat) (b : List Byte) : Nat → Tbl Nat
  | 0 => t
  | n + 1 => putWords (Tbl.put t a (withParity (leNat (b.take 16)))) (a + 1) (b.drop 16) n

/-- An image's region and dispatch entries, put over a store's vendor part. -/
def withImage (t : Store) (b : List Byte) : Store :=
  let t := vendorPart t
  { t with
    words := putWords t.words (leNat ((b.drop 8).take 2)) (b.drop 144) (leNat ((b.drop 6).take 2))
    disp := (List.range 64).foldl (fun (d : Tbl Nat) i =>
      let e := leNat ((b.drop (16 + 2 * i)).take 2)
      if e.testBit 15 then Tbl.put d (0xC0 + i) (dispParity (e % 8192 + 8192)) else d) t.disp }

/-- The customer region's bytes, least significant byte of each word first. -/
def regionBytes (t : Store) : List Byte := (List.range 2048).flatMap (fun i => toLe 16 (t.word (custBase + i)))

/-- Loads an accepted image: the shadow takes it, and every Course stops dispatching customer opcodes (R302). -/
def State.takeImage (s : State) (b : List Byte) : State :=
  let sh := withImage s.seq.shadow b
  let im : CustImage := ⟨leNat ((b.drop 12).take 4), leNat ((b.drop 10).take 2) % 2 == 1, Config.sha512 (regionBytes sh)⟩
  let s := { s with seq := { s.seq with shadow := sh, custPend := some im, custDone := [] } }
  (List.range 32).foldl (fun s c => s.setBit F.SEQ_STATUS_cust_block c 0 true) s

/-- At start-up the stored image goes into the shadow and into every Course at once (Table 20.8, step 8). -/
def State.imageInForce (s : State) (b : List Byte) : State :=
  let sh := withImage s.seq.shadow b
  let im : CustImage := ⟨leNat ((b.drop 12).take 4), leNat ((b.drop 10).take 2) % 2 == 1, Config.sha512 (regionBytes sh)⟩
  { s with seq := { s.seq with
      shadow := sh, cust := im, custPend := none, store := (List.range 32).foldl (fun (t : Tbl Store) c => Tbl.set t {} c sh) s.seq.store } }

/-- The signature over everything before it (R300). -/
def State.imageSigned (s : State) (b : List Byte) : Bool :=
  match s.tr.keys.getLast? with
  | none => true
  | some m => b.length ≥ 512 && (leNat ((b.drop 10).take 2)).testBit 0 &&
      Config.sigOk m (b.drop (b.length - 512)) (b.take (b.length - 512))

/-- An image of the whole region with open dispatch entries and words. -/
def openImage (v : Nat) : List Byte :=
  toLe 4 0x44434D31 ++ toLe 2 1 ++ toLe 2 2048 ++ toLe 2 custBase ++ toLe 2 0 ++ toLe 4 (Config.openNat 34 [v]) ++
    (List.range 64).flatMap (fun i => toLe 2 (let e := Config.openNat 35 [v, i] % 16384; e % 8192 + 32768 * (e / 8192))) ++
    (List.range 2048).flatMap (fun i => toLe 16 (Config.openNat 36 [v, i]))

/-- A malformed image is a host error confined to the customer region (R301), and never alters the shadow (R2): the region of each Course stays,
or takes open words. -/
def State.badImage (s : State) : State :=
  let (b, s) := s.draw 2
  let (v, s) := s.draw 18446744073709551616
  if b = 0 then s
  else
    let fresh (t : Store) : Store := withImage t (openImage v)
    { s with seq := { s.seq with store := (List.range 32).foldl (fun (t : Tbl Store) c => Tbl.set t {} c (fresh (s.store c))) s.seq.store } }

/-- OD 0x5A00.00. -/
def wrImage (h : Hdr) (d : Sys2Proof.Data) (s : State) : State × Nat :=
  s.item490 h d tBlob anyLen false (fun s =>
    if !s.imageSigned d.bytes then (s.setBit F.SEC_STATUS_sig_fail 0 0 true, eSignature)
    else if !imageOk d.bytes then (s.badImage, eOk)
    else ((s.takeImage d.bytes).journal (odKey 0x5A00 0) d.bytes, eOk))

/-- CUSTOMER_IMAGE_LOAD (R300 to R302). -/
def execCustomerImageLoad (h : Hdr) (d : Data) (s : State) : Host.Outcome State Fault Refusal :=
  .next (s.hostItem (.customerImageLoad h d) h (wrImage h d))

/-- Whether a thread is inside a customer routine. -/
def State.inCustomer (s : State) (k : Nat) : Bool := s.running k && (s.thr k).dec && (s.thr k).phase != .idle

/-- CUSTOMER_IMAGE_COURSE_COPY (R302): a Course none of whose threads is inside a customer routine copies the region, within 30 µs. -/
def execCustomerImageCourseCopy (c : Nat) (s : State) : Host.Outcome State Fault Refusal :=
  if 32 ≤ c ∨ !s.bit F.SEQ_STATUS_cust_block c ∨ (List.range 8).any (fun t => s.inCustomer (8 * c + t)) then .next s
  else
    let (d, s) := s.draw (us 30 + 1)
    let s := s.pass d
    let sh := s.seq.shadow
    let t := joinParts (s.store c) sh
    let s := { s with seq := { s.seq with store := Tbl.set s.seq.store {} c t, custDone := insertAsc s.seq.custDone c } }
    let s := s.setBit F.SEQ_STATUS_cust_block c 0 false
    match s.seq.custPend with
    | some im =>
      if s.seq.custDone.length = 32 then .next { s with seq := { s.seq with cust := im, custPend := none, custDone := [] } } else .next s
    | none => .next s

end Sys2Proof.Machine
end

