-- ==== Sys2Proof/Machine/Power.lean ====
section
/-! DEFINITION. Supplies, resets, the start-up sequence, ALIVE, and the end of Thermal Halt (R119, R498, R551, R574 to R584). -/

namespace Sys2Proof.Machine

/-! ### What a reset keeps (R565, R577, R544) -/

/-- A commit that is interrupted (Table 19.3): where it stood is not known, so a free value says which of its steps had been taken. -/
def State.cutCommit (s : State) : State :=
  match s.cal.commit with
  | none => s
  | some c =>
    if s.cal.force.isSome ∧ c.set.data = s.calData then s
    else
      let (k, s) := s.draw 4
      let l := s.cal.slots
      let old : List CalSlot := l.map (fun (z : CalSlot) => { z with revoked := true })
      let room := decide (l.length < 16)
      let slots : List CalSlot :=
        if !room then l
        else if k = 1 then l ++ [⟨c.set, false, false, false⟩]
        else if k = 2 then l ++ [⟨c.set, true, true, false⟩]
        else if k = 3 then old ++ [⟨c.set, true, true, false⟩]
        else l
      { s with cal := { s.cal with slots, nvm := if k = 3 then some (c.set, true) else s.cal.nvm } }

/-- The NVM when a reset strikes: the page program in progress completes while VNVM stays good, the other records are lost, and an
erase in progress is repeated at the next start-up (R577). -/
def State.cutNvm (s : State) (vnvm : Bool) : State :=
  let s := match s.eth.jrn with
    | j :: _ =>
      if vnvm then s.storeRecord j
      else
        -- pages of a record that is not complete: it is ignored (R563)
        let l := partsOf (jData j.key j.val)
        let (n, s) := s.draw l.length
        (s.putPages [] 0 (l.take n)).2
    | [] => s
  { s with nvm := { s.nvm with
      eraseOf := none
      intents := match s.nvm.eraseOf with | some b => insertAsc s.nvm.intents b | none => s.nvm.intents } }

/-- A bank's contents survive; its firmware stops. -/
def Trust.kept (t : Trust) : Trust :=
  { banks := t.banks, preferred := t.preferred, rollback := t.rollback, bootA := t.bootA, bootB := t.bootB, keys := t.keys }

/-- What of a stack's record survives: its candidate rows, in the journal, and its fused rows. -/
def DramStack.kept (x : DramStack) : DramStack := { cands := x.cands, hard := x.hard }

/-- Every register at its Reset value, every output in its reset state and DRAM lost; fuses, NVM and the supplies stay
(R498, R565, R577). The free-value counter, the record of what was sent and the queue are the model's own. -/
def State.hardReset (s : State) (vnvm : Bool) : State :=
  let s := (s.cutCommit).cutNvm vnvm
  let rails := s.pw.rails.map (fun (e : Nat × Rail) =>
    (e.1, { e.2 with outSince := if railIn e.1 e.2.mv then none else some 0, outTold := false }))
  { State.reset with
    stored := s.stored
    freeCtr := s.freeCtr
    out := s.out
    pending := s.pending
    nvm := s.nvm
    tap := s.tap
    tr := s.tr.kept
    cal := { slots := s.cal.slots, nvm := s.cal.nvm }
    bist := { fuseField := s.bist.fuseField, drams := s.bist.drams.map (fun (e : Nat × DramStack) => (e.1, e.2.kept)) }
    fc := { log := s.fc.log, written := s.fc.written, lost := s.fc.lost + s.fc.queued.length, lostFlag := s.fc.lostFlag || !s.fc.queued.isEmpty }
    thm := { haltCount := s.thm.haltCount, lastHalt := s.thm.lastHalt }
    eth := { restore := s.eth.restore }
    tb := { posId := s.tb.posId }
    pw := { s.pw with rails, railCount := [], startStep := 0, startDone := 0, startUsed := 0, alive := false, waitLogged := false } }

/-! ### Resets (R575 to R577, R584) -/

/-- POWER_ON_RESET_ASSERT (R575, R577): rail `r` has read `mv`, below its power-good threshold, for 1 µs. -/
def execPowerOnResetAssert (r : Nat) (mv : Int) (s : State) : Host.Outcome State Fault Refusal :=
  if 11 ≤ r ∨ railGood r mv then .next s
  else
    let s := (s.pass (us 1)).readRail r mv (Tbl.get s.pw.rails {} r).ma
    let s := s.hardReset (r != 9)
    let t : Tap := {}
    .next { s with pw := { s.pw with powered := false }, tap := if r = 0 ∨ r = 2 then t else s.tap }

/-- What EXTEST, CLAMP or HIGHZ drives while RESET_N is asserted (R586). -/
def tapDrive (ir : Nat) : Nat := if ir = 3 then 1 else if ir = 4 then 2 else if ir = 5 then 3 else 0

/-- RESET_N_ASSERT (R576, R577): RESET_N has been low for 1 µs. -/
def execResetNAssert (s : State) : Host.Outcome State Fault Refusal :=
  let s := (s.pass (us 1)).hardReset true
  .next { s with pw := { s.pw with resetLow := true }, tap := { s.tap with driving := if s.pw.powered then tapDrive s.tap.ir else 0 } }

/-- Reset release, t0: the straps are sampled and the sequence begins (R576, R584). -/
def State.begin0 (s : State) (pos cause : Nat) : State :=
  { s with
    tb := { s.tb with posId := pos % 64 }
    tap := { s.tap with driving := 0 }
    pw := { s.pw with powered := true, resetLow := false, startStep := 1, t0 := s.tb.loc, cause } }

/-- RESET_RELEASE (R575, R576): `por` says that the power-on reset releases, 2 ms after the last of the rails, which `rails` reads, has reached
power-good; it is then t0 unless RESET_N is still low. Otherwise RESET_N goes high. -/
def execResetRelease (pos : Nat) (por : Bool) (rails : List (Int × Nat)) (s : State) : Host.Outcome State Fault Refusal :=
  if por then
    let s1 := s.readRails 0 (rails.take 11)
    if s.pw.powered || (List.range 11).any (fun r => !railGood r (Tbl.get s1.pw.rails {} r).mv) then .next s
    else
      let s2 := s1.pass (ms 2)
      .next (if s.pw.resetLow then { s2 with pw := { s2.pw with powered := true } } else s2.begin0 pos 0)
  else if !s.pw.resetLow then .next s
  else if s.pw.powered then .next ((s.readRails 0 (rails.take 11)).begin0 pos 1)
  else .next { s with pw := { s.pw with resetLow := false } }

/-- THERMAL_HALT_END (R119): Tmax has stayed below 105 °C for 10 ms, and the full start-up runs. -/
def execThermalHaltEnd (s : State) : Host.Outcome State Fault Refusal :=
  match s.thm.belowSince with
  | some t =>
    if !s.thm.halted then .next s
    else
      let s := (s.reachLoc (t + ms 10)).hardReset true
      let s := { s with thm := { s.thm with haltCount := s.thm.haltCount + 1 } }
      .next (s.begin0 s.tb.posId 2)
  | none => .next s

/-! ### The boot ROM (R551, R552) -/

/-- A bank's check: 0 pass, 1 empty, 3 rollback, 4 signature; `bad` says that the image does not verify. -/
def FwBank.check (b : FwBank) (counter : Nat) (bad : Bool) : Nat :=
  if !b.loaded then 1 else if b.rollback < counter then 3 else if bad then 4 else 0

/-- A bank. -/
def State.fwBank (s : State) (b : Nat) : FwBank := s.tr.banks.getD b {}

/-- Records the outcome of a bank's check. -/
def State.checkBank (s : State) (b : Nat) (bad : Bool) : State :=
  let r := (s.fwBank b).check s.tr.rollback bad
  let l := s.tr.banks.set b { s.fwBank b with pass := r == 0 }
  { s with tr := { s.tr with banks := l, bootA := if b = 0 then r else s.tr.bootA, bootB := if b = 0 then s.tr.bootB else r } }

/-- Firmware starts on the active pair from a bank; the records that waited for it are written (R526). -/
def State.startFirmware (s : State) (b : Nat) : State :=
  let s := { s with tr := { s.tr with bank := b, recovery := false }, ks := { s.ks with running := true } }
  (s.setFld F.KEY_STATUS_bank 0 0 b).flushAll

/-- Step 3: the preferred bank is verified, then the other where it fails (R551); with neither, the recovery service runs (R552). -/
def State.bootRom (s : State) (bad : List Nat) : State :=
  let p := s.tr.preferred
  let s := s.checkBank p (bad.contains p)
  if (s.fwBank p).pass then s.startFirmware p
  else
    let s := s.checkBank (1 - p) (bad.contains (1 - p))
    if (s.fwBank (1 - p)).pass then (s.startFirmware (1 - p)).report 54 sevDegraded (detail clsNone 0)
    else { s with tr := { s.tr with recovery := true } }

/-! ### Stored values (R174, R363, R494, R495, R564) -/

/-- Stored values that OD 0x1010.00 leaves in force (R495), by index. -/
def keepsStored (idx : Nat) : Bool :=
  [0x2002, 0x4401, 0x5A00, 0x8013, 0x8105, 0x9051].contains idx || (decide (0x3000 ≤ idx) && decide (idx < 0x3400) && idx % 32 == 0x17)

/-- The restore of R495: RWS values take their Defaults and MACsec keys are erased. -/
def State.restoreDefaults (s : State) : State :=
  if s.eth.restore then
    { s with stored := s.stored.filter (fun (e : Nat × List Byte) => keepsStored (e.1 / 256)), eth := { s.eth with restore := false } }
  else s

/-- Whether an index is one of the settings that R487, R464 and Table 7.9 apply at start-up. -/
def isNetIdx (idx : Nat) : Bool := idx == 0x5000 || (decide (0x8001 ≤ idx) && decide (idx ≤ 0x800A))

/-- A port's keys as the journal holds them: OD 0x800A.0p in its layout, with the direction in the last byte. -/
def secKey (b : List Byte) : SecKey :=
  ⟨beNat (b.take 1), (b.drop 1).take 32, beNat ((b.drop 33).take 4), (b.drop 37).take 12⟩

/-- The keys of the two ports, stored under the sub-index p for transmit and 2 + p for receive. -/
def State.loadKeys (s : State) : State :=
  let k (n : Nat) : Option SecKey := (Tbl.find s.stored (odKey 0x800A n)).map secKey
  { s with eth := { s.eth with p0 := { s.eth.p0 with tx := k 0, rx := k 2 }, p1 := { s.eth.p1 with tx := k 1, rx := k 3 } } }

/-- Step 4: the journal is mounted, blocks named by erase intents are erased again, and the Stored values are read. -/
def State.mountJournal (s : State) : State :=
  let s := s.pass (ms (200 * s.nvm.intents.length))
  let s := s.nvm.intents.foldl (fun s b => s.eraseBlock b false) s
  let s := s.restoreDefaults
  let s := { s with
    dict := s.stored.filter (fun (e : Nat × List Byte) => !keepsStored (e.1 / 256) || e.1 / 256 == 0x2002 || e.1 / 256 == 0x8013)
    eth := { s.eth with inForce := s.stored.filter (fun (e : Nat × List Byte) => isNetIdx (e.1 / 256)) } }
  let en := beNat (s.netSet 0x8009 0 [0])
  let s := s.loadKeys
  (s.setBit F.ETH_STATUS_e0_macsec 0 0 (en.testBit 0)).setBit F.ETH_STATUS_e1_macsec 0 0 (en.testBit 1)

/-- A field of a stored value. -/
def sub8 (b : List Byte) (off n : Nat) : Int := toSigned (8 * n) (beNat ((b.drop off).take n))

/-- A stored spare assignment is reapplied (R174, R363). -/
def State.reapplySpare (s : State) (e : Nat × List Byte) : State :=
  let idx := e.1 / 256
  let v := beNat e.2
  if v ≥ 32 then s
  else if 0x3000 ≤ idx ∧ idx < 0x3400 ∧ idx % 32 = 0x17 then
    let c := (idx - 0x3000) / 32
    ((s.setBit F.PCH_STATUS_spare_busy c 0 true).setFld F.PCH_STATUS_spare_pos c 0 v).setBit F.PCH_CH_STATE_spare c v true
  else if idx = 0x4401 then
    let q := e.1 % 256
    ((s.setBit F.SMU_QSTATUS_spare_busy q 0 true).setFld F.SMU_QSTATUS_spare_pos q 0 v).setSmuBit F.SMU_STATE_spare (32 * q + v) true
  else s

/-- A stored value is loaded into the registers behind it. -/
def State.loadStored (s : State) (e : Nat × List Byte) : State :=
  let idx := e.1 / 256
  let n := e.1 % 256
  let b := e.2
  if idx = 0x2003 then s.loadSel (beNat b == 255) (if beNat b = 255 then s.fld F.TB_CTRL_tk_pos else beNat b)
  else if idx = 0x2200 then s.setBudget (beNat b)
  else if idx = 0x2201 then s.setFld F.TLY_CTRL_analog_reserve 0 0 (beNat b)
  else if 0x3000 ≤ idx ∧ idx < 0x3400 then
    let c := (idx - 0x3000) / 32
    if idx % 32 = 0x10 then (s.setFld F.PCH_ENV_vmin c n (levelCode (sub8 b 0 8))).setFld F.PCH_ENV_vmax c n (levelCode (sub8 b 8 8))
    else if idx % 32 = 0x11 then s.setFld F.PCH_ENV_I_imax_ua c n (currentCode (sub8 b 0 8) 65535)
    else s
  else if idx = 0x4009 then
    let s := s.setFld F.SMU_ENV_V_vmin_mv (smuQ n) (smuN n) (ofSigned 16 (clampInt (-32768) 32767 (ceilDivInt (sub8 b 0 8) 1000000)))
    s.setFld F.SMU_ENV_V_vmax_mv (smuQ n) (smuN n) (ofSigned 16 (clampInt (-32768) 32767 (sub8 b 8 8 / 1000000)))
  else if idx = 0x400A then
    s.setFld F.SMU_ENV_I_imax_ua (smuQ n) (smuN n) (clampInt 0 1048575 (sub8 b 0 8 / 1000000000)).toNat
  else if idx = 0x480B then
    let s := s.setFld F.WAV_ENV_vmin_mv (n / 32) (n % 32) (ofSigned 16 (clampInt (-32768) 32767 (ceilDivInt (sub8 b 0 8) 1000000)))
    s.setFld F.WAV_ENV_vmax_mv (n / 32) (n % 32) (ofSigned 16 (clampInt (-32768) 32767 (sub8 b 8 8 / 1000000)))
  else if 0x5400 ≤ idx ∧ idx < 0x5600 ∧ idx % 16 = 2 then
    let c := (idx - 0x5400) / 16
    ((s.setFld F.TMG_FIX_DRV_fix_drv c n (ofSigned 18 (sub8 b 0 4))).setFld F.TMG_FIX_CMP_fix_cmp c n (ofSigned 18 (sub8 b 4 4))).tmgTouch c
  else if 0x5800 ≤ idx ∧ idx < 0x5A00 ∧ idx % 16 = 9 then
    s.setFld F.SEQ_WLIMIT_limit_us ((idx - 0x5800) / 16) 0 (min 4294967295 (ceilDiv (beNat b) 1000000))
  else if idx = 0x6F05 then s.setFld F.RCK_RING_CFG_hwm_pct 32 0 (beNat b)
  else if idx = 0x9005 then s.setFld F.FC_ESC_esc_us 0 0 (clampNat 100 1000000 (ceilDiv (beNat b) 1000000))
  else if idx = 0x9023 then s.setFld F.BST_LIMIT_limit_ms 0 0 (min 4294967295 (ceilDiv (beNat b) 1000000000))
  else s

/-! ### The steps of Table 20.8 -/

/-- Step 6: training, then soft post-package repair of the candidate rows (R528, R580); `bad` are the stacks that fail to train. -/
def State.trainStack (bad : List Nat) (s : State) (n : Nat) : State :=
  if bad.contains n then
    let (o, s) := s.draw 4096
    s.report (32 + n) sevChip (detail clsDram o)
  else
    let x := s.stack n
    let s := s.setStack n { x with trained := true, remapped := x.cands }
    x.cands.foldl (fun s r => s.logRepair (32 + n) (rowDet r) 2 r) s

/-- Step 7: the quick memory BIST (R534): `repairs` are the failures that soft repair covers, `bad` the arrays it cannot repair, each as
4,096 × source + block object. How many arrays there are is not stated. -/
def State.memBist (s : State) (bad repairs : List Nat) : State :=
  let (n, s) := s.draw 4294967296
  let s := { s with bist := { s.bist with
    softMap := s.bist.softMap ++ repairs, startTested := n, startRepaired := repairs.length, startBad := bad.length } }
  bad.foldl (fun s x => s.report (x / 4096 % 63) sevDegraded (detail clsBlock (x % 4096))) s

/-- The stored customer image is reloaded (R561): with a key enrolled only when the stored modulus and the signature are right. -/
def State.reloadImage (s : State) : State :=
  let m := (Tbl.find s.stored (odKey 0x8105 0)).getD []
  match s.tr.keys.getLast? with
  | some k =>
    if Config.sha512 m ≠ Config.sha512 k then (s.setBit F.SEC_STATUS_key_mismatch 0 0 true).report 54 sevDegraded (detail clsNone 0)
    else
      (match Tbl.find s.stored (odKey 0x5A00 0) with
      | some b => if s.imageSigned b then s.imageInForce b else s.report 54 sevDegraded (detail clsNone 0)
      | none => s)
  | none =>
    match Tbl.find s.stored (odKey 0x5A00 0) with
    | some b => s.imageInForce b
    | none => s

/-- Step 9: the calibration set is selected and loaded, stored values are restored, and the block enables are set. The BOND lines come up
last, on the stored timekeeper selection (R590), with their first calibration (R48). -/
def State.loadAll (s : State) : State :=
  let was := s.cal.nvm
  let s := s.stored.foldl State.reapplySpare s
  let s := s.selectCal
  let s := if s.cal.nvm = was then s else s.programCal.pass (ms 834)
  let s := (List.range 32).foldl (fun s c => s.tempTimingAll c) s
  let s := s.applyCal.loadBases
  let s := s.stored.foldl State.loadStored s
  let s := (List.range 32).foldl (fun s c => (s.setBit F.PCH_CTRL_en c 0 true).setBit F.SEQ_CTRL_en c 0 true) s
  let s := (List.range 4).foldl (fun s q => s.setBit F.SMU_QCTRL_en q 0 true) s
  let s := (List.range 2).foldl (fun s q => s.setBit F.WAV_HCTRL_en q 0 true) s
  ((s.setBit F.ACQ_CTRL_en 0 0 true).setBit F.FLN_CTRL_en 0 0 true).linesStart

/-- The arg field of a start-up record (Table 18.7). -/
def State.startArg (s : State) : List Byte :=
  [BitVec.ofNat 8 s.pw.cause, BitVec.ofNat 8 s.tr.bank] ++ toLe 2 (match s.cal.force with | some x => x.gen | none => 0) ++
    toLe 4 (s.fwBank s.tr.bank).release

/-- The end of step 10: Safe is entered, the count rises, the record is written, and the standby pair starts the bank in force. -/
def State.startDone (s : State) : State :=
  let s := { s with
    pw := { s.pw with startStep := 11, startups := s.pw.startups + 1, startDone := s.tb.loc }
    md := { s.md with safeCause := 0, safeAt := s.now } }
  -- the record's source is not stated: a free value
  let (src, s) := s.draw 64
  let s := s.logFault 4 src 0 0 0 s.startArg
  s.setBit F.KEY_STATUS_standby_ok 0 0 true

/-- One step of Table 20.8 ends. -/
def State.startupStep (s : State) (bad repairs : List Nat) : State :=
  match s.pw.startStep with
  | 3 => s.bootRom bad
  | 4 => s.mountJournal
  | 6 => (List.range 4).foldl (State.trainStack bad) s
  | 7 => s.memBist bad repairs
  | 8 =>
    let v := (s.fwBank s.tr.bank).release
    (({ s with tr := { s.tr with vendorRelease := v } }).loadVendor v).reloadImage
  | 9 => s.loadAll
  | 10 =>
    let s := if bad.contains 0 then s else s.portUp 0
    (if bad.contains 1 then s else s.portUp 1).ptpFollow.startDone
  | _ => s

/-- STARTUP_STEP_COMPLETE (R579, R580): the step in progress ends `dt` ticks later. Step 2 ends with the first complete set of thermal
samples, step 5 once Shutdown is released (R113); `bad` are the banks, stacks, arrays or ports that fail in steps 3, 6, 7 and 10. -/
def execStartupStepComplete (dt : Nat) (bad repairs : List Nat) (s : State) : Host.Outcome State Fault Refusal :=
  let n := s.pw.startStep
  if n = 0 ∨ 11 ≤ n ∨ s.tr.recovery ∨ s.pw.resetLow ∨ !s.pw.powered then .next s
  else if n = 2 ∧ !s.bit F.THM_STATUS_first_set then .next s
  else if n = 5 ∧ s.bit F.THM_STATUS_shutdown then
    if s.pw.waitLogged then .next s
    else .next (({ s with pw := { s.pw with waitLogged := true } }).logFault 4 42 0 s.tmaxDetail 0 s.startArg)
  else
    -- the steps take at most 1.5 s together (R579)
    let d := min dt (ms 1500 - s.pw.startUsed)
    let s := ({ s with pw := { s.pw with startUsed := s.pw.startUsed + d } }.pass d).startupStep bad repairs
    .next (if s.pw.startStep = n ∧ !s.tr.recovery then { s with pw := { s.pw with startStep := n + 1 } } else s)

/-! ### Rails and ALIVE (R574, R583) -/

/-- RAIL_OUT_OF_RANGE (R574): rail `r` has stayed outside its range for 100 µs. -/
def execRailOutOfRange (r : Nat) (s : State) : Host.Outcome State Fault Refusal :=
  let x := Tbl.get s.pw.rails {} r
  match x.outSince with
  | none => .next s
  | some t =>
    if 11 ≤ r ∨ !s.pw.powered ∨ s.pw.resetLow then .next s
    else if x.outTold then
      -- the condition still holds after its bit was cleared: it reports again (R517)
      .next (if s.srcSet 43 then s else s.report 43 (if 4 ≤ r ∧ r ≤ 8 then sevChip else sevDegraded) (detail clsRail r))
    else
      let s := s.reachLoc (t + us 100)
      let s := { s with pw := { s.pw with
        rails := Tbl.put s.pw.rails r { x with outTold := true }, railCount := Tbl.put s.pw.railCount r (Tbl.get s.pw.railCount 0 r + 1) } }
      let s := s.setBitIn F.PWR_STATUS_out_evt 0 0 r
      .next (s.report 43 (if 4 ≤ r ∧ r ≤ 8 then sevChip else sevDegraded) (detail clsRail r))

/-- ALIVE_TOGGLE (R583): the firmware of the active pair toggles ALIVE every 500 µs ± 50 µs; where in it is open. In an outage it waits. -/
def execAliveToggle (s : State) : Host.Outcome State Fault Refusal :=
  if !s.ks.running ∨ s.ks.outage ∨ s.thm.halted then .next s
  else
    let (d, s) := s.draw (us 100 + 1)
    let s := s.reachLoc (s.pw.aliveAt + us 450 + d)
    .next { s with pw := { s.pw with alive := !s.pw.alive, aliveAt := s.tb.loc } }

/-- The level of ALIVE (R583): low while no firmware runs, in Thermal Halt, and 2 ms after firmware service was lost. -/
def State.aliveHigh (s : State) : Bool :=
  s.pw.alive && s.ks.running && !s.thm.halted && !(s.ks.outage && decide (s.ks.outageAt + ms 2 ≤ s.tb.loc))

end Sys2Proof.Machine
end

