-- ==== Sys2Proof/Machine/Trust.lean ====
section
/-! DEFINITION. Firmware banks, the hitless switch, anti-rollback, the customer key and attestation (R550 to R561). -/

namespace Sys2Proof.Machine

/-- Codes of KEY_STATUS.switch_state. -/
def swIdle : Nat := 0
def swLoading : Nat := 1
def swStaged : Nat := 2
def swSwitching : Nat := 3
def swProbation : Nat := 4
def swFailed : Nat := 5
def swReverted : Nat := 6

/-- The switch's state. -/
def State.switchState (s : State) : Nat := s.fld F.KEY_STATUS_switch_state
/-- Gives the switch its state. -/
def State.setSwitch (s : State) (v : Nat) : State := s.setFld F.KEY_STATUS_switch_state 0 0 v
/-- A bank takes a value. -/
def State.setBank (s : State) (b : Nat) (x : FwBank) : State := { s with tr := { s.tr with banks := s.tr.banks.set b x } }

/-! ### Anti-rollback (R553) -/

/-- OD 0x8104.00: the counter rises to the rollback value of the bank in force. -/
def wrRollback (h : Hdr) (d : Sys2Proof.Data) (s : State) : State × Nat :=
  s.item490 h d tBool anyLen false (fun s =>
    (if dFlag d then { s with tr := { s.tr with rollback := max s.tr.rollback (s.fwBank s.tr.bank).rollback } } else s, eOk))
/-- ROLLBACK_ADVANCE (R553). -/
def execRollbackAdvance (h : Hdr) (d : Data) (s : State) : Host.Outcome State Fault Refusal :=
  .next (s.hostItem (.rollbackAdvance h d) h (wrRollback h d))

/-! ### Enrolment (R560) -/

/-- A modulus is programmed into the next slot, and kept in the journal. -/
def State.enrol (s : State) (m : List Byte) : State :=
  ({ s with tr := { s.tr with keys := s.tr.keys ++ [m] } }).journal (odKey 0x8105 0) m

/-- OD 0x8105.00. -/
def wrEnrol (h : Hdr) (d : Sys2Proof.Data) (s : State) : State × Nat :=
  s.item490 h d tBlob (fun n => n == 512 || n == 1024) false (fun s =>
    let m := d.bytes.take 512
    if s.md.mode != .safe then (s, eModeConflict)
    else
      match s.tr.keys with
      | [] => (s.enrol m, eOk)
      | [k] =>
        if d.bytes.length == 1024 && Config.sigOk k (d.bytes.drop 512) m then (s.enrol m, eOk)
        else (s.setBit F.SEC_STATUS_sig_fail 0 0 true, eSignature)
      | _ => (s, eAccessDenied))
/-- KEY_ENROL (R560). -/
def execKeyEnrol (h : Hdr) (d : Data) (s : State) : Host.Outcome State Fault Refusal :=
  .next (s.hostItem (.keyEnrol h d) h (wrEnrol h d))

/-! ### Loading the idle bank (R550 to R554) -/

/-- A load cancels a switch that has not reached SWITCHING (R554). -/
def State.cancelSwitch (s : State) : State :=
  if s.switchState = swLoading ∨ s.switchState = swStaged then
    ({ s with tr := { s.tr with loadAt := none, stagedAt := none, buffering := false } }).setSwitch swIdle
  else s

/-- The bank that a load goes to: the one not in force, or bank A in the recovery service. -/
def State.loadTo (s : State) : Nat := if s.tr.recovery then 0 else 1 - s.tr.bank

/-- A load opens: the switch is cancelled and the bank is erased. -/
def State.openLoad (s : State) : State :=
  let s := s.cancelSwitch
  let x : FwBank := {}
  s.setBank s.loadTo x

/-- The checks of R551 on an image laid out as Table 19.6. -/
def fwOk (counter : Nat) (b : List Byte) : Bool :=
  let l := leNat ((b.drop 12).take 4)
  leNat (b.take 4) == 0x444E4657 && leNat ((b.drop 4).take 2) == 1 && decide (counter ≤ leNat ((b.drop 6).take 1)) &&
    decide (1 ≤ l) && decide (l ≤ 33553856) && b.length == 64 + l + 512 &&
    Config.sigOk Config.fwKey (b.drop (64 + l)) (b.take (64 + l))

/-- After an image for the recovery service has verified, the full start-up runs from the boot ROM (R552). -/
def State.bootAgain (s : State) : State :=
  let s := s.hardReset true
  { s with pw := { s.pw with startStep := 3, t0 := s.tb.loc } }

/-- An image's bytes have arrived: it is checked, and the bank holds it or stays empty. -/
def State.endLoad (s : State) (b : List Byte) : State × Nat :=
  if fwOk s.tr.rollback b then
    let x : FwBank := {
      release := leNat ((b.drop 8).take 4), rollback := leNat ((b.drop 6).take 1), loaded := true, pass := true, digest := Config.sha512 b }
    let rec_ := s.tr.recovery
    let s := s.setBank s.loadTo x
    (if rec_ then s.bootAgain else s, eOk)
  else (s.setBit F.SEC_STATUS_sig_fail 0 0 true, eSignature)

/-- OD 0x8107.00. -/
def wrIdleBank (h : Hdr) (d : Sys2Proof.Data) (s : State) : State × Nat :=
  s.item490 h d tBlob anyLen false (fun s => s.openLoad.endLoad d.bytes)
/-- IDLE_BANK_LOAD (R554): the recovery service takes it too (R552). -/
def execIdleBankLoad (h : Hdr) (d : Data) (s : State) : Host.Outcome State Fault Refusal :=
  .next (s.request (.idleBankLoad h d) h (fun s =>
    let (s', c) := wrIdleBank h d s
    s'.answerWrite s.eth.jrn.length h c (if c = 0 then 1 else 0)))

/-! ### The hitless switch (R555 to R557) -/

/-- OD 0x8108.00: the sequence starts unless it is under way. -/
def wrSwitch (h : Hdr) (d : Sys2Proof.Data) (s : State) : State × Nat :=
  s.item490 h d tBool anyLen false (fun s =>
    (if dFlag d && (s.switchState == swIdle || s.switchState == swFailed || s.switchState == swReverted) then
      ({ s with tr := { s.tr with loadAt := some s.tb.loc } }).setSwitch swLoading else s, eOk))
/-- FIRMWARE_SWITCH (R555). -/
def execFirmwareSwitch (h : Hdr) (d : Data) (s : State) : Host.Outcome State Fault Refusal :=
  .next (s.hostItem (.firmwareSwitch h d) h (wrSwitch h d))

/-- SWITCH_LOADED (R555, step 1): within 200 ms of the start of LOADING the standby pair has verified and started the new
firmware, or has failed to. -/
def execSwitchLoaded (ok : Bool) (s : State) : Host.Outcome State Fault Refusal :=
  if s.switchState ≠ swLoading ∨ !s.ks.running ∨ s.ks.outage then .next s
  else
    let (d, s) := s.draw (ms 200 + 1)
    let s := s.reachLoc (s.tr.loadAt.getD s.tb.loc + d)
    let s := { s with tr := { s.tr with loadAt := none } }
    let b := 1 - s.tr.bank
    let x := s.fwBank b
    if ok && x.loaded && decide (s.tr.rollback ≤ x.rollback) then
      .next (({ s with tr := { s.tr with stagedAt := some s.tb.loc } }).setSwitch swStaged)
    else .next (((s.setBank b { x with pass := false }).setSwitch swFailed).report 54 sevDegraded (detail clsNone 0))

/-- SWITCH_QUIET_POINT (R555, steps 2 and 3): with no request, program or erase in progress the active pair freezes. Where none of them
has ended within 100 ms, new requests are buffered until a quiet point comes. -/
def execSwitchQuietPoint (s : State) : Host.Outcome State Fault Refusal :=
  match s.tr.stagedAt with
  | none => .next s
  | some t =>
    if s.switchState ≠ swStaged ∨ s.ks.outage then .next s
    else if s.nvmBusy || s.nvm.eraseOf.isSome then
      let s := s.reachLoc (t + ms 100)
      .next { s with tr := { s.tr with buffering := true } }
    else
      .next (({ s with
        ks := { s.ks with outage := true, outageAt := s.tb.loc }
        tr := { s.tr with freezeAt := some s.tb.loc, stagedAt := none, buffering := false } }).setSwitch swSwitching)

/-- The other bank comes into force with the other pair; its vendor microcode waits for Safe (R303, R557). -/
def State.swapPair (s : State) : State :=
  let b := 1 - s.tr.bank
  let r := (s.fwBank b).release
  let s := { s with tr := { s.tr with bank := b, vendorPend := if r = s.tr.vendorRelease then none else some r } }
  (s.setFld F.KEY_STATUS_bank 0 0 b).setBit F.KEY_STATUS_pair 0 0 (!s.bit F.KEY_STATUS_pair)

/-- The boot record names a preferred bank: a journal record with the outcomes of the checks (R551, R555, R563). -/
def State.prefer (s : State) (b : Nat) : State :=
  ({ s with tr := { s.tr with preferred := b } }).program (jKey 8 0) (toLe 1 b ++ toLe 1 s.tr.bootA ++ toLe 1 s.tr.bootB)

/-- PROBATION_END (R555, step 5). -/
def execProbationEnd (s : State) : Host.Outcome State Fault Refusal :=
  match s.tr.probationEnd with
  | none => .next s
  | some t =>
    if s.switchState ≠ swProbation ∨ s.ks.outage then .next s
    else
      let s := s.reachLoc t
      let s := { s.prefer s.tr.bank with tr := { (s.prefer s.tr.bank).tr with probationEnd := none } }
      .next (((s.setSwitch swIdle).setBit F.KEY_STATUS_switched 0 0 true).setBit F.KEY_STATUS_standby_ok 0 0 true)

/-- The old pair takes over again (R556): service stops until it resumes on the old bank. -/
def State.revert (s : State) : State :=
  let s := if s.switchState = swProbation then s.swapPair else s
  let s := { s with
    ks := { s.ks with outage := true, outageAt := if s.ks.outage then s.ks.outageAt else s.tb.loc, changing := false }
    tr := { s.tr with probationEnd := none, freezeAt := none } }
  let s := ((s.setSwitch swReverted).setBit F.KEY_STATUS_reverted 0 0 true).setBit F.KEY_STATUS_change_over 0 0 true
  s.report 37 sevDegraded (detail clsBlock 0x01)

/-- SWITCH_REVERT (R556): the new firmware has not served a request within 300 µs of the freeze, or has failed in probation. -/
def execSwitchRevert (s : State) : Host.Outcome State Fault Refusal :=
  if s.switchState = swProbation ∨ s.switchState = swSwitching then .next s.revert else .next s

/-! ### Attestation (R558, R559) -/

/-- OD 0x8102.00. -/
def wrNonce (h : Hdr) (d : Sys2Proof.Data) (s : State) : State × Nat :=
  s.item490 h d tBlob (fun n => n == 32) false (fun s => ({ s with tr := { s.tr with nonce := d.bytes } }, eOk))
/-- QUOTE_NONCE_WRITE (R559). -/
def execQuoteNonceWrite (h : Hdr) (d : Data) (s : State) : Host.Outcome State Fault Refusal :=
  .next (s.hostItem (.quoteNonceWrite h d) h (wrNonce h d))

/-- A bank's digest: zeros for an empty or failed bank. -/
def FwBank.quoted (b : FwBank) : List Byte := if b.loaded && b.pass then b.digest else List.replicate 64 0

/-- SHA-512 of the calibration set in force, or of the nominal coefficients while there is none. -/
def State.calDigest (s : State) : List Byte := Config.sha512 (tblBytes s.calData calBytes)

/-- SHA-512 of the enrolled key; zeros when none. -/
def State.keyDigest (s : State) : List Byte :=
  match s.tr.keys.getLast? with
  | some k => Config.sha512 k
  | none => List.replicate 64 0

/-- A calibration slot's state: 1 valid, 2 revoked. -/
def CalSlot.code (x : CalSlot) : Nat := if x.revoked then 2 else if x.valid then 1 else 0

/-- Bytes 0 to 479 of the quote (Table 19.8). -/
def State.quoteBody (s : State) : List Byte :=
  let store := if s.bit F.CAL_STATUS_absent then 2 else s.fld F.CAL_STATUS_store
  toBe 4 0x41545131 ++ toBe 2 1 ++ [0, 0] ++ s.tr.nonce ++ time80 s.now ++ s.od 0x2002 0 (toBe 4 0xFFFFFFFF) ++ Config.serial.toList ++
    (s.fwBank 0).quoted ++ (s.fwBank 1).quoted ++ toBe 1 s.tr.bank ++ toBe 1 s.tr.rollback ++ s.seq.cust.digest ++ toBe 4 s.seq.cust.version ++
    toBe 2 (s.fld F.CAL_STATUS_gen) ++ toBe 1 store ++ toBe 1 s.tr.keys.length ++ s.calDigest ++
    Config.sha512 (Config.fuseImage (s.cal.slots.map CalSlot.code)
      (s.bist.fuseField.map (fun (e : Nat × Bool) => 2 * e.1 + e.2.toNat)) (s.tr.keys.map Config.sha512) s.tr.rollback) ++
    s.keyDigest ++ List.replicate 16 0

/-- The quote, signed with the identity key. -/
def State.quote (s : State) : List Byte := s.quoteBody ++ (Config.sign s.quoteBody).toList

/-- ATTESTATION_QUOTE (R559): a READ request of OD 0x8102.01. -/
def execAttestationQuote (h : Hdr) (s : State) : Host.Outcome State Fault Refusal :=
  .next (s.request (.attestationQuote h) h (fun s => if s.tr.recovery then s.answer h eNoObject 0 [] else s.answer h eOk 1 [dataItem 0x8102 1 tBlob s.quote]))

end Sys2Proof.Machine
end

