-- ==== Sys2Proof/Machine/OdRead.lean ====
section
/-! DEFINITION. What a read of each dictionary entry returns, most significant byte first (R471, R489 to R492, R496). -/

namespace Sys2Proof.Machine

/-! ### Encoders -/

/-- A signed value of `n` bytes. -/
def toBeI (n : Nat) (x : Int) : List Byte := toBe n (ofSigned (8 * n) x)
/-- A duration or instant in ticks as picoseconds (U64). -/
def psOf (t : Nat) : List Byte := toBe 8 (ticksToPs t)
/-- A list of numbers of `n` bytes each. -/
def toBes (n : Nat) (l : List Nat) : List Byte := l.flatMap (toBe n)
/-- A set of numbers as a mask of `n` bytes, bit k for number k. -/
def maskBytes (n : Nat) (l : List Nat) : List Byte := toBe n (maskOf l)
/-- Bytes cut or filled with zeros to a length. -/
def fillTo (n : Nat) (b : List Byte) : List Byte := (b ++ List.replicate (n - b.length) 0).take n
/-- An instant that may not have come yet. -/
def time80? (t : Option Nat) : List Byte := match t with | some t => time80 t | none => List.replicate 10 0
/-- A value that the state gives without any free draw. -/
def State.gives (s : State) (b : List Byte) : List Byte × State := (b, s)
/-- `n` bytes whose value is open. -/
def State.openBytes (s : State) (n : Nat) : List Byte × State :=
  let (x, s) := s.draw (256 ^ n)
  (toBe n x, s)

/-- A register's word: element `n` of instance `i` of the register at an offset. -/
def State.image (s : State) (blk off i n : Nat) : Nat :=
  match (blockRows blk).find? (fun r => r.off == off && decide (r.iLo ≤ i) && decide (i ≤ r.iHi)) with
  | some r => r.fields.foldl (fun a f => if f.acc = .sc then a else a + s.fld f i n * 2 ^ f.lo) 0
  | none => 0

/-- A signed register field. -/
def State.sfld (s : State) (f : Fld) (i n : Nat) : Int := toSigned f.wid (s.fld f i n)

/-- Reads of items of a site. -/
def State.itemBytes (s : State) (site first n : Nat) : List Byte := (List.range n).flatMap (fun k => toBe 8 (s.itemRead site (first + k)))

/-! ### Identity, modes, time, bonds and Tally -/

/-- A bank's release, 0 when it is empty or failed. -/
def FwBank.shown (b : FwBank) : Nat := if b.loaded && b.pass then b.release else 0

/-- Table 17.2. -/
def State.readIdent (s : State) (idx : Nat) : List Byte × State :=
  match idx with
  | 0x1000 => s.gives (toBe 4 0x50487680)
  | 0x1001 => s.gives [0xB0]
  | 0x1002 => if s.tr.recovery then s.openBytes 4 else s.gives (toBe 4 (s.fwBank s.tr.bank).release)
  | 0x1003 => if s.tr.recovery then s.openBytes 1 else s.gives (toBe 1 s.tr.bank)
  | 0x1004 => s.gives (toBe 4 (s.fwBank 0).shown ++ toBe 4 (s.fwBank 1).shown)
  | 0x1005 => s.gives Config.serial.toList
  | 0x1006 => s.gives (toBe 1 s.tb.posId)
  | 0x1007 => s.gives (toBe 2 0x0400)
  | 0x1008 => s.gives (if 11 ≤ s.pw.startStep then psOf (s.tb.loc - s.pw.startDone) else toBe 8 0)
  | 0x1009 => s.gives (toBe 4 s.pw.startups)
  | _ => s.gives (toBe 1 s.pw.cause)

/-- Table 4.7. -/
def State.readMode (s : State) (idx : Nat) : List Byte × State :=
  s.gives <| match idx with
  | 0x1100 => toBe 1 s.md.mode.code
  | 0x1102 =>
    (match s.md.pend with
    | p :: _ => toBe 1 p.target.code ++ time80? p.t
    | [] => 0xFF :: List.replicate 10 0)
  | 0x1103 => toBe 1 s.md.safeCause ++ time80 s.md.safeAt
  | 0x1104 => toBe 8 s.md.quietCount
  | 0x1105 => psOf s.md.quietTotal
  | 0x1106 => toBe 8 s.md.limitCount
  | _ => toBe 8 s.md.changes

/-- The card roster: 64 × (chip number U32, POS_ID, mode, time state), by POS_ID; places without a chip are zero (log entry 32). -/
def State.rosterBytes (s : State) : List Byte :=
  fillTo 448 ((s.tb.roster.filter (fun (e : Nat × RosterEntry) => !e.2.unassigned)).flatMap (fun (e : Nat × RosterEntry) => toBe 4 e.2.chip ++ [BitVec.ofNat 8 e.1, BitVec.ofNat 8 e.2.mode, BitVec.ofNat 8 e.2.tstate]))

/-- Ticks as picoseconds, signed. -/
def psOfInt (t : Int) : Int := roundAway (t * 1000) 4096

/-- OD 0x2000 to 0x200C (Table 2.11). -/
def State.readTime (s : State) (idx : Nat) : List Byte × State :=
  s.gives <| match idx with
  | 0x2000 => time80 s.now
  | 0x2001 => toBe 1 (s.fld F.TB_STATUS_time_state)
  | 0x2002 => toBe 4 s.chipNumber
  | 0x2003 => s.od 0x2003 0 [0xFF]
  | 0x2004 => toBeI 8 (psOfInt s.tb.servoOffset)
  | 0x2005 => s.od 0x2005 0 (toBe 8 10000000000000)
  | 0x2006 => toBeI 4 (s.sfld F.TB_SYNC_OFFSET_offset 0 0)
  | 0x2007 => toBeI 4 s.tb.trim
  | 0x2008 => toBe 8 s.tb.lateCount
  | 0x2009 => toBe 8 s.tb.leadShort
  | 0x200B => s.rosterBytes
  | _ => toBe 8 s.tb.crcCount

/-- A slot state's code. -/
def SlotState.code : SlotState → Nat
  | .empty => 0 | .defined => 1 | .forming => 2 | .active => 3 | .held => 4 | .rejoined => 5 | .formFailed => 6

/-- The partition log: kind, bond ID and instant of each entry, unanswered DEFERs last (R81; log entry 32). -/
def BondSlot.logBytes (b : BondSlot) : List Byte :=
  (b.log ++ b.unanswered.map (fun (t : Nat) => (⟨2, b.id, t⟩ : PartLog))).flatMap (fun (e : PartLog) => toBe 1 e.kind ++ toBe 2 e.bond ++ time80 e.inst)

/-- OD 0x2100 + n (Table 2.11). -/
def State.readBond (s : State) (n sub : Nat) : List Byte × State :=
  let b := s.bond n
  match sub with
  | 1 => s.gives (toBe 2 b.id)
  | 2 => s.gives (toBe 4 b.quoin)
  | 3 =>
    match Tbl.find s.dict (odKey (0x2100 + n) 3) with
    | some l => s.gives l
    | none => s.openBytes 256
  | 4 => s.gives (maskBytes 32 b.sites)
  | 5 => s.gives (toBe 1 b.st.code)
  | 6 => s.gives (toBe 1 (match b.medium with | .lines => 0 | .eth => 1))
  | 0xA => s.gives (psOf b.latMaxPub)
  | 0xB => s.gives (psOf b.latMeanPub)
  | 0xC => s.gives (toBe 8 b.splits)
  | _ => s.gives b.logBytes

/-- OD 0x2200 to 0x2208 (Table 3.6). -/
def State.readTally (s : State) (idx sub : Nat) : List Byte × State :=
  s.gives <| match idx with
  | 0x2200 => toBe 4 (s.fld F.TLY_BUDGET_budget_mw)
  | 0x2201 => toBe 1 (s.fld F.TLY_CTRL_analog_reserve)
  | 0x2202 => toBe 2 (s.fld F.TLY_CORR_k)
  | 0x2203 => toBe 4 (s.tally.base.getD (sub - 1) 0)
  | 0x2204 => toBe 4 (s.fld F.TLY_MEAS_p_meas_mw)
  | 0x2205 => toBe 2 (s.fld F.TLY_MULT_m_q)
  | 0x2206 => toBe 8 s.tally.refusals
  | 0x2207 => toBe 8 s.tally.releases
  | _ => toBe 4 s.smuTotal

/-- OD 0xB000 to 0xB006 (Table 3.6). -/
def State.readThermal (s : State) (idx : Nat) : List Byte × State :=
  s.gives <| match idx with
  | 0xB000 => toBeI 4 s.thm.tmax
  | 0xB001 => (List.range 69).flatMap (fun k => toBeI 4 (s.sensorNow k))
  | 0xB002 => toBe 1 (s.fld F.THM_STATUS_warning + 2 * s.fld F.THM_STATUS_throttle + 4 * s.fld F.THM_STATUS_shutdown)
  | 0xB003 => toBe 1 (s.fld F.THM_STATUS_tmax_src)
  | 0xB004 => maskBytes 9 s.thm.failed
  | 0xB005 =>
    (match s.thm.lastHalt with
    | some (t, x, n) => time80 t ++ toBeI 4 x ++ toBe 1 n
    | none => List.replicate 15 0)
  | _ => toBe 4 s.thm.haltCount

/-! ### Pin channels (Table 5.8) -/

/-- OD 0x3000 + 32c + fn. -/
def State.readPin (s : State) (c fn n : Nat) : List Byte × State :=
  let lv := fun (f : Fld) => toBeI 8 (levelNv (s.fld f c n))
  let ua := fun (f : Fld) => toBe 8 (s.fld f c n * 1000000000)
  s.gives <| match fn with
  | 0x00 => toBe 1 (s.image 0x06 0x134 c n)
  | 0x01 => lv F.PCH_DRV_LVL_vih
  | 0x02 => lv F.PCH_DRV_LVL_vil
  | 0x03 => lv F.PCH_TERM_LVL_vt
  | 0x04 => lv F.PCH_CMP_LVL_voh
  | 0x05 => lv F.PCH_CMP_LVL_vol
  | 0x06 => lv F.PCH_TERM_LVL_vcom
  | 0x07 => ua F.PCH_LOAD_ioh_ua
  | 0x08 => ua F.PCH_LOAD_iol_ua
  | 0x09 => toBe 4 (s.image 0x06 0x110 c n)
  | 0x0A => toBe 4 (s.image 0x06 0x124 c n)
  | 0x0B => toBe 4 (s.image 0x06 0x128 c n)
  | 0x0C => toBe 4 (s.image 0x06 0x114 c n)
  | 0x0D =>
    if s.fld F.PCH_PMU_CFG_fmode c n = 1 then
      toBeI 8 (roundAway (s.sfld F.PCH_PMU_FORCE_force c n * (pmuRange (s.fld F.PCH_PMU_CFG_range c n) * 1000000000 : Nat)) 524288)
    else toBeI 8 (roundAway ((s.fld F.PCH_PMU_FORCE_force c n : Int) * 15625) 2 - 1500000000)
  | 0x0E => toBe 8 (s.fld F.PCH_PMU_APER_delay_us c n * 1000000) ++ toBe 8 (s.fld F.PCH_PMU_APER_aper c n * 10000)
  | 0x0F => lv F.PCH_PMU_CLAMP_vclamp_lo ++ lv F.PCH_PMU_CLAMP_vclamp_hi
  | 0x10 => lv F.PCH_ENV_vmin ++ lv F.PCH_ENV_vmax
  | 0x11 => ua F.PCH_ENV_I_imax_ua
  | 0x13 => toBe 8 (s.pch c n).trips
  | 0x14 => toBeI 8 (s.pch c n).lastPmu
  | 0x15 => toBe 8 (s.pch c n).clamps
  | 0x17 => toBe 1 (if s.bit F.PCH_STATUS_spare_busy c then s.fld F.PCH_STATUS_spare_pos c else 255)
  | _ => toBe 8 (s.pch c n).held

/-! ### SMUs and waveform channels (Tables 11.7 and 12.7) -/

/-- OD 0x4000 to 0x4402. -/
def State.readSmu (s : State) (idx m : Nat) : List Byte × State :=
  let q := smuQ m
  let n := smuN m
  let fi := s.smuFld F.SMU_CFG_fmode m == 1
  let full := fun (cur : Bool) => if cur then smuAmp (s.smuFld F.SMU_CFG_irange m) else smuVolt (s.smuFld F.SMU_CFG_vrange m)
  let code := fun (cur : Bool) (f : Fld) => toBeI 8 (smuValue (full cur) (s.sfld f q n))
  s.gives <| match idx with
  | 0x4000 => toBe 1 ((s.smuSettle m).image 0x0D 0x134 q n)
  | 0x4001 => toBe 4 (s.image 0x0D 0x100 q n)
  | 0x4002 => code fi F.SMU_FORCE_CODE_force
  | 0x4003 => code (!fi) F.SMU_CLAMP_LO_clamp ++ code (!fi) F.SMU_CLAMP_HI_clamp
  | 0x4004 => code (!fi) F.SMU_MON_LO_mon ++ code (!fi) F.SMU_MON_HI_mon
  | 0x4005 => toBe 4 (s.image 0x0D 0x118 q n)
  | 0x4006 => toBe 8 (s.fld F.SMU_PULSE_width_ns q n * 1000)
  | 0x4007 => toBe 4 (s.fld F.SMU_SLEW_slew_mv_us q n * 1000)
  | 0x4008 => toBe 8 (s.fld F.SMU_APER_DLY_ns q n * 1000) ++ toBe 8 (s.fld F.SMU_APER_ns q n * 1000)
  | 0x4009 => toBeI 8 (s.sfld F.SMU_ENV_V_vmin_mv q n * 1000000) ++ toBeI 8 (s.sfld F.SMU_ENV_V_vmax_mv q n * 1000000)
  | 0x400A => toBe 8 (s.fld F.SMU_ENV_I_imax_ua q n * 1000000000)
  | 0x400C => toBe 8 (s.smuCh m).trips
  | 0x400D => toBeI 8 (s.smuCh m).last
  | 0x400E => toBe 8 (s.smuCh m).envClamps
  | 0x400F => toBe 4 (s.smuDiss m)
  | 0x4010 => time80? (s.smuCh m).azAt ++ toBe 4 (s.smuCh m).azRejects
  | 0x4401 => toBe 1 (if s.bit F.SMU_QSTATUS_spare_busy m then s.fld F.SMU_QSTATUS_spare_pos m else 255)
  | _ => toBe 8 (s.smuSum 132).1 ++ toBeI 8 (-((s.smuSum 132).2 : Int))

/-- A waveform code in nV, on the ±10 V scale (R371). -/
def wavNv (x : Int) : Int := roundAway (x * 10000000000) 524288

/-- OD 0x4800 to 0x4880. -/
def State.readWav (s : State) (idx w : Nat) : List Byte × State :=
  let i := w / 32
  let n := w % 32
  let x := s.wavCh w
  s.gives <| match idx with
  | 0x4800 => toBe 2 (s.image 0x0E 0x13C i n)
  | 0x4801 => toBe 4 (s.image 0x0E 0x100 i n)
  | 0x4802 => toBe 8 (s.pair F.WAV_PINC_LO_inc F.WAV_PINC_HI_inc i n)
  | 0x4803 => toBe 2 (s.fld F.WAV_PINC_HI_pofs i n)
  | 0x4804 => toBeI 8 (wavNv (s.fld F.WAV_AMP_code i n))
  | 0x4805 => toBeI 8 (wavNv (s.sfld F.WAV_OFS_code i n))
  | 0x4806 => toBe 4 (s.fld F.WAV_SRATE_rate i n) ++ toBe 4 (s.fld F.WAV_DRATE_rate i n)
  | 0x4807 => toBeI 8 (wavNv (s.fld F.WAV_SLEW_STEP_code i n)) ++ toBe 4 (s.fld F.WAV_SLEW_RATE_rate i n)
  | 0x4808 => toBe 4 (s.fld F.WAV_CAPLEN_samples i n)
  | 0x4809 => toBes 4 [s.fld F.WAV_BUF_FIRST_lines i n, s.fld F.WAV_BUF_LEN_lines i n, s.fld F.WAV_BUF_WR_index i n, s.fld F.WAV_BUF_RD_index i n]
  | 0x480A => toBeI 8 x.lastRed
  | 0x480B => toBeI 8 (s.sfld F.WAV_ENV_vmin_mv i n * 1000000) ++ toBeI 8 (s.sfld F.WAV_ENV_vmax_mv i n * 1000000)
  | 0x480D => toBe 8 x.envClamps
  | 0x480E => time80? x.plumbAt ++ toBe 4 x.plumbRejects
  | _ => toBe 8 s.wav.srcMask ++ toBe 8 s.wav.digMask

/-! ### Patterns, timing, APGs and sequencers -/

/-- The marker settings of OD 0x5003.0m: what the marker block's PAT_MARK holds. -/
def State.markBytes (s : State) (m : Nat) : List Byte := toBe 1 (s.fld F.PAT_MARK_src 32 m) ++ toBeI 4 (s.sfld F.PAT_MARK_offset 32 m)

/-- OD 0x5000 to 0x5003 (Table 7.6). -/
def State.readPat (s : State) (idx sub : Nat) : List Byte × State :=
  let m := s.md.mode
  s.gives <| match idx, sub with
  | 0x5000, 0 => s.od 0x5000 0 [48]
  | 0x5000, _ => toBes 4 [0, s.patLines]
  | 0x5001, _ => toBes 4 [vecShare m, acqShare m, 400, 200, 125, 100, 20, reserveShare m, jumpPool m]
  | 0x5002, _ => toBe 4 s.jumpUse
  | _, _ => s.markBytes sub

/-- A descriptor as it is read: the read-only resident flag of a written one says whether it plays from the buffer (Table 7.3). -/
def descShown (b : List Byte) : List Byte :=
  if descLen b ≠ 0 ∧ descResident b then b.set 16 ((b[16]?.getD 0) ||| 4#8) else b

/-- OD 0x5100 + 8c + fn. -/
def State.readStream (s : State) (c fn : Nat) : List Byte × State :=
  s.gives <| match fn with
  | 1 => s.od (0x5101 + 8 * c) 0 [0, 0]
  | 2 => descShown (s.desc c (beNat (s.od (0x5101 + 8 * c) 0 [0, 0])))
  | 3 => toBe 2 (s.fld F.PAT_STATUS_cur_seg c) ++ toBe 4 (s.fld F.PAT_LOOP_remaining c) ++ toBe 4 (s.fld F.PAT_VIDX_vidx c) ++
      toBe 1 (s.fld F.PAT_STATUS_jlatch c)
  | 4 => toBes 4 [s.vecDemand c, s.jumpLines c, if s.unitEn c then s.rawDemand c else 0]
  | 5 => toBe 8 (s.pair F.PAT_SKIP_LO_skip F.PAT_SKIP_HI_skip c)
  | _ => toBe 8 (s.stream c).jumps

/-- The edges and compare modes of a timing set, staged or active. -/
def edgeBytes (get : Fld → Nat → Nat) (ss : Nat) : List Byte :=
  (List.range 32).flatMap (fun p =>
    (List.range 5).flatMap (fun e => toBe 4 (get F.TMG_EDGE_offset ((ss * 32 + p) * 5 + e))) ++ toBe 4 (get F.TMG_PIN_CFG_cmp_mode (ss * 32 + p)))

/-- OD 0x5400 + 16c + fn (Table 6.4). -/
def State.readTiming (s : State) (c fn n : Nat) : List Byte × State :=
  s.gives <| match fn with
  | 0 => toBe 4 (s.fld F.TMG_PERIOD_period c n)
  | 1 => edgeBytes (fun f k => s.fld f c k) n
  | 2 => toBeI 4 (s.sfld F.TMG_FIX_DRV_fix_drv c n) ++ toBeI 4 (s.sfld F.TMG_FIX_CMP_fix_cmp c n)
  | 3 => toBeI 4 (s.sfld F.TMG_CORR_DRV_rise c n) ++ toBeI 4 (s.sfld F.TMG_CORR_DRV_fall_delta c n) ++ toBeI 4 (s.sfld F.TMG_CORR_CMP_cmp c n)
  | 4 => time80? (s.chTim (32 * c + n)).acceptedAt ++ toBe 4 (s.chTim (32 * c + n)).rejects ++ toBe 1 (s.fld F.TMG_PLUMB_last_result c n)
  | _ => toBe 4 (s.actFld F.TMG_PERIOD_period c n) ++ edgeBytes (fun f k => s.actFld f c k) n

/-- The tally entries of a site: rows and columns with their cell counts (Table 8.6). -/
def State.tallyEntries (s : State) (c site : Nat) : List Byte :=
  let l := (s.apgOf c).cells.filter (fun x => x.site == site)
  let rows := rowsIn l
  let cols := colsIn l
  toBe 1 (s.fld F.PAT_STATUS_streaming c) ++
    toBe 4 rows.length ++ rows.flatMap (fun r => toBe 1 r.2.1 ++ toBe 4 r.2.2 ++
      toBe 4 (l.filter (fun x => x.bank == r.2.1 && x.row == r.2.2)).length) ++
    toBe 4 cols.length ++ cols.flatMap (fun k => toBe 1 k.2.1 ++ toBe 2 k.2.2.1 ++ toBe 1 k.2.2.2.1 ++
      toBe 4 (l.filter (fun x => x.bank == k.2.1 && x.col == k.2.2.1 && x.pin == k.2.2.2.1 && x.course == k.2.2.2.2)).length)

/-- OD 0x5600 + 16c + fn (Table 8.6). -/
def State.readApg (s : State) (c fn n : Nat) : List Byte × State :=
  let a := { s.apgCore c with d := (s.apgOf c).d }
  let s := if fn = 0x7 then s.drainFails c s.tb.loc else s
  s.gives <| match fn with
  | 0x0 => toBe 2 0 ++ (List.range 1024).flatMap (fun k => toBe 8 (s.pair F.APG_PROG_LO_instr F.APG_PROG_HI_instr c k))
  | 0x1 => toBe 2 (s.fld F.APG_ENTRY_entry c)
  | 0x2 =>
    toBes 4 [s.fld F.APG_XMIN_x c, s.fld F.APG_XMAX_x c, s.fld F.APG_XINIT_x c] ++
      toBes 2 [s.fld F.APG_YRANGE_ymin c, s.fld F.APG_YRANGE_ymax c, s.fld F.APG_YZINIT_yinit c] ++
      toBes 1 [s.fld F.APG_YZINIT_zmax c, s.fld F.APG_YZINIT_zinit c] ++
      (List.range 4).flatMap (fun k => toBe 4 (s.fld F.APG_LCINIT_count c k)) ++ toBe 4 (s.fld F.APG_DINIT_dinit c)
  | 0x3 => (List.range 20).flatMap (fun k => toBe 2 (s.image 0x09 0x050 c k)) ++ (List.range 16).flatMap (fun k => toBe 2 (s.image 0x09 0x050 c (32 + k)))
  | 0x4 => toBes 4 [s.image 0x09 0x040 c 0, s.image 0x09 0x044 c 0, s.image 0x09 0x048 c 0]
  | 0x5 => toBe 1 (s.image 0x09 0x080 c n)
  | 0x6 => toBes 4 [s.image 0x09 0x054 c 0, s.image 0x09 0x058 c 0]
  | 0x7 => toBes 4 [s.fld F.ACQ_BUF_FIRST_lines 0 (32 + c), s.fld F.ACQ_BUF_LEN_lines 0 (32 + c), s.fld F.ACQ_WR_index 0 (32 + c),
      s.fld F.ACQ_RD_index 0 (32 + c)]
  | 0x8 =>
    let (k, r, cl, mr, mc, f) := s.tallySummary c (s.siteOf (8 * c + n))
    toBe 4 k ++ toBes 2 [r, cl, mr, mc] ++ toBe 1 f
  | 0x9 => s.tallyEntries c (s.siteOf (8 * c + n))
  | 0xB => toBe 1 (s.fld F.APG_CTRL_en c)
  | _ => toBe 2 (s.fld F.APG_STATUS_pc c) ++ toBes 4 [a.x, a.ax] ++ toBes 2 [a.y, a.ay] ++ toBe 1 a.z ++ toBe 4 a.d ++ toBe 1 (s.fld F.APG_STATUS_halted c)

/-- A hold source's bit: its place in Table 9.11 (log entry 32). -/
def HoldSrc.bitNo : HoldSrc → Nat
  | .empty => 0 | .ringFull => 1 | .repair => 2 | .bond => 3 | .lapse => 4 | .owner => 5 | .safe => 6 | .machineCheck => 7

/-- OD 0x5800 + 16c + fn (Table 9.18). -/
def State.readSeq (s : State) (c fn t : Nat) : List Byte × State :=
  let k := 8 * c + t
  let x := s.thr k
  s.gives <| match fn with
  | 0x0 => toBe 2 0 ++ (List.range 32768).flatMap (fun a => toBe 8 (Tbl.get s.seq.stepMem 0 (32768 * c + a)))
  | 0x1 => toBes 1 [s.fld F.SEQ_TCFG_site c t, s.fld F.SEQ_TCFG_home c t, s.fld F.SEQ_TCFG_home_course c t] ++
      toBes 2 [s.fld F.SEQ_TCFG_entry c t, s.fld F.SEQ_TREGION_base c t, s.fld F.SEQ_TREGION_len c t]
  | 0x2 => time80 (ns (s.pair F.SEQ_TORG_LO_origin F.SEQ_TORG_HI_origin c t)) ++ toBe 8 (s.fld F.SEQ_TPITCH_pitch_ns c t * 1000)
  | 0x7 => toBe 1 (s.tstate k) ++ toBe 2 (s.spc k) ++ toBe 1 (s.fld F.SEQ_TSTAT_opcode c t) ++
      (match x.cur with | some b => time80 b.t0 | none => List.replicate 10 0) ++ toBes 4 (x.lc.take 4) ++ maskBytes 1 (x.holds.map HoldSrc.bitNo)
  | 0x9 => toBe 8 (s.fld F.SEQ_WLIMIT_limit_us c * 1000000)
  | 0xA => toBe 1 (s.fld F.SEQ_CTRL_stream_owner c)
  | 0xB => toBe 4 (s.image 0x0A 0x010 c 0)
  | _ => toBe 8 (Tbl.get s.seq.retries 0 c)

/-- OD 0x5A01 and 0x5A02. -/
def State.readImage (s : State) (idx : Nat) : List Byte × State :=
  s.gives <| if idx = 0x5A01 then toBe 4 s.seq.cust.version ++ toBe 1 s.seq.cust.signed.toNat ++ s.seq.cust.digest
    else toBe 4 s.tr.vendorRelease ++ (Config.vendorDigest s.tr.vendorRelease).toList

/-! ### Contexts, results and acquisition (Tables 10.9 and 13.7) -/

/-- A read select's first item and count, the count kept to its limits (R589). -/
def selOf (b : List Byte) (w top : Nat) : Nat × Nat := (beNat (b.take w), clampNat 1 top (beNat (b.drop w)))

/-- OD 0x6000 to 0x6002 and 0x6F00 to 0x6F07. -/
def State.readResults (s : State) (idx sub : Nat) : List Byte × State :=
  s.gives <| match idx, sub with
  | 0x6001, 0 => s.od 0x6001 0 (toBe 4 0 ++ toBe 2 1)
  | 0x6001, _ =>
    let (a, n) := selOf (s.od 0x6001 0 (toBe 4 0 ++ toBe 2 1)) 4 1024
    (List.range (min n (1048576 - a))).flatMap (fun k => s.ctxMem (a + k))
  | 0x6002, _ => toBes 4 [1072693248, 1048576, 1068498944, 4194304]
  | 0x6F00, _ => toBe 4 s.ringUse
  | 0x6F01, _ => toBe 8 s.wseq
  | 0x6F02, _ => toBe 8 s.aseq
  | 0x6F03, _ => s.od 0x6F03 0 (toBe 8 1 ++ toBe 2 1)
  | 0x6F04, _ =>
    let (a, n) := selOf (s.od 0x6F03 0 (toBe 8 1 ++ toBe 2 1)) 8 1024
    (s.rk.ring.filter (fun r => decide (a ≤ r.seq) && decide (r.seq < a + n))).flatMap ResRec.bytes
  | 0x6F05, _ => toBe 1 (s.fld F.RCK_RING_CFG_hwm_pct 32)
  | 0x6F06, _ => toBe 8 s.rk.discarded
  | _, _ => (List.range 256).flatMap (fun k => toBe 2 (s.item k 2))

/-- OD 0x6100 + c and 0x6400 + site. -/
def State.readSite (s : State) (idx sub : Nat) : List Byte × State :=
  if idx < 0x6400 then
    let c := idx - 0x6100
    s.gives (if sub = 0 then
        toBe 8 (s.pair F.CTX_HIT_LO_count F.CTX_HIT_HI_count c) ++ toBe 8 (s.pair F.CTX_MISS_LO_count F.CTX_MISS_HI_count c) ++
          toBe 8 (s.cache c).prefetches ++ toBe 2 (s.fld F.CTX_STATUS_locked c)
      else toBe 1 (s.fld F.CTX_CTRL_pf_depth c))
  else
    let site := idx - 0x6400
    s.gives (match sub with
    | 1 => s.itemBytes site 0x100 256
    | 2 => s.itemBytes site 0x200 256
    | 3 => s.itemBytes site 0x300 256
    | 4 => s.itemBytes site 0x400 512
    | 5 => s.itemBytes site 0x600 256
    | _ => s.itemBytes site 0 14)

/-- OD 0x7000 to 0x7490 (Table 13.7). -/
def State.readAcq (s : State) (idx sub : Nat) : List Byte × State :=
  if 0x7100 ≤ idx ∧ idx < 0x7400 then
    let u := idx - 0x7100
    let f := fun (x : Fld) => s.fld x 0 u
    s.gives (match sub with
    | 1 => toBe 4 (s.image 0x0F 0x00C 0 u)
    | 2 => toBes 4 [f F.ACQ_BUF_FIRST_lines, f F.ACQ_BUF_LEN_lines, f F.ACQ_WR_index, f F.ACQ_RD_index]
    | 3 => toBes 4 [f F.ACQ_PRE_count, f F.ACQ_POST_count]
    | 4 => toBes 4 [f F.ACQ_EPRE_count, f F.ACQ_EPOST_count]
    | 5 => toBe 1 (f F.ACQ_HOLDOFF_by_events) ++ toBe 8 (f F.ACQ_HOLDOFF_value * (if f F.ACQ_HOLDOFF_by_events = 1 then 1 else 1000))
    | _ => toBe 1 (f F.ACQ_USTAT_state) ++ toBe 2 (f F.ACQ_USTAT_segs) ++ toBes 4 [f F.ACQ_MISSED_value, f F.ACQ_HELD_value] ++
        toBes 8 [f F.ACQ_DEAD_value * 1000, f F.ACQ_DEAD_MAX_value * 1000])
  else if 0x7400 ≤ idx ∧ idx < 0x7410 then
    let n := idx - 0x7400
    let x := Tbl.get s.acq.trg {} n
    s.gives (match sub with
    | 1 => toBe 4 (s.image 0x10 0x004 0 n)
    | 2 => toBe 4 (s.image 0x10 0x008 0 n)
    | 3 => toBe 2 (s.fld F.TRG_COUNT_count 0 n)
    | 4 => toBeI 8 (roundAway (s.sfld F.TRG_LEVEL_level 0 n * 10000000000) 8388608) ++
        toBeI 8 (roundAway ((s.fld F.TRG_LEVEL_hyst 0 n : Int) * 2560000000000) 8388608)
    | 5 => toBe 4 (s.image 0x10 0x014 0 n)
    | 6 => time80 x.lastFire
    | _ => toBe 8 x.fires)
  else
    s.gives (match idx with
    | 0x7000 => toBes 4 [s.patLines, 1064304640 - s.patLines]
    | 0x7001 => toBes 4 [s.acqDemand, acqShare s.md.mode]
    | 0x7003 => toBes 4 [1064304640, 65536]
    | 0x7004 => toBe 8 s.acq.wseq
    | 0x7005 => toBe 8 s.acq.aseq
    | 0x7006 => s.od 0x7006 0 (toBe 8 1 ++ toBe 2 1)
    | 0x7007 =>
      let (a, n) := selOf (s.od 0x7006 0 (toBe 8 1 ++ toBe 2 1)) 8 1024
      (s.acq.log.filter (fun r => decide (a ≤ r.seq) && decide (r.seq < a + n))).flatMap CapRec.bytes
    | 0x7480 => toBe 4 (s.image 0x10 0x040 0 sub)
    | _ => toBe 1 (s.fld F.TRG_IN_CFG_invert 0 sub))

/-! ### Fast lanes and serial engines (Tables 14.6 and 15.7) -/

/-- OD 0x7800 to 0x7810, as they stand now. What adaptation has settled on is open; a manual equaliser is what was copied (R434, R441). -/
def State.readFln (s : State) (idx n : Nat) : List Byte × State :=
  let s := (s.flnCount n).scanShow n
  let x := s.lane n
  let f := fun (g : Fld) => s.fld g 0 n
  match idx with
  | 0x7800 => s.gives (toBe 1 (s.image 0x11 0x138 0 n / 67108864))
  | 0x7801 => s.gives (toBe 4 (s.image 0x11 0x100 0 n))
  | 0x7802 => s.gives (toBe 4 (f F.FLN_RATE_rate_mbps))
  | 0x7803 => s.gives (toBeI 4 (s.sfld F.FLN_PPM_ppm 0 n))
  | 0x7804 => s.gives (toBes 1 [f F.FLN_FFE_A_pre2, f F.FLN_FFE_A_pre1, f F.FLN_FFE_A_main, f F.FLN_FFE_A_post1, f F.FLN_FFE_B_post2])
  | 0x7805 => s.gives (toBe 8 (f F.FLN_AMP_amp_mv * 1000000))
  | 0x7806 => s.gives (toBes 4 [f F.FLN_SJ_sj_mui, f F.FLN_SJ_sj_khz, f F.FLN_RJ_rj_mui])
  | 0x7807 => s.gives (toBe 2 (f F.FLN_UPAT_LEN_len) ++ (List.range 128).flatMap (fun k => toBe 4 (s.fld F.FLN_UPAT_data 0 (128 * n + k))))
  | 0x7808 => s.gives (toBes 8 [f F.FLN_GATE_DLY_delay_us * 1000000, f F.FLN_GATE_WIN_window_us * 1000000])
  | 0x7809 =>
    s.gives (toBes 8 [s.pair F.FLN_BITS_LO_count F.FLN_BITS_HI_count 0 n, s.pair F.FLN_ERR_LO_count F.FLN_ERR_HI_count 0 n,
      s.pair F.FLN_SYM_LO_count F.FLN_SYM_HI_count 0 n, s.pair F.FLN_UNLK_LO_count F.FLN_UNLK_HI_count 0 n * 1000])
  | 0x780B =>
    if !s.flnBit F.FLN_LSTAT_adapted n then s.gives (List.replicate 13 0)
    else if s.flnAct F.FLN_LCFG_manual_eq n = 1 then s.gives (fillTo 13 x.manual)
    else s.openBytes 13
  | 0x780C => s.gives (toBe 1 (f F.FLN_CTLE_peak) ++ (s.od 0x780C n (List.replicate 13 0)).tail)
  | 0x780E => s.gives (toBe 1 (f F.FLN_SCAN_STAT_state) ++ toBe 2 (f F.FLN_SCAN_STAT_points))
  | 0x780F => s.gives (fillTo 66300 (toBes 4 x.scan))
  | _ => s.gives (toBes 8 [x.lastErr, x.lastBits])

/-- A receive entry's status word, as SER_RX_STAT shows it. -/
def RxEntry.status (e : RxEntry) : Nat :=
  2147483648 + 1073741824 * e.last.toNat + 536870912 * e.short.toNat + 268435456 * e.long.toNat + 134217728 * e.trip.toNat +
    67108864 * e.abort.toNat + 4194304 * e.tpl + 1048576 * e.phase + e.bits

/-- OD 0x7C00 + 16c + fn. -/
def State.readSer (s : State) (c fn t : Nat) : List Byte × State :=
  let x := s.eng c
  s.gives <| match fn with
  | 0 => toBe 4 (s.image 0x12 0x000 c 0)
  | 1 => toBes 4 [s.image 0x12 0x008 c 0, s.image 0x12 0x00C c 0, s.image 0x12 0x010 c 0]
  | 2 => psOf (s.fld F.SER_CLK_half c) ++ psOf (s.fld F.SER_SDLY_samp_dly c)
  | 3 => toBe 4 (s.image 0x12 0x01C c 0)
  | 4 => toBes 4 [s.image 0x12 0x100 c t, s.image 0x12 0x104 c t, s.image 0x12 0x108 c t]
  | 6 => x.rxq.flatMap (fun e => toBe 4 e.status ++ toBe 8 e.data)
  | _ => toBes 8 [x.ran, x.shorts, x.longs, x.txLost, x.rxLost]

/-! ### Host link, security, faults, calibration, rails and tunnel -/

/-- The TTL a neighbour has left, in seconds. -/
def State.ttlLeft (s : State) (p : Nat) : Nat := (s.eport p).ttl - (s.tb.loc - (s.eport p).ttlAt) / 4096000000000

/-- OD 0x8000 to 0x8016 (Table 16.8). -/
def State.readLink (s : State) (idx p : Nat) : List Byte × State :=
  match idx with
  | 0x8000 => s.gives (toBe 6 Config.macBase ++ toBe 6 (Config.macBase + 1))
  | 0x8001 => s.gives (s.od 0x8001 p [0, 0, 0])
  | 0x8002 => s.openBytes 84
  | 0x8003 => s.gives (s.od 0x8003 p (1 :: List.replicate 9 0))
  | 0x8004 => s.gives (s.od 0x8004 p ([1, 1] ++ List.replicate 16 0 ++ [64]))
  | 0x8005 => s.gives (s.od 0x8005 p [0])
  | 0x8006 =>
    -- codewords and frames are not commands: their counts are open (log entry 30)
    let (b, s) := s.openBytes 32
    (b ++ toBe 8 (s.eport p).discards, s)
  | 0x8007 =>
    s.gives (if s.ttlLeft p = 0 then List.replicate 66 0 else (s.eport p).chassis ++ (s.eport p).portId ++ toBe 2 (s.ttlLeft p))
  | 0x8008 => s.gives (s.od 0x8008 0 [0, 0, 0])
  | 0x8009 => s.gives (s.od 0x8009 0 [0])
  | 0x8010 => s.gives (toBe 1 (s.fld F.ADP_STATUS_autonomous))
  | 0x8012 => s.gives (fillTo 100 (s.adp.sessions.flatMap (fun x =>
      toBe 4 x.id ++ toBe 1 x.owner.toNat ++ fillTo 16 x.addr ++ toBe 2 x.telPort ++ toBe 2 (s.msLeft x))))
  | 0x8013 => s.gives (s.od 0x8013 0 [0])
  | 0x8014 => s.gives (toBe 8 s.adp.lapses)
  | 0x8015 => s.gives (time80 s.adp.lastLapse)
  | _ => s.gives (fillTo 320 (s.adp.transfers.flatMap (fun x =>
      toBe 4 x.id ++ toBe 4 x.session ++ toBe 2 x.idx ++ toBe 1 x.sub ++ toBe 1 x.dir ++ toBe 8 x.moved)))

/-- OD 0x8100 to 0x810B (Table 19.11). -/
def State.readTrust (s : State) (idx sub : Nat) : List Byte × State :=
  s.gives <| match idx, sub with
  | 0x8100, _ => Config.certChain
  | 0x8102, 0 => s.tr.nonce
  | 0x8102, _ => s.quote
  | 0x8106, _ => toBe 1 s.tr.keys.length ++ s.keyDigest
  | 0x8109, _ => toBe 1 s.switchState ++ toBe 4 (s.fld F.KEY_HANDOFF_last_us)
  | _, _ => toBes 1 [s.tr.preferred, s.tr.bootA, s.tr.bootB]

/-- A local instant as a domain instant. -/
def State.domainOf (s : State) (t : Nat) : Nat := if s.tb.loc ≤ t then s.tb.dom + (t - s.tb.loc) else s.tb.dom - (s.tb.loc - t)

/-- OD 0x9000 to 0x9011 (Table 18.6). -/
def State.readFaults (s : State) (idx sub : Nat) : List Byte × State :=
  let s := s.firstDue
  let src := fun (f : Fld) => s.fld f 0 sub
  s.gives <| match idx with
  | 0x9000 => toBe 8 s.faultMask
  | 0x9001 =>
    if s.bit F.FC_FIRST_valid then
      toBes 1 [s.fld F.FC_FIRST_src, s.fld F.FC_FIRST_sev, s.fld F.FC_FIRST_inj + 2 * s.fld F.FC_FIRST_inj_masked] ++
        toBe 2 (s.fld F.FC_FIRST_DET_detail) ++ time80 s.fc.firstAt
    else List.replicate 15 0
  | 0x9002 => toBe 2 (s.fld F.FC_OVF_count)
  | 0x9005 => toBe 8 (s.fld F.FC_ESC_esc_us * 1000000)
  | 0x9006 =>
    toBes 1 [src F.FC_SRC_sev_max, src F.FC_SRC_repeat,
      src F.FC_SRC_inj + 2 * src F.FC_SRC_inj_masked + 4 * src F.FC_SRC_esc_done + 8 * src F.FC_SRC_esc_lost] ++ toBe 2 (src F.FC_SRC_detail)
  | 0x9007 => fillTo 896 (s.fc.esc.flatMap (fun e => toBes 1 [e.src, e.sev] ++ toBe 2 e.detail ++ time80 (s.domainOf e.expiry)))
  | 0x9010 =>
    let b := s.od 0x9010 0 (toBe 4 0 ++ toBe 2 1)
    if sub = 0 then b
    else
      let (a, n) := selOf b 4 32
      let old := s.fc.written - s.fc.log.length
      ((s.fc.log.drop (a - old)).take (if a < old then a + n - old else n)).flatMap LogRec.bytes
  | _ => toBes 4 [s.fc.written, s.fc.lost]

/-- OD 0x9022 to 0x9051 (Table 18.6). -/
def State.readBist (s : State) (idx n : Nat) : List Byte × State :=
  let l := s.bist.last
  match idx with
  | 0x9022 => s.gives (toBes 1 [l.kind, l.target, l.verdict] ++ toBes 4 [l.prog, l.done] ++ toBes 8 [l.sig, l.expSig] ++ toBe 2 l.abandons ++ time80 l.endAt)
  | 0x9023 => s.gives (toBe 8 (s.fld F.BST_LIMIT_limit_ms * 1000000000))
  | 0x9024 => s.gives (toBes 4 [s.bist.startTested, s.bist.startRepaired, s.bist.startBad])
  | 0x9030 => s.gives (maskBytes 32 s.fc.parked)
  | 0x9033 => s.gives (maskBytes 4 s.fc.derated)
  | 0x9040 => s.gives (toBe 2 s.bist.softMap.length ++ toBes 4 s.bist.softMap)
  | 0x9042 =>
    let ok := s.bist.fuseField.filter (fun (e : Nat × Bool) => e.2)
    s.gives (toBes 2 [ok.length, 512 - s.bist.fuseField.length] ++ toBes 4 (ok.map (fun (e : Nat × Bool) => e.1)))
  | 0x9050 =>
    let x := s.stack n
    let (left, s) := s.draw 4294967296
    s.gives (toBes 8 [x.corrected, x.retries, x.uncorrectable] ++ toBes 4 [x.cands.length, left])
  | _ => s.gives (toBe 4 (s.stack n).cands.length ++ toBes 8 (s.stack n).cands)

/-- OD 0xA000 to 0xA009 and 0xB080 (Table 19.11). -/
def State.readCal (s : State) (idx : Nat) : List Byte × State :=
  s.gives <| match idx with
  | 0xA000 => toBe 2 (s.fld F.CAL_STATUS_gen) ++ toBe 1 (s.fld F.CAL_STATUS_store) ++ s.calDigest
  | 0xA001 => fillTo 16 (toBes 1 (s.cal.slots.map CalSlot.code))
  | 0xA002 => tblBytes s.cal.draft calBytes
  | 0xA005 => toBe 1 s.cal.refMode ++ toBeI 8 s.cal.refForce
  | 0xA006 => toBeI 8 s.cal.standard
  | 0xA008 =>
    let (r, g, l) := s.cal.report
    toBe 1 r ++ toBes 2 [g, l.length] ++ toBes 2 l
  | 0xA009 =>
    let (c, o, e) := s.cal.lastRun
    toBes 1 [c, o] ++ time80 e ++ toBeI 8 s.cal.m0 ++ toBeI 8 s.cal.m1
  | _ => toBe 2 s.freeBlocks ++ toBes 4 [s.maxErase, s.minErase] ++
      toBe 2 (s.nvm.blocks.filter (fun (e : Nat × NvmBlock) => e.2.retired)).length

/-- OD 0xB100 to 0xB104 (Table 20.11). The reckoning of block power is good to ±5 % and not stated: free values (R581). -/
def State.readPower (s : State) (idx n : Nat) : List Byte × State :=
  let r := Tbl.get s.pw.rails {} n
  match idx with
  | 0xB100 => s.gives (toBeI 8 (r.mv * 1000000) ++ toBe 8 (r.ma * 1000000000000))
  | 0xB101 =>
    let (a, b, c) := railLimits n
    s.gives (toBeI 8 (a * 1000000) ++ toBeI 8 (b * 1000000) ++ toBeI 8 (c * 1000000))
  | 0xB102 => s.openBytes 48
  | 0xB103 => s.gives ((List.range 11).flatMap (fun k => toBe 4 (Tbl.get s.pw.railCount 0 k)))
  | _ =>
    let (x, s) := s.draw 4294967296
    s.gives (toBeI 4 ((s.sensorNow (2 * n) + s.sensorNow (2 * n + 1)) / 2) ++ toBe 4 x)

/-- One line of the block directory: code, instances, last registers, microcode number (OD 0xC000.00, Table 17.3). -/
def dirLine (b : Nat) : List Byte :=
  let inst := ((List.range 33).filter (fun i => (blockLast b i).isSome)).length
  let micro := ((List.range 8).find? (fun k => microBlock k == b)).getD 0xFF
  let last := (blockLast b 0).getD 0
  toBes 1 [b, inst] ++ toBes 2 [last, if b = 0x08 ∨ b = 0x0C then (blockLast b 32).getD 0 else last] ++ toBe 1 micro

/-- OD 0xC000 and 0xC001. -/
def State.readTunnel (s : State) (idx : Nat) : List Byte × State :=
  s.gives <| if idx = 0xC000 then (List.range 26).flatMap (fun k => dirLine (k + 1))
    else toBes 8 [s.adp.beyond, s.adp.unaligned, s.adp.narrow]

/-- The value of a readable entry. -/
def State.odValue (s : State) (idx sub : Nat) : List Byte × State :=
  if idx < 0x1100 then s.readIdent idx
  else if idx < 0x2000 then s.readMode idx
  else if idx < 0x2100 then s.readTime idx
  else if idx < 0x2200 then s.readBond (idx - 0x2100) sub
  else if idx < 0x3000 then s.readTally idx sub
  else if idx < 0x4000 then s.readPin ((idx - 0x3000) / 32) (idx % 32) sub
  else if idx < 0x4800 then s.readSmu idx sub
  else if idx < 0x5000 then s.readWav idx sub
  else if idx < 0x5100 then s.readPat idx sub
  else if idx < 0x5400 then s.readStream ((idx - 0x5100) / 8) (idx % 8)
  else if idx < 0x5600 then s.readTiming ((idx - 0x5400) / 16) (idx % 16) sub
  else if idx < 0x5800 then s.readApg ((idx - 0x5600) / 16) (idx % 16) sub
  else if idx < 0x5A00 then s.readSeq ((idx - 0x5800) / 16) (idx % 16) sub
  else if idx < 0x6000 then s.readImage idx
  else if idx < 0x6100 ∨ (0x6F00 ≤ idx ∧ idx < 0x7000) then s.readResults idx sub
  else if idx < 0x7000 then s.readSite idx sub
  else if idx < 0x7800 then s.readAcq idx sub
  else if idx < 0x7C00 then s.readFln idx sub
  else if idx < 0x8000 then s.readSer ((idx - 0x7C00) / 16) (idx % 16) sub
  else if idx < 0x8100 then s.readLink idx sub
  else if idx < 0x9000 then s.readTrust idx sub
  else if idx < 0x9020 then s.readFaults idx sub
  else if idx < 0xA000 then s.readBist idx sub
  else if idx < 0xB000 ∨ idx = 0xB080 then s.readCal idx
  else if idx < 0xB080 then s.readThermal idx
  else if idx < 0xC000 then s.readPower idx sub
  else s.readTunnel idx

/-- A read of an entry: a CMD or WO entry returns zero of its type, a BLOB no bytes (R492). -/
def State.odRead (s : State) (r : OdRow) (idx sub : Nat) : List Byte × State :=
  if r.acc = .cmd then s.gives (List.replicate (tySize r.ty) 0) else s.odValue idx sub

end Sys2Proof.Machine
end

