-- ==== Sys2Proof/Machine/Dict.lean ====
section
/-! DEFINITION. READ, WRITE and TUNNEL requests (R470 to R473, R488 to R492, R496, R503 to R507). -/

namespace Sys2Proof.Machine

/-! ### READ -/

/-- Where an item's entry is, in the full service or the recovery service (R488, R552). -/
def State.entryFind (s : State) (idx sub : Nat) : Except Nat OdRow :=
  if s.tr.recovery && !recoveryHas idx then .error eNoObject else odFind idx sub

/-- One read item: its data item, or its error (R490). -/
def State.readItem (s : State) (it : Sys2Proof.ReadItem) : Except Nat (List Byte) × State :=
  match s.entryFind it.idx it.sub with
  | .error e => (.error e, s)
  | .ok r =>
    let (b, s) := s.odRead r it.idx it.sub
    (.ok (dataItem it.idx it.sub r.ty b), s)

/-- The most bytes that the items of a response can have (R470). -/
def bodyRoom : Nat := 1216

/-- Reads items in order until one fails (R472). What a response does with an item that no longer fits it is not stated: its code is
open. The accumulator holds the items read. -/
def State.readItems (s : State) (acc : List (List Byte)) (room : Nat) : List Sys2Proof.ReadItem → Nat × List (List Byte) × State
  | [] => (eOk, acc, s)
  | it :: l =>
    match s.readItem it with
    | (.error e, s) => (e, acc, s)
    | (.ok b, s) =>
      if b.length ≤ room then State.readItems s (acc ++ [b]) (room - b.length) l
      else
        let (e, s) := s.draw 65536
        (e, acc, s)

/-- READ (R472). -/
def execAdpRead (h : Hdr) (items : List Sys2Proof.ReadItem) (s : State) : Host.Outcome State Fault Refusal :=
  .next (s.request (.adpRead h items) h (fun s =>
    let (e, l, s) := s.readItems [] bodyRoom items
    s.answer h e l.length l))

/-! ### Entries without a command of their own -/

/-- A register's row. -/
def rowAt (blk off i : Nat) : Option RegRow := (blockRows blk).find? (fun r => r.off == off && decide (r.iLo ≤ i) && decide (i ≤ r.iHi))

/-- Writes a register image into the fields of element `n`. -/
def State.setImage (s : State) (blk off i n w : Nat) : State :=
  match rowAt blk off i with
  | some r => r.fields.foldl (fun s f => if f.acc = .rw || f.acc = .cfg then s.setFld f i n (f.of w) else s) s
  | none => s

/-- The register images inside an entry's value: byte offset, width, block and register offset. -/
def imagesOf (idx sub : Nat) : List (Nat × Nat × Nat × Nat) :=
  if 0x3000 ≤ idx ∧ idx < 0x3400 then
    match idx % 32 with
    | 0x09 => [(0, 4, 0x06, 0x110)] | 0x0A => [(0, 4, 0x06, 0x124)] | 0x0C => [(0, 4, 0x06, 0x114)] | _ => []
  else if 0x5600 ≤ idx ∧ idx < 0x5800 then
    match idx % 16 with
    | 3 => (List.range 36).map (fun k => (2 * k, 2, 0x09, 0x050))
    | 4 => [(0, 4, 0x09, 0x040), (4, 4, 0x09, 0x044), (8, 4, 0x09, 0x048)]
    | 6 => [(0, 4, 0x09, 0x054)]
    | _ => []
  else if 0x7C00 ≤ idx ∧ idx < 0x7E00 then
    match idx % 16 with
    | 0 => [(0, 4, 0x12, 0x000)]
    | 1 => [(0, 4, 0x12, 0x008), (4, 4, 0x12, 0x00C), (8, 4, 0x12, 0x010)]
    | 3 => [(0, 4, 0x12, 0x01C)]
    | 4 => [(8, 4, 0x12, 0x108)]
    | _ => []
  else if 0x7100 ≤ idx ∧ idx < 0x7400 then (if sub = 1 then [(0, 4, 0x0F, 0x00C)] else [])
  else if 0x7400 ≤ idx ∧ idx < 0x7410 then
    (match sub with
    | 1 => [(0, 4, 0x10, 0x004)] | 2 => [(0, 4, 0x10, 0x008)] | 5 => [(0, 4, 0x10, 0x014)] | _ => [])
  else
    match idx with
    | 0x4001 => [(0, 4, 0x0D, 0x100)] | 0x4005 => [(0, 4, 0x0D, 0x118)] | 0x4801 => [(0, 4, 0x0E, 0x100)]
    | 0x7480 => [(0, 4, 0x10, 0x040)] | 0x7801 => [(0, 4, 0x11, 0x100)] | _ => []

/-- A value's bytes with those of one image replaced. -/
def putAt (b : List Byte) (o : Nat) (x : List Byte) : List Byte := b.take o ++ x ++ b.drop (o + x.length)

/-- A non-zero write to reserved bits of a register image leaves what is written open, within the image (R4, Table 17.8). -/
def State.settleData (s : State) (idx sub : Nat) (d : Sys2Proof.Data) : Sys2Proof.Data × State :=
  (imagesOf idx sub).foldl (fun (x : Sys2Proof.Data × State) (e : Nat × Nat × Nat × Nat) =>
    let (o, n, blk, off) := e
    match rowAt blk off 0 with
    | some r =>
      let (w, s) := x.2.settleWord r (dSub x.1 o n)
      ({ x.1 with bytes := if o + n ≤ x.1.bytes.length then putAt x.1.bytes o (toBe n w) else x.1.bytes }, s)
    | none => x) (d, s)

/-- An entry that holds what is written to it. -/
def wrPlain (h : Hdr) (idx sub ty len : Nat) (stored : Bool) (d : Sys2Proof.Data) (s : State) : State × Nat :=
  s.item490 h d ty (fun n => n == len) false (fun s => (if stored then s.storeOd idx sub d.bytes else s.setOd idx sub d.bytes, eOk))

/-- OD 0x5000.00: 1 to 56 GiB from the next start-up on; another size is a host error of the entry (R3). -/
def wrPatSpace (h : Hdr) (d : Sys2Proof.Data) (s : State) : State × Nat :=
  s.item490 h d tU8 anyLen false (fun s =>
    let (v, s) := if 1 ≤ dNat d ∧ dNat d ≤ 56 then (dNat d, s) else (let (x, s) := s.draw 56; (x + 1, s))
    (s.storeOd 0x5000 0 (toBe 1 v), eOk))

/-- OD 0x5003.0m. -/
def wrMarker (h : Hdr) (m : Nat) (d : Sys2Proof.Data) (s : State) : State × Nat :=
  s.item490 h d tBlob (fun n => n == 5) false (fun s =>
    let s := s.setFld F.PAT_MARK_src 32 m (min 63 (dSub d 0 1))
    (s.setFld F.PAT_MARK_offset 32 m (clampFix (toSigned 32 (dSub d 1 4))), eOk))

/-- A field written from a whole number, kept at its limit (R496). -/
def wrNumber (h : Hdr) (ty : Nat) (f : Fld) (i n : Nat) (d : Sys2Proof.Data) (s : State) : State × Nat :=
  s.item490 h d ty anyLen false (fun s => (s.setFld f i n (min (2 ^ f.wid - 1) (dNat d)), eOk))

/-- Writes items of a site from `first` on (R334). -/
def State.putItems (s : State) (site first : Nat) (d : Sys2Proof.Data) (n : Nat) : State :=
  (List.range n).foldl (fun s k => s.setItem site (first + k) (dSub d (8 * k) 8)) s

/-- OD 0x6400 + site: user items, limits and slot configurations. -/
def wrSite (h : Hdr) (site sub : Nat) (d : Sys2Proof.Data) (s : State) : State × Nat :=
  let first := if sub = 1 then 0x100 else if sub = 4 then 0x400 else 0x600
  let n := if sub = 4 then 512 else 256
  s.item490 h d tBlob (fun l => l == 8 * n) false (fun s => (s.putItems site first d n, eOk))

/-- OD 0x6F05.00 (R334). -/
def wrHwm (h : Hdr) (d : Sys2Proof.Data) (s : State) : State × Nat :=
  s.item490 h d tU8 anyLen false (fun s => (((s.storeOd 0x6F05 0 d.bytes).setFld F.RCK_RING_CFG_hwm_pct 32 0 (dNat d)).ringMoved, eOk))

/-- OD 0x7400 + n.01 to .05: entries backed by CFG fields are refused while the unit is enabled (R422). -/
def wrTrigger (h : Hdr) (n sub : Nat) (d : Sys2Proof.Data) (s : State) : State × Nat :=
  let en := s.bit F.TRG_CFG_en 0 n
  match sub with
  | 1 => s.item490 h d tU32 anyLen en (fun s => ((s.setImage 0x10 0x004 0 n (dNat d)).trgEnabled n, eOk))
  | 2 => s.item490 h d tU32 anyLen en (fun s => (s.setImage 0x10 0x008 0 n (dNat d), eOk))
  | 3 => s.item490 h d tU16 anyLen en (fun s => (s.setFld F.TRG_COUNT_count 0 n (dNat d), eOk))
  | 4 => s.item490 h d tBlob (fun l => l == 16) en (fun s =>
      let code := fun (k : Nat) => roundAway (toSigned 64 (dSub d k 8) * 8388608) 10000000000
      let s := s.setFld F.TRG_LEVEL_level 0 n (ofSigned 24 (clampInt (-8388608) 8388607 (code 0)))
      (s.setFld F.TRG_LEVEL_hyst 0 n (clampInt 0 255 (ceilDivInt (code 8) 256)).toNat, eOk))
  | _ => s.item490 h d tU32 anyLen false (fun s => (s.setImage 0x10 0x014 0 n (dNat d), eOk))

/-- OD 0x7480.0n and 0x7490.0n. -/
def wrTrigBall (h : Hdr) (out : Bool) (n : Nat) (d : Sys2Proof.Data) (s : State) : State × Nat :=
  if out then s.item490 h d tU32 anyLen false (fun s => (s.setImage 0x10 0x040 0 n (dNat d), eOk))
  else s.item490 h d tBool anyLen false (fun s => (s.setBit F.TRG_IN_CFG_invert 0 n (dFlag d), eOk))

/-- OD 0x7C00 + 16c + 0x0 to 0x4: entries backed by CFG fields (R460). -/
def wrSerCfg (h : Hdr) (c fn t : Nat) (d : Sys2Proof.Data) (s : State) : State × Nat :=
  let en := s.bit F.SER_CTRL_en c
  match fn with
  | 0 => s.item490 h d tU32 anyLen en (fun s =>
      let s := s.setImage 0x12 0x000 c 0 (dNat d)
      (if F.SER_CTRL_en.of (dNat d) = 1 then s.serEnabled c true else s, eOk))
  | 1 => s.item490 h d tBlob (fun l => l == 12) en (fun s =>
      (((s.setImage 0x12 0x008 c 0 (dSub d 0 4)).setImage 0x12 0x00C c 0 (dSub d 4 4)).setImage 0x12 0x010 c 0 (dSub d 8 4), eOk))
  | 2 => s.item490 h d tBlob (fun l => l == 16) en (fun s =>
      ((s.setFld F.SER_CLK_half c 0 (min 4294967295 (psToTicks (dSub d 0 8)))).setFld F.SER_SDLY_samp_dly c 0
        (min 81920 (psToTicks (dSub d 8 8))), eOk))
  | 3 => s.item490 h d tU32 anyLen en (fun s => (s.setImage 0x12 0x01C c 0 (dNat d), eOk))
  | _ => s.item490 h d tBlob (fun l => l == 12) en (fun s =>
      (((s.setImage 0x12 0x100 c t (dSub d 0 4)).setImage 0x12 0x104 c t (dSub d 4 4)).setImage 0x12 0x108 c t (dSub d 8 4), eOk))

/-- OD 0x9023.00, rounded up to whole ms (R538). -/
def wrBistLimit (h : Hdr) (d : Sys2Proof.Data) (s : State) : State × Nat :=
  s.item490 h d tU64 anyLen false (fun s =>
    let v := min 4294967295 (ceilDiv (dNat d) 1000000000)
    ((s.storeOd 0x9023 0 (toBe 8 (v * 1000000000))).setFld F.BST_LIMIT_limit_ms 0 0 v, eOk))

/-- OD 0x9041.00 through WRITE: which entries fail their verification is a free value. -/
def wrFuseAny (h : Hdr) (d : Sys2Proof.Data) (s : State) : State × Nat :=
  let (m, s) := s.draw (2 ^ 512)
  wrFuseMap h (s.bist.softMap.zipIdx.filterMap (fun (e : Nat × Nat) => if m.testBit e.2 then some e.1 else none)) d s

/-! ### WRITE -/

/-- Writes to OD 0x1000 to 0x2FFF. -/
def State.writeChip (s : State) (h : Hdr) (idx sub : Nat) (d : Sys2Proof.Data) : State × Nat :=
  if 0x2100 ≤ idx ∧ idx < 0x2140 then
    match sub with
    | 7 => wrBondForm (idx - 0x2100) h d s
    | 8 => wrBondDissolve (idx - 0x2100) h d s
    | 9 => wrBondResume (idx - 0x2100) h d s
    | _ => wrBondSlot (idx - 0x2100) sub h d s
  else
    match idx with
    | 0x1010 => wrRestoreDefaults h d s
    | 0x1101 => wrModeChange h d s
    | 0x2002 => wrChipNumber h d s
    | 0x2003 => wrTkSel h d s
    | 0x2005 => wrPlain h 0x2005 0 tU64 8 true d s
    | 0x200A => wrCalRestart h d s
    | 0x2200 => wrBudget h d s
    | 0x2201 => wrReserve h d s
    | _ => wrKReset h d s

/-- Writes to OD 0x3000 to 0x33FF. -/
def State.writePin (s : State) (h : Hdr) (c fn n : Nat) (d : Sys2Proof.Data) : State × Nat :=
  match fn with
  | 0x10 => wrEnvV h c n d s
  | 0x11 => wrEnvI h c n d s
  | 0x12 => wrTripClear h c n d s
  | 0x16 => wrRepair h c d s
  | 0x19 => wrRestore h c n d s
  | 0x1F => wrStrobeNow h c d s
  | _ => wrPinSetting h c fn n d s

/-- Writes to OD 0x4000 to 0x4880. -/
def State.writeAnalog (s : State) (h : Hdr) (idx n : Nat) (d : Sys2Proof.Data) : State × Nat :=
  match idx with
  | 0x4009 => wrSmuEnvV h n d s
  | 0x400A => wrSmuEnvI h n d s
  | 0x400B => wrSmuClear h n d s
  | 0x4011 => wrSmuRestore h n d s
  | 0x4400 => wrSmuRepair h n d s
  | 0x4403 => wrSmuForceNow h n d s
  | 0x480B => wrWavEnv h n d s
  | 0x480C => wrWavFlag h n d s
  | 0x480F => wrWavRestore h n d s
  | 0x4880 => wrWavRsv h d s
  | _ => if idx < 0x4800 then wrSmuSetting h (idx - 0x4000) n d s else wrWavSetting h (idx - 0x4800) n d s

/-- Writes to OD 0x5000 to 0x5A00. -/
def State.writeStream (s : State) (h : Hdr) (idx n : Nat) (d : Sys2Proof.Data) : State × Nat :=
  if idx = 0x5000 then wrPatSpace h d s
  else if idx = 0x5003 then wrMarker h n d s
  else if idx < 0x5400 then
    let c := (idx - 0x5100) / 8
    match idx % 8 with
    | 0 => wrDescriptor h c d s
    | 1 => wrPlain h idx 0 tU16 2 false d s
    | _ => wrJump h c d s
  else if idx < 0x5600 then
    let c := (idx - 0x5400) / 16
    match idx % 16 with
    | 0 => wrPeriod h c n d s
    | 1 => wrEdges h c n d s
    | 2 => wrFixture h c n d s
    | _ => wrApplyNow h c d s
  else if idx < 0x5800 then
    let c := (idx - 0x5600) / 16
    match idx % 16 with
    | 0x7 => wrFailBuffer h c d s
    | 0xA => wrTallyClear h c n d s
    | 0xB => wrApgEnable h c d s
    | fn => wrApgCfg h c fn n d s
  else if idx < 0x5A00 then
    let c := (idx - 0x5800) / 16
    let k := 8 * c + n
    match idx % 16 with
    | 0x0 => wrStepMem c h d s
    | 0x1 => wrThreadCfg k h d s
    | 0x2 => wrSlotGrid k h d s
    | 0x3 => wrStart k h d s
    | 0x4 => wrStop k h d s
    | 0x5 => wrHold k h d s
    | 0x6 => wrResume k h d s
    | 0x8 => wrEvents k h d s
    | 0x9 => wrWaitLimit c h d s
    | 0xA => wrNumber h tU8 F.SEQ_CTRL_stream_owner c 0 d s
    | _ => wrRestart c h d s
  else wrImage h d s

/-- Writes to OD 0x6000 to 0x7FFF. -/
def State.writeResults (s : State) (h : Hdr) (idx n : Nat) (d : Sys2Proof.Data) : State × Nat :=
  if 0x6100 ≤ idx ∧ idx < 0x6400 then wrNumber h tU8 F.CTX_CTRL_pf_depth (idx - 0x6100) 0 d s
  else if 0x6400 ≤ idx ∧ idx < 0x6F00 then (if n = 7 then wrStatClear h (idx - 0x6400) d s else wrSite h (idx - 0x6400) n d s)
  else if 0x7100 ≤ idx ∧ idx < 0x7400 then
    match n with
    | 1 => wrUnitCfg h (idx - 0x7100) d s
    | 2 => wrUnitBuf h (idx - 0x7100) d s
    | 3 => wrUnitCounts h (idx - 0x7100) d s
    | _ => wrUnitHold h (idx - 0x7100) d s
  else if 0x7400 ≤ idx ∧ idx < 0x7410 then (if n = 8 then wrSoftEvent h (idx - 0x7400) d s else wrTrigger h (idx - 0x7400) n d s)
  else if 0x7C00 ≤ idx then
    let c := (idx - 0x7C00) / 16
    match idx % 16 with
    | 5 => wrSerAppend h c d s
    | 7 => wrSerRemove h c d s
    | 8 => wrSerStart h c d s
    | 9 => wrSerAbort h c d s
    | fn => wrSerCfg h c fn n d s
  else
    match idx with
    | 0x6000 => wrContexts h d s
    | 0x6001 => wrPlain h 0x6001 0 tBlob 6 false d s
    | 0x6F02 => wrRingAck h d s
    | 0x6F03 => wrPlain h 0x6F03 0 tBlob 10 false d s
    | 0x6F05 => wrHwm h d s
    | 0x7002 => wrDisarmAll h d s
    | 0x7005 => wrCapAck h d s
    | 0x7006 => wrPlain h 0x7006 0 tBlob 10 false d s
    | 0x7008 => wrArmNow h d s
    | 0x7480 => wrTrigBall h true n d s
    | 0x7490 => wrTrigBall h false n d s
    | 0x780A => wrFlnClear h n d s
    | 0x780D => wrScan h n d s
    | 0x7811 => wrFlnRestore h n d s
    | _ => wrFlnSetting h (idx - 0x7800) n d s

/-- Writes to OD 0x8000 and above. -/
def State.writeHost (s : State) (h : Hdr) (idx n : Nat) (d : Sys2Proof.Data) : State × Nat :=
  match idx with
  | 0x800A => wrMacsecKey h n d s
  | 0x8010 => wrAutonomous h d s
  | 0x8011 => wrLeaseResume h d s
  | 0x8013 => wrAllowlist h d s
  | 0x8102 => wrNonce h d s
  | 0x8104 => wrRollback h d s
  | 0x8105 => wrEnrol h d s
  | 0x8107 => wrIdleBank h d s
  | 0x8108 => wrSwitch h d s
  | 0x9003 => wrFaultClear h d s
  | 0x9004 => wrRearm h d s
  | 0x9005 => wrEscTime h d s
  | 0x9008 => wrInject h d s
  | 0x9010 => wrPlain h 0x9010 0 tBlob 6 false d s
  | 0x9020 => wrBistStart h d s
  | 0x9021 => wrBistAbort h d s
  | 0x9023 => wrBistLimit h d s
  | 0x9031 => wrRestoreSite h n d s
  | 0x9032 => wrRestoreCourse h n d s
  | 0x9041 => wrFuseAny h d s
  | 0x9052 => wrHardPpr h n d s
  | 0xA002 => wrCalDraft h d s
  | 0xA003 => wrCalLoad h d s
  | 0xA004 => wrCalCommit h d s
  | 0xA005 => wrCalRef h d s
  | 0xA006 => wrStandard h d s
  | 0xA007 => wrCalRun h d s
  | _ => wrNetwork h idx n d s

/-- The write of a writable entry. -/
def State.odWrite (s : State) (h : Hdr) (idx sub : Nat) (d : Sys2Proof.Data) : State × Nat :=
  let (d, s) := s.settleData idx sub d
  if idx < 0x3000 then s.writeChip h idx sub d
  else if idx < 0x4000 then s.writePin h ((idx - 0x3000) / 32) (idx % 32) sub d
  else if idx < 0x5000 then s.writeAnalog h idx sub d
  else if idx < 0x6000 then s.writeStream h idx sub d
  else if idx < 0x8000 then s.writeResults h idx sub d
  else s.writeHost h idx sub d

/-- One written item in the order of R490. -/
def State.writeItem (s : State) (h : Hdr) (it : Sys2Proof.DataItem) : State × Nat :=
  match s.entryFind it.idx it.sub with
  | .error e => (s, e)
  | .ok r =>
    if r.acc = .ro then
      if it.val.ty ≠ r.ty then (s, eType)
      else if it.val.bytes.length ≠ (if r.ty = tBlob then (if r.len = 0 then it.val.bytes.length else r.len) else tySize r.ty) then (s, eLength)
      else (s, eReadOnly)
    else s.bistGuard (some (it.idx, it.sub)) (fun s => s.odWrite h it.idx it.sub it.val)

/-- Writes items in order until one fails (R472): its code, and how many were processed. -/
def State.writeItems (s : State) (h : Hdr) (n : Nat) : List Sys2Proof.DataItem → Nat × Nat × State
  | [] => (eOk, n, s)
  | it :: l =>
    match s.writeItem h it with
    | (s, 0) => State.writeItems s h (n + 1) l
    | (s, e) => (e, n, s)

/-- WRITE (R472, R494). -/
def execAdpWrite (h : Hdr) (items : List Sys2Proof.DataItem) (s : State) : Host.Outcome State Fault Refusal :=
  .next (s.request (.adpWrite h items) h (fun s =>
    let old := s.eth.jrn.length
    let (e, n, s) := s.writeItems h 0 items
    s.answerWrite old h e n))

/-! ### TUNNEL (R503 to R507) -/

/-- Whether a TUNNEL message is malformed (R503); a write item carries as many words as it counts. -/
def tunnelBad (items : List Sys2Proof.TunnelItem) : Bool :=
  items.any (fun t => t.count == 0 || (t.width == 1 && t.count % 2 == 1) || (t.write && t.words.length != t.count)) ||
    decide (304 < items.foldl (fun a t => if t.write then a else a + t.count) 0)

/-- One 32-bit access at an offset of a block instance: the word read, and whether a CFG field was ignored. -/
def State.access (s : State) (blk i off : Nat) (w : Option Nat) (odd : Bool := false) : Nat × Bool × State :=
  match blockLast blk i with
  | none => (0, false, s)
  | some l =>
    if l + 3 < off then (0, false, { s with adp := { s.adp with beyond := s.adp.beyond + 1 } })
    else
      match w with
      | none =>
        let (v, s) := s.regRead blk i off
        (v, false, s)
      | some v =>
        let (s, b) := if odd then s.oddWrite blk i off else s.regWrite blk i off v
        (0, b, s)

/-- An access that is UNPREDICTABLE: what is read, or what is written into the registers it touches, is open (R504). -/
def State.oddAccess (s : State) (blk i off : Nat) (w : Option Nat) (two : Bool) : Nat × Bool × State :=
  match w with
  | none =>
    let (v, s) := s.draw 4294967296
    (v, false, s)
  | some v =>
    let (_, b, s) := s.access blk i (off / 4 * 4) (some v) true
    if two then
      let (_, c, s) := s.access blk i (off / 4 * 4 + 4) (some v) true
      (0, b || c, s)
    else (0, b, s)

/-- One word of an item at an offset, counted where R504 says so; `half` says that it is the second half of a 64-bit access. -/
def State.tunnelWord (s : State) (t : Sys2Proof.TunnelItem) (blk i off : Nat) (half : Bool) (w : Option Nat) : Nat × Bool × State :=
  if t.width = 2 ∨ t.width = 3 then
    let s := { s with adp := { s.adp with narrow := s.adp.narrow + 1 } }
    s.oddAccess blk i off w (decide (t.width = 2 ∧ off % 4 = 3))
  else if off % 4 ≠ 0 then
    let s := if half then s else { s with adp := { s.adp with unaligned := s.adp.unaligned + 1 } }
    s.oddAccess blk i off w true
  else s.access blk i off w

/-- The words of an item, in order (R505, R507): the words read and whether a CFG field was ignored. -/
def State.tunnelWords (s : State) (t : Sys2Proof.TunnelItem) (blk i : Nat) (k : Nat) (acc : List Nat) (ign : Bool) : Nat → List Nat × Bool × State
  | 0 => (acc, ign, s)
  | n + 1 =>
    let off := t.addr % 65536 + (if t.inc then 4 * k else if t.width = 1 then 4 * (k % 2) else 0)
    let (v, b, s) := s.tunnelWord t blk i off (t.width = 1 && k % 2 = 1) (if t.write then some (t.words.getD k 0) else none)
    State.tunnelWords s t blk i (k + 1) (if t.write then acc else acc ++ [v]) (ign || b) n

/-- One tunnel item: its code and the words read (R500, step 4; R506, R507, R532). -/
def State.tunnelItem (s : State) (h : Hdr) (t : Sys2Proof.TunnelItem) : Nat × List Nat × State :=
  let blk := t.addr / 16777216 % 256
  let i := t.addr / 65536 % 256
  if s.tr.recovery || (blockLast blk i).isNone then (eNoObject, [], s)
  else if t.write && !s.isOwner h.session then (eNotOwner, [], s)
  else if t.write && (match regTarget blk i with | some x => s.bistExcl x | none => false) then (eBusyBist, [], s)
  else
    let s := s.bistRequest (regTarget blk i)
    let (l, ign, s) := s.tunnelWords t blk i 0 [] false t.count
    (if ign then eBlockEnabled else eOk, l, s)

/-- Tunnel items in order until one fails (R472). -/
def State.tunnelItems (s : State) (h : Hdr) (n : Nat) (acc : List Nat) : List Sys2Proof.TunnelItem → Nat × Nat × List Nat × State
  | [] => (eOk, n, acc, s)
  | t :: l =>
    match s.tunnelItem h t with
    | (0, ws, s) => State.tunnelItems s h (n + 1) (acc ++ ws) l
    | (e, ws, s) => (e, n, acc ++ ws, s)

/-- TUNNEL (R503). -/
def execAdpTunnel (h : Hdr) (items : List Sys2Proof.TunnelItem) (s : State) : Host.Outcome State Fault Refusal :=
  .next (s.request (.adpTunnel h items) h (fun s =>
    if tunnelBad items then s.answer h eMalformed 0 []
    else
      let old := s.adp.beyond
      let (e, n, ws, s) := s.tunnelItems h 0 [] items
      s.sendResponse { s.response h e n (ws.map (toBe 4)) with beyond := decide (old < s.adp.beyond) }))

end Sys2Proof.Machine
end

