-- ==== Sys2Proof/Machine/Bulk.lean ====
section
/-! DEFINITION. Bulk transfers and telemetry (R481 to R486). -/

namespace Sys2Proof.Machine

/-! ### Transfers -/

/-- Bytes that every frame but the last carries (R482). -/
def frameBytes : Nat := 8192
/-- Frames by which a sender may run ahead of the lowest frame not yet acknowledged (R483). -/
def bulkWindow : Nat := 1024
/-- The DRAM pseudo-object (R481). -/
def dramObject : Nat := 0xFFFF

/-- Frames of a transfer; an empty one has one frame. -/
def Transfer.frames (t : Transfer) : Nat := max 1 (ceilDiv t.len frameBytes)
/-- Bytes in a frame. -/
def Transfer.frameLen (t : Transfer) (f : Nat) : Nat := min frameBytes (t.len - frameBytes * f)

/-- The transfer with an ID. -/
def State.transfer (s : State) (id : Nat) : Option Transfer := s.adp.transfers.find? (fun t => t.id == id)
/-- Changes a transfer. -/
def State.modTransfer (s : State) (id : Nat) (f : Transfer → Transfer) : State :=
  { s with adp := { s.adp with transfers := s.adp.transfers.map (fun t => if t.id = id then f t else t) } }
/-- Whether ADP service runs (R25). -/
def State.bulkRuns (s : State) : Bool := (s.ks.running || s.tr.recovery) && !s.ks.outage

/-- Sends a frame of a transfer from the DN7680, on the port of its session's latest valid request (R468, R482). -/
def State.sendFrame (s : State) (id f : Nat) : State :=
  match s.transfer id with
  | none => s
  | some t =>
    let n := t.frameLen f
    let s := if t.idx = dramObject then s.drainAll else s
    let d := if t.idx = dramObject then s.bytes (64 * t.arg + frameBytes * f) n else (t.src.drop (frameBytes * f)).take n
    let s := s.send (.bulkData (s.portOf t.session) t.session id f (frameBytes * f) (f + 1 == t.frames) d)
    s.modTransfer id (fun t => { t with sent := max t.sent (f + 1), sentAt := Tbl.put t.sentAt f s.tb.loc })

/-- Sends every frame that the window allows and that has not been sent (R483). -/
def State.sendMore (s : State) (id : Nat) : State :=
  match s.transfer id with
  | none => s
  | some t =>
    let upto := min t.frames (t.next + bulkWindow)
    (List.range (upto - t.sent)).foldl (fun s k => s.sendFrame id (t.sent + k)) s

/-! ### BULK_OPEN (R481) -/

/-- Whether a run of DRAM lines may be moved: into the pattern space, or out of the pattern space, the acquisition space, the capture log,
the result ring or the context table. -/
def State.bulkLines (s : State) (dir first n : Nat) : Bool :=
  if dir = 0 then decide (first + n ≤ s.patLines)
  else decide (first + n ≤ 1064370176) || (decide (1068498944 ≤ first) && decide (first + n ≤ 1073741824))

/-- The checks of an OPEN: its error, or none. -/
def State.bulkCheck (s : State) (h : Hdr) (idx sub dir len arg : Nat) : Nat :=
  if idx = dramObject then
    if s.tr.recovery then eNoObject
    else if sub ≠ 0 then eNoSubindex
    else if len % 64 ≠ 0 || !s.bulkLines dir arg (len / 64) then eAddrRange
    else if dir = 0 && !s.isOwner h.session then eNotOwner
    else eOk
  else
    match s.entryFind idx sub with
    | .error e => e
    | .ok r =>
      if r.ty ≠ tBlob then eType
      else if arg ≠ 0 then eAddrRange
      else if dir = 0 && r.acc = .ro then eReadOnly
      else if dir = 0 && !s.isOwner h.session then eNotOwner
      else eOk

/-- A new transfer's ID: free, and no ID in use. -/
def State.newTransferId (s : State) : Nat × State :=
  let (x, s) := s.draw 4294967296
  (((List.range 17).map (fun k => (x + k) % 4294967296)).find? (fun i => (s.transfer i).isNone) |>.getD 0, s)

/-- The value that a transfer from the DN7680 sends: the entry is read once, at the OPEN. -/
def State.bulkSource (s : State) (idx sub dir : Nat) : List Byte × State :=
  if dir = 0 ∨ idx = dramObject then ([], s)
  else
    match s.entryFind idx sub with
    | .ok r => s.odRead r idx sub
    | .error _ => ([], s)

/-- A transfer opens. A load of the idle bank erases it now (R554). -/
def State.bulkStart (s : State) (h : Hdr) (idx sub dir len arg : Nat) : State :=
  let (id, s) := s.newTransferId
  let (src, s) := s.bulkSource idx sub dir
  let len := if dir = 0 ∨ idx = dramObject then len else min len src.length
  let t : Transfer := { id, session := h.session, idx, sub, dir, len, arg, progress := s.tb.loc, src }
  let s := { s with adp := { s.adp with transfers := s.adp.transfers ++ [t] } }
  let s := if dir = 0 ∧ idx = 0x8107 then s.openLoad else s
  let s := s.answer h eOk 0 [toBe 4 id]
  if dir = 0 then s else s.sendMore id

/-- BULK_OPEN (R481): a direction that Table 16.3 does not name acts as one of the two, which is open. -/
def execBulkOpen (h : Hdr) (idx sub dir len arg : Nat) (s : State) : Host.Outcome State Fault Refusal :=
  .next (s.request (.bulkOpen h idx sub dir len arg) h (fun s =>
    let dir := if dir < 2 then dir else Config.openNat 29 [dir] % 2
    let e := s.bulkCheck h idx sub dir len arg
    if e ≠ eOk then s.answer h e 0 []
    else if 16 ≤ s.adp.transfers.length then s.answer h eBulkLimit 0 []
    else s.bulkStart h idx sub dir len arg))

/-- BULK_CANCEL (R484): a transfer of the session is abandoned; there is nothing to do for another ID. -/
def execBulkCancel (h : Hdr) (id : Nat) (s : State) : Host.Outcome State Fault Refusal :=
  .next (s.request (.bulkCancel h id) h (fun s =>
    (s.abandonTransfers (fun t => t.id == id && t.session == h.session)).answer h eOk 0 []))

/-! ### Frames (R482, R483) -/

/-- The first frame from `f` on that is not in the list, by at most `n` steps. -/
def skipGot (got : List Nat) (f : Nat) : Nat → Nat
  | 0 => f
  | n + 1 => if got.contains f then skipGot got (f + 1) n else f

/-- Sends an ACK of what has arrived (R483). -/
def State.sendAck (s : State) (id : Nat) : State :=
  match s.transfer id with
  | none => s
  | some t =>
    let bits := (t.got.filter (fun f => decide (t.next < f ∧ f ≤ t.next + bulkWindow))).map (fun f => f - t.next - 1)
    let s := s.send (.bulkAck (s.portOf t.session) t.session id t.next bits)
    s.modTransfer id (fun t => { t with sinceAck := 0 })

/-- A frame's data reach DRAM or the entry's buffer, and `next` moves over what has arrived. -/
def State.takeFrame (s : State) (t : Transfer) (frame : Nat) (data : List Byte) : State :=
  let line := t.arg + 128 * frame
  let s := if t.idx = dramObject then (s.rewriteLines line ((data.length + 63) / 64)).writeLines line data else s
  s.modTransfer t.id (fun t =>
    let got := insertAsc t.got frame
    let next := skipGot got t.next got.length
    { t with
      got := got.filter (fun f => decide (next < f)), next, moved := t.moved + data.length, progress := s.tb.loc
      buf := if t.idx = dramObject then t.buf else data.zipIdx.foldl (fun b e => Tbl.put b (frameBytes * frame + e.2) e.1) t.buf })

/-- BULK_DATA (R483): a frame of a transfer to the DN7680 inside the window. A frame that does not fit its transfer is no part of it, and
frames that arrive while ADP service is stopped are lost. -/
def execBulkData (_port session id frame offset : Nat) (last : Bool) (data : List Byte) (s : State) : Host.Outcome State Fault Refusal :=
  match s.transfer id with
  | none => .next s
  | some t =>
    if !s.bulkRuns || t.session != session || t.dir != 0 || decide (t.frames ≤ frame) || decide (t.next + bulkWindow ≤ frame) ||
        offset != frameBytes * frame || data.length != t.frameLen frame || last != (frame + 1 == t.frames) then .next s
    else
      let fresh := decide (t.next ≤ frame) && !t.got.contains frame
      let s := if fresh then s.takeFrame t frame data else s
      let s := s.modTransfer id (fun t => { t with sinceAck := t.sinceAck + 1, lastArr := s.tb.loc })
      match s.transfer id with
      | none => .next s
      | some u => .next (if 32 ≤ u.sinceAck ∨ u.next < frame then s.sendAck id else s)

/-- BULK_ACK_TIMER (R483): 50 µs after the last unacknowledged arrival. -/
def execBulkAckTimer (id : Nat) (s : State) : Host.Outcome State Fault Refusal :=
  match s.transfer id with
  | none => .next s
  | some t => .next (if s.bulkRuns && decide (0 < t.sinceAck) then (s.reachLoc (t.lastArr + us 50)).sendAck id else s)

/-- BULK_ACK (R483): `next` advances, frames missing below one that has arrived are sent again, and the window lets more go. -/
def execBulkAck (_port session id next : Nat) (bitmap : List Nat) (s : State) : Host.Outcome State Fault Refusal :=
  match s.transfer id with
  | none => .next s
  | some t =>
    if !s.bulkRuns || t.session != session || t.dir != 1 || decide (t.sent < next) then .next s
    else
      let got := bitmap.map (fun i => next + 1 + i)
      let s := s.modTransfer id (fun t =>
        if t.next < next then { t with
          next, progress := s.tb.loc, moved := min t.len (frameBytes * next), sentAt := t.sentAt.filter (fun e => decide (next ≤ e.1)) }
        else t)
      let low := max t.next next
      let top := got.foldl max 0
      let s := (List.range (top - low)).foldl (fun s k =>
        if got.contains (low + k) || decide (t.sent ≤ low + k) then s else s.sendFrame id (low + k)) s
      .next (s.sendMore id)

/-- BULK_RESEND_TIMER (R483): frame `next` goes out again 2 ms after it was last sent. -/
def execBulkResendTimer (id : Nat) (s : State) : Host.Outcome State Fault Refusal :=
  match s.transfer id with
  | none => .next s
  | some t =>
    .next (if s.bulkRuns && t.dir == 1 && decide (t.next < t.sent) then
      (s.reachLoc (Tbl.get t.sentAt 0 t.next + ms 2)).sendFrame id t.next
    else s)

/-! ### Ends (R484) -/

/-- A transfer is taken out. -/
def State.dropTransfer (s : State) (id : Nat) : State :=
  { s with adp := { s.adp with transfers := s.adp.transfers.filter (fun t => t.id != id) } }

/-- The bytes that have arrived for a BLOB entry. -/
def Transfer.arrived (t : Transfer) : List Byte := (List.range t.len).map (fun k => Tbl.get t.buf 0 k)

/-- The END of a transfer whose frames are all acknowledged: an entry that was written takes its value now, and the END carries its code; it
waits for the journal where the entry is stored (R494). -/
def State.endTransfer (s : State) (t : Transfer) : State :=
  let port := s.portOf t.session
  let s := s.dropTransfer t.id
  let fin_ := fun (e : Nat) => OutMsg.bulkEnd port t.session t.id t.frames t.len e
  if t.dir = 1 ∨ t.idx = dramObject then s.send (fin_ eOk)
  else
    let n := s.eth.jrn.length
    let (s, e) := s.writeItem ⟨port, t.session, 0, 0⟩ ⟨t.idx, t.sub, ⟨tBlob, t.arrived⟩⟩
    if s.eth.jrn.length ≤ n then s.send (fin_ e)
    else { s with eth := { s.eth with
      jrn := s.eth.jrn.dropLast ++ (s.eth.jrn.getLast?.map (fun j => { j with told := some (fin_ e) })).toList } }

/-- BULK_END (R484). -/
def execBulkEnd (id : Nat) (s : State) : Host.Outcome State Fault Refusal :=
  match s.transfer id with
  | none => .next s
  | some t =>
    if s.bulkRuns && t.next == t.frames && t.sinceAck == 0 then .next (s.endTransfer t) else .next s

/-- BULK_STALL_TIMEOUT (R484): 1 s without progress. -/
def execBulkStallTimeout (id : Nat) (s : State) : Host.Outcome State Fault Refusal :=
  match s.transfer id with
  | none => .next s
  | some t =>
    .next (if s.bulkRuns then (s.reachLoc (t.progress + ms 1000)).abandonTransfers (fun x => x.id == id) else s)

/-! ### Telemetry (R485, R486) -/

/-- The 16-byte header of a part. -/
def telHeader (type session tseq part parts : Nat) : List Byte :=
  toBe 2 0x4154 ++ toBes 1 [1, type] ++ toBe 4 session ++ toBe 4 tseq ++ toBes 1 [part, parts] ++ [0, 0]

/-- Part 0 after its header (Table 16.7). -/
def State.telStatus (s : State) : List Byte :=
  time80 s.now ++ toBe 4 s.chipNumber ++
    toBes 1 [s.md.mode.code, s.fld F.TB_STATUS_time_state,
      s.fld F.THM_STATUS_warning + 2 * s.fld F.THM_STATUS_throttle + 4 * s.fld F.THM_STATUS_shutdown,
      s.owner.isSome.toNat + 2 * s.fld F.ADP_STATUS_autonomous + 4 * s.fld F.ETH_STATUS_e0_up + 8 * s.fld F.ETH_STATUS_e1_up + 16 * s.tr.bank] ++
    toBe 2 (s.fld F.TLY_MULT_m_q) ++ toBeI 4 s.thm.tmax ++ toBe 4 (s.fld F.TLY_MEAS_p_meas_mw) ++ toBe 4 (s.fld F.TLY_BUDGET_budget_mw) ++
    toBe 4 s.smuTotal ++ toBe 8 s.faultMask ++ toBe 8 s.wseq ++ toBe 8 s.aseq ++ toBe 8 s.acq.wseq ++ toBe 8 s.tb.lateCount ++
    toBe 8 s.tally.refusals ++
    (List.range 32).flatMap (fun c => toBe 1 (s.fld F.SEQ_STATUS_run_mask c)) ++
    (List.range 32).flatMap (fun c => toBe 1 (s.fld F.SEQ_STATUS_held_mask c)) ++ toBe 8 s.md.limitCount

/-- One SMU's entry (R486). -/
def State.telSmu (s : State) (m : Nat) : List Byte :=
  let x := s.smuCh m
  let fi := s.smuAct F.SMU_CFG_fmode m == 1
  let r := if fi then smuAmp (s.smuAct F.SMU_CFG_irange m) else smuVolt (s.smuAct F.SMU_CFG_vrange m)
  let code := if x.pulseEnd.isSome then toSigned 24 (s.smuAct F.SMU_FORCE_CODE_force m) else x.base
  toBe 1 m ++ toBe 1 (fi.toNat + 2 * (s.smuBit F.SMU_STATE_tripped m).toNat + 4 * x.clamped.toNat) ++ toBeI 8 (smuValue r code) ++ toBeI 8 x.last

/-- The bodies of a sample's SMU parts: 64 entries to a part (R486). -/
def State.telParts (s : State) : List (List Byte) :=
  if s.md.mode != .stress then []
  else
    let l := (List.range 128).filter (fun m => s.smuConn m)
    (List.range (ceilDiv l.length 64)).map (fun k =>
      let p := (l.drop (64 * k)).take 64
      toBe 2 p.length ++ p.flatMap s.telSmu)

/-- One sample to one session, on the port of its latest valid request (R468). -/
def State.sendSample (s : State) (x : Session) : State :=
  let ps := s.telParts
  let n := 1 + ps.length
  let s := s.send (.telemetry x.port x.id s.adp.tseq 0 (telHeader 1 x.id s.adp.tseq 0 n ++ s.telStatus))
  ps.zipIdx.foldl (fun s e =>
    s.send (.telemetry x.port x.id s.adp.tseq (1 + e.2) (telHeader 2 x.id s.adp.tseq (1 + e.2) n ++ e.1))) s

/-- TELEMETRY_SAMPLE (R485): at the next multiple of 10 ms of domain time. A sample in an outage is counted and not sent (R25). -/
def execTelemetrySample (s : State) : Host.Outcome State Fault Refusal :=
  if !s.ks.running then .next s
  else
    let s := s.reach ((s.now / ms 10 + 1) * ms 10)
    let s := { s with adp := { s.adp with tseq := (s.adp.tseq + 1) % 4294967296 } }
    .next (if s.ks.outage then s else (s.adp.sessions.filter (fun x => decide (x.telPort ≠ 0))).foldl State.sendSample s)

end Sys2Proof.Machine
end

