-- ==== Sys2Proof/Machine/Package.lean ====
section
/-! DEFINITION. The package: which signal each ball carries, what it does while the chip is not running, and the boundary-scan cells
(R567 to R571, R578, R586). -/

namespace Sys2Proof.Machine

/-- What a ball carries; `neg` marks the N ball of a differential pair. -/
inductive Ball where
  | gnd
  | agndSmu
  | supply (rail : Nat)
  | pin (c p : Nat)
  | smuForce (n : Nat)
  | smuSense (n : Nat)
  | smuGuard (n : Nat)
  | wavSrc (n : Nat)
  | wavDig (n : Nat)
  | laneTx (n : Nat) (neg : Bool)
  | laneRx (n : Nat) (neg : Bool)
  | ethTx (n : Nat) (neg : Bool)
  | ethRx (n : Nat) (neg : Bool)
  | refclk (neg : Bool)
  | sync (neg : Bool)
  | bond (n : Nat) (neg : Bool)
  | trigIn (n : Nat)
  | trigOut (n : Nat)
  | marker (n : Nat)
  | posId (n : Nat)
  | faultN | thermN | alive | resetN | calRefF | calRefS | tck | tms | tdi | tdo | trstN
deriving DecidableEq, Repr

/-- Whether a local position of a Course's 7 × 7 block is GND (R568). -/
def blockGnd (i j : Nat) : Bool := (i % 2 == 0 && j % 2 == 0) || (i == 3 && j == 3)

/-- The ball at local position (i, j) of Course `c`'s block: its pins stand in row-major order (R568). -/
def blockBall (c i j : Nat) : Ball :=
  if blockGnd i j then .gnd else .pin c ((List.range (7 * i + j)).filter (fun k => !blockGnd (k / 7) (k % 7))).length

/-- The parts of a run of balls, as counts and what they carry, from its fill position `k` on (Table 20.3). -/
def fillBall : List (Nat × Ball) → Nat → Ball
  | [], _ => .gnd
  | (n, b) :: t, k => if k < n then b else fillBall t (k - n)

/-- The core supply region (Table 20.3). -/
def coreBall (r c : Nat) : Ball :=
  let pe : List (Nat × Ball) := [(48, .supply 5), (24, .supply 6)]
  if r ≤ 18 then fillBall pe (28 * (r - 15) + (c - 15))
  else if 39 ≤ r then fillBall pe (28 * (42 - r) + (c - 15))
  else if c ≤ 18 then fillBall [(40, .supply 7), (40, .supply 8)] (20 * (c - 15) + (r - 19))
  else if 39 ≤ c then fillBall [(24, .supply 1), (32, .supply 4), (8, .supply 10), (4, .supply 9)] (20 * (42 - c) + (r - 19))
  else fillBall [(180, .supply 0), (60, .supply 2), (40, .supply 3)] (20 * (r - 19) + (c - 19))

/-- An SMU quadrant's balls (R569). -/
def smuBall (r c : Nat) : Ball :=
  let k := 14 * ((r - 15) % 7) + (c - 1)
  let n := 32 * ((r - 15) / 7) + k / 3
  if 96 ≤ k then .agndSmu
  else match k % 3 with
    | 0 => .smuForce n
    | 1 => .smuSense n
    | _ => .smuGuard n

/-- The waveform region (R570). -/
def wavBall (r c : Nat) : Ball :=
  let m := (c - 44) / 3
  if c < 44 ∨ 4 ≤ m then .gnd
  else match (c - 44) % 3 with
    | 0 => .wavSrc (4 * (r - 15) + m)
    | 1 => .wavDig (4 * (r - 15) + m)
    | _ => .gnd

/-- The single-ended balls of rows 39 to 41, from column 44 upward (R570). -/
def controlBall (r k : Nat) : Ball :=
  if r = 39 then if k < 4 then .trigIn k else if k < 8 then .trigOut (k - 4) else if k < 12 then .marker (k - 8) else .gnd
  else if r = 40 then
    match k with
    | 0 => .faultN | 1 => .thermN | 2 => .alive | 3 => .resetN | 10 => .calRefF | 11 => .calRefS
    | _ => if k < 10 then .posId (k - 4) else .gnd
  else
    match k with
    | 0 => .tck | 1 => .tms | 2 => .tdi | 3 => .tdo | 4 => .trstN | _ => .gnd

/-- The link and control region (Table 20.2): the pairs stand at columns 44, 47, 50 and 53, the P ball first. -/
def linkBall (r c : Nat) : Ball :=
  let k := (c - 44) / 3
  let neg := (c - 44) % 3 == 1
  if c < 44 then .gnd
  else if 39 ≤ r then if r ≤ 41 then controlBall r (c - 44) else .gnd
  else if 4 ≤ k ∨ (c - 44) % 3 = 2 then .gnd
  else if r ≤ 34 then
    let n := 2 * (r - 31) + k / 2
    if k % 2 = 0 then .laneTx n neg else .laneRx n neg
  else if r = 35 then if k % 2 = 0 then .ethTx (k / 2) neg else .ethRx (k / 2) neg
  else if r = 36 then match k with | 0 => .refclk neg | 1 => .sync neg | _ => .gnd
  else .bond (4 * (r - 37) + k) neg

/-- The ball at a row and a column, numbered 1 to 56 (R567). -/
def ballAt (r c : Nat) : Option Ball :=
  if r = 0 ∨ 56 < r ∨ c = 0 ∨ 56 < c then none
  else if r ≤ 14 then some (blockBall (8 * ((r - 1) / 7) + (c - 1) / 7) ((r - 1) % 7) ((c - 1) % 7))
  else if 43 ≤ r then some (blockBall (16 + 8 * ((r - 43) / 7) + (c - 1) / 7) ((r - 43) % 7) ((c - 1) % 7))
  else if c ≤ 14 then some (smuBall r c)
  else if c ≤ 42 then some (coreBall r c)
  else if r ≤ 30 then some (wavBall r c)
  else some (linkBall r c)

/-! ### While the chip does not run (R578) -/

/-- What a ball does (Table 20.7); `working` is what the chapters give: parked, idle or driven from t0 on. -/
inductive BallState where
  | highZ | disconnected | switchOpen | idle | terminated | listening | released | shiftOnly | supply | working
deriving DecidableEq, Repr

/-- A ball's state without power, or with the power-on reset asserted. -/
def Ball.unpowered : Ball → BallState
  | .gnd | .agndSmu | .supply _ => .supply
  | .smuForce _ | .smuSense _ | .smuGuard _ => .disconnected
  | .wavSrc _ | .wavDig _ | .calRefF | .calRefS => .switchOpen
  | .faultN | .thermN => .released
  | .pin _ _ | .laneTx _ _ | .laneRx _ _ | .ethTx _ _ | .ethRx _ _ | .refclk _ | .sync _ | .bond _ _ | .trigIn _ | .trigOut _ | .marker _
  | .posId _ | .alive | .resetN | .tck | .tms | .tdi | .tdo | .trstN => .highZ

/-- A ball's state while RESET_N is asserted and the rails are good. -/
def Ball.inReset (b : Ball) : BallState :=
  match b with
  | .ethTx _ _ | .ethRx _ _ => .idle
  | .refclk _ | .sync _ => .terminated
  | .bond _ _ => .listening
  | .tdo => .shiftOnly
  | _ => b.unpowered

/-- What a ball does now. -/
def State.ballState (s : State) (b : Ball) : BallState :=
  if !s.pw.powered then b.unpowered else if s.pw.resetLow then b.inReset else match b with | .gnd | .agndSmu | .supply _ => .supply | _ => .working

/-! ### Boundary cells (R586) -/

/-- What a boundary cell does for its ball. -/
inductive CellKind where
  | input | output | enable
deriving DecidableEq, Repr

/-- Cell `k` of the boundary register, counted from TDO. -/
def scanCell (k : Nat) : Option (Ball × CellKind) :=
  let kind (n : Nat) : CellKind := match n with | 0 => .input | 1 => .output | _ => .enable
  if k < 3072 then some (.pin (k / 96) (k / 3 % 32), kind (k % 3))
  else if k < 3096 then some (.bond ((k - 3072) / 3) false, kind (k % 3))
  else if k < 3114 then
    let n := (k - 3096) / 2
    some (if n < 4 then .trigOut n else if n < 8 then .marker (n - 4) else .alive, kind (1 + k % 2))
  else if k < 3118 then some (if k < 3116 then .faultN else .thermN, kind (k % 2))
  else if k < 3122 then some (.trigIn (k - 3118), .input)
  else if k < 3128 then some (.posId (k - 3122), .input)
  else if k = 3128 then some (.resetN, .input)
  else none

end Sys2Proof.Machine
end

