-- ==== Sys2Proof/Machine/Tap.lean ====
section
/-! DEFINITION. Boundary scan (R585, R586). -/

namespace Sys2Proof.Machine

/-- The identification register (Table 20.10). -/
def idcode : Nat := 0x27680A3F
/-- Cells of the boundary register (R586). -/
def boundaryCells : Nat := 3129

/-- The TAP runs whenever VIO and VCORE are good (R585). -/
def State.tapOn (s : State) : Bool :=
  railGood 0 (Tbl.get s.pw.rails {} 0).mv && railGood 2 (Tbl.get s.pw.rails {} 2).mv

/-- An instruction takes effect: what it selects, what that captures, and what it drives while RESET_N is asserted. -/
def State.tapSet (s : State) (ir dr captured : Nat) : State :=
  { s with tap := { s.tap with ir, dr, captured, driving := if s.pw.resetLow then tapDrive ir else 0 } }

/-- What a boundary cell captures of what the chip drives; nothing says what its ball carries from outside (R586). -/
def State.cellNow (s : State) (k : Nat) : Option Bool :=
  let off := !s.pw.powered || s.pw.resetLow
  match scanCell k with
  | some (.pin c p, .enable) => some (!off && (match s.presents c p with | .driven _ => true | _ => false))
  | some (.pin c p, .output) => some (!off && s.drive c p == .high)
  | some (.trigOut n, .output) => some (!off && s.ballHigh n)
  | some (.marker n, .output) => some (!off && ((s.marker n).settle s.tb.loc).high)
  | some (.alive, .output) => some (!off && s.aliveHigh)
  | some (.trigOut _, .enable) | some (.marker _, .enable) | some (.alive, .enable) => some (!off)
  | some (.faultN, .output) => some (!s.faultN)
  | some (.thermN, .output) => some (!s.thm.thermN)
  | some (.resetN, .input) => some (!s.pw.resetLow)
  | _ => none

/-- What the boundary register captures; a cell whose ball only the board knows captures a free value. -/
def State.capture (s : State) : Nat × State :=
  let (x, s) := s.draw (2 ^ boundaryCells)
  (maskOf ((List.range boundaryCells).filter (fun k => (s.cellNow k).getD (x.testBit k))), s)

/-- What the TAP drives onto a ball while RESET_N is asserted (R586): the output cell's level where the enable cell holds 1; FAULT_N and THERM_N only
low. HIGHZ drives nothing. -/
def State.tapDrives (s : State) (b : Ball) : Option Bool :=
  let on (kind : CellKind) : Option Bool :=
    ((List.range boundaryCells).find? (fun k => scanCell k == some (b, kind))).map (fun k => Tbl.get s.tap.boundary 0 k != 0)
  if s.tap.driving ≠ 1 ∧ s.tap.driving ≠ 2 then none
  else
    match on .output, on .enable with
    | some v, some e => if e then some v else none
    | some v, none => if v then none else some false
    | none, _ => none

/-- TAP_RESET (R585). -/
def execTapReset (s : State) : Host.Outcome State Fault Refusal := if s.tapOn then .next (s.tapSet 0x01 idcode idcode) else .next s

/-- IDCODE (R585). -/
def execTapIdcode (s : State) : Host.Outcome State Fault Refusal := if s.tapOn then .next (s.tapSet 0x01 idcode idcode) else .next s

/-- SAMPLE_PRELOAD (R585): the boundary register is selected and captures; `cells`, counted from TDO, are then shifted in as ones. -/
def execSamplePreload (cells : List Nat) (s : State) : Host.Outcome State Fault Refusal :=
  if s.tapOn then
    let l := cells.filter (fun k => decide (k < boundaryCells))
    let b := l.foldl (fun (t : Tbl Nat) k => Tbl.put t k 1) []
    let (x, s) := s.capture
    .next (({ s with tap := { s.tap with boundary := b } }).tapSet 0x02 (maskOf l) x)
  else .next s

/-- The boundary register as a number, cell 0 nearest TDO. -/
def Tap.shifted (t : Tap) : Nat := maskOf (t.boundary.map (·.1))

/-- EXTEST (R586): with RESET_N asserted the boundary register drives the balls; otherwise it acts as BYPASS. -/
def execTapExtest (s : State) : Host.Outcome State Fault Refusal :=
  if !s.tapOn then .next s
  else if s.pw.resetLow then
    let (x, s) := s.capture
    .next (s.tapSet 0x03 s.tap.shifted x)
  else .next (s.tapSet 0x03 0 0)

/-- CLAMP (R586). -/
def execTapClamp (s : State) : Host.Outcome State Fault Refusal := if s.tapOn then .next (s.tapSet 0x04 0 0) else .next s

/-- HIGHZ (R586). -/
def execTapHighz (s : State) : Host.Outcome State Fault Refusal := if s.tapOn then .next (s.tapSet 0x05 0 0) else .next s

/-- BYPASS (R585). -/
def execTapBypass (s : State) : Host.Outcome State Fault Refusal := if s.tapOn then .next (s.tapSet 0xFF 0 0) else .next s

end Sys2Proof.Machine
end

