-- ==== Sys2Proof/Machine/Serve.lean ====
section
/-! DEFINITION. Requests buffered in an outage are carried out when service resumes (R469): each runs its own meaning again, with its
ingress instant and the LATE flag. -/

namespace Sys2Proof.Machine

/-- The meaning of a request that was buffered; a command that is no ADP request is never buffered. -/
def serveOne (i : Instr) (s : State) : Host.Outcome State Fault Refusal :=
  match i with
  | .calRestart path => execCalRestart path s
  | .timekeeperSelectionWrite h d => execTimekeeperSelectionWrite h d s
  | .chipNumberWrite h d => execChipNumberWrite h d s
  | .bondSlotWrite h d n sub => execBondSlotWrite h d n sub s
  | .bondForm h d n => execBondForm h d n s
  | .bondDissolve h d n => execBondDissolve h d n s
  | .bondResume h d n => execBondResume h d n s
  | .kReset path => execKReset path s
  | .budgetWrite path v => execBudgetWrite path v s
  | .analogReserveWrite path v => execAnalogReserveWrite path v s
  | .modeChangeCommand h d => execModeChangeCommand h d s
  | .strobeNow h d c => execStrobeNow h d c s
  | .tripLatchClear path c p holds => execTripLatchClear path c p holds s
  | .pinRepair h d c => execPinRepair h d c s
  | .spareRelease h c => execSpareRelease h c s
  | .deratedRestore h d c p => execDeratedRestore h d c p s
  | .envelopeWrite h d c n current => execEnvelopeWrite h d c n current s
  | .applyNow path c => execApplyNow path c s
  | .timingSetWrite h d c ss edges => execTimingSetWrite h d c ss edges s
  | .fixtureDeskewWrite h d c pp => execFixtureDeskewWrite h d c pp s
  | .descriptorWrite h d c => execDescriptorWrite h d c s
  | .jumpRequest path c => execJumpRequest path c s
  | .apgEnableWrite path c on => execApgEnableWrite path c on s
  | .failBufferReadIndex h d c => execFailBufferReadIndex h d c s
  | .tallyClear path c t => execTallyClear path c t s
  | .threadStart path k => execThreadStart path k s
  | .threadStop path k => execThreadStop path k s
  | .ownerHold path k => execOwnerHold path k s
  | .ownerResume path k => execOwnerResume path k s
  | .setEventFlags path k mask => execSetEventFlags path k mask s
  | .stepMemoryWrite h d c => execStepMemoryWrite h d c s
  | .threadConfigWrite h d k => execThreadConfigWrite h d k s
  | .slotGridWrite h d k => execSlotGridWrite h d k s
  | .waitLimitWrite h d c => execWaitLimitWrite h d c s
  | .courseRestart path c => execCourseRestart path c s
  | .customerImageLoad h d => execCustomerImageLoad h d s
  | .contextWrite h d => execContextWrite h d s
  | .ringAcknowledge h d => execRingAcknowledge h d s
  | .statClear path site => execStatClear path site s
  | .smuTripLatchClear path m holds => execSmuTripLatchClear path m holds s
  | .smuRepair h d q => execSmuRepair h d q s
  | .smuRestore h d m => execSmuRestore h d m s
  | .smuForceNow h d q => execSmuForceNow h d q s
  | .smuEnvelopeWrite h d m current => execSmuEnvelopeWrite h d m current s
  | .wavFlagClear path w => execWavFlagClear path w s
  | .wavReservationWrite h d => execWavReservationWrite h d s
  | .wavRestore h d w => execWavRestore h d w s
  | .wavEnvelopeWrite h d w => execWavEnvelopeWrite h d w s
  | .softwareEvent h d n => execSoftwareEvent h d n s
  | .armNow h d => execArmNow h d s
  | .disarmAll path => execDisarmAll path s
  | .acqUnitEnable path u on => execAcqUnitEnable path u on s
  | .acqUnitConfigWrite h d u fn => execAcqUnitConfigWrite h d u fn s
  | .acqReadIndexWrite path u v => execAcqReadIndexWrite path u v s
  | .captureLogAcknowledge h d => execCaptureLogAcknowledge h d s
  | .flnCounterClear h d n => execFlnCounterClear h d n s
  | .eyeScanStart path n => execEyeScanStart path n s
  | .flnRestore h d n => execFlnRestore h d n s
  | .serAppend h d c => execSerAppend h d c s
  | .serRxRemove h d c => execSerRxRemove h d c s
  | .serStartNow h d c => execSerStartNow h d c s
  | .serAbort h d c => execSerAbort h d c s
  | .adpOpen port addr seq role telPort bytes => execAdpOpen port addr seq role telPort bytes s
  | .adpClose h => execAdpClose h s
  | .adpRenew h => execAdpRenew h s
  | .adpRead h items => execAdpRead h items s
  | .adpWrite h items => execAdpWrite h items s
  | .adpTunnel h items => execAdpTunnel h items s
  | .bulkOpen h idx sub dir len arg => execBulkOpen h idx sub dir len arg s
  | .bulkCancel h id => execBulkCancel h id s
  | .leaseResume h d => execLeaseResume h d s
  | .autonomousRunWrite h d => execAutonomousRunWrite h d s
  | .allowlistWrite h d => execAllowlistWrite h d s
  | .networkConfigWrite h d idx p => execNetworkConfigWrite h d idx p s
  | .macsecKeyWrite h d p => execMacsecKeyWrite h d p s
  | .restoreDefaults h d => execRestoreDefaults h d s
  | .faultClear path mask => execFaultClear path mask s
  | .firstFaultRearm path => execFirstFaultRearm path s
  | .faultInject path => execFaultInject path s
  | .escalationTimeWrite h d => execEscalationTimeWrite h d s
  | .restoreSite h d site => execRestoreSite h d site s
  | .restoreCourse h d c => execRestoreCourse h d c s
  | .bistStart path => execBistStart path s
  | .bistAbort path => execBistAbort path s
  | .fuseSoftRepairMap h d bad => execFuseSoftRepairMap h d bad s
  | .hardPpr h d n => execHardPpr h d n s
  | .calLoadDraft h d => execCalLoadDraft h d s
  | .calDraftWrite h d => execCalDraftWrite h d s
  | .calCommit h d => execCalCommit h d s
  | .calRefModeWrite h d => execCalRefModeWrite h d s
  | .standardValueWrite h d => execStandardValueWrite h d s
  | .calRun h d => execCalRun h d s
  | .rollbackAdvance h d => execRollbackAdvance h d s
  | .keyEnrol h d => execKeyEnrol h d s
  | .idleBankLoad h d => execIdleBankLoad h d s
  | .firmwareSwitch h d => execFirmwareSwitch h d s
  | .quoteNonceWrite h d => execQuoteNonceWrite h d s
  | .attestationQuote h => execAttestationQuote h s
  | .keystoneLockstepDisagree => .next s
  | .keystoneChangeoverComplete _ => .next s
  | .keystoneServiceResume _ => .next s
  | .plumbCheckStart _ _ => .next s
  | .plumbCheckComplete _ _ _ _ _ => .next s
  | .plumbCandidateCheck _ _ => .next s
  | .comparatorSelfCheck _ _ _ => .next s
  | .plumbGapTimeout _ _ => .next s
  | .patrolScrub _ _ => .next s
  | .nvmWearLevelling _ _ => .next s
  | .syncEdge _ => .next s
  | .refclkLoss => .next s
  | .refclkStable => .next s
  | .syncAbsent => .next s
  | .timekeeperAbsent => .next s
  | .ptpSyncReceive _ _ _ _ _ _ => .next s
  | .ptpDelayReq _ => .next s
  | .ptpSyncTimeout => .next s
  | .domainHoldoverLimit => .next s
  | .presenceSend => .next s
  | .leaderFramesSend _ => .next s
  | .presence _ _ _ _ _ _ _ => .next s
  | .posConflict => .next s
  | .timeFrame _ _ _ _ => .next s
  | .alignFrame _ _ _ => .next s
  | .trimFrame _ _ => .next s
  | .calFrame _ _ _ _ => .next s
  | .initialCalibrationComplete _ => .next s
  | .linesEnWrite _ => .next s
  | .join _ _ _ _ _ _ => .next s
  | .ready _ _ _ _ => .next s
  | .bondReadyDeadline _ => .next s
  | .bondActivation _ => .next s
  | .beatSend _ => .next s
  | .beat _ _ _ _ => .next s
  | .memberBeatSend _ => .next s
  | .memberBeat _ _ _ _ => .next s
  | .memberAbsent _ _ => .next s
  | .defer _ _ _ _ => .next s
  | .splitSend _ _ => .next s
  | .split _ _ _ _ => .next s
  | .bondLatencyCheck => .next s
  | .bondDissolveComplete _ => .next s
  | .launchRecordEntry _ _ _ _ _ _ _ _ => .next s
  | .loadStrobe _ => .next s
  | .segmentStart _ => .next s
  | .modeChange => .next s
  | .smuForce _ => .next s
  | .smuRangeStep _ => .next s
  | .smuAperture _ => .next s
  | .wavStart _ => .next s
  | .wavStop _ => .next s
  | .flnStart => .next s
  | .serStart _ => .next s
  | .trigOut => .next s
  | .markerOut => .next s
  | .acqArm => .next s
  | .admissionDecision => .next s
  | .bondedCommit => .next s
  | .stepEnd _ => .next s
  | .powerSample _ _ => .next s
  | .ledgerBinRetire => .next s
  | .thermalSample _ => .next s
  | .levelDwellEnd _ => .next s
  | .thermalHaltEnd => .next s
  | .throttleUpdate => .next s
  | .temperatureCorrectionRecompute => .next s
  | .trip _ _ => .next s
  | .pmuMeasurementComplete _ _ _ _ => .next s
  | .repairSwapComplete _ => .next s
  | .vectorStart _ _ => .next s
  | .jumpDecisionPoint _ => .next s
  | .runEnd _ => .next s
  | .headFetchComplete _ _ => .next s
  | .refillStarve _ => .next s
  | .refillResume _ => .next s
  | .dramLineRetry _ _ _ _ _ _ _ => .next s
  | .apgInstructionEnd _ => .next s
  | .fcRestart _ => .next s
  | .stepBoundary _ => .next s
  | .stepNop _ _ => .next s
  | .progEnd _ _ => .next s
  | .stepHold _ _ => .next s
  | .stepSlot _ _ => .next s
  | .stepRun _ _ => .next s
  | .stepLevel _ _ => .next s
  | .stepMeas _ _ => .next s
  | .stepBr _ _ => .next s
  | .stepLoop _ _ => .next s
  | .stepCall _ _ => .next s
  | .stepRet _ _ => .next s
  | .stepJump _ _ => .next s
  | .talclr _ _ => .next s
  | .stepBin _ _ => .next s
  | .stepPost _ _ => .next s
  | .waitev _ _ => .next s
  | .stepDelay _ _ => .next s
  | .customerOpcode _ _ => .next s
  | .mov _ => .next s
  | .add _ => .next s
  | .sub _ => .next s
  | .aluAnd _ => .next s
  | .aluOr _ => .next s
  | .aluXor _ => .next s
  | .shl _ => .next s
  | .shr _ => .next s
  | .asr _ => .next s
  | .cmp _ => .next s
  | .tst _ => .next s
  | .mul _ => .next s
  | .mulh _ => .next s
  | .aluMin _ => .next s
  | .aluMax _ => .next s
  | .aluExt _ => .next s
  | .sext _ => .next s
  | .bset _ => .next s
  | .bclr _ => .next s
  | .cont _ _ => .next s
  | .branch _ _ => .next s
  | .microCall _ _ => .next s
  | .microRet _ _ => .next s
  | .commit _ _ => .next s
  | .microEnd _ _ => .next s
  | .abort _ _ => .next s
  | .rdreg _ => .next s
  | .wrreg _ => .next s
  | .ctxf _ => .next s
  | .ctxs _ => .next s
  | .ctxa _ => .next s
  | .cost _ => .next s
  | .unitSlot _ => .next s
  | .unitAdmit _ => .next s
  | .launch _ => .next s
  | .rkrd _ => .next s
  | .rkwr _ => .next s
  | .unitPost _ => .next s
  | .jreq _ => .next s
  | .tclr _ => .next s
  | .spush _ => .next s
  | .spop _ => .next s
  | .evset _ => .next s
  | .evclr _ => .next s
  | .spc _ => .next s
  | .movs _ => .next s
  | .movt _ => .next s
  | .timer _ => .next s
  | .vcall _ _ => .next s
  | .issue _ => .next s
  | .finish _ => .next s
  | .segstart _ => .next s
  | .waitRelease _ => .next s
  | .waitLimitTimeout _ => .next s
  | .threadTimerExpiry _ => .next s
  | .parityReloadComplete _ _ => .next s
  | .shadowUncorrectable _ => .next s
  | .customerImageCourseCopy _ => .next s
  | .ctxfProceed _ => .next s
  | .contextFetchComplete _ => .next s
  | .contextPrefetch _ => .next s
  | .cacheFlush _ => .next s
  | .resultArrival _ => .next s
  | .resultRecordWrite _ => .next s
  | .smuMonitorTrip _ => .next s
  | .smuMeasurementDelivery _ _ => .next s
  | .smuPulseEnd _ => .next s
  | .kelvinOpen _ => .next s
  | .smuDissipationSample _ _ _ => .next s
  | .smuAutozeroStart _ => .next s
  | .smuAutozeroComplete _ _ _ _ _ => .next s
  | .smuRepairComplete _ => .next s
  | .wavUnderrun _ => .next s
  | .wavOneShotDone _ => .next s
  | .wavCaptureEnd _ _ => .next s
  | .wavReductionDelivery _ => .next s
  | .wavCurrentLimit _ _ => .next s
  | .wavPlumbCheck _ _ => .next s
  | .triggerEvent _ _ => .next s
  | .acqSegmentComplete _ _ => .next s
  | .deadTimeEnd _ => .next s
  | .smuIntervalSample _ _ => .next s
  | .flnGateOpen _ => .next s
  | .flnGateClose _ => .next s
  | .flnAdaptationComplete _ => .next s
  | .flnAdaptationTimeout _ => .next s
  | .flnCheckerLock _ => .next s
  | .flnLockLoss _ => .next s
  | .flnBitError _ _ => .next s
  | .eyeScanComplete _ _ => .next s
  | .serEntryStart _ => .next s
  | .serEntryEnd _ _ => .next s
  | .serTargetSelectAssert _ => .next s
  | .serTargetSelectRelease _ _ => .next s
  | .bulkData _ _ _ _ _ _ _ => .next s
  | .bulkAck _ _ _ _ _ => .next s
  | .bulkAckTimer _ => .next s
  | .bulkResendTimer _ => .next s
  | .bulkEnd _ => .next s
  | .bulkStallTimeout _ => .next s
  | .leaseLapse => .next s
  | .observerTimeout _ => .next s
  | .macsecIntegrityFail _ => .next s
  | .linkDown _ => .next s
  | .linkUp _ => .next s
  | .lldpTransmit => .next s
  | .lldpReceive _ _ _ _ => .next s
  | .telemetrySample => .next s
  | .storedValueJournaled _ => .next s
  | .registerWrite _ _ => .next s
  | .faultReport _ _ _ _ => .next s
  | .firstFaultWindowClose => .next s
  | .escalationExpiry => .next s
  | .fcOvfClear => .next s
  | .collectorSelfCheck _ => .next s
  | .faultLogWrite => .next s
  | .bistSliceStart => .next s
  | .bistComplete _ _ _ _ _ => .next s
  | .bistTimeLimit => .next s
  | .calRunComplete _ => .next s
  | .switchLoaded _ => .next s
  | .switchQuietPoint => .next s
  | .probationEnd => .next s
  | .switchRevert => .next s
  | .powerOnResetAssert _ _ => .next s
  | .resetNAssert => .next s
  | .resetRelease _ _ _ => .next s
  | .startupStepComplete _ _ _ => .next s
  | .railOutOfRange _ => .next s
  | .aliveToggle => .next s
  | .tapReset => .next s
  | .tapIdcode => .next s
  | .samplePreload _ => .next s
  | .tapExtest => .next s
  | .tapClamp => .next s
  | .tapHighz => .next s
  | .tapBypass => .next s
  | .calCommitComplete _ => .next s
  | .holdOffEnd _ => .next s
  | .smuClamp _ _ => .next s
  | .wavInternalSample _ => .next s
  | .ptpDelayRespReceive _ _ => .next s
  | .bistSliceComplete => .next s

/-- Requests before another: the earlier ingress instant, E0 first on a tie (R469). -/
def Buffered.before (a b : Buffered) : Bool := decide (a.ingress < b.ingress) || (a.ingress == b.ingress && decide (a.port ≤ b.port))

/-- A request put in its place in the order in which requests are processed. -/
def insertBuffered (b : Buffered) : List Buffered → List Buffered
  | [] => [b]
  | x :: l => if x.before b then x :: insertBuffered b l else b :: x :: l

/-- Buffered requests in the order in which they are processed. -/
def orderBuffered (l : List Buffered) : List Buffered := l.foldl (fun a b => insertBuffered b a) []

/-- Serves buffered requests in order. -/
def serveAll : List Buffered → State → Host.Outcome State Fault Refusal
  | [], s => .next { s with ks := { s.ks with serving := none } }
  | b :: l, s =>
    match serveOne b.cmd { s with ks := { s.ks with serving := some b.ingress } } with
    | .next s => serveAll l s
    | r => r

end Sys2Proof.Machine
end

