-- ==== Sys2Proof/Machine/Keystone.lean ====
section
/-! DEFINITION. Keystone pairs: disagreement, change-over and the return of service (R12, R23, R25, R469, R555, R556). -/

namespace Sys2Proof.Machine

/-- KEYSTONE_LOCKSTEP_DISAGREE (R12, R556): in probation the old pair takes over again; otherwise the outage of a change-over begins. -/
def execKeystoneLockstepDisagree (s : State) : Host.Outcome State Fault Refusal :=
  if !s.ks.running ∨ s.ks.outage then .next s
  else if s.switchState = swProbation then .next s.revert
  else
    let s := s.report 37 sevDegraded (detail clsBlock 0x01)
    .next { s with ks := { s.ks with outage := true, outageAt := s.tb.loc, changing := true } }

/-- KEYSTONE_CHANGEOVER_COMPLETE (R12): the standby pair is ready `dt` ticks after the disagreement, at most 300 µs. In LOADING or STAGED it runs
the new firmware, and the change-over completes the switch (R556). -/
def execKeystoneChangeoverComplete (dt : Nat) (s : State) : Host.Outcome State Fault Refusal :=
  if !s.ks.changing then .next s
  else
    let s := s.reachLoc (s.ks.outageAt + min dt (us 300))
    let s := if s.switchState = swLoading ∨ s.switchState = swStaged then
        let s := s.swapPair
        let s := s.prefer s.tr.bank
        let s := { s with tr := { s.tr with loadAt := none, stagedAt := none, buffering := false } }
        (s.setSwitch swIdle).setBit F.KEY_STATUS_switched 0 0 true
      else s.setBit F.KEY_STATUS_pair 0 0 (!s.bit F.KEY_STATUS_pair)
    let s := (s.setBit F.KEY_STATUS_change_over 0 0 true).setBit F.KEY_STATUS_standby_ok 0 0 false
    .next { s with ks := { s.ks with changing := false } }

/-- The new firmware serves after the freeze of a switch (R555, steps 3 and 4). -/
def State.handOff (s : State) : State :=
  let s := (s.swapPair).setSwitch swProbation
  let s := s.setFld F.KEY_HANDOFF_last_us 0 0 ((s.tb.loc - s.tr.freezeAt.getD s.tb.loc) / us 1)
  { s with tr := { s.tr with freezeAt := none, probationEnd := some (s.tb.loc + ms 10000) } }

/-- KEYSTONE_SERVICE_RESUME (R469): service runs again `dt` ticks after the freeze or the change-over began, at most 300 µs, and serves what was
buffered. It also serves what was buffered to make a quiet point when that ends without a switch. -/
def execKeystoneServiceResume (dt : Nat) (s : State) : Host.Outcome State Fault Refusal :=
  if s.ks.changing ∨ s.tr.buffering ∨ (!s.ks.outage ∧ s.ks.buffered = []) then .next s
  else
    let s := if s.ks.outage then
        let s := s.reachLoc (s.ks.outageAt + min dt (us 300))
        let s := { s with ks := { s.ks with outage := false } }
        if s.switchState = swSwitching then s.handOff else s
      else s
    let l := orderBuffered s.ks.buffered
    serveAll l { s.flushAll with ks := { s.flushAll.ks with buffered := [] } }

end Sys2Proof.Machine
end

