-- ==== Sys2Proof/Machine/Dispatch.lean ====
section
/-! DEFINITION. The dispatch: one arm for each command, each one direct call of its meaning. -/

namespace Sys2Proof.Machine

def exec (i : Instr) (s : State) : Host.Outcome State Fault Refusal :=
  match i with
  | .calRestart path => Sys2Proof.Machine.execCalRestart path s
  | .timekeeperSelectionWrite h d => Sys2Proof.Machine.execTimekeeperSelectionWrite h d s
  | .chipNumberWrite h d => Sys2Proof.Machine.execChipNumberWrite h d s
  | .bondSlotWrite h d n sub => Sys2Proof.Machine.execBondSlotWrite h d n sub s
  | .bondForm h d n => Sys2Proof.Machine.execBondForm h d n s
  | .bondDissolve h d n => Sys2Proof.Machine.execBondDissolve h d n s
  | .bondResume h d n => Sys2Proof.Machine.execBondResume h d n s
  | .kReset path => Sys2Proof.Machine.execKReset path s
  | .budgetWrite path v => Sys2Proof.Machine.execBudgetWrite path v s
  | .analogReserveWrite path v => Sys2Proof.Machine.execAnalogReserveWrite path v s
  | .modeChangeCommand h d => Sys2Proof.Machine.execModeChangeCommand h d s
  | .strobeNow h d c => Sys2Proof.Machine.execStrobeNow h d c s
  | .tripLatchClear path c p holds => Sys2Proof.Machine.execTripLatchClear path c p holds s
  | .pinRepair h d c => Sys2Proof.Machine.execPinRepair h d c s
  | .spareRelease h c => Sys2Proof.Machine.execSpareRelease h c s
  | .deratedRestore h d c p => Sys2Proof.Machine.execDeratedRestore h d c p s
  | .envelopeWrite h d c n current => Sys2Proof.Machine.execEnvelopeWrite h d c n current s
  | .applyNow path c => Sys2Proof.Machine.execApplyNow path c s
  | .timingSetWrite h d c ss edges => Sys2Proof.Machine.execTimingSetWrite h d c ss edges s
  | .fixtureDeskewWrite h d c pp => Sys2Proof.Machine.execFixtureDeskewWrite h d c pp s
  | .descriptorWrite h d c => Sys2Proof.Machine.execDescriptorWrite h d c s
  | .jumpRequest path c => Sys2Proof.Machine.execJumpRequest path c s
  | .apgEnableWrite path c on => Sys2Proof.Machine.execApgEnableWrite path c on s
  | .failBufferReadIndex h d c => Sys2Proof.Machine.execFailBufferReadIndex h d c s
  | .tallyClear path c t => Sys2Proof.Machine.execTallyClear path c t s
  | .threadStart path k => Sys2Proof.Machine.execThreadStart path k s
  | .threadStop path k => Sys2Proof.Machine.execThreadStop path k s
  | .ownerHold path k => Sys2Proof.Machine.execOwnerHold path k s
  | .ownerResume path k => Sys2Proof.Machine.execOwnerResume path k s
  | .setEventFlags path k mask => Sys2Proof.Machine.execSetEventFlags path k mask s
  | .stepMemoryWrite h d c => Sys2Proof.Machine.execStepMemoryWrite h d c s
  | .threadConfigWrite h d k => Sys2Proof.Machine.execThreadConfigWrite h d k s
  | .slotGridWrite h d k => Sys2Proof.Machine.execSlotGridWrite h d k s
  | .waitLimitWrite h d c => Sys2Proof.Machine.execWaitLimitWrite h d c s
  | .courseRestart path c => Sys2Proof.Machine.execCourseRestart path c s
  | .customerImageLoad h d => Sys2Proof.Machine.execCustomerImageLoad h d s
  | .contextWrite h d => Sys2Proof.Machine.execContextWrite h d s
  | .ringAcknowledge h d => Sys2Proof.Machine.execRingAcknowledge h d s
  | .statClear path site => Sys2Proof.Machine.execStatClear path site s
  | .smuTripLatchClear path m holds => Sys2Proof.Machine.execSmuTripLatchClear path m holds s
  | .smuRepair h d q => Sys2Proof.Machine.execSmuRepair h d q s
  | .smuRestore h d m => Sys2Proof.Machine.execSmuRestore h d m s
  | .smuForceNow h d q => Sys2Proof.Machine.execSmuForceNow h d q s
  | .smuEnvelopeWrite h d m current => Sys2Proof.Machine.execSmuEnvelopeWrite h d m current s
  | .wavFlagClear path w => Sys2Proof.Machine.execWavFlagClear path w s
  | .wavReservationWrite h d => Sys2Proof.Machine.execWavReservationWrite h d s
  | .wavRestore h d w => Sys2Proof.Machine.execWavRestore h d w s
  | .wavEnvelopeWrite h d w => Sys2Proof.Machine.execWavEnvelopeWrite h d w s
  | .softwareEvent h d n => Sys2Proof.Machine.execSoftwareEvent h d n s
  | .armNow h d => Sys2Proof.Machine.execArmNow h d s
  | .disarmAll path => Sys2Proof.Machine.execDisarmAll path s
  | .acqUnitEnable path u on => Sys2Proof.Machine.execAcqUnitEnable path u on s
  | .acqUnitConfigWrite h d u fn => Sys2Proof.Machine.execAcqUnitConfigWrite h d u fn s
  | .acqReadIndexWrite path u v => Sys2Proof.Machine.execAcqReadIndexWrite path u v s
  | .captureLogAcknowledge h d => Sys2Proof.Machine.execCaptureLogAcknowledge h d s
  | .flnCounterClear h d n => Sys2Proof.Machine.execFlnCounterClear h d n s
  | .eyeScanStart path n => Sys2Proof.Machine.execEyeScanStart path n s
  | .flnRestore h d n => Sys2Proof.Machine.execFlnRestore h d n s
  | .serAppend h d c => Sys2Proof.Machine.execSerAppend h d c s
  | .serRxRemove h d c => Sys2Proof.Machine.execSerRxRemove h d c s
  | .serStartNow h d c => Sys2Proof.Machine.execSerStartNow h d c s
  | .serAbort h d c => Sys2Proof.Machine.execSerAbort h d c s
  | .adpOpen port addr seq role telPort bytes => Sys2Proof.Machine.execAdpOpen port addr seq role telPort bytes s
  | .adpClose h => Sys2Proof.Machine.execAdpClose h s
  | .adpRenew h => Sys2Proof.Machine.execAdpRenew h s
  | .adpRead h items => Sys2Proof.Machine.execAdpRead h items s
  | .adpWrite h items => Sys2Proof.Machine.execAdpWrite h items s
  | .adpTunnel h items => Sys2Proof.Machine.execAdpTunnel h items s
  | .bulkOpen h idx sub dir len arg => Sys2Proof.Machine.execBulkOpen h idx sub dir len arg s
  | .bulkCancel h id => Sys2Proof.Machine.execBulkCancel h id s
  | .leaseResume h d => Sys2Proof.Machine.execLeaseResume h d s
  | .autonomousRunWrite h d => Sys2Proof.Machine.execAutonomousRunWrite h d s
  | .allowlistWrite h d => Sys2Proof.Machine.execAllowlistWrite h d s
  | .networkConfigWrite h d idx p => Sys2Proof.Machine.execNetworkConfigWrite h d idx p s
  | .macsecKeyWrite h d p => Sys2Proof.Machine.execMacsecKeyWrite h d p s
  | .restoreDefaults h d => Sys2Proof.Machine.execRestoreDefaults h d s
  | .faultClear path mask => Sys2Proof.Machine.execFaultClear path mask s
  | .firstFaultRearm path => Sys2Proof.Machine.execFirstFaultRearm path s
  | .faultInject path => Sys2Proof.Machine.execFaultInject path s
  | .escalationTimeWrite h d => Sys2Proof.Machine.execEscalationTimeWrite h d s
  | .restoreSite h d site => Sys2Proof.Machine.execRestoreSite h d site s
  | .restoreCourse h d c => Sys2Proof.Machine.execRestoreCourse h d c s
  | .bistStart path => Sys2Proof.Machine.execBistStart path s
  | .bistAbort path => Sys2Proof.Machine.execBistAbort path s
  | .fuseSoftRepairMap h d bad => Sys2Proof.Machine.execFuseSoftRepairMap h d bad s
  | .hardPpr h d n => Sys2Proof.Machine.execHardPpr h d n s
  | .calLoadDraft h d => Sys2Proof.Machine.execCalLoadDraft h d s
  | .calDraftWrite h d => Sys2Proof.Machine.execCalDraftWrite h d s
  | .calCommit h d => Sys2Proof.Machine.execCalCommit h d s
  | .calRefModeWrite h d => Sys2Proof.Machine.execCalRefModeWrite h d s
  | .standardValueWrite h d => Sys2Proof.Machine.execStandardValueWrite h d s
  | .calRun h d => Sys2Proof.Machine.execCalRun h d s
  | .rollbackAdvance h d => Sys2Proof.Machine.execRollbackAdvance h d s
  | .keyEnrol h d => Sys2Proof.Machine.execKeyEnrol h d s
  | .idleBankLoad h d => Sys2Proof.Machine.execIdleBankLoad h d s
  | .firmwareSwitch h d => Sys2Proof.Machine.execFirmwareSwitch h d s
  | .quoteNonceWrite h d => Sys2Proof.Machine.execQuoteNonceWrite h d s
  | .attestationQuote h => Sys2Proof.Machine.execAttestationQuote h s
  | .keystoneLockstepDisagree => Sys2Proof.Machine.execKeystoneLockstepDisagree s
  | .keystoneChangeoverComplete dt => Sys2Proof.Machine.execKeystoneChangeoverComplete dt s
  | .keystoneServiceResume dt => Sys2Proof.Machine.execKeystoneServiceResume dt s
  | .plumbCheckStart c p => Sys2Proof.Machine.execPlumbCheckStart c p s
  | .plumbCheckComplete c p rise fall cmp => Sys2Proof.Machine.execPlumbCheckComplete c p rise fall cmp s
  | .plumbCandidateCheck c p => Sys2Proof.Machine.execPlumbCandidateCheck c p s
  | .comparatorSelfCheck c p result => Sys2Proof.Machine.execComparatorSelfCheck c p result s
  | .plumbGapTimeout c p => Sys2Proof.Machine.execPlumbGapTimeout c p s
  | .patrolScrub n rows => Sys2Proof.Machine.execPatrolScrub n rows s
  | .nvmWearLevelling b bad => Sys2Proof.Machine.execNvmWearLevelling b bad s
  | .syncEdge capture => Sys2Proof.Machine.execSyncEdge capture s
  | .refclkLoss => Sys2Proof.Machine.execRefclkLoss s
  | .refclkStable => Sys2Proof.Machine.execRefclkStable s
  | .syncAbsent => Sys2Proof.Machine.execSyncAbsent s
  | .timekeeperAbsent => Sys2Proof.Machine.execTimekeeperAbsent s
  | .ptpSyncReceive port origin n phi trim lock => Sys2Proof.Machine.execPtpSyncReceive port origin n phi trim lock s
  | .ptpDelayReq port => Sys2Proof.Machine.execPtpDelayReq port s
  | .ptpSyncTimeout => Sys2Proof.Machine.execPtpSyncTimeout s
  | .domainHoldoverLimit => Sys2Proof.Machine.execDomainHoldoverLimit s
  | .presenceSend => Sys2Proof.Machine.execPresenceSend s
  | .leaderFramesSend cal => Sys2Proof.Machine.execLeaderFramesSend cal s
  | .presence chip pos mode tstate unassigned sync check => Sys2Proof.Machine.execPresence chip pos mode tstate unassigned sync check s
  | .posConflict => Sys2Proof.Machine.execPosConflict s
  | .timeFrame n unlocked holdover check => Sys2Proof.Machine.execTimeFrame n unlocked holdover check s
  | .alignFrame phiNs frac check => Sys2Proof.Machine.execAlignFrame phiNs frac check s
  | .trimFrame trim check => Sys2Proof.Machine.execTrimFrame trim check s
  | .calFrame pos meas dab check => Sys2Proof.Machine.execCalFrame pos meas dab check s
  | .initialCalibrationComplete dab => Sys2Proof.Machine.execInitialCalibrationComplete dab s
  | .linesEnWrite on => Sys2Proof.Machine.execLinesEnWrite on s
  | .join via bond chip tstate sync check => Sys2Proof.Machine.execJoin via bond chip tstate sync check s
  | .ready via bond inst check => Sys2Proof.Machine.execReady via bond inst check s
  | .bondReadyDeadline n => Sys2Proof.Machine.execBondReadyDeadline n s
  | .bondActivation n => Sys2Proof.Machine.execBondActivation n s
  | .beatSend n => Sys2Proof.Machine.execBeatSend n s
  | .beat via bond inst check => Sys2Proof.Machine.execBeat via bond inst check s
  | .memberBeatSend n => Sys2Proof.Machine.execMemberBeatSend n s
  | .memberBeat via bond chip check => Sys2Proof.Machine.execMemberBeat via bond chip check s
  | .memberAbsent n chip => Sys2Proof.Machine.execMemberAbsent n chip s
  | .defer via bond inst check => Sys2Proof.Machine.execDefer via bond inst check s
  | .splitSend n t0 => Sys2Proof.Machine.execSplitSend n t0 s
  | .split via bond inst check => Sys2Proof.Machine.execSplit via bond inst check s
  | .bondLatencyCheck => Sys2Proof.Machine.execBondLatencyCheck s
  | .bondDissolveComplete n => Sys2Proof.Machine.execBondDissolveComplete n s
  | .launchRecordEntry queue target action chipWide site payload instNs instFrac => Sys2Proof.Machine.execLaunchRecordEntry queue target action chipWide site payload instNs instFrac s
  | .loadStrobe c => Sys2Proof.Machine.execLoadStrobe c s
  | .segmentStart c => Sys2Proof.Machine.execSegmentStart c s
  | .modeChange => Sys2Proof.Machine.execModeChange s
  | .smuForce q => Sys2Proof.Machine.execSmuForce q s
  | .smuRangeStep m => Sys2Proof.Machine.execSmuRangeStep m s
  | .smuAperture q => Sys2Proof.Machine.execSmuAperture q s
  | .wavStart hf => Sys2Proof.Machine.execWavStart hf s
  | .wavStop hf => Sys2Proof.Machine.execWavStop hf s
  | .flnStart => Sys2Proof.Machine.execFlnStart s
  | .serStart c => Sys2Proof.Machine.execSerStart c s
  | .trigOut => Sys2Proof.Machine.execTrigOut s
  | .markerOut => Sys2Proof.Machine.execMarkerOut s
  | .acqArm => Sys2Proof.Machine.execAcqArm s
  | .admissionDecision => Sys2Proof.Machine.execAdmissionDecision s
  | .bondedCommit => Sys2Proof.Machine.execBondedCommit s
  | .stepEnd k => Sys2Proof.Machine.execStepEnd k s
  | .powerSample rails delivered => Sys2Proof.Machine.execPowerSample rails delivered s
  | .ledgerBinRetire => Sys2Proof.Machine.execLedgerBinRetire s
  | .thermalSample readings => Sys2Proof.Machine.execThermalSample readings s
  | .levelDwellEnd level => Sys2Proof.Machine.execLevelDwellEnd level s
  | .thermalHaltEnd => Sys2Proof.Machine.execThermalHaltEnd s
  | .throttleUpdate => Sys2Proof.Machine.execThrottleUpdate s
  | .temperatureCorrectionRecompute => Sys2Proof.Machine.execTemperatureCorrectionRecompute s
  | .trip c p => Sys2Proof.Machine.execTrip c p s
  | .pmuMeasurementComplete c n value clamp => Sys2Proof.Machine.execPmuMeasurementComplete c n value clamp s
  | .repairSwapComplete c => Sys2Proof.Machine.execRepairSwapComplete c s
  | .vectorStart c samples => Sys2Proof.Machine.execVectorStart c samples s
  | .jumpDecisionPoint c => Sys2Proof.Machine.execJumpDecisionPoint c s
  | .runEnd c => Sys2Proof.Machine.execRunEnd c s
  | .headFetchComplete c seg => Sys2Proof.Machine.execHeadFetchComplete c seg s
  | .refillStarve c => Sys2Proof.Machine.execRefillStarve c s
  | .refillResume c => Sys2Proof.Machine.execRefillResume c s
  | .dramLineRetry n pc bank row line tries ok => Sys2Proof.Machine.execDramLineRetry n pc bank row line tries ok s
  | .apgInstructionEnd c => Sys2Proof.Machine.execApgInstructionEnd c s
  | .fcRestart c => Sys2Proof.Machine.execFcRestart c s
  | .stepBoundary k => Sys2Proof.Machine.execStepBoundary k s
  | .stepNop k bad => Sys2Proof.Machine.execStepNop k bad s
  | .progEnd k bad => Sys2Proof.Machine.execProgEnd k bad s
  | .stepHold k bad => Sys2Proof.Machine.execStepHold k bad s
  | .stepSlot k bad => Sys2Proof.Machine.execStepSlot k bad s
  | .stepRun k bad => Sys2Proof.Machine.execStepRun k bad s
  | .stepLevel k bad => Sys2Proof.Machine.execStepLevel k bad s
  | .stepMeas k bad => Sys2Proof.Machine.execStepMeas k bad s
  | .stepBr k bad => Sys2Proof.Machine.execStepBr k bad s
  | .stepLoop k bad => Sys2Proof.Machine.execStepLoop k bad s
  | .stepCall k bad => Sys2Proof.Machine.execStepCall k bad s
  | .stepRet k bad => Sys2Proof.Machine.execStepRet k bad s
  | .stepJump k bad => Sys2Proof.Machine.execStepJump k bad s
  | .talclr k bad => Sys2Proof.Machine.execTalclr k bad s
  | .stepBin k bad => Sys2Proof.Machine.execStepBin k bad s
  | .stepPost k bad => Sys2Proof.Machine.execStepPost k bad s
  | .waitev k bad => Sys2Proof.Machine.execWaitev k bad s
  | .stepDelay k bad => Sys2Proof.Machine.execStepDelay k bad s
  | .customerOpcode k bad => Sys2Proof.Machine.execCustomerOpcode k bad s
  | .mov k => Sys2Proof.Machine.execMov k s
  | .add k => Sys2Proof.Machine.execAdd k s
  | .sub k => Sys2Proof.Machine.execSub k s
  | .aluAnd k => Sys2Proof.Machine.execAluAnd k s
  | .aluOr k => Sys2Proof.Machine.execAluOr k s
  | .aluXor k => Sys2Proof.Machine.execAluXor k s
  | .shl k => Sys2Proof.Machine.execShl k s
  | .shr k => Sys2Proof.Machine.execShr k s
  | .asr k => Sys2Proof.Machine.execAsr k s
  | .cmp k => Sys2Proof.Machine.execCmp k s
  | .tst k => Sys2Proof.Machine.execTst k s
  | .mul k => Sys2Proof.Machine.execMul k s
  | .mulh k => Sys2Proof.Machine.execMulh k s
  | .aluMin k => Sys2Proof.Machine.execAluMin k s
  | .aluMax k => Sys2Proof.Machine.execAluMax k s
  | .aluExt k => Sys2Proof.Machine.execAluExt k s
  | .sext k => Sys2Proof.Machine.execSext k s
  | .bset k => Sys2Proof.Machine.execBset k s
  | .bclr k => Sys2Proof.Machine.execBclr k s
  | .cont k bad => Sys2Proof.Machine.execCont k bad s
  | .branch k bad => Sys2Proof.Machine.execBranch k bad s
  | .microCall k bad => Sys2Proof.Machine.execMicroCall k bad s
  | .microRet k bad => Sys2Proof.Machine.execMicroRet k bad s
  | .commit k bad => Sys2Proof.Machine.execCommit k bad s
  | .microEnd k bad => Sys2Proof.Machine.execMicroEnd k bad s
  | .abort k bad => Sys2Proof.Machine.execAbort k bad s
  | .rdreg k => Sys2Proof.Machine.execRdreg k s
  | .wrreg k => Sys2Proof.Machine.execWrreg k s
  | .ctxf k => Sys2Proof.Machine.execCtxf k s
  | .ctxs k => Sys2Proof.Machine.execCtxs k s
  | .ctxa k => Sys2Proof.Machine.execCtxa k s
  | .cost k => Sys2Proof.Machine.execCost k s
  | .unitSlot k => Sys2Proof.Machine.execUnitSlot k s
  | .unitAdmit k => Sys2Proof.Machine.execUnitAdmit k s
  | .launch k => Sys2Proof.Machine.execLaunch k s
  | .rkrd k => Sys2Proof.Machine.execRkrd k s
  | .rkwr k => Sys2Proof.Machine.execRkwr k s
  | .unitPost k => Sys2Proof.Machine.execUnitPost k s
  | .jreq k => Sys2Proof.Machine.execJreq k s
  | .tclr k => Sys2Proof.Machine.execTclr k s
  | .spush k => Sys2Proof.Machine.execSpush k s
  | .spop k => Sys2Proof.Machine.execSpop k s
  | .evset k => Sys2Proof.Machine.execEvset k s
  | .evclr k => Sys2Proof.Machine.execEvclr k s
  | .spc k => Sys2Proof.Machine.execSpc k s
  | .movs k => Sys2Proof.Machine.execMovs k s
  | .movt k => Sys2Proof.Machine.execMovt k s
  | .timer k => Sys2Proof.Machine.execTimer k s
  | .vcall k bad => Sys2Proof.Machine.execVcall k bad s
  | .issue k => Sys2Proof.Machine.execIssue k s
  | .finish k => Sys2Proof.Machine.execFinish k s
  | .segstart k => Sys2Proof.Machine.execSegstart k s
  | .waitRelease k => Sys2Proof.Machine.execWaitRelease k s
  | .waitLimitTimeout k => Sys2Proof.Machine.execWaitLimitTimeout k s
  | .threadTimerExpiry k => Sys2Proof.Machine.execThreadTimerExpiry k s
  | .parityReloadComplete k bad => Sys2Proof.Machine.execParityReloadComplete k bad s
  | .shadowUncorrectable addr => Sys2Proof.Machine.execShadowUncorrectable addr s
  | .customerImageCourseCopy c => Sys2Proof.Machine.execCustomerImageCourseCopy c s
  | .ctxfProceed c => Sys2Proof.Machine.execCtxfProceed c s
  | .contextFetchComplete c => Sys2Proof.Machine.execContextFetchComplete c s
  | .contextPrefetch k => Sys2Proof.Machine.execContextPrefetch k s
  | .cacheFlush c => Sys2Proof.Machine.execCacheFlush c s
  | .resultArrival site => Sys2Proof.Machine.execResultArrival site s
  | .resultRecordWrite k => Sys2Proof.Machine.execResultRecordWrite k s
  | .smuMonitorTrip m => Sys2Proof.Machine.execSmuMonitorTrip m s
  | .smuMeasurementDelivery m value => Sys2Proof.Machine.execSmuMeasurementDelivery m value s
  | .smuPulseEnd m => Sys2Proof.Machine.execSmuPulseEnd m s
  | .kelvinOpen m => Sys2Proof.Machine.execKelvinOpen m s
  | .smuDissipationSample m current voltage => Sys2Proof.Machine.execSmuDissipationSample m current voltage s
  | .smuAutozeroStart m => Sys2Proof.Machine.execSmuAutozeroStart m s
  | .smuAutozeroComplete m irange vrange iOff vOff => Sys2Proof.Machine.execSmuAutozeroComplete m irange vrange iOff vOff s
  | .smuRepairComplete q => Sys2Proof.Machine.execSmuRepairComplete q s
  | .wavUnderrun w => Sys2Proof.Machine.execWavUnderrun w s
  | .wavOneShotDone w => Sys2Proof.Machine.execWavOneShotDone w s
  | .wavCaptureEnd w codes => Sys2Proof.Machine.execWavCaptureEnd w codes s
  | .wavReductionDelivery w => Sys2Proof.Machine.execWavReductionDelivery w s
  | .wavCurrentLimit w inForce => Sys2Proof.Machine.execWavCurrentLimit w inForce s
  | .wavPlumbCheck w result => Sys2Proof.Machine.execWavPlumbCheck w result s
  | .triggerEvent n at_ => Sys2Proof.Machine.execTriggerEvent n at_ s
  | .acqSegmentComplete u values => Sys2Proof.Machine.execAcqSegmentComplete u values s
  | .deadTimeEnd u => Sys2Proof.Machine.execDeadTimeEnd u s
  | .smuIntervalSample n mean => Sys2Proof.Machine.execSmuIntervalSample n mean s
  | .flnGateOpen n => Sys2Proof.Machine.execFlnGateOpen n s
  | .flnGateClose n => Sys2Proof.Machine.execFlnGateClose n s
  | .flnAdaptationComplete n => Sys2Proof.Machine.execFlnAdaptationComplete n s
  | .flnAdaptationTimeout n => Sys2Proof.Machine.execFlnAdaptationTimeout n s
  | .flnCheckerLock n => Sys2Proof.Machine.execFlnCheckerLock n s
  | .flnLockLoss n => Sys2Proof.Machine.execFlnLockLoss n s
  | .flnBitError n symbol => Sys2Proof.Machine.execFlnBitError n symbol s
  | .eyeScanComplete n counts => Sys2Proof.Machine.execEyeScanComplete n counts s
  | .serEntryStart c => Sys2Proof.Machine.execSerEntryStart c s
  | .serEntryEnd c rx => Sys2Proof.Machine.execSerEntryEnd c rx s
  | .serTargetSelectAssert c => Sys2Proof.Machine.execSerTargetSelectAssert c s
  | .serTargetSelectRelease c groups => Sys2Proof.Machine.execSerTargetSelectRelease c groups s
  | .bulkData port session id frame offset last data => Sys2Proof.Machine.execBulkData port session id frame offset last data s
  | .bulkAck port session id next bitmap => Sys2Proof.Machine.execBulkAck port session id next bitmap s
  | .bulkAckTimer id => Sys2Proof.Machine.execBulkAckTimer id s
  | .bulkResendTimer id => Sys2Proof.Machine.execBulkResendTimer id s
  | .bulkEnd id => Sys2Proof.Machine.execBulkEnd id s
  | .bulkStallTimeout id => Sys2Proof.Machine.execBulkStallTimeout id s
  | .leaseLapse => Sys2Proof.Machine.execLeaseLapse s
  | .observerTimeout session => Sys2Proof.Machine.execObserverTimeout session s
  | .macsecIntegrityFail p => Sys2Proof.Machine.execMacsecIntegrityFail p s
  | .linkDown p => Sys2Proof.Machine.execLinkDown p s
  | .linkUp p => Sys2Proof.Machine.execLinkUp p s
  | .lldpTransmit => Sys2Proof.Machine.execLldpTransmit s
  | .lldpReceive p chassis portId ttl => Sys2Proof.Machine.execLldpReceive p chassis portId ttl s
  | .telemetrySample => Sys2Proof.Machine.execTelemetrySample s
  | .storedValueJournaled bad => Sys2Proof.Machine.execStoredValueJournaled bad s
  | .registerWrite addr v => Sys2Proof.Machine.execRegisterWrite addr v s
  | .faultReport src sev det row => Sys2Proof.Machine.execFaultReport src sev det row s
  | .firstFaultWindowClose => Sys2Proof.Machine.execFirstFaultWindowClose s
  | .escalationExpiry => Sys2Proof.Machine.execEscalationExpiry s
  | .fcOvfClear => Sys2Proof.Machine.execFcOvfClear s
  | .collectorSelfCheck failing => Sys2Proof.Machine.execCollectorSelfCheck failing s
  | .faultLogWrite => Sys2Proof.Machine.execFaultLogWrite s
  | .bistSliceStart => Sys2Proof.Machine.execBistSliceStart s
  | .bistComplete sig expected src det repairs => Sys2Proof.Machine.execBistComplete sig expected src det repairs s
  | .bistTimeLimit => Sys2Proof.Machine.execBistTimeLimit s
  | .calRunComplete reading => Sys2Proof.Machine.execCalRunComplete reading s
  | .switchLoaded ok => Sys2Proof.Machine.execSwitchLoaded ok s
  | .switchQuietPoint => Sys2Proof.Machine.execSwitchQuietPoint s
  | .probationEnd => Sys2Proof.Machine.execProbationEnd s
  | .switchRevert => Sys2Proof.Machine.execSwitchRevert s
  | .powerOnResetAssert r mv => Sys2Proof.Machine.execPowerOnResetAssert r mv s
  | .resetNAssert => Sys2Proof.Machine.execResetNAssert s
  | .resetRelease pos por rails => Sys2Proof.Machine.execResetRelease pos por rails s
  | .startupStepComplete dt bad repairs => Sys2Proof.Machine.execStartupStepComplete dt bad repairs s
  | .railOutOfRange r => Sys2Proof.Machine.execRailOutOfRange r s
  | .aliveToggle => Sys2Proof.Machine.execAliveToggle s
  | .tapReset => Sys2Proof.Machine.execTapReset s
  | .tapIdcode => Sys2Proof.Machine.execTapIdcode s
  | .samplePreload cells => Sys2Proof.Machine.execSamplePreload cells s
  | .tapExtest => Sys2Proof.Machine.execTapExtest s
  | .tapClamp => Sys2Proof.Machine.execTapClamp s
  | .tapHighz => Sys2Proof.Machine.execTapHighz s
  | .tapBypass => Sys2Proof.Machine.execTapBypass s
  | .calCommitComplete bad => Sys2Proof.Machine.execCalCommitComplete bad s
  | .holdOffEnd u => Sys2Proof.Machine.execHoldOffEnd u s
  | .smuClamp m inForce => Sys2Proof.Machine.execSmuClamp m inForce s
  | .wavInternalSample w => Sys2Proof.Machine.execWavInternalSample w s
  | .ptpDelayRespReceive port received => Sys2Proof.Machine.execPtpDelayRespReceive port received s
  | .bistSliceComplete => Sys2Proof.Machine.execBistSliceComplete s

end Sys2Proof.Machine
end

