-- ==== Sys2Proof/Machine/Step.lean ====
section
/-! DEFINITION. One step: the command at the front of the queue, or one cycle of the timing plane when none waits. -/

namespace Sys2Proof.Machine

/-- The front command's effect on the machine with the queue's rest; on an empty queue one timing-plane cycle passes (R31; log entry 2). -/
def step (s : State) : Host.Outcome State Fault Refusal :=
  match s.pending with
  | [] => .next (s.pass cycle)
  | i :: rest => exec i { s with pending := rest }

/-- The machine with the command that a word spells in front of its queue; unchanged where it spells none. -/
def State.withFetchWord (s : State) (nbits w : Nat) : State :=
  match decodeTableWord nbits w with
  | some i => { s with pending := i :: s.pending }
  | none => s

end Sys2Proof.Machine
end

