-- ==== Sys2Proof/Safety.lean ====
section
/-! DEFINITION. What the statements ask of a state: canonical memory, a request that reaches the server, its answer, and what a command leaves
alone. -/

namespace Sys2Proof.Machine

/-- A state between two commands: DRAM lists its bytes by rising address, each different from what an unlisted byte reads as, and each bond slot is
listed once. -/
structure State.Inv (s : State) : Prop where
  mem : Memory.wf s.mem = true
  bonds : Tbl.rising s.bonds = true

/-! ### Frames -/

/-- Every register field of an instance and element in range reads as before, but those of the blocks listed. -/
def sameBut (blks : List Nat) (s t : State) : Prop :=
  ∀ (f : Fld) (i n : Nat), f.off < 65536 → f.lo < 32 → i < 64 → n < 1048576 → f.blk ∉ blks → t.fld f i n = s.fld f i n

/-- One field of an instance and element in range may differ; every other reads as before. -/
def sameButFields (l : List (Fld × Nat × Nat)) (s t : State) : Prop :=
  ∀ (f : Fld) (i n : Nat), (∀ e ∈ l, fkey f i n ≠ fkey e.1 e.2.1 e.2.2) → t.fld f i n = s.fld f i n

/-- A fault source's latch is not re-arming at a local instant (R517), so that a report of it then is seen. -/
def State.hearsAt (s : State) (src at_ : Nat) : Prop :=
  ¬((Tbl.get s.fc.rearm (0, 0) src).1 < at_ ∧ at_ < (Tbl.get s.fc.rearm (0, 0) src).2)
/-- A report of the source is seen now. -/
def State.hears (s : State) (src : Nat) : Prop := s.hearsAt src s.tb.loc

/-- No trigger unit watches a source. -/
def State.unwatched (s : State) (src : Nat) : Prop := ∀ n, n < 16 → s.fld F.TRG_CFG_src 0 n ≠ src

/-- What lies between two states is at most that fail-capture queues have drained into their fail buffers (R256). -/
def drainedOnly (s t : State) : Prop :=
  t = { s with mem := t.mem, apg := t.apg, acq := t.acq, regs := t.regs, hw := t.hw, freeCtr := t.freeCtr } ∧ sameBut [0x0F] s t

/-! ### Bond frames -/

/-- What a bond frame, or the message of its type, says to its receiver. -/
def heardOf (via : Via) (f : Frame) (check : Nat) : BondRx :=
  match via with
  | .lines => rxLine (f.heard check)
  | .eth m => rxMsg m

/-- The instant that it carries, in ticks (R44). -/
def State.heardInst (s : State) (via : Via) (f : Frame) (check : Nat) : Nat := s.bondInstant via (heardOf via f check)

/-- A good bond frame or message that slot `n` takes up: on the lines while they are on, with its preamble and CRC as it was sent; as a message
of its type from another chip that has not been accepted in the last 100 ms, for a slot in its groups (R42, R44, R65, R66, R87). -/
def taken (s : State) (via : Via) (f : Frame) (check n : Nat) : Prop :=
  s.unassigned = false ∧ s.slotOfId (heardOf via f check).bond = some n ∧
    match via with
    | .lines => s.linesUp = true ∧ check % 4096 = f.check
    | .eth m => goodMsg m = true ∧ msgNat m 3 1 = f.kind ∧ (rxMsg m).chip ≠ s.chipNumber ∧ (s.bond n).live = true ∧
        ∀ e ∈ s.net.accepted, e.1 = (rxMsg m).chip → e.2.1 = msgNat m 30 2 → e.2.2 + ms 100 < s.tb.loc

/-- What the frame changes beside the bond: what was accepted, and what a trigger unit that watches bond frames does; without such a unit no
register, acquisition unit or sequencer. -/
def heardOnly (s t : State) : Prop :=
  t = { s with bonds := t.bonds, net := t.net, out := t.out, tb := t.tb, acq := t.acq, seq := t.seq, regs := t.regs, hw := t.hw } ∧
    (s.unwatched 0x09 → t.acq = s.acq ∧ t.regs = s.regs ∧ t.hw = s.hw)

/-! ### Requests -/

/-- A sequence number that the session has not used and that is not stale (R474). -/
def Session.fresh (x : Session) (seq : Nat) : Prop :=
  x.cache.find? (fun c => c.1 == seq) = none ∧
    ∀ hi, x.high = some hi → (hi + 4294967296 - seq % 4294967296) % 4294967296 < 64 ∨ 2147483648 < (hi + 4294967296 - seq % 4294967296) % 4294967296

/-- Firmware serves requests now, and no session's deadline has passed (R469, R478). -/
structure Serving (s : State) : Prop where
  runs : s.ks.running = true
  up : s.ks.outage = false
  open_ : s.tr.buffering = false
  direct : s.ks.serving = none
  leases : ∀ x ∈ s.adp.sessions, s.tb.loc ≤ x.renewed + leaseTicks

/-- A request that the server carries out now, in its full service: the session is live and the number new. -/
structure Served (s : State) (h : Hdr) : Prop extends Serving s where
  full : s.tr.recovery = false
  live : ∃ x, s.session h.session = some x ∧ x.fresh h.seq

/-- Such a request of the Owner while no self-test holds a block. -/
structure Ready (s : State) (h : Hdr) : Prop where
  served : Served s h
  owner : s.isOwner h.session = true
  idle : s.bist.run = none

/-- A value of a fixed-size type, in its size. -/
def dataFits (d : Sys2Proof.Data) (ty : Nat) : Prop := d.ty = ty ∧ d.bytes.length = tySize ty

/-- A written BOOL that stores 1. -/
def dTrue (d : Sys2Proof.Data) : Prop := dataFits d tBool ∧ dFlag d = true

/-- The request has been answered once, on its port, with a code, and nothing else has left the block. -/
def answered (s t : State) (h : Hdr) (code : Nat) : Prop :=
  ∃ r : Response, t.out = s.out ++ [.response r] ∧ r.port = h.port ∧ r.session = h.session ∧ r.seq = h.seq ∧ r.status = code ∧
    r.replay = false ∧ r.late = false

/-- The value is on its way to the journal and the answer OK waits for it (R494). -/
def journaling (s t : State) (h : Hdr) (key : Nat) (v : List Byte) : Prop :=
  ∃ r : Response, t.out = s.out ∧ t.eth.jrn = s.eth.jrn ++ [{ key, val := v, resp := some r }] ∧
    r.port = h.port ∧ r.session = h.session ∧ r.seq = h.seq ∧ r.status = eOk

/-! ### Sequencers -/

/-- A home thread whose decoded vendor instruction `op` applies to it and is ready to act (R272, R281, R295). -/
structure VendorReady (s : State) (k op : Nat) : Prop where
  thread : k < 256
  runs : s.running k = true
  decoded : (s.thr k).dec = true
  home : s.isHome k = true
  fed : (s.thr k).stall = none
  masked : (s.thr k).tmask.testBit (k % 8) = true
  sound : s.entryBad k op false = false
  op : s.fld F.SEQ_TSTAT_opcode (k / 8) (k % 8) = op
  plain : (s.thr k).pcSet = false

/-- The thread's instruction has ended, with its step PC at `pc`; no other thread has changed. -/
def stepped (s t : State) (k pc : Nat) : Prop :=
  t.spc k = pc ∧ (t.thr k).dec = false ∧ (t.thr k).phase = .idle ∧ ∀ j, j ≠ k → t.thr j = s.thr j

/-- A launched step that its thread would end by branching out of it (R92): no later one has been asked for. -/
def Thread.standing (x : Thread) : Prop := x.nxt = [] ∧ ∃ a, x.step = some a ∧ a.st = .launched

/-- No committed step waits that should have launched by now. -/
def State.noneDue (s : State) : Prop := ∀ e ∈ s.seq.th, ∀ b, e.2.nxt.head? = some b → ¬(b.st = .committed ∧ b.t0 ≤ s.now)

/-- The thread has launched no open-ended step that is still going on. -/
def State.noOpen (s : State) (k : Nat) : Prop := ∀ a, (s.thr k).step = some a → a.st = .launched → a.d ≠ none

/-- A thread's microword stands in its ALU phase with the operation `code`. -/
structure AluReady (s : State) (k code : Nat) : Prop where
  turn : s.served k = true
  phase : (s.thr k).phase = .alu
  op : wAlu (s.microword k) = code

/-- The operands of the microword a thread stands at. -/
def State.aluA (s : State) (k : Nat) : Word64 := (s.thr k).opA (s.microword k)
/-- The B operand. -/
def State.aluB (s : State) (k : Nat) : Word64 := (s.thr k).opB (s.microword k)

/-- A thread after an ALU operation with value `v`, carry `c` and overflow `o`: the flags are set, dst takes the value where `w` says so, and the
unit operation, or the sequencing, follows; nothing else changes. -/
def State.aluTo (s : State) (k : Nat) (w : Bool) (v : Word64) (c o : Bool) : State :=
  s.modThr k (fun x => { x with
    m := { x.m with g := if w then x.m.g.set (wDst (s.microword k)) v else x.m.g, z := decide (v = 0), n := v.msb, c := c, v := o }
    phase := if wUnit (s.microword k) = 0 then .seq else .unit })

/-- A thread's microword stands in its unit phase with the operation `code`. -/
structure UnitReady (s : State) (k code : Nat) : Prop where
  turn : s.served k = true
  phase : (s.thr k).phase = .unit
  op : wUnit (s.microword k) = code

/-- The unit operation has buffered one effect, and the sequencing follows; nothing else changes. -/
def State.buffered (s : State) (k : Nat) (e : Effect) : State :=
  s.modThr k (fun x => { x with outbox := x.outbox ++ [e], phase := .seq })

/-- A thread's microword has done all but its sequencing `code`. -/
structure SeqReady (s : State) (k code : Nat) : Prop where
  turn : s.served k = true
  phase : (s.thr k).phase = .seq
  free : (s.thr k).service = none
  sound : s.wordBad k false = false
  op : wSeq (s.microword k) = code

/-- The thread has come to microaddress `a`, where it acts unless the word there waits for a condition that does not hold. -/
def wentTo (t : State) (k a : Nat) : Prop :=
  (t.thr k).upc = a ∧ (wWait (t.microword k) = false → (t.thr k).phase = actPhase (t.microword k))

/-! ### Resets -/

/-- A reset has taken every register and every other part of the block to its reset value but what fuses, NVM, supplies and the TAP keep
(R498, R565, R577). -/
structure wiped (s t : State) : Prop where
  rest : t = { State.reset with
    stored := t.stored, freeCtr := t.freeCtr, out := s.out, pending := s.pending, nvm := t.nvm, tap := t.tap, tr := s.tr.kept, cal := t.cal
    bist := t.bist, fc := t.fc, thm := t.thm, eth := { restore := s.eth.restore }, tb := t.tb, pw := t.pw }
  log : t.fc.log = s.fc.log ∧ t.fc.written = s.fc.written
  fuses : t.bist.fuseField = s.bist.fuseField
  cal : s.cal.commit = none → t.cal = { slots := s.cal.slots, nvm := s.cal.nvm }
  stored : s.eth.jrn = [] → t.stored = s.stored

end Sys2Proof.Machine
end

