-- ==== Sys2Proof/Certificates/Slice0/Obligations.lean ====
section
/-! DEFINITION. The statements about the machine, for the provers: each a proposition. -/

open Sys2Proof Sys2Proof.Machine

/-- A step runs the command at the front of the queue. For every state and every command at the front of its queue, step is exec of that command
on the state with the queue's rest; on an empty queue one timing-plane cycle of 640 ticks passes and nothing else changes (the model's
choice, log entry 2). -/
def Obligations.FrontCommand : Prop :=
  (∀ (s : State) (i : Instr) (rest : List Instr), s.pending = i :: rest → step s = exec i { s with pending := rest }) ∧
  (∀ s : State, s.pending = [] → ∃ t, step s = .next t ∧ t.tb.loc = s.tb.loc + 640 ∧ t = { s with tb := t.tb })

/-- What reset leaves. Right after reset every register field holds its Reset value, staged fields have it active too, the mode is Safe, no
command waits and nothing has been sent; that the sparse memory lists nothing and that sessions, bonds and queues are empty is the model's
choice of log entries 4 and 33. -/
def Obligations.ResetState : Prop :=
  (∀ (f : Fld) (i n : Nat), State.reset.fld f i n = rstVal f i n ∧ State.reset.actFld f i n = rstVal f i n) ∧ State.reset.md.mode = .safe ∧
    State.reset.pending = [] ∧ State.reset.out = [] ∧ State.reset.mem = [] ∧ State.reset.adp.sessions = [] ∧ State.reset.bonds = [] ∧
    State.reset.faultMask = 0

/-- The invariant holds at reset. State.reset meets State.Inv: its memory is in canonical form and its bond slots are listed once (Inv is the
model's own form, log entry 4). -/
def Obligations.ResetInvariant : Prop :=
  State.reset.Inv

/-- Every step completes and keeps memory canonical. From every state that meets State.Inv, whatever command is at the front of its queue, a
step answers a next state, and that one meets State.Inv: no command stops the machine (R2; log entry 10), and none leaves DRAM or the bond
slots in another form. -/
def Obligations.InvariantKept : Prop :=
  ∀ s : State, s.Inv → ∃ t, step s = .next t ∧ t.Inv

/-- TIME, ALIGN, TRIM and CAL frames on the BOND lines. While the lines are on, a TIME, ALIGN or TRIM frame with its preamble and CRC-8 as sent
is held for the next SYNC edge, each field as wide as Table 2.3 makes it, and changes nothing else; a CAL frame for this chip's position
joins the latest 64 reports, and with a valid calibration a follower's skew becomes half the difference of the mean d_AB given and the mean
of the reports; while the lines are off nothing happens. Says that exec answers a next state, under conditions on the state and the operands
alone, for: timeFrame, alignFrame, trimFrame, calFrame. -/
def Obligations.LineFramesReceived : Prop :=
  (∀ (s : State) (n phiNs frac check : Nat) (trim : Int) (u h : Bool), s.linesUp = true →
    (check % 4096 = (Frame.time n u h).check →
      exec (.timeFrame n u h check) s = .next { s with tb := { s.tb with rx := { s.tb.rx with time := some (n % 2 ^ 34, u, h) } } }) ∧
    (check % 4096 = (Frame.align (phiNs * 4096 + frac % 4096)).check →
      exec (.alignFrame phiNs frac check) s =
        .next { s with tb := { s.tb with rx := { s.tb.rx with align := some (phiNs % 2 ^ 30 * 4096 + frac % 4096) } } }) ∧
    (check % 4096 = (Frame.trim trim).check →
      exec (.trimFrame trim check) s =
        .next { s with tb := { s.tb with rx := { s.tb.rx with trim := some (toSigned 32 (ofSigned 32 trim)) } } })) ∧
  (∀ (s : State) (pos check : Nat) (meas dab : Int), s.linesUp = true → check % 4096 = (Frame.calReport pos meas).check → pos % 64 = s.tb.posId →
    s.tb.tkGone = false → s.bit F.TB_STATUS_is_tk = false → s.bit F.TB_STATUS_cal_valid = true →
    ∃ t, exec (.calFrame pos meas dab check) s = .next t ∧ t.tb.reports = (toSigned 24 (ofSigned 24 meas) :: s.tb.reports).take 64 ∧
      t.tb.skewPending = divNear (dab * t.tb.reports.length - t.tb.reports.foldl (· + ·) 0) (2 * t.tb.reports.length) ∧
      t = { s with tb := { s.tb with reports := t.tb.reports, skewPending := t.tb.skewPending } }) ∧
  (∀ (s : State) (i : Instr), s.linesUp = false →
    (∃ (n c : Nat) (u h : Bool), i = .timeFrame n u h c) ∨ (∃ (p f c : Nat), i = .alignFrame p f c) ∨ (∃ (r : Int) (c : Nat), i = .trimFrame r c) ∨ (∃ (p c : Nat) (m x : Int), i = .calFrame p m x c) →
    exec i s = .next s)

/-- Restarting and completing the initial skew calibration. CAL_RESTART through its register bit starts the calibration anew and clears
TB_STATUS.cal_valid (that every restart clears it is the model's reading, log entry 40); through OD 0x200A.00 a ready Owner request that
writes 1 does the same and is answered OK; its completion, while it runs with the lines on and a timekeeper present, comes 4,096 exchanges
after its start, sets cal_valid, ends it and, on a follower with reports, gives half the difference of the two means as the skew still to be
subtracted. Says that exec answers a next state, under conditions on the state and the operands alone, for: calRestart,
initialCalibrationComplete. -/
def Obligations.Calibration : Prop :=
  (∀ s : State, ∃ t, exec (.calRestart .reg) s = .next t ∧ t.bit F.TB_STATUS_cal_valid = false ∧
    t = { s with tb := { s.tb with calRunning := true, calAt := s.tb.loc, reports := [] }, regs := t.regs } ∧
    sameButFields [(F.TB_STATUS_cal_valid, 0, 0)] s t) ∧
  (∀ (s : State) (h : Hdr) (d : Sys2Proof.Data), Ready s h → dataFits d tBool → dFlag d = true →
    ∃ t, exec (.calRestart (.od h d)) s = .next t ∧ answered s t h eOk ∧ t.bit F.TB_STATUS_cal_valid = false ∧
      t = { s with tb := { s.tb with calRunning := true, calAt := s.tb.loc, reports := [] }, regs := t.regs, adp := t.adp, out := t.out }) ∧
  (∀ (s : State) (dab : Int), s.tb.calRunning = true → s.linesUp = true → s.tb.tkGone = false → s.bit F.TB_STATUS_is_tk = false →
    ∃ t, exec (.initialCalibrationComplete dab) s = .next t ∧ t.bit F.TB_STATUS_cal_valid = true ∧
      t.tb.loc = max s.tb.loc (s.tb.calAt + ns (4096 * 2304)) ∧ t.tb.calRunning = false ∧
      (s.tb.reports ≠ [] → t.tb.skewPending =
        divNear (dab * s.tb.reports.length - s.tb.reports.foldl (· + ·) 0) (2 * s.tb.reports.length)) ∧
      t = { s with regs := t.regs, hw := t.hw, tb := t.tb } ∧ sameButFields [(F.TB_STATUS_cal_valid, 0, 0)] s t)

/-- A SYNC edge uses the set held for it, and its absence is found. Every SYNC edge is recorded at its local instant, shows sync_present, and
uses up the held TIME, ALIGN and TRIM values; a complete set gives N, phase and trim in force, and without one N advances by one; no byte of
DRAM changes. 1.5 s after the last edge the absence is found once: sync_present clears, and with REFCLK present source 40 is reported. Says
that exec answers a next state, under conditions on the state and the operands alone, for: syncEdge, syncAbsent. -/
def Obligations.SyncEdges : Prop :=
  (∀ (s : State) (capture : Nat), ∃ t, exec (.syncEdge capture) s = .next t ∧ t.tb.lastSync = some (max s.tb.loc capture) ∧
    t.bit F.TB_STATUS_sync_present = true ∧ t.tb.rx = {} ∧ t.tb.syncGone = false ∧ t.tb.edgeAt = t.now ∧ t.mem = s.mem ∧
    (∀ (n : Nat) (u h : Bool) (phi : Nat) (trim : Int), s.tb.rx.time = some (n, u, h) → s.tb.rx.align = some phi → s.tb.rx.trim = some trim →
      t.tb.n = n ∧ t.tb.phi = phi ∧ t.tb.trim = trim) ∧
    (s.tb.rx.time = none ∨ s.tb.rx.align = none ∨ s.tb.rx.trim = none → t.tb.n = (s.tb.n + 1) % 2 ^ 34 ∧ t.tb.phi = s.tb.phi ∧ t.tb.trim = s.tb.trim)) ∧
  (∀ s : State, s.tb.syncGone = false → ∃ t, exec .syncAbsent s = .next t ∧ t.tb.syncGone = true ∧ t.bit F.TB_STATUS_sync_present = false ∧
    t.tb.loc = max s.tb.loc (s.tb.lastSync.getD s.pw.t0 + 6144000000000) ∧ (s.bit F.TB_STATUS_refclk_present = true → s.hearsAt 40 t.tb.loc → t.srcSet 40 = true) ∧
    t = { s with tb := t.tb, regs := t.regs, hw := t.hw, fc := t.fc, freeCtr := t.freeCtr, nvm := t.nvm } ∧ sameBut [0x02, 0x15] s t)

/-- REFCLK loss and return, an absent timekeeper, the holdover limit. REFCLK_LOSS outside REF_HOLDOVER enters it, keeps the time state to return
to, sets TB_STATUS.holdover and reports source 39; REFCLK_STABLE shows refclk_present and arms the return only in REF_HOLDOVER; 1 ms after
the last PRESENCE of a fixed timekeeper, or after the lines came up, it is absent: is_tk clears, tk_absent sets, a chip in CARD or LOCKED
enters DOMAIN_HOLDOVER and source 40 is reported; past the limit since the entry to holdover source 40 is reported once. Says that exec
answers a next state, under conditions on the state and the operands alone, for: refclkLoss, refclkStable, timekeeperAbsent,
domainHoldoverLimit. -/
def Obligations.RefclkAndHoldover : Prop :=
  (∀ s : State, s.timeState ≠ tsRef → ∃ t, exec .refclkLoss s = .next t ∧ t.timeState = tsRef ∧ t.tb.priorState = s.timeState ∧
    t.bit F.TB_STATUS_refclk_present = false ∧ t.bit F.TB_STATUS_holdover = true ∧ (s.hearsAt 39 t.tb.loc → t.srcSet 39 = true) ∧
    t.tb = { s.tb with refStable := false, priorState := s.timeState, refLossAt := some s.tb.loc } ∧
    t = { s with tb := t.tb, regs := t.regs, hw := t.hw, fc := t.fc, freeCtr := t.freeCtr, nvm := t.nvm } ∧ sameBut [0x02, 0x15] s t) ∧
  (∀ s : State, ∃ t, exec .refclkStable s = .next t ∧ t.bit F.TB_STATUS_refclk_present = true ∧
    t = { s with tb := { s.tb with refStable := decide (s.timeState = tsRef) }, regs := t.regs, hw := t.hw } ∧
    sameButFields [(F.TB_STATUS_refclk_present, 0, 0)] s t) ∧
  (∀ s : State, s.bit F.TB_CTRL_tk_auto = false → s.tb.tkGone = false → s.linesUp = true →
    ∃ t, exec .timekeeperAbsent s = .next t ∧
      t.tb.loc = max s.tb.loc ((Tbl.find s.tb.roster (s.fld F.TB_CTRL_tk_pos)).elim s.tb.linesAt (·.heard) + ms 1) ∧ t.tb.tkGone = true ∧ t.bit F.TB_STATUS_is_tk = false ∧ t.bit F.TB_STATUS_tk_absent = true ∧
      (s.timeState = tsCard ∨ s.timeState = tsLocked → t.timeState = tsDomain) ∧ (s.hearsAt 40 t.tb.loc → t.srcSet 40 = true) ∧
      t = { s with tb := t.tb, regs := t.regs, hw := t.hw, fc := t.fc, freeCtr := t.freeCtr, nvm := t.nvm } ∧ sameBut [0x02, 0x15] s t) ∧
  (∀ (s : State) (a : Nat), s.tb.holdoverAt = some a → s.tb.limitPassed = false →
    ∃ t, exec .domainHoldoverLimit s = .next t ∧ t.tb.limitPassed = true ∧ t.tb.loc = max s.tb.loc (a + s.holdLimit + 1) ∧ (s.hearsAt 40 t.tb.loc → t.srcSet 40 = true) ∧
      t = { s with tb := t.tb, regs := t.regs, hw := t.hw, fc := t.fc, freeCtr := t.freeCtr, nvm := t.nvm } ∧ sameBut [0x15] s t)

/-- The timekeeper's PTP port. On the timekeeper, with PTP enabled and running on a port, a Sync in a set time state gives the servo its
measured values, a changed port restarts the path delay at 0, and LOCKED is entered while it is locked and CARD after; Delay_Req is sent and
its instant kept; the grandmaster's answer gives the path delay as half the sum of both directions and the offset from it; 3 s without Sync
takes a LOCKED timekeeper to DOMAIN_HOLDOVER. Says that exec answers a next state, under conditions on the state and the operands alone,
for: ptpSyncReceive, ptpDelayReq, ptpDelayRespReceive, ptpSyncTimeout. -/
def Obligations.PtpPort : Prop :=
  (∀ (s : State) (port origin n phi : Nat) (trim : Int) (lock : Bool), s.ptpFollow.ptpOn port = true → s.timeState ≠ tsUnset → s.timeState ≠ tsRef →
    ∃ t, exec (.ptpSyncReceive port origin n phi trim lock) s = .next t ∧ t.tb.syncDiff = (s.tb.dom : Int) - origin ∧ t.tb.lastPtp = some s.tb.loc ∧
      t.tb.servoLock = lock ∧ t.tb.servoOffset = (s.tb.dom : Int) - origin - s.ptpFollow.tb.pathDelay ∧ t.tb.servoN = n % 2 ^ 34 ∧
      t.tb.ptpPort = some port ∧ (s.tb.ptpPort ≠ some port → t.tb.pathDelay = 0) ∧
      (lock = true → t.timeState = tsLocked) ∧ (lock = false → s.timeState = tsLocked → t.timeState = tsCard) ∧
      t = { s with tb := t.tb, regs := t.regs, hw := t.hw } ∧ sameBut [0x02, 0x13] s t) ∧
  (∀ (s : State) (port : Nat), s.ptpFollow.ptpOn port = true → ∃ t, exec (.ptpDelayReq port) s = .next t ∧
    t.tb.delayReqAt = some s.tb.dom ∧ t.out = s.out ++ [OutMsg.delayReq port] ∧ t = { s with tb := t.tb, regs := t.regs, hw := t.hw, out := t.out } ∧ sameBut [0x13] s t) ∧
  (∀ (s : State) (port received t3 : Nat), s.ptpOn port = true → s.tb.delayReqAt = some t3 →
    exec (.ptpDelayRespReceive port received) s = .next { s with tb := { s.tb with
      delayReqAt := none
      pathDelay := halfOf (s.tb.syncDiff + ((received : Int) - t3))
      servoOffset := s.tb.syncDiff - halfOf (s.tb.syncDiff + ((received : Int) - t3)) } }) ∧
  (∀ s : State, s.bit F.TB_STATUS_is_tk = true → s.timeState = tsLocked →
    ∃ t, exec .ptpSyncTimeout s = .next t ∧ t.timeState = tsDomain ∧ t.tb.servoLock = false ∧ t.bit F.TB_STATUS_holdover = true ∧
      t.tb.loc = max s.tb.loc (s.tb.lastPtp.getD s.pw.t0 + 12288000000000) ∧
      t = { s with tb := t.tb, regs := t.regs, hw := t.hw, fc := t.fc, freeCtr := t.freeCtr, nvm := t.nvm } ∧ sameBut [0x02, 0x13, 0x15] s t)

/-- Frames the chip sends on the BOND lines, and its position conflict. With the lines up, PRESENCE_SEND sends exactly this chip's PRESENCE
frame on its own line at its next position slot without bond traffic; the timekeeper's leader frames are TIME, ALIGN and TRIM with the
values for the next edge, eight times, then one CAL for each position given, each on all eight lines in a leader slot of its own from SYNC +
100 ms on, as long as the last one ends by SYNC + 900 ms, and it holds the set itself; POS_CONFLICT sets TB_STATUS.pos_conflict and reports
source 40. Says that exec answers a next state, under conditions on the state and the operands alone, for: presenceSend, leaderFramesSend,
posConflict. -/
def Obligations.LineFramesSent : Prop :=
  (∀ s : State, s.linesUp = true → ∃ t, exec .presenceSend s = .next t ∧ t.now = max s.now s.presenceSlot ∧ t.tb.lastPresence = some s.presenceSlot ∧
    t.out = s.out ++ [OutMsg.line (2 ^ (s.tb.posId % 8)) s.presenceSlot
      (Frame.presence s.chip18 s.tb.posId s.md.mode.code s.timeState s.unassigned (s.bit F.TB_STATUS_sync_present)).word] ∧
    t = { s with tb := t.tb, regs := t.regs, out := t.out } ∧ sameBut [0x02] s t) ∧
  (∀ (s : State) (cal : List (Nat × Int)), s.linesUp = true → s.bit F.TB_STATUS_is_tk = true → s.tb.tkGone = false → s.tb.lastSync ≠ none →
    (s.leaderSlots cal).getLastD 0 + lineSlot ≤ s.tb.edgeAt + ms 900 →
    ∃ t, exec (.leaderFramesSend cal) s = .next t ∧ t.now = max s.now ((s.leaderSlots cal).headD s.now) ∧
      t.out = s.out ++ ((s.leaderSlots cal).zip ((List.replicate 8 [Frame.time s.nextEdge.1 (s.timeState != tsLocked) (s.timeState == tsDomain),
        Frame.align s.nextEdge.2.1, Frame.trim s.nextEdge.2.2]).flatten ++ cal.map (fun (e : Nat × Int) => Frame.calReport e.1 e.2))).map
          (fun (e : Nat × Frame) => OutMsg.line 0xFF e.1 e.2.word) ∧
      t.tb.rx = { time := some (s.nextEdge.1, s.timeState != tsLocked, s.timeState == tsDomain), align := some s.nextEdge.2.1, trim := some s.nextEdge.2.2 } ∧
      t = { s with tb := t.tb, out := t.out }) ∧
  (∀ s : State, s.linesUp = true → ∃ t, exec .posConflict s = .next t ∧ t.bit F.TB_STATUS_pos_conflict = true ∧ (s.hearsAt 40 t.tb.loc → t.srcSet 40 = true) ∧
    t = { s with regs := t.regs, hw := t.hw, fc := t.fc, freeCtr := t.freeCtr, nvm := t.nvm } ∧ sameBut [0x02, 0x15] s t)

/-- TB_CTRL.lines_en, the timekeeper selection and the chip number. Switching the lines on clears what was held from them and starts a
calibration, with a pending selection loaded; switching them off ends it and clears is_tk. A ready Owner write of a position or 255 to OD
0x2003.00 is journaled and, with the lines off, loaded at once, with them on, held pending; 64 to 254 give ADDR_RANGE. A ready Owner write
of OD 0x2002.00 is journaled for a number below 262,144 or 0xFFFFFFFF in Safe or Survey with every bond slot EMPTY. Says that exec answers a
next state, under conditions on the state and the operands alone, for: linesEnWrite, timekeeperSelectionWrite, chipNumberWrite. -/
def Obligations.LinesAndSelection : Prop :=
  (∀ s : State, s.bit F.TB_CTRL_lines_en = false → ∃ t, exec (.linesEnWrite true) s = .next t ∧ t.bit F.TB_CTRL_lines_en = true ∧
    t.tb.calRunning = true ∧ t.tb.rx = {} ∧ t.tb.roster = [] ∧ t.tb.tkGone = false ∧ t.tb.selPending = none ∧ t.bit F.TB_STATUS_cal_valid = false ∧
    (∀ (a : Bool) (p : Nat), s.tb.selPending = some (a, p) → t.bit F.TB_CTRL_tk_auto = a ∧ t.fld F.TB_CTRL_tk_pos = p % 64) ∧
    t = { s with tb := t.tb, regs := t.regs, hw := t.hw } ∧ sameBut [0x02] s t) ∧
  (∀ s : State, s.bit F.TB_CTRL_lines_en = true → ∃ t, exec (.linesEnWrite false) s = .next t ∧ t.bit F.TB_CTRL_lines_en = false ∧
    t.tb.calRunning = false ∧ t.bit F.TB_STATUS_is_tk = false ∧ t = { s with tb := t.tb, regs := t.regs, hw := t.hw } ∧ sameBut [0x02] s t) ∧
  (∀ (s : State) (h : Hdr) (d : Sys2Proof.Data), Ready s h → dataFits d tU8 → (dNat d < 64 ∨ dNat d = 255) →
    ∃ t, exec (.timekeeperSelectionWrite h d) s = .next t ∧ journaling s t h 0x200300 d.bytes ∧ t.od 0x2003 0 [] = d.bytes ∧
      (s.bit F.TB_CTRL_lines_en = true → t.tb.selPending =
        some (dNat d == 255, if dNat d = 255 then s.fld F.TB_CTRL_tk_pos else dNat d) ∧ t.regs = s.regs) ∧
      (s.bit F.TB_CTRL_lines_en = false → t.bit F.TB_CTRL_tk_auto = (dNat d == 255) ∧ (dNat d < 64 → t.fld F.TB_CTRL_tk_pos = dNat d)) ∧
      t.mem = s.mem ∧ sameBut [0x02] s t) ∧
  (∀ (s : State) (h : Hdr) (d : Sys2Proof.Data), Ready s h → dataFits d tU8 → 64 ≤ dNat d → dNat d < 255 →
    ∃ t, exec (.timekeeperSelectionWrite h d) s = .next t ∧ answered s t h eAddrRange ∧ t = { s with adp := t.adp, out := t.out }) ∧
  (∀ (s : State) (h : Hdr) (d : Sys2Proof.Data), Ready s h → dataFits d tU32 → (dNat d < 262144 ∨ dNat d = 0xFFFFFFFF) →
    (s.md.mode = .safe ∨ s.md.mode = .survey) → (∀ e ∈ s.bonds, e.2.st = .empty) →
    ∃ t, exec (.chipNumberWrite h d) s = .next t ∧ journaling s t h 0x200200 d.bytes ∧ t.chipNumber = dNat d ∧
      t = { s with dict := t.dict, eth := t.eth, adp := t.adp })

/-- Writing, forming, dissolving and resuming a bond slot. A ready Owner write of a slot's bond ID, Quoin, member list or site mask makes a slot
that is not FORMING, ACTIVE, HELD or REJOINED DEFINED with that value; such a slot answers BLOCK_ENABLED and keeps everything. The form
command makes a slot with an ID on an assigned chip FORMING with its activation instant. Dissolve marks a live slot, and empties one that is
not live; resume makes a REJOINED slot ACTIVE from an instant at least 50 µs ahead, gives HORIZON_PASSED for an earlier one and
MODE_CONFLICT in any other state. Says that exec answers a next state, under conditions on the state and the operands alone, for:
bondSlotWrite, bondForm, bondDissolve, bondResume. -/
def Obligations.BondSlotCommands : Prop :=
  (∀ (s : State) (h : Hdr) (d : Sys2Proof.Data) (n : Nat), Ready s h → n < 64 → (s.bond n).live = false →
    (dataFits d tU16 → ∃ t, exec (.bondSlotWrite h d n 1) s = .next t ∧ answered s t h eOk ∧
      t.bond n = { s.bond n with st := .defined, id := dNat d } ∧ t = { s with bonds := t.bonds, adp := t.adp, out := t.out }) ∧
    (dataFits d tU32 → ∃ t, exec (.bondSlotWrite h d n 2) s = .next t ∧ answered s t h eOk ∧
      t.bond n = { s.bond n with st := .defined, quoin := dNat d } ∧ t = { s with bonds := t.bonds, adp := t.adp, out := t.out }) ∧
    (d.ty = tBlob → d.bytes.length = 256 → ∃ t, exec (.bondSlotWrite h d n 3) s = .next t ∧ answered s t h eOk ∧ (t.bond n).st = .defined ∧
      (∀ (m : Nat), m ∈ (t.bond n).members ↔ m < 262144 ∧ ∃ k, k < 64 ∧ dSub d (4 * k) 4 = m) ∧ t.od (0x2100 + n) 3 [] = d.bytes ∧
      t = { s with bonds := t.bonds, dict := t.dict, adp := t.adp, out := t.out }) ∧
    (d.ty = tBlob → d.bytes.length = 32 → ∃ t, exec (.bondSlotWrite h d n 4) s = .next t ∧ answered s t h eOk ∧ (t.bond n).st = .defined ∧
      (∀ (k : Nat), k ∈ (t.bond n).sites ↔ k < 256 ∧ (dNat d).testBit k = true) ∧ t = { s with bonds := t.bonds, adp := t.adp, out := t.out })) ∧
  (∀ (s : State) (h : Hdr) (d : Sys2Proof.Data) (n : Nat), Ready s h → n < 64 → (s.bond n).live = true → dataFits d tU16 →
    ∃ t, exec (.bondSlotWrite h d n 1) s = .next t ∧ answered s t h eBlockEnabled ∧ t = { s with adp := t.adp, out := t.out }) ∧
  (∀ (s : State) (h : Hdr) (d : Sys2Proof.Data) (n : Nat), Ready s h → n < 64 → dataFits d tTime80 → (s.bond n).st ≠ .empty → (s.bond n).live = false →
    (s.bond n).id ≠ 0 → s.unassigned = false →
    ∃ t, exec (.bondForm h d n) s = .next t ∧ (t.bond n).st = .forming ∧ (t.bond n).activation = dTime d ∧
      (∃ (l : List OutMsg) (r : Response), t.out = s.out ++ l ++ [OutMsg.response r] ∧ r.status = eOk ∧ r.seq = h.seq ∧ r.session = h.session ∧
        (s.linesUp = true → ∃ (at_ : Nat), OutMsg.line (2 ^ (s.tb.posId % 8)) at_
          (Frame.join (s.bond n).id s.chipNumber s.timeState (s.bit F.TB_STATUS_sync_present) (dTime d)).word ∈ l)) ∧
      t = { s with bonds := t.bonds, net := t.net, tb := t.tb, adp := t.adp, out := t.out }) ∧
  (∀ (s : State) (h : Hdr) (d : Sys2Proof.Data) (n : Nat), Ready s h → n < 64 → dataFits d tBool → dFlag d = true → (s.bond n).dissolving = false →
    ∃ t, exec (.bondDissolve h d n) s = .next t ∧ answered s t h eOk ∧ t.mem = s.mem ∧
      ((s.bond n).live = true → t.bond n = { s.bond n with dissolving := true, passed := (s.bond n).sites.filter s.siteAtRest }) ∧
      ((s.bond n).live = false → (t.bond n).st = .empty)) ∧
  (∀ (s : State) (h : Hdr) (d : Sys2Proof.Data) (n : Nat), Ready s h → n < 64 → dataFits d tTime80 → (s.bond n).st = .rejoined →
    s.now + us 50 ≤ dTime d → ∃ t, exec (.bondResume h d n) s = .next t ∧ answered s t h eOk ∧
      t.bond n = { s.bond n with st := .active, resumeAt := some (dTime d) } ∧ (∀ (m : Nat), m ≠ n → t.bond m = s.bond m) ∧
      t = { s with bonds := t.bonds, adp := t.adp, out := t.out }) ∧
  (∀ (s : State) (h : Hdr) (d : Sys2Proof.Data) (n : Nat), Ready s h → n < 64 → dataFits d tTime80 → (s.bond n).st ≠ .rejoined →
    ∃ t, exec (.bondResume h d n) s = .next t ∧ answered s t h eModeConflict ∧ t = { s with adp := t.adp, out := t.out }) ∧
  (∀ (s : State) (h : Hdr) (d : Sys2Proof.Data) (n : Nat), Ready s h → n < 64 → dataFits d tTime80 → (s.bond n).st = .rejoined →
    dTime d < s.now + us 50 → ∃ t, exec (.bondResume h d n) s = .next t ∧ answered s t h eHorizonPassed ∧ t = { s with adp := t.adp, out := t.out })

/-- PRESENCE, JOIN, READY, the READY deadline and activation, and what their words and messages say. A bond frame's word is good and names the
bond, and the chip or the instant, that it was made of, at the widths of Table 2.3; a bond message is good and names type, bond, sender and
instant of Table 2.9. A good PRESENCE fills its position in the roster; a JOIN taken up gives the member's time state and SYNC; a READY for
the activation instant at least 1 ms before it, on a FORMING slot of another Quoin, makes it ready with a grant to A + 400 µs; without READY
the slot is FORM_FAILED 1 ms before A with its JOINs forgotten; a ready slot is ACTIVE at A. Says that exec answers a next state, under
conditions on the state and the operands alone, for: presence, join, ready, bondReadyDeadline, bondActivation. -/
def Obligations.BondFormation : Prop :=
  (∀ (bond chip tstate inst port sender tx seq : Nat) (sync : Bool) (f : Frame),
    f = .join bond chip tstate sync inst ∨ f = .defer bond inst ∨ f = .split bond inst ∨ f = .beat bond inst ∨ f = .ready bond inst ∨
      (f = .memberBeat bond chip ∧ inst = 0) →
    goodLine f.word = true ∧ lineKind f.word = f.kind ∧ (rxLine f.word).bond = bond % 65536 ∧
    (f = .join bond chip tstate sync inst →
      (rxLine f.word).chip = chip % 262144 ∧ (rxLine f.word).tstate = tstate % 8 ∧ (rxLine f.word).sync = sync ∧
      (rxMsg (f.message port sender tx seq)).tstate = tstate % 8 ∧ (rxMsg (f.message port sender tx seq)).sync = sync) ∧
    (f = .memberBeat bond chip → (rxLine f.word).chip = chip % 262144) ∧
    (f = .defer bond inst ∨ f = .split bond inst ∨ f = .beat bond inst ∨ f = .ready bond inst → (rxLine f.word).inst = inst / 4096 % 4294967296) ∧
    goodMsg (f.message port sender tx seq) = true ∧ msgNat (f.message port sender tx seq) 3 1 = f.kind ∧
    msgNat (f.message port sender tx seq) 30 2 = seq % 65536 ∧ (rxMsg (f.message port sender tx seq)).bond = bond % 65536 ∧
    (rxMsg (f.message port sender tx seq)).chip = sender % 262144 ∧ (inst < 2 ^ 76 → (rxMsg (f.message port sender tx seq)).inst = inst)) ∧
  (∀ (s : State) (chip pos mode tstate check : Nat) (u sync : Bool), s.linesUp = true → check % 4096 = (Frame.presence chip pos mode tstate u sync).check →
    ∃ t, exec (.presence chip pos mode tstate u sync check) s = .next t ∧
      Tbl.find t.tb.roster (pos % 64) = some ⟨chip % 262144, mode % 8, tstate % 8, u, sync, s.tb.loc⟩ ∧
      t = { s with tb := t.tb, regs := t.regs, bonds := t.bonds, net := t.net, out := t.out } ∧ sameBut [0x02] s t) ∧
  (∀ (s : State) (via : Via) (bond n chip tstate check : Nat) (sync : Bool), taken s via (.join bond chip tstate sync 0) check n →
    ∃ t, exec (.join via bond chip tstate sync check) s = .next t ∧
      (let r := heardOf via (.join bond chip tstate sync 0) check
       (Tbl.get (t.bond n).info {} r.chip).joined = true ∧ (Tbl.get (t.bond n).info {} r.chip).tstate = r.tstate ∧
        (Tbl.get (t.bond n).info {} r.chip).sync = r.sync) ∧ t.mem = s.mem ∧ heardOnly s t) ∧
  (∀ (s : State) (via : Via) (bond n inst check : Nat), taken s via (.ready bond inst) check n → (s.bond n).st = .forming → (s.bond n).ready = false →
    s.isQuoin n = false → s.heardInst via (.ready bond inst) check / 4096 = (s.bond n).activation / 4096 → s.now + ms 1 ≤ (s.bond n).activation →
    ∃ t, exec (.ready via bond inst check) s = .next t ∧ (t.bond n).ready = true ∧ (t.bond n).grant = (s.bond n).activation + us 400 ∧
      (t.bond n).lastRx = (s.bond n).activation ∧ (t.bond n).st = .forming ∧ t.tb = s.tb ∧ t.out = s.out ∧ heardOnly s t) ∧
  (∀ (s : State) (n : Nat), (s.bond n).st = .forming → (s.bond n).ready = false → (s.bond n).dissolving = false →
    ∃ t, exec (.bondReadyDeadline n) s = .next t ∧ t.bond n = { s.bond n with st := .formFailed, info := [] } ∧
      t.now = max s.now ((s.bond n).activation - ms 1) ∧ t = { s with tb := t.tb, bonds := t.bonds }) ∧
  (∀ (s : State) (n : Nat), (s.bond n).st = .forming → (s.bond n).ready = true →
    ∃ t, exec (.bondActivation n) s = .next t ∧ t.bond n = { s.bond n with st := .active } ∧
      t.now = max s.now (s.bond n).activation ∧ t = { s with tb := t.tb, bonds := t.bonds })

/-- Beats, grants, absent members and latency. The Quoin of an ACTIVE slot sends BEAT at the next multiple of 100 µs from the activation instant
with a grant 400 µs later; another member of an ACTIVE, HELD or REJOINED slot sends MEMBER_BEAT on the same grid; a BEAT taken up gives the
member its grant, clears unanswered DEFERs and makes a HELD slot REJOINED; a MEMBER_BEAT is heard by the Quoin, which finds a member absent
300 µs after the last; each second's latency maximum and mean are published per slot and start again. Says that exec answers a next state,
under conditions on the state and the operands alone, for: beatSend, memberBeatSend, beat, memberBeat, memberAbsent, bondLatencyCheck. -/
def Obligations.BondBeats : Prop :=
  (∀ (s : State) (n : Nat), (s.bond n).st = .active → s.isQuoin n = true → s.unassigned = false →
    ∃ (t : State) (b : Nat), exec (.beatSend n) s = .next t ∧ s.now ≤ b ∧ (s.bond n).activation ≤ b ∧ (b - (s.bond n).activation) % us 100 = 0 ∧ t.now = b ∧
      (t.bond n).beatAt = some b ∧ (t.bond n).grant = b + us 400 ∧ (t.bond n).st = .active ∧
      (s.linesUp = true → ∃ (l : List Nat), l.length = 3 ∧ ∀ a ∈ l, OutMsg.line (2 ^ (s.tb.posId % 8)) a (Frame.beat (s.bond n).id (b + us 400)).word ∈ t.out) ∧
      t = { s with tb := t.tb, bonds := t.bonds, net := t.net, out := t.out }) ∧
  (∀ (s : State) (n : Nat), ((s.bond n).st = .active ∨ (s.bond n).st = .held ∨ (s.bond n).st = .rejoined) → s.isQuoin n = false → s.unassigned = false →
    ∃ (t : State) (b : Nat), exec (.memberBeatSend n) s = .next t ∧ s.now ≤ b ∧ (s.bond n).activation ≤ b ∧ (b - (s.bond n).activation) % us 100 = 0 ∧ t.now = b ∧
      t.bond n = { s.bond n with beatAt := some b } ∧
      (s.linesUp = true → ∃ (a : Nat), OutMsg.line (2 ^ (s.tb.posId % 8)) a (Frame.memberBeat (s.bond n).id s.chip18).word ∈ t.out) ∧
      t = { s with tb := t.tb, bonds := t.bonds, net := t.net, out := t.out }) ∧
  (∀ (s : State) (via : Via) (bond n inst check : Nat), taken s via (.beat bond inst) check n → s.isQuoin n = false →
    ((s.bond n).st = .active ∨ (s.bond n).st = .held ∨ (s.bond n).st = .rejoined) →
    (4, s.heardInst via (.beat bond inst) check / 4096 * 4096) ∉ (s.bond n).seen →
    ∃ t, exec (.beat via bond inst check) s = .next t ∧ (t.bond n).grant = s.heardInst via (.beat bond inst) check ∧ (t.bond n).lastRx = s.now ∧
      (t.bond n).unanswered = [] ∧ ((s.bond n).st = .held → (t.bond n).st = .rejoined) ∧ ((s.bond n).st ≠ .held → (t.bond n).st = (s.bond n).st) ∧
      (4, s.heardInst via (.beat bond inst) check / 4096 * 4096) ∈ (t.bond n).seen ∧ t.tb = s.tb ∧ t.out = s.out ∧ heardOnly s t) ∧
  (∀ (s : State) (via : Via) (bond n chip check : Nat), taken s via (.memberBeat bond chip) check n → s.isQuoin n = true →
    (heardOf via (.memberBeat bond chip) check).chip ∈ s.others n → (s.bond n).ready = true →
    ∃ t, exec (.memberBeat via bond chip check) s = .next t ∧
      (Tbl.get (t.bond n).info {} (heardOf via (.memberBeat bond chip) check).chip).lastBeat = s.now ∧
      (Tbl.get (t.bond n).info {} (heardOf via (.memberBeat bond chip) check).chip).absent = false ∧ t.tb = s.tb ∧ t.out = s.out ∧ heardOnly s t) ∧
  (∀ (s : State) (n chip : Nat), s.isQuoin n = true → (s.bond n).st = .active → chip ∈ s.others n → (Tbl.get (s.bond n).info {} chip).absent = false →
    ∃ t, exec (.memberAbsent n chip) s = .next t ∧ (Tbl.get (t.bond n).info {} chip).absent = true ∧
      t.now = max s.now ((Tbl.get (s.bond n).info {} chip).lastBeat + us 300) ∧ t = { s with tb := t.tb, bonds := t.bonds }) ∧
  (∀ s : State, s.Inv → ∃ t, exec .bondLatencyCheck s = .next t ∧ t.tb.loc = (s.tb.loc / ms 1000 + 1) * ms 1000 ∧
    (∀ (n : Nat) (b : BondSlot), (n, b) ∈ s.bonds → (t.bond n).latMaxPub = b.latMax ∧ (t.bond n).latMax = 0 ∧ (t.bond n).latSum = 0 ∧ (t.bond n).latN = 0 ∧
      (t.bond n).latMeanPub = (if b.latN = 0 then 0 else b.latSum / b.latN) ∧ (t.bond n).st = b.st) ∧
    (∀ (n : Nat) (b : BondSlot), (n, b) ∈ s.bonds → 20000000 < b.latMax → s.hearsAt 40 t.tb.loc → t.srcSet 40 = true) ∧
    t = { s with tb := t.tb, bonds := t.bonds, regs := t.regs, hw := t.hw, fc := t.fc, freeCtr := t.freeCtr, nvm := t.nvm } ∧ sameBut [0x15] s t)

/-- DEFER and SPLIT, and the end of a dissolve. A DEFER taken up by a slot that takes part is acted on once; at least 5 µs before its instant it
counts as received in time. A SPLIT taken up is acted on once, and where a thread ran the step SPLIT is sent back. SPLIT_SEND sends SPLIT
once for a step that this chip deferred while no other DEFER was timely. A dissolve with every site past its boundary and no bonded step
waiting empties the slot. Says that exec answers a next state, under conditions on the state and the operands alone, for: defer, split,
splitSend, bondDissolveComplete. -/
def Obligations.BondDeferSplit : Prop :=
  (∀ (s : State) (via : Via) (bond n inst check : Nat), taken s via (.defer bond inst) check n →
    (s.bond n).takesPart (s.heardInst via (.defer bond inst) check) = true →
    (2, s.heardInst via (.defer bond inst) check / 4096 * 4096) ∉ (s.bond n).seen →
    ∃ t, exec (.defer via bond inst check) s = .next t ∧ (2, s.heardInst via (.defer bond inst) check / 4096 * 4096) ∈ (t.bond n).seen ∧
      (s.now + us 5 ≤ s.heardInst via (.defer bond inst) check → s.heardInst via (.defer bond inst) check ∈ (t.bond n).deferRx) ∧
      t.mem = s.mem ∧ t.out = s.out) ∧
  (∀ (s : State) (via : Via) (bond n inst check : Nat), taken s via (.split bond inst) check n →
    (s.bond n).takesPart (s.heardInst via (.split bond inst) check) = true →
    (3, s.heardInst via (.split bond inst) check / 4096 * 4096) ∉ (s.bond n).seen →
    ∃ t, exec (.split via bond inst check) s = .next t ∧ (3, s.heardInst via (.split bond inst) check / 4096 * 4096) ∈ (t.bond n).seen ∧ t.mem = s.mem) ∧
  (∀ (s : State) (n t0 : Nat), (s.bond n).live = true → (s.bond n).takesPart t0 = true → t0 ∈ (s.bond n).deferSent → t0 ∉ (s.bond n).deferRx →
    t0 ∉ (s.bond n).splitSent → s.unassigned = false →
    ∃ t, exec (.splitSend n t0) s = .next t ∧ t0 ∈ (t.bond n).splitSent ∧ t.now = max s.now t0 ∧ t.mem = s.mem ∧
      (s.linesUp = true → ∃ (l : List Nat), l.length = 3 ∧ ∀ a ∈ l, OutMsg.line (2 ^ (s.tb.posId % 8)) a (Frame.split (s.bond n).id t0).word ∈ t.out)) ∧
  (∀ (s : State) (n : Nat), (s.bond n).dissolving = true → (∀ x ∈ (s.bond n).sites, x ∈ (s.bond n).passed) →
    (∀ e ∈ s.launchDue.seq.th, ∀ a ∈ e.2.nxt, a.bslot = some n → a.st ≠ .provisional ∧ a.st ≠ .committed) →
    ∃ t, exec (.bondDissolveComplete n) s = .next t ∧ (t.bond n).st = .empty ∧ (t.bond n).members = [] ∧ (t.bond n).sites = [] ∧
      (t.bond n).id = 0 ∧ t.mem = s.mem ∧ t.out = s.out)

/-- Budget, analogue reserve, the reset of k, and a power sample. TLY_BUDGET holds the written budget kept between 40,000 and 240,000 mW, by
register or by a ready Owner write of OD 0x2200.00, which is journaled as stored; the analogue reserve holds the written byte; K_RESET gives
k = 1.000 (1,024) and an empty saturation run, and answers OK through OD 0x2209.00. At the next multiple of 10 µs of local time each rail
takes its reading; with every rail in its operating range P_meas becomes the sum of |mV| × mA over the rails in µW divided by 1,000, less
what the SMUs deliver, never below 0, and heads the window of samples; with one outside it P_meas and k keep their values. The chip's SMU
dissipation of that sample heads its window of 100: with a sum above 100 × 40 W smu_over is set and admissions of SMU power are blocked,
with a mean below 36 W they are not. Only the Tally's and the collector's registers change. Says that exec answers a next state, under
conditions on the state and the operands alone, for: budgetWrite, analogReserveWrite, kReset, powerSample. -/
def Obligations.TallyRegisters : Prop :=
  (∀ (s : State) (v : Nat), ∃ t, exec (.budgetWrite .reg v) s = .next t ∧ t.fld F.TLY_BUDGET_budget_mw = max 40000 (min 240000 v) ∧
    t = { s with regs := t.regs, hw := t.hw } ∧ sameButFields [(F.TLY_BUDGET_budget_mw, 0, 0)] s t) ∧
  (∀ (s : State) (h : Hdr) (d : Sys2Proof.Data) (v : Nat), Ready s h → dataFits d tU32 →
    ∃ t, exec (.budgetWrite (.od h d) v) s = .next t ∧ t.fld F.TLY_BUDGET_budget_mw = max 40000 (min 240000 (dNat d)) ∧
      journaling s t h 0x220000 (toBe 4 (max 40000 (min 240000 (dNat d)))) ∧
      t = { s with regs := t.regs, hw := t.hw, dict := t.dict, eth := t.eth, adp := t.adp } ∧ sameButFields [(F.TLY_BUDGET_budget_mw, 0, 0)] s t) ∧
  (∀ (s : State) (v : Nat), ∃ t, exec (.analogReserveWrite .reg v) s = .next t ∧ t.fld F.TLY_CTRL_analog_reserve = v % 256 ∧
    t = { s with regs := t.regs, hw := t.hw } ∧ sameButFields [(F.TLY_CTRL_analog_reserve, 0, 0)] s t) ∧
  (∀ (s : State) (h : Hdr) (d : Sys2Proof.Data) (v : Nat), Ready s h → dataFits d tU8 →
    ∃ t, exec (.analogReserveWrite (.od h d) v) s = .next t ∧ t.fld F.TLY_CTRL_analog_reserve = dNat d ∧ journaling s t h 0x220100 d.bytes ∧
      t = { s with regs := t.regs, hw := t.hw, dict := t.dict, eth := t.eth, adp := t.adp } ∧ sameButFields [(F.TLY_CTRL_analog_reserve, 0, 0)] s t) ∧
  (∀ s : State, ∃ t, exec (.kReset .reg) s = .next t ∧ t.fld F.TLY_CORR_k = 1024 ∧ t.tally.kRun = 0 ∧ t.tally.entries = s.tally.entries ∧
    t = { s with regs := t.regs, hw := t.hw, tally := t.tally } ∧ sameBut [0x03] s t) ∧
  (∀ (s : State) (h : Hdr) (d : Sys2Proof.Data), Ready s h → dataFits d tBool → dFlag d = true →
    ∃ t, exec (.kReset (.od h d)) s = .next t ∧ answered s t h eOk ∧ t.fld F.TLY_CORR_k = 1024 ∧ t.tally.kRun = 0 ∧
      t = { s with regs := t.regs, hw := t.hw, tally := t.tally, adp := t.adp, out := t.out } ∧ sameBut [0x03] s t) ∧
  (∀ (s : State) (rails : List (Int × Nat)) (delivered : Nat), ∃ t, exec (.powerSample rails delivered) s = .next t ∧
     t.tb.loc = (s.tb.loc / us 10 + 1) * us 10 ∧
     (∀ r, r < rails.length → (Tbl.get t.pw.rails {} r).mv = (rails.getD r (0, 0)).1 ∧ (Tbl.get t.pw.rails {} r).ma = (rails.getD r (0, 0)).2) ∧
     ((∃ e ∈ t.pw.rails, railIn e.1 e.2.mv = false) → t.fld F.TLY_MEAS_p_meas_mw = s.fld F.TLY_MEAS_p_meas_mw ∧ t.fld F.TLY_CORR_k = s.fld F.TLY_CORR_k) ∧
     ((∀ e ∈ t.pw.rails, railIn e.1 e.2.mv = true) →
       let p := (((t.pw.rails.foldl (fun (a : Nat) (e : Nat × Rail) => a + e.2.mv.natAbs * e.2.ma) 0 / 1000 : Nat) : Int) - delivered).toNat
       t.fld F.TLY_MEAS_p_meas_mw = p % 262144 ∧ t.tally.pWin = (p :: s.tally.pWin).take 100) ∧
     t.tally.sWin = (s.smuChip :: s.tally.sWin).take 100 ∧
     (t.tally.sWin.length = 100 → 4000000 < t.tally.sWin.foldl (fun (a b : Nat) => a + b) 0 →
       t.bit F.TLY_STATUS_smu_block = true ∧ t.bit F.TLY_STATUS_smu_over = true) ∧
     (t.smuTotal < 36000 → t.bit F.TLY_STATUS_smu_block = false) ∧
     t = { s with regs := t.regs, hw := t.hw, pw := t.pw, tally := t.tally, tb := t.tb, fc := t.fc, freeCtr := t.freeCtr, nvm := t.nvm } ∧ sameBut [0x03, 0x15] s t)

/-- Thermal samples, levels, the throttle factor and the temperature corrections. Every 10 µs each sensor of a powered chip out of reset takes
its reading to the nearest 125 m°C, and with four samples of each Tmax is that of the sensors that have not failed; DRAM is lost only where
shutdown is asserted. 10 ms after its last change the Warning level releases below 92 °C and Throttle asserts from 100 °C. Every 100 µs the
throttle factor is 1,024 up to 100 °C and falls by 128 per °C, rounded down, with throttle_active set below 1,024. Every 1 ms, with sensors
read and no Thermal Halt, the corrections are recomputed once. Says that exec answers a next state, under conditions on the state and the
operands alone, for: thermalSample, levelDwellEnd, throttleUpdate, temperatureCorrectionRecompute. -/
def Obligations.ThermalSampling : Prop :=
  (∀ (s : State) (readings : List Int), s.pw.powered = true → s.pw.resetLow = false → ∃ t, exec (.thermalSample readings) s = .next t ∧
    (∀ i, i < 69 → (Tbl.get t.thm.samples [] i).headD 0 = roundAway (readings.getD i 0) 125 * 125) ∧
    ((∀ i, i < 69 → 4 ≤ (Tbl.get t.thm.samples [] i).length) → t.thm.tmax = t.findTmax.1) ∧
    (t.bit F.THM_STATUS_shutdown = false → t.mem = s.mem)) ∧
  (∀ (s : State) (a : Nat), s.thm.changed.getD 0 none = some a → s.bit F.THM_STATUS_first_set = true → s.bit F.THM_STATUS_warning = true →
    s.thm.tmax < 92000 → ∃ t, exec (.levelDwellEnd 0) s = .next t ∧ t.bit F.THM_STATUS_warning = false ∧ t.tb.loc = max s.tb.loc (a + ms 10) ∧
      t = { s with regs := t.regs, hw := t.hw, thm := t.thm, tb := t.tb } ∧ sameButFields [(F.THM_STATUS_warning, 0, 0)] s t) ∧
  (∀ (s : State) (a : Nat), s.thm.changed.getD 1 none = some a → s.bit F.THM_STATUS_first_set = true → s.bit F.THM_STATUS_throttle = false →
    100000 ≤ s.thm.tmax → ∃ t, exec (.levelDwellEnd 1) s = .next t ∧ t.bit F.THM_STATUS_throttle = true ∧ t.tb.loc = max s.tb.loc (a + ms 10) ∧
      (s.hearsAt 42 t.tb.loc → t.srcSet 42 = true) ∧ t = { s with regs := t.regs, hw := t.hw, thm := t.thm, tb := t.tb, fc := t.fc, freeCtr := t.freeCtr, nvm := t.nvm } ∧
      sameBut [0x04, 0x15] s t) ∧
  (∀ s : State, ∃ t, exec .throttleUpdate s = .next t ∧ t.tb.loc = (s.tb.loc / us 100 + 1) * us 100 ∧
    (s.thm.tmax ≤ 100000 → t.fld F.TLY_MULT_m_q = 1024 ∧ t.bit F.TLY_STATUS_throttle_active = false) ∧
    (100000 < s.thm.tmax → t.fld F.TLY_MULT_m_q = 1024 - (-(-((s.thm.tmax - 100000) * 128) / 1000)).toNat ∧
      t.bit F.TLY_STATUS_throttle_active = true) ∧
    t = { s with regs := t.regs, hw := t.hw, tb := t.tb } ∧ sameButFields [(F.TLY_MULT_m_q, 0, 0), (F.TLY_STATUS_throttle_active, 0, 0)] s t) ∧
  (∀ s : State, s.thm.halted = false → s.bit F.THM_STATUS_first_set = true → ∃ t, exec .temperatureCorrectionRecompute s = .next t ∧
    t.thm = { s.thm with corrCount := s.thm.corrCount + 1 } ∧ t.tb.loc = (s.tb.loc / ms 1 + 1) * ms 1 ∧ t.mem = s.mem ∧ t.fc = s.fc ∧ t.out = s.out)

/-- Admission, commitment, the end of a step's interval and mode changes. A launched step of finite length ends at t0 + d. A ready Owner command
from Safe with no change pending, to a mode that the calendar carries, at an instant at least 100 µs ahead, with no committed step, commit,
calibration fault, Chip-critical source or untrained DRAM stack, is accepted at that instant; a change that Table 4.5 does not list gives
MODE_TRANSITION and leaves the mode state. At the instant of the change accepted first, its record entered before or then entered in an
empty queue, the target mode is in force, its settle interval begins and the change is counted. At its horizon an unbonded routine request
that the Tally admits enters the ledger and is committed; one it does not let in is counted and ends refused, and in Safe it also holds its
thread; a provisional one is committed on the tick after 5 µs before its instant (log entry 45). Of a bonded step whose thread is not ready
at its horizon DEFER is sent, and where the grant has run out the slot is HELD. A bin that retires takes with it the entries that lie wholly
in the past. Says that exec answers a next state, under conditions on the state and the operands alone, for: stepEnd, modeChangeCommand,
modeChange, admissionDecision, bondedCommit, ledgerBinRetire. -/
def Obligations.StepEndAndModes : Prop :=
  (∀ (s : State) (k : Nat) (a : Step) (d : Nat), k < 256 → (s.thr k).step = some a → a.d = some d → a.st = .launched → (s.thr k).nxt = [] →
    ∃ t, exec (.stepEnd k) s = .next t ∧ t.now = max s.now (a.t0 + d) ∧ ((t.thr k).step.map (fun x => x.st)) = some .ended ∧ t.pending = s.pending) ∧
  (∀ (s : State) (h : Hdr) (d : Sys2Proof.Data) (m : Mode), Ready s h → d.ty = tBlob → d.bytes.length = 11 → modeOf (dSub d 0 1) = some m → m ≠ .safe →
    s.md.mode = .safe → s.md.pend = [] → s.now + us 100 ≤ timeTicks (d.bytes.drop 1) → s.commSteps = [] → s.cal.commit = none →
    (∀ k, k < 63 → s.srcSet k = true → s.fld F.FC_SRC_sev_max 0 k ≠ 3) → (∀ n, n < 4 → (Tbl.get s.bist.drams {} n).trained = true) →
    s.bit F.CAL_STATUS_absent = false → s.fitsMode m = true →
    ∃ t, exec (.modeChangeCommand h d) s = .next t ∧ answered s t h eOk ∧
      t.md = { s.md with pend := [⟨m, some (timeTicks (d.bytes.drop 1)), s.now, false, false⟩] } ∧ t = { s with md := t.md, adp := t.adp, out := t.out }) ∧
  (∀ (s : State) (h : Hdr) (d : Sys2Proof.Data) (m : Mode), Ready s h → d.ty = tBlob → d.bytes.length = 11 → modeOf (dSub d 0 1) = some m → m ≠ .safe →
    s.md.pend = [] → (s.md.mode = .survey ∨ m = s.md.mode ∨ (m = .survey ∧ s.md.mode ≠ .safe)) →
    ∃ t, exec (.modeChangeCommand h d) s = .next t ∧ answered s t h eModeTransition ∧ t = { s with adp := t.adp, out := t.out }) ∧
  (∀ (s : State) (p : ModePending) (rest : List ModePending) (a : Nat), s.md.pend = p :: rest → p.t = some a →
    (p.entered = true ∨ (s.queue 39 = [] ∧ Tbl.find s.lqLast 39 = none ∧ us 2 ≤ a)) →
    ∃ t, exec .modeChange s = .next t ∧ t.md.mode = p.target ∧ t.md.pend.map (fun x => x.target) = rest.map (fun x => x.target) ∧ t.md.settle = some (a, a + settleTicks s.md.mode p.target) ∧
      t.now = max s.now a ∧ t.md.changes = (if p.target = s.md.mode then s.md.changes else s.md.changes + 1) ∧
      (p.target = .safe → t.md.safeCause = 1 ∧ t.md.safeAt = a)) ∧
  (∀ s : State, s.nextRequest = none → s.nextUnready = none → exec .admissionDecision s = .next s) ∧
  (∀ (s m : State) (k n t0 : Nat), s.nextRequest = none → s.nextUnready = some (k, n, t0) → m = (s.reach (t0 - us 50)).launchDue →
    ∃ t, exec .admissionDecision s = .next t ∧ t.now = max s.now (t0 - us 50) ∧ t0 ∈ (t.bond n).deferSent ∧
      (m.grantLost n t0 = true → (t.bond n).st = .held ∧ t.bit F.TB_STATUS_quoin_lost = true) ∧
      (m.grantLost n t0 = false → m.bondTime n = true → (t.bond n).st = (m.bond n).st) ∧ t.mem = s.mem ∧ t.lq = s.lq) ∧
  (∀ (s m : State) (k : Nat) (st : Step), s.nextRequest = some (k, st) → st.lateReq = false → m = (s.reach (st.t0 - us 50)).launchDue →
    (∀ u, s.nextUnready = some u → st.t0 ≤ u.2.2) →
    (m.thr k).nxt.getLast? = some st → st.bslot = none → st.kind = .routine → m.inSafe = false → m.stepExcl k st = false → m.tallyAdmits st = true → m.badCtx st = false →
    ∃ t, exec .admissionDecision s = .next t ∧ t.tally = { m.tally with entries := m.tally.entries ++ [⟨k, st.t0, st.end?, st.c, st.smu⟩] } ∧
      (t.thr k).nxt = (m.thr k).nxt.dropLast ++ [{ st with st := .committed }] ∧ (t.thr k).decided = some true ∧
      (∀ (j : Nat), j ∉ m.appliers k → t.thr j = m.thr j) ∧ t = { m with tally := t.tally, seq := t.seq }) ∧
  (∀ (s m : State) (k : Nat) (st : Step), s.nextRequest = some (k, st) → st.lateReq = false → m = (s.reach (st.t0 - us 50)).launchDue →
    (∀ u, s.nextUnready = some u → st.t0 ≤ u.2.2) →
    st.bslot = none → st.kind = .routine → m.inSafe = false → m.stepExcl k st = false → m.tallyAdmits st = false →
    ∃ t, exec .admissionDecision s = .next t ∧ t.tally = { m.tally with refusals := m.tally.refusals + 1 } ∧ t.bit F.TLY_STATUS_refused = true ∧
      (t.thr k).nxt = (m.thr k).nxt.dropLast ∧ (t.thr k).decided = some false ∧ (∀ (j : Nat), j ∉ m.appliers k → t.thr j = m.thr j) ∧
      t = { m with tally := t.tally, seq := t.seq, regs := t.regs, hw := t.hw } ∧ sameButFields [(F.TLY_STATUS_refused, 0, 0)] m t) ∧
  (∀ (s m : State) (k : Nat) (st : Step), s.nextRequest = some (k, st) → st.lateReq = false → m = (s.reach (st.t0 - us 50)).launchDue →
    (∀ u, s.nextUnready = some u → st.t0 ≤ u.2.2) →
    st.bslot = none → st.kind = .routine → m.inSafe = true → ∃ t, exec .admissionDecision s = .next t ∧
      t.tally = { m.tally with refusals := m.tally.refusals + 1 } ∧ (t.thr k).nxt = (m.thr k).nxt.dropLast ∧ HoldSrc.safe ∈ (t.thr k).holds ∧
      t = { m with tally := t.tally, seq := t.seq, regs := t.regs, hw := t.hw } ∧ sameButFields [(F.TLY_STATUS_refused, 0, 0)] m t) ∧
  (∀ (s m : State) (k : Nat) (st : Step), s.nextProvisional = some (k, st) → m = (s.reach (st.t0 - us 5 + 1)).launchDue →
    (m.thr k).nxt.getLast? = some st → st.kind = .routine → ∃ t, exec .bondedCommit s = .next t ∧
      (t.thr k).nxt = (m.thr k).nxt.dropLast ++ [{ st with st := .committed }] ∧ (t.thr k).decided = some true ∧
      (∀ (j : Nat), j ∉ m.appliers k → t.thr j = m.thr j) ∧ t = { m with seq := t.seq }) ∧
  (∀ s : State, ∃ t, exec .ledgerBinRetire s = .next t ∧ t.now = (s.bin0 + 1) * binTicks ∧
    t.tally = { s.tally with entries := t.tally.entries } ∧
    (∀ (e : LedgerEntry), e ∈ t.tally.entries ↔ e ∈ s.tally.entries ∧ ∀ (u : Nat), e.t1 = some u → t.now < u) ∧ t = { s with tb := t.tb, tally := t.tally })

/-- A launch record enters its queue. With the chip not halted, no self-test running, a free place and, for the Keystone's queue, no mode change
pending, a record with an action of its queue other than MODE_CHANGE is the last of its queue, with its whole instant resolved from 40 bits
of nanoseconds; less than 64 ns ahead it is LATE and executes not before 64 ns from now; with 64 ns or more, an empty queue that nothing has
left and no background check, it executes at its instant, and less than 2 µs ahead is counted as lead-short; nothing of LATE is counted
before it executes. Where another site's record for the same shared instrument and instant waits there, both enter with payloads that
nothing fixes, and every other record stays (R14, log entry 10). What a reserved action does is the model's free choice among the queue's
actions and nothing (log entry 43): the record enters with one of them, or not at all. Says that exec answers a next state, under conditions
on the state and the operands alone, for: launchRecordEntry. -/
def Obligations.LaunchRecords : Prop :=
  (∀ (s : State) (q target action site payload n40 frac : Nat) (cw : Bool), q < 40 → action ∈ queueActions q → (q = 39 → s.md.pend = []) →
    s.thm.halted = false → s.bist.run = none →
    (s.queue q).length < lqDepth q → (∀ e ∈ s.queue q, clashes q (s.resolve40 n40 frac) (target % 64) cw (site % 256) e = false) →
    ∃ (t : State) (r : LaunchRec), exec (.launchRecordEntry q target action cw site payload n40 frac) s = .next t ∧ t.queue q = s.queue q ++ [r] ∧
      r.inst = s.resolve40 n40 frac ∧ r.target = target % 64 ∧ r.action = action ∧ r.chipWide = cw ∧ r.site = site % 256 ∧
      r.payload = payload % 2 ^ 47 ∧ r.entered = s.now ∧ (∀ (j : Nat), j ≠ q → t.queue j = s.queue j) ∧ t.mem = s.mem ∧ t.tb.loc = s.tb.loc ∧
      t.tb.lateCount = s.tb.lateCount ∧
      (r.inst < s.now + ns 64 → r.late = true ∧ s.now + ns 64 ≤ r.exec ∧ t.tb.leadShort = s.tb.leadShort) ∧
      (s.now + ns 64 ≤ r.inst → s.queue q = [] → Tbl.find s.lqLast q = none → s.ks.checks = [] →
        (∀ (m : Nat), (s.smuCh m).azRun = none ∧ (s.smuCh m).restore ≤ s.tb.loc) →
        (∀ (w : Nat), (Tbl.get s.wav.ch {} w).plumbRun = none ∧ (Tbl.get s.wav.ch {} w).restore ≤ s.tb.loc) →
        r.late = false ∧ r.exec = r.inst ∧
        (r.inst < s.now + us 2 → t.tb.leadShort = s.tb.leadShort + 1 ∧ t.bit F.TB_STATUS_lead_short = true))) ∧
  (∀ (s : State) (q target action site payload n40 frac : Nat) (e : LaunchRec), q < 39 → action ∈ queueActions q → s.thm.halted = false →
    s.bist.run = none → (s.queue q).length < lqDepth q → e ∈ s.queue q → clashes q (s.resolve40 n40 frac) (target % 64) false (site % 256) e = true →
    ∃ (t : State) (l : List LaunchRec) (r : LaunchRec), exec (.launchRecordEntry q target action false site payload n40 frac) s = .next t ∧ t.queue q = l ++ [r] ∧
      l.length = (s.queue q).length ∧ r.inst = s.resolve40 n40 frac ∧ r.target = target % 64 ∧ r.action = action ∧ r.site = site % 256 ∧
      r.payload < 2 ^ 47 ∧ (∀ x ∈ l, ∃ y ∈ s.queue q, x = { y with payload := x.payload }) ∧
      (∀ y ∈ s.queue q, clashes q (s.resolve40 n40 frac) (target % 64) false (site % 256) y = false → y ∈ l) ∧
      (∀ (j : Nat), j ≠ q → t.queue j = s.queue j) ∧ t.mem = s.mem ∧ t.tb.loc = s.tb.loc) ∧
  (∀ (s : State) (q target action site payload n40 frac : Nat) (cw : Bool), q < 40 → action ≠ 4 → action ∉ queueActions q → (q = 39 → s.md.pend = []) →
    s.thm.halted = false → s.bist.run = none → (s.queue q).length < lqDepth q →
    ∃ t, exec (.launchRecordEntry q target action cw site payload n40 frac) s = .next t ∧ (∀ (j : Nat), j ≠ q → t.queue j = s.queue j) ∧ t.mem = s.mem ∧
      (t.queue q = s.queue q ∨ ∃ (r : LaunchRec), (t.queue q).getLast? = some r ∧ r.action ∈ queueActions q))

/-- Pin trips, clears of a trip latch, and level strobes. An enabled trip of an unparked pin comes no earlier than M samples after its filter
was enabled, latches, counts, and turns off the drivers of the pin and of every pin of its group, marking them tripped; other pins' marks
stay. A clear by register or by a ready Owner write, not at the very instant of the trip (R509), releases the latch, or trips again while
the condition holds. A LOAD_STROBE at its queue's head leaves it at its instant; in Safe it is discarded and counted; else a named channel's
VIH becomes the staged value kept in the pin's envelope, and a channel not named keeps every active value. STROBE_NOW enters a strobe of
every channel 10 µs ahead. Says that exec answers a next state, under conditions on the state and the operands alone, for: trip,
tripLatchClear, loadStrobe, strobeNow. -/
def Obligations.PinTripsAndStrobes : Prop :=
  (∀ (s : State) (c p : Nat), c < 32 → p < 32 → s.actFld F.PCH_TRIP_CFG_trip_en c p ≠ 0 → s.actFld F.PCH_TRIP_CFG_cond c p ≠ 0 →
    s.parked c p = false → s.latched c p = false → ∃ t, exec (.trip c p) s = .next t ∧ t.latched c p = true ∧ t.bit F.PCH_STATUS_trip_any c = true ∧
    (t.pch c p).trips = (s.pch c p).trips + 1 ∧
    (∀ q, q < 32 → (q = p ∨ (s.actFld F.PCH_TRIP_GRP_grp c p).testBit q = true) →
      (t.pch c q).drive = .off ∧ t.bit F.PCH_CH_STATE_tripped c q = true) ∧
    (∀ q, q < 32 → q ≠ p → (s.actFld F.PCH_TRIP_GRP_grp c p).testBit q = false →
      t.bit F.PCH_CH_STATE_tripped c q = s.bit F.PCH_CH_STATE_tripped c q) ∧
    t.tb.loc = max s.tb.loc ((s.pch c p).filtAt + filtNeed (s.fld F.PCH_TRIP_CFG_filt_n c p) (s.fld F.PCH_TRIP_CFG_filt_m c p) * cycle) ∧
    t = { s with regs := t.regs, hw := t.hw, pin := t.pin, tmg := t.tmg, ser := t.ser, rk := t.rk, seq := t.seq, tb := t.tb, freeCtr := t.freeCtr } ∧
    sameBut [0x06] s t) ∧
  (∀ (s : State) (c p : Nat), c < 32 → p < 32 → s.latched c p = true → s.heldBit F.PCH_TRIP_LATCH_latch c 0 p = false →
    ∃ t, exec (.tripLatchClear .reg c p false) s = .next t ∧
    t.latched c p = false ∧ (∀ q, q < 32 → (s.pch c q).cutBy = [p] → (t.pch c q).cutBy = [] ∧ t.bit F.PCH_CH_STATE_tripped c q = false) ∧
    t = { s with regs := t.regs, hw := t.hw, pin := t.pin } ∧ sameBut [0x06] s t) ∧
  (∀ (s : State) (c p : Nat), c < 32 → p < 32 → s.latched c p = true → s.heldBit F.PCH_TRIP_LATCH_latch c 0 p = false →
    ∃ t, exec (.tripLatchClear .reg c p true) s = .next t ∧
    t.latched c p = true ∧ (t.pch c p).trips = (s.pch c p).trips + 1) ∧
  (∀ (s : State) (h : Hdr) (d : Sys2Proof.Data) (c p : Nat), c < 32 → p < 32 → Ready s h → dTrue d → s.latched c p = true → s.heldBit F.PCH_TRIP_LATCH_latch c 0 p = false →
    ∃ t, exec (.tripLatchClear (.od h d) c p false) s = .next t ∧ answered s t h eOk ∧ t.latched c p = false ∧
      t = { s with regs := t.regs, hw := t.hw, pin := t.pin, adp := t.adp, out := t.out } ∧ sameBut [0x06] s t) ∧
  (∀ (s : State) (c : Nat) (r : LaunchRec) (rest : List LaunchRec), c < 32 → s.queue c = r :: rest → r.action = 1 →
    (∀ p ∈ s.md.pend, ∀ (a : Nat), p.t = some a → r.exec < a) → ∃ t, exec (.loadStrobe c) s = .next t ∧ t.queue c = rest ∧ t.now = max s.now r.exec ∧
      (s.inSafe = true → t.md.limitCount = s.md.limitCount + 1 ∧ t.act = s.act ∧ (r.late = false → t.regs = s.regs)) ∧
      (s.inSafe = false →
        (∀ n ∈ strobeNames r.payload, r.payload.testBit 13 = true → s.swapping c n = false → (n = 32 → s.bit F.PCH_STATUS_spare_busy c = false) →
          t.actFld F.PCH_DRV_LVL_vih c n =
            clampNat (s.fld F.PCH_ENV_vmin c n) (s.fld F.PCH_ENV_vmax c n) (min (s.fld F.PCH_DRV_LVL_vih c n) 64000) % 65536) ∧
        (∀ n, n ≤ 32 → n ∉ strobeNames r.payload → ∀ f ∈ lvGroup ++ ldGroup ++ pmuGroup, t.actFld f c n = s.actFld f c n)) ∧
      t = { s with regs := t.regs, hw := t.hw, act := t.act, pin := t.pin, tmg := t.tmg, ser := t.ser, lq := t.lq, lqLast := t.lqLast, rk := t.rk,
                   seq := t.seq, md := t.md, tb := t.tb, fc := t.fc, freeCtr := t.freeCtr, nvm := t.nvm, ks := t.ks, tally := t.tally, bonds := t.bonds } ∧
      sameBut [0x02, 0x06, 0x15] s t) ∧
  (∀ (s : State) (h : Hdr) (d : Sys2Proof.Data) (c : Nat), Ready s h → dTrue d → c < 32 → (s.queue c).length < 4096 →
    ∃ (t : State) (r : LaunchRec), exec (.strobeNow h d c) s = .next t ∧ answered s t h eOk ∧ t.queue c = s.queue c ++ [r] ∧ r.inst = s.now + us 10 ∧ r.action = 1 ∧
      (∀ n, n ≤ 32 → n ∈ strobeNames r.payload) ∧
      t = { s with regs := t.regs, hw := t.hw, lq := t.lq, tb := t.tb, ks := t.ks, rk := t.rk, seq := t.seq, fc := t.fc, freeCtr := t.freeCtr, nvm := t.nvm, adp := t.adp, out := t.out })

/-- PMU results, pin envelopes, repair and restore. A PMU aperture ends at its closing instant with its value and clamp flag, on its way to the
site of its thread. A ready Owner write sets a pin's envelope to the nearest level codes or its current limit and journals it. A repair of a
pin of a Course with a free spare begins, holding the running threads of the owning site; SPARE_RELEASE begins a release. When the site
stands still the swap completes within 3 µs of that hold: the spare serves the pin, or is free, the pin is not derated, swap_done is set and
the assignment journaled. DERATED_RESTORE clears the derated bit, or answers FAULT_ACTIVE while the Course's source is set. Says that exec
answers a next state, under conditions on the state and the operands alone, for: pmuMeasurementComplete, envelopeWrite, pinRepair,
spareRelease, repairSwapComplete, deratedRestore. -/
def Obligations.PinRepairAndMeasurement : Prop :=
  (∀ (s : State) (c n : Nat) (v : Int) (cl : Bool) (m : PmuMeas), (s.pch c n).meas = some m → ∃ t, exec (.pmuMeasurementComplete c n v cl) s = .next t ∧
    t.tb.loc = max s.tb.loc m.closeAt ∧ (t.pch c n).meas = none ∧ (t.pch c n).lastPmu = v ∧ (t.pch c n).pmuClamp = cl ∧
    (m.thread = none → t.rk = s.rk) ∧
    (∀ (k : Nat), m.thread = some k → ∃ (a : Arrival), t.rk = { s.rk with inbox := s.rk.inbox ++ [a] } ∧ a.site = s.siteOf k ∧ a.value = v ∧ a.clamp = cl ∧
      a.slot = m.slot ∧ a.at_ = t.now) ∧ t = { s with pin := t.pin, rk := t.rk, tb := t.tb }) ∧
  (∀ (s : State) (h : Hdr) (d : Sys2Proof.Data) (c n : Nat), c < 32 → n ≤ 32 → Ready s h → d.ty = tBlob → d.bytes.length = 16 →
    ∃ t, exec (.envelopeWrite h d c n false) s = .next t ∧ t.fld F.PCH_ENV_vmin c n = levelCode (toSigned 64 (dSub d 0 8)) ∧
      t.fld F.PCH_ENV_vmax c n = levelCode (toSigned 64 (dSub d 8 8)) ∧
      (∃ (v : List Byte), journaling s t h (odKey (0x3010 + 32 * c) n) v ∧ v.length = 16) ∧
      t = { s with regs := t.regs, hw := t.hw, dict := t.dict, eth := t.eth, adp := t.adp } ∧ sameButFields [(F.PCH_ENV_vmin, c, n), (F.PCH_ENV_vmax, c, n)] s t) ∧
  (∀ (s : State) (h : Hdr) (d : Sys2Proof.Data) (c n : Nat), c < 32 → n ≤ 32 → Ready s h → dataFits d tI64 →
    ∃ t, exec (.envelopeWrite h d c n true) s = .next t ∧ t.fld F.PCH_ENV_I_imax_ua c n = currentCode (dInt d) 65535 ∧
      journaling s t h (odKey (0x3011 + 32 * c) n) (toBe 8 (currentCode (dInt d) 65535 * 1000000000)) ∧
      t = { s with regs := t.regs, hw := t.hw, dict := t.dict, eth := t.eth, adp := t.adp } ∧ sameButFields [(F.PCH_ENV_I_imax_ua, c, n)] s t) ∧
  (∀ (s : State) (h : Hdr) (d : Sys2Proof.Data) (c : Nat), c < 32 → Ready s h → dataFits d tU8 → dNat d < 32 → s.repairing c = false →
    s.bit F.PCH_STATUS_spare_busy c = false → s.fastSet c = false → ∃ t, exec (.pinRepair h d c) s = .next t ∧ answered s t h eOk ∧
      Tbl.find t.pin.repair c = some ⟨dNat d, false, s.tb.loc⟩ ∧
      (∀ (k j : Nat), s.pinOwner c (dNat d) = some k → j ∈ s.threadsOf (s.siteOf k) → s.running j = true → HoldSrc.repair ∈ (t.thr j).holds) ∧
      t = { s with pin := t.pin, seq := t.seq, adp := t.adp, out := t.out }) ∧
  (∀ (s : State) (h : Hdr) (c : Nat), c < 32 → Ready s h → s.repairing c = false → s.bit F.PCH_STATUS_spare_busy c = true →
    ∃ t, exec (.spareRelease h c) s = .next t ∧ answered s t h eOk ∧ Tbl.find t.pin.repair c = some ⟨s.fld F.PCH_STATUS_spare_pos c, true, s.tb.loc⟩ ∧
      t = { s with pin := t.pin, seq := t.seq, adp := t.adp, out := t.out }) ∧
  (∀ (s : State) (c : Nat) (r : RepairRun), c < 32 → r.pin < 32 → Tbl.find s.pin.repair c = some r → s.siteHeld c r.pin = true →
    ∃ t, exec (.repairSwapComplete c) s = .next t ∧ t.tb.loc ≤ max s.tb.loc (s.heldSince c r.pin r + us 3) ∧ t.repairing c = false ∧ t.bit F.PCH_STATUS_spare_busy c = !r.release ∧
      t.bit F.PCH_CH_STATE_spare c r.pin = !r.release ∧ t.bit F.PCH_CH_STATE_derated c r.pin = false ∧ t.bit F.PCH_STATUS_swap_done c = true ∧
      (r.release = false → t.fld F.PCH_STATUS_spare_pos c = r.pin ∧ t.parked c 32 = true) ∧
      t.eth.jrn = s.eth.jrn ++ [{ key := odKey (0x3017 + 32 * c) 32, val := toBe 1 (if r.release then 0xFF else r.pin) }] ∧
      t = { s with regs := t.regs, hw := t.hw, act := t.act, pin := t.pin, tmg := t.tmg, seq := t.seq, fc := t.fc, eth := t.eth, freeCtr := t.freeCtr,
                   nvm := t.nvm, tb := t.tb, ser := t.ser, rk := t.rk, md := t.md } ∧
      sameBut [0x06, 0x07, 0x0A, 0x15] s t) ∧
  (∀ (s : State) (h : Hdr) (d : Sys2Proof.Data) (c p : Nat), c < 32 → p ≤ 32 → Ready s h → dTrue d → s.bit F.PCH_CH_STATE_derated c p = true →
    s.srcSet c = false → ∃ t, exec (.deratedRestore h d c p) s = .next t ∧ answered s t h eOk ∧ t.bit F.PCH_CH_STATE_derated c p = false ∧
      t = { s with regs := t.regs, hw := t.hw, adp := t.adp, out := t.out } ∧ sameButFields [(F.PCH_CH_STATE_derated, c, p)] s t) ∧
  (∀ (s : State) (h : Hdr) (d : Sys2Proof.Data) (c p : Nat), c < 32 → p ≤ 32 → Ready s h → dTrue d → s.bit F.PCH_CH_STATE_derated c p = true →
    s.srcSet c = true → ∃ t, exec (.deratedRestore h d c p) s = .next t ∧ answered s t h eFaultActive ∧ t = { s with adp := t.adp, out := t.out })

/-- Staged timing sets, fixture deskew and apply_now. On a Course that streams nothing, with its register table in order, a ready Owner write of
a set's period that the mode and the calendar allow is staged and active at once; one below the mode's least period answers CALENDAR_FULL,
sets period_refused and stages nothing. A write of a set's edges stages every offset. Fixture deskew is kept within ±20 ns, stored in
TMG_FIX and journaled. APPLY_NOW makes every staged period active while nothing streams, and does nothing while a segment streams. Says that
exec answers a next state, under conditions on the state and the operands alone, for: timingSetWrite, fixtureDeskewWrite, applyNow. -/
def Obligations.TimingSetsAndFixture : Prop :=
  (∀ (s : State) (h : Hdr) (d : Sys2Proof.Data) (c ss : Nat), c < 32 → ss < 64 → Ready s h → dataFits d tU32 → Tbl.rising s.regs = true →
    s.streaming c = false → minPeriod s.md.mode ≤ min (dNat d) 4096000000 →
    (s.bit F.PCH_STATUS_spare_busy c = true → 2048 ≤ min (dNat d) 4096000000) →
    (∀ (u : State), u = s.setFld F.TMG_PERIOD_period c ss (min (dNat d) 4096000000) → u.fits s.md.mode = true) →
    ∃ t, exec (.timingSetWrite h d c ss false) s = .next t ∧ answered s t h eOk ∧ t.fld F.TMG_PERIOD_period c ss = min (dNat d) 4096000000 ∧
      t.period c ss = min (dNat d) 4096000000 ∧ t = { s with regs := t.regs, hw := t.hw, act := t.act, tmg := t.tmg, adp := t.adp, out := t.out } ∧
      sameBut [0x07] s t) ∧
  (∀ (s : State) (h : Hdr) (d : Sys2Proof.Data) (c ss : Nat), c < 32 → ss < 64 → Ready s h → dataFits d tU32 → s.streaming c = false →
    min (dNat d) 4096000000 < minPeriod s.md.mode → ∃ t, exec (.timingSetWrite h d c ss false) s = .next t ∧ answered s t h eCalendarFull ∧
      t.bit F.TMG_STATUS_period_refused c = true ∧ t = { s with regs := t.regs, hw := t.hw, adp := t.adp, out := t.out } ∧
      sameButFields [(F.TMG_STATUS_period_refused, c, 0)] s t) ∧
  (∀ (s : State) (h : Hdr) (d : Sys2Proof.Data) (c ss : Nat), c < 32 → ss < 64 → Ready s h → d.ty = tBlob → d.bytes.length = 768 →
    ∃ t, exec (.timingSetWrite h d c ss true) s = .next t ∧ answered s t h eOk ∧
      (∀ (p e : Nat), p < 32 → e < 5 →
        t.fld F.TMG_EDGE_offset c ((ss * 32 + p) * 5 + e) = dSub d (24 * p + 4 * e) 4 % 2 ^ F.TMG_EDGE_offset.wid) ∧
      t = { s with regs := t.regs, hw := t.hw, act := t.act, tmg := t.tmg, adp := t.adp, out := t.out } ∧ sameBut [0x07] s t) ∧
  (∀ (s : State) (h : Hdr) (d : Sys2Proof.Data) (c p : Nat), c < 32 → p < 32 → Ready s h → d.ty = tBlob → d.bytes.length = 8 →
    ∃ t, exec (.fixtureDeskewWrite h d c p) s = .next t ∧
      t.fld F.TMG_FIX_DRV_fix_drv c p = ofSigned 18 (clampInt (-81920) 81920 (toSigned 32 (dSub d 0 4))) ∧
      t.fld F.TMG_FIX_CMP_fix_cmp c p = ofSigned 18 (clampInt (-81920) 81920 (toSigned 32 (dSub d 4 4))) ∧
      (∃ (v : List Byte), journaling s t h (odKey (0x5402 + 16 * c) p) v ∧ v.length = 8) ∧
      t = { s with regs := t.regs, hw := t.hw, act := t.act, tmg := t.tmg, dict := t.dict, eth := t.eth, adp := t.adp } ∧ sameBut [0x07] s t) ∧
  (∀ (s : State) (c : Nat), c < 32 → s.streaming c = false → Tbl.rising s.regs = true → ∃ t, exec (.applyNow .reg c) s = .next t ∧
    (∀ ss, ss < 64 → t.period c ss = s.fld F.TMG_PERIOD_period c ss) ∧ t = { s with regs := t.regs, hw := t.hw, act := t.act, tmg := t.tmg } ∧
    sameBut [0x07] s t) ∧
  (∀ (s : State) (h : Hdr) (d : Sys2Proof.Data) (c : Nat), c < 32 → s.streaming c = false → Tbl.rising s.regs = true → Ready s h → dTrue d →
    ∃ t, exec (.applyNow (.od h d) c) s = .next t ∧ answered s t h eOk ∧ (∀ ss, ss < 64 → t.period c ss = s.fld F.TMG_PERIOD_period c ss) ∧
      t = { s with regs := t.regs, hw := t.hw, act := t.act, tmg := t.tmg, adp := t.adp, out := t.out } ∧ sameBut [0x07] s t) ∧
  (∀ (s : State) (c : Nat), c < 32 → s.streaming c = true → exec (.applyNow .reg c) s = .next s)

/-- Plumb checks and comparator self-checks. A Plumb check takes a channel that may be taken, with its start recorded; its measurement becomes
the channel's candidate and the channel is free again. A candidate within 50 ps of the factory values and 8 ps of the correction in force is
accepted: last_result is 1, and on a Course that streams nothing the correction in force is the candidate (its parts being of 16 bits); else
it is rejected and counted, last_result is 2, plumb_reject is set and source 55 is reported. 60 s after the last gap of a channel's queue,
while a record is due, source 55 is reported; without one nothing is. A comparator self-check takes a free channel, and frees it with its
result; a failure sets selfchk_fail and reports the Course. Says that exec answers a next state, under conditions on the state and the
operands alone, for: plumbCheckStart, plumbCheckComplete, plumbCandidateCheck, plumbGapTimeout, comparatorSelfCheck. -/
def Obligations.PlumbAndSelfChecks : Prop :=
  (∀ (s : State) (c p : Nat), c < 32 → p < 32 → (s.settleEdges c).plumbMay c p = true → ∃ t, exec (.plumbCheckStart c p) s = .next t ∧
    Tbl.find t.ks.checks (33 * c + p) = some ⟨0, s.tb.loc, none⟩ ∧ t = { s with ks := t.ks, tmg := t.tmg, pin := t.pin, ser := t.ser }) ∧
  (∀ (s : State) (c p : Nat) (r f m : Int) (k : ChanCheck), p < 32 → Tbl.find s.ks.checks (33 * c + p) = some k → k.kind = 0 → k.restore = none →
    ∃ t, exec (.plumbCheckComplete c p r f m) s = .next t ∧ Tbl.find t.ks.checks (33 * c + p) = none ∧
      t.chTim (32 * c + p) = { s.chTim (32 * c + p) with cand := some ⟨r, f, m⟩ } ∧ t = { s with ks := t.ks, tmg := t.tmg }) ∧
  (∀ (s : State) (c p : Nat) (x : Corr), c < 32 → p < 32 → s.ks.running = true → s.ks.outage = false → (s.chTim (32 * c + p)).cand = some x →
    x.near (s.factory c p) 204 = true → x.near (s.corrOf c p) 33 = true → ∃ t, exec (.plumbCandidateCheck c p) s = .next t ∧
      (t.chTim (32 * c + p)).cand = none ∧ (t.chTim (32 * c + p)).acceptedAt = some s.now ∧ t.fld F.TMG_PLUMB_last_result c p = 1 ∧
      (s.streaming c = false → -32768 ≤ x.rise → x.rise < 32768 → -32768 ≤ x.fall → x.fall < 32768 → -32768 ≤ x.cmp → x.cmp < 32768 →
        t.corrOf c p = x) ∧ t = { s with regs := t.regs, hw := t.hw, act := t.act, tmg := t.tmg } ∧ sameBut [0x07] s t) ∧
  (∀ (s : State) (c p : Nat) (x : Corr), c < 32 → p < 32 → s.ks.running = true → s.ks.outage = false → (s.chTim (32 * c + p)).cand = some x →
    (x.near (s.factory c p) 204 = false ∨ x.near (s.corrOf c p) 33 = false) → ∃ t, exec (.plumbCandidateCheck c p) s = .next t ∧
      t.chTim (32 * c + p) = { s.chTim (32 * c + p) with cand := none, rejects := (s.chTim (32 * c + p)).rejects + 1 } ∧
      t.fld F.TMG_PLUMB_last_result c p = 2 ∧ t.bit F.TMG_STATUS_plumb_reject c = true ∧ (s.hearsAt 55 t.tb.loc → t.srcSet 55 = true) ∧
      t.corrOf c p = s.corrOf c p ∧ t = { s with regs := t.regs, hw := t.hw, tmg := t.tmg, fc := t.fc, freeCtr := t.freeCtr, nvm := t.nvm } ∧ sameBut [0x07, 0x15] s t) ∧
  (∀ (s m : State) (c p : Nat), c < 32 → p ≤ 32 →
    m = s.reachLoc (max (Tbl.get s.ks.gapAt 0 c) (Tbl.get s.ks.lastGap 0 (33 * c + p)) + ms 60000) → m.dueSoon c = false →
    ∃ t, exec (.plumbGapTimeout c p) s = .next t ∧ t.tb = m.tb ∧ t.fc = s.fc ∧ t.regs = s.regs ∧ t = { s with tb := t.tb, ks := t.ks }) ∧
  (∀ (s m : State) (c p : Nat), c < 32 → p ≤ 32 →
    m = s.reachLoc (max (Tbl.get s.ks.gapAt 0 c) (Tbl.get s.ks.lastGap 0 (33 * c + p)) + ms 60000) → m.dueSoon c = true →
    ∃ t, exec (.plumbGapTimeout c p) s = .next t ∧ t.tb = m.tb ∧ Tbl.get t.ks.lastGap 0 (33 * c + p) = t.tb.loc ∧
    (s.hearsAt 55 t.tb.loc → t.srcSet 55 = true) ∧ t = { s with regs := t.regs, hw := t.hw, ks := t.ks, tb := t.tb, fc := t.fc, freeCtr := t.freeCtr, nvm := t.nvm } ∧ sameBut [0x15] s t) ∧
  (∀ (s : State) (c p : Nat), c < 32 → p ≤ 32 → s.gapFree c p = true → s.bit F.PCH_CTRL_selfchk_en c = true → s.streaming c = false →
    ∃ t, exec (.comparatorSelfCheck c p none) s = .next t ∧ Tbl.find t.ks.checks (33 * c + p) = some ⟨1, s.tb.loc, none⟩ ∧ t = { s with ks := t.ks }) ∧
  (∀ (s : State) (c p : Nat) (fail : Bool) (k : ChanCheck), c < 32 → p ≤ 32 → Tbl.find s.ks.checks (33 * c + p) = some k → k.kind = 1 →
    k.restore = none → ∃ t, exec (.comparatorSelfCheck c p (some fail)) s = .next t ∧ Tbl.find t.ks.checks (33 * c + p) = none ∧
      Tbl.get t.ks.lastSelf 0 (33 * c + p) = s.tb.loc ∧ (fail = false → t.regs = s.regs) ∧
      (fail = true → t.bit F.PCH_STATUS_selfchk_fail c = true ∧ (s.hearsAt c t.tb.loc → t.srcSet c = true)) ∧
      t = { s with regs := t.regs, hw := t.hw, ks := t.ks, fc := t.fc, freeCtr := t.freeCtr, nvm := t.nvm } ∧ sameBut [0x06, 0x15] s t)

/-- Segments start; heads, jump requests, refills and descriptors. A SEGMENT_START at its queue's head outside Safe leaves the queue at its
instant: a valid segment becomes current and streams from an anchor at that instant with the vector count at 0; 0xFFF ends the stream; an
invalid one leaves the stream open: a segment nobody chose with open vectors, the stream at its end, or going on with open vectors (R2, log
entry 10). A head that a stream waits for lets it resume 64 ns later; a queued start's head is kept. A jump request is recorded with its
instant. A slot whose vector is missing from a segment that is not resident is skipped and counted, and the stream starves; a complete
granule lets it resume after 64 ns. A ready Owner write stores a sound descriptor that fits the calendar. Says that exec answers a next
state, under conditions on the state and the operands alone, for: segmentStart, headFetchComplete, jumpRequest, refillStarve, refillResume,
descriptorWrite. -/
def Obligations.SegmentStarts : Prop :=
  (∀ (s : State) (c : Nat) (r : LaunchRec) (rest : List LaunchRec), c < 32 → s.queue c = r :: rest → r.action = 2 → s.inSafe = false →
    (∀ p ∈ s.md.pend, ∀ (a : Nat), p.t = some a → r.exec < a) → s.segValid c (bitsAt r.payload 46 35) = true → bitsAt r.payload 46 35 ≠ 0xFFF →
    ∃ t, exec (.segmentStart c) s = .next t ∧ t.queue c = rest ∧ t.now = max s.now r.exec ∧ t.streaming c = true ∧
      t.curSeg c = bitsAt r.payload 46 35 ∧ t.bit F.PAT_STATUS_streaming c = true ∧ t.bit F.PAT_STATUS_jlatch c = false ∧
      t.pair F.PAT_VCNT_LO_vcnt F.PAT_VCNT_HI_vcnt c = 0 ∧ t.fld F.PAT_VIDX_vidx c = 0 ∧ (t.stream c).anchor = t.tb.loc ∧
      (t.stream c).next = t.tb.loc ∧ (t.stream c).started = false ∧
      (t.stream c).runs = descLoops (s.desc c (bitsAt r.payload 46 35)) ∧ ((s.stream c).held = none → t.mem = s.mem) ∧ t.smu = s.smu ∧ t.wav = s.wav ∧
      t.fln = s.fln) ∧
  (∀ (s : State) (c : Nat) (r : LaunchRec) (rest : List LaunchRec), c < 32 → s.queue c = r :: rest → r.action = 2 → s.inSafe = false →
    (∀ p ∈ s.md.pend, ∀ (a : Nat), p.t = some a → r.exec < a) → bitsAt r.payload 46 35 = 0xFFF →
    ∃ t, exec (.segmentStart c) s = .next t ∧ t.queue c = rest ∧ (s.streaming c = true → t.streaming c = false)) ∧
  (∀ (s : State) (c : Nat) (r : LaunchRec) (rest : List LaunchRec), c < 32 → s.queue c = r :: rest → r.action = 2 → s.inSafe = false →
    (∀ p ∈ s.md.pend, ∀ (a : Nat), p.t = some a → r.exec < a) → s.segValid c (bitsAt r.payload 46 35) = false → bitsAt r.payload 46 35 ≠ 0xFFF →
    ∃ t, exec (.segmentStart c) s = .next t ∧ t.queue c = rest ∧ t.now = max s.now r.exec ∧ ((s.stream c).held = none → t.mem = s.mem) ∧
      t.out = s.out ∧ t.smu = s.smu ∧ t.wav = s.wav ∧ t.fln = s.fln ∧ (t.streaming c = true → (t.stream c).wild ≠ none)) ∧
  (∀ (s : State) (c seg : Nat), c < 32 → s.streaming c = true → s.curSeg c = seg → (s.stream c).headOk = false →
    ∃ t, exec (.headFetchComplete c seg) s = .next t ∧
      t.stream c = { s.stream c with headOk := true, resumeAt := some (s.tb.loc + ns 64) } ∧ t = { s with pat := t.pat }) ∧
  (∀ (s : State) (c seg : Nat), c < 32 → s.streaming c = false → (∃ r ∈ s.queue c, r.action = 2 ∧ bitsAt r.payload 46 35 = seg) →
    ∃ t, exec (.headFetchComplete c seg) s = .next t ∧ seg ∈ (t.stream c).got ∧ t = { s with pat := t.pat }) ∧
  (∀ (s : State) (c : Nat), c < 32 → ∃ t, exec (.jumpRequest .reg c) s = .next t ∧
    t.stream c = { s.stream c with req := (s.stream c).req ++ [s.tb.loc] } ∧ t = { s with pat := t.pat }) ∧
  (∀ (s : State) (h : Hdr) (d : Sys2Proof.Data) (c : Nat), c < 32 → Ready s h → dTrue d → ∃ t, exec (.jumpRequest (.od h d) c) s = .next t ∧
    answered s t h eOk ∧ t.stream c = { s.stream c with req := (s.stream c).req ++ [s.tb.loc] } ∧
    t = { s with pat := t.pat, adp := t.adp, out := t.out }) ∧
  (∀ (s : State) (c : Nat), c < 32 → s.streaming c = true → (s.stream c).whole = false → s.nextIdx c < s.runLen c →
    ∃ t, exec (.refillStarve c) s = .next t ∧
    t.pair F.PAT_SKIP_LO_skip F.PAT_SKIP_HI_skip c = (s.pair F.PAT_SKIP_LO_skip F.PAT_SKIP_HI_skip c + 1) % 2 ^ 64 ∧
    t.bit F.PAT_STATUS_starved c = true ∧ (t.stream c).starving = true ∧ (t.stream c).next = (s.stream c).next + (s.stream c).lastPeriod ∧
    t.tb.loc = max s.tb.loc (s.stream c).next ∧
    ((s.stream c).held = none →
      t = { s with regs := t.regs, hw := t.hw, pat := t.pat, apg := t.apg, pin := t.pin, ser := t.ser, tmg := t.tmg, rk := t.rk, seq := t.seq, tb := t.tb, acq := t.acq } ∧ sameBut [0x08, 0x09, 0x0A, 0x0F, 0x10] s t)) ∧
  (∀ (s : State) (c : Nat), c < 32 → s.streaming c = true → (s.stream c).starving = true → ∃ t, exec (.refillResume c) s = .next t ∧
    t.stream c = { s.stream c with headOk := true, resumeAt := some (s.tb.loc + ns 64) } ∧ t = { s with pat := t.pat }) ∧
  (∀ (s : State) (h : Hdr) (d : Sys2Proof.Data) (c : Nat) (b : List Byte), c < 32 → Ready s h → d.ty = tBlob → d.bytes.length = 34 →
    b = cleanDesc (d.bytes.drop 2) → dSub d 0 2 < 4095 → 8 ≤ descLen b → descStart b + 18 * descLen b ≤ s.patLines →
    s.segBusy c (dSub d 0 2) = false →
    (descValid b = true →
      ({ s with pat := { s.pat with desc := Tbl.set s.pat.desc (List.replicate 32 0) (4096 * c + dSub d 0 2) b } } : State).fits s.md.mode = true) →
    ∃ t, exec (.descriptorWrite h d c) s = .next t ∧ answered s t h eOk ∧
      t.desc c (dSub d 0 2) = b ∧ (∀ (n : Nat), n ≠ dSub d 0 2 → t.desc c n = s.desc c n) ∧ t = { s with pat := t.pat, adp := t.adp, out := t.out }) ∧
  (∀ (s : State) (h : Hdr) (d : Sys2Proof.Data) (c : Nat), c < 32 → Ready s h → d.ty = tBlob → d.bytes.length = 34 → dSub d 0 2 < 4095 →
    descLen (cleanDesc (d.bytes.drop 2)) < 8 → ∃ t, exec (.descriptorWrite h d c) s = .next t ∧ answered s t h eSegmentShort ∧
      t = { s with adp := t.adp, out := t.out })

/-- Decision points, run ends and vectors. At a decision point a latched jump of a segment that has a target is taken and counted; else an
endless run, or one of several left, repeats, and the last goes on to the next segment. A run's end repeats the run from index 0 with one
run fewer, enters a valid next segment at index 0, ends the stream at 0xFFF, or, at an invalid descriptor, ends it with bad_link set and an
advisory report of the Course. A vector that stands in the buffer takes its slot: VIDX is its index, the vector count goes up by one and the
next slot follows after the period of its timing set (of the record as it stands before, where no vector in progress can write fail records
over it); before an uncorrectable line the stream ends with abort set. Says that exec answers a next state, under conditions on the state
and the operands alone, for: jumpDecisionPoint, runEnd, vectorStart. -/
def Obligations.RunsAndVectors : Prop :=
  (∀ (s : State) (c : Nat), c < 32 → s.atDecision c = true → ∃ t, exec (.jumpDecisionPoint c) s = .next t ∧
    (t.stream c).decided = some (
      if s.bit F.PAT_STATUS_jlatch c = true ∧ descJump (s.desc c (s.curSeg c)) ≠ 0xFFF then .jump (descJump (s.desc c (s.curSeg c)))
      else if (s.stream c).endless = true ∨ 1 < (s.stream c).runs then .again else .go (descNext (s.desc c (s.curSeg c)))) ∧
    (s.bit F.PAT_STATUS_jlatch c = true → descJump (s.desc c (s.curSeg c)) ≠ 0xFFF →
      t.bit F.PAT_STATUS_jump_taken c = true ∧ (t.stream c).jumps = (s.stream c).jumps + 1) ∧
    t.tb.loc = max s.tb.loc (s.stream c).next ∧ t = { s with regs := t.regs, hw := t.hw, pat := t.pat, tmg := t.tmg, tb := t.tb } ∧ sameBut [0x08] s t) ∧
  (∀ (s : State) (c : Nat), c < 32 → s.streaming c = true → (s.stream c).starving = false → s.nextIdx c = s.runLen c →
    (s.stream c).decided = some .again → (s.stream c).endless = false → ∃ t, exec (.runEnd c) s = .next t ∧ t.streaming c = true ∧
      (t.stream c).runs = (s.stream c).runs - 1 ∧ t.fld F.PAT_VIDX_vidx c = 0 ∧
      t.fld F.PAT_LOOP_remaining c = ((s.stream c).runs - 1) % 2 ^ 32 ∧ (t.stream c).started = false ∧ t.curSeg c = s.curSeg c ∧
      t.tb.loc = max s.tb.loc (s.stream c).next ∧
      ((s.stream c).held = none →
        t = { s with regs := t.regs, hw := t.hw, act := t.act, pat := t.pat, tmg := t.tmg, tb := t.tb } ∧ sameBut [0x07, 0x08] s t)) ∧
  (∀ (s : State) (c seg : Nat), c < 32 → s.streaming c = true → (s.stream c).starving = false → s.nextIdx c = s.runLen c →
    ((s.stream c).decided = some (.go seg) ∨ (s.stream c).decided = some (.jump seg)) → s.segValid c seg = true →
    ∃ t, exec (.runEnd c) s = .next t ∧ t.streaming c = true ∧ t.curSeg c = seg % 4096 ∧ t.fld F.PAT_VIDX_vidx c = 0 ∧
      (t.stream c).runs = descLoops (s.desc c seg) ∧ (t.stream c).started = false ∧
      ((s.stream c).held = none →
        t = { s with regs := t.regs, hw := t.hw, act := t.act, pat := t.pat, tmg := t.tmg, tb := t.tb } ∧ sameBut [0x07, 0x08] s t)) ∧
  (∀ (s : State) (c : Nat), c < 32 → s.streaming c = true → (s.stream c).starving = false → s.nextIdx c = s.runLen c →
    (s.stream c).decided = some (.go 0xFFF) → ∃ t, exec (.runEnd c) s = .next t ∧ t.streaming c = false ∧ t.curSeg c = 0xFFF ∧
      (t.stream c).heads = []) ∧
  (∀ (s : State) (c seg : Nat), c < 32 → s.streaming c = true → (s.stream c).starving = false → s.nextIdx c = s.runLen c →
    (s.stream c).decided = some (.go seg) → seg ≠ 0xFFF → s.segValid c seg = false → ∃ t, exec (.runEnd c) s = .next t ∧
      t.streaming c = false ∧ t.bit F.PAT_STATUS_bad_link c = true ∧ (s.hearsAt c t.tb.loc → t.srcSet c = true)) ∧
  (∀ (s : State) (c : Nat) (samples : List Halves), c < 32 → s.streaming c = true → (s.stream c).starving = false →
    (s.stream c).resumeAt = none → s.nextIdx c < s.runLen c → s.vecCorrupt c = false → (s.stream c).wild = none → ∃ t, exec (.vectorStart c samples) s = .next t ∧
      t.fld F.PAT_VIDX_vidx c = s.nextIdx c % 2 ^ 32 ∧
      t.pair F.PAT_VCNT_LO_vcnt F.PAT_VCNT_HI_vcnt c = (s.pair F.PAT_VCNT_LO_vcnt F.PAT_VCNT_HI_vcnt c + 1) % 2 ^ 64 ∧
      (t.stream c).started = true ∧ (∃ (k : Nat), k < 64 ∧ (t.stream c).next = (s.stream c).next + s.period c k) ∧
      ((∀ (q : Nat), (s.stream q).held = none) →
        (t.stream c).next = (s.stream c).next + s.period c (tsetOf (s.vecRec c (s.nextIdx c)))) ∧
      t.tb.loc = max s.tb.loc (s.stream c).next ∧ t.streaming c = true ∧ t.curSeg c = s.curSeg c ∧ t.smu = s.smu ∧ t.wav = s.wav ∧
      t.fln = s.fln ∧ t.adp = s.adp ∧ t.out = s.out) ∧
  (∀ (s : State) (c : Nat) (samples : List Halves), c < 32 → s.streaming c = true → (s.stream c).starving = false →
    (s.stream c).resumeAt = none → s.nextIdx c < s.runLen c → s.vecCorrupt c = true → ∃ t, exec (.vectorStart c samples) s = .next t ∧
      t.streaming c = false ∧ t.bit F.PAT_STATUS_abort c = true ∧ t.curSeg c = 0xFFF)

/-- The algorithmic pattern generator: instructions, enabling, fail capture and tally clears. The end of an instruction of a running generator,
none of whose vectors is left on any Course of its Carry chain: a HALT halts every Course of the chain, keeping the pc; a plain instruction
goes on at the next address of 1,024 for that instruction's vectors. The data register is kept, inverted or loaded as the instruction's d
field says, and an X address in its range that the instruction increments wraps from its top to its bottom with carry. Enabling and
disabling set APG_CTRL.en, and a change leaves the generator idle until an anchor. FC_RESTART empties the capture queue and its counts. The
fail buffer's read index moves to its position, what its capture queue still holds draining first, and a tally clear of a thread's site
takes effect from 40 ns after its write. Says that exec answers a next state, under conditions on the state and the operands alone, for:
apgInstructionEnd, apgEnableWrite, fcRestart, tallyClear, failBufferReadIndex. -/
def Obligations.PatternGenerators : Prop :=
  (∀ (s : State) (c : Nat), c < 32 → s.apgRuns c = true → (s.apgCore c).left = 0 →
    (∀ q ∈ s.chain c, s.streaming q = true → (s.apgCore c).idx ≤ s.pair F.PAT_VCNT_LO_vcnt F.PAT_VCNT_HI_vcnt q) → bitsAt (s.apgWord c) 63 62 = 3 →
    ∃ t, exec (.apgInstructionEnd c) s = .next t ∧ t.tb.loc = max s.tb.loc (s.apgCore c).ended ∧
      (∀ q ∈ s.chain c, t.apgHalted q = true ∧ t.bit F.APG_STATUS_halted q = true ∧ t.bit F.APG_STATUS_running q = false ∧ t.apgPc q = s.apgPc c) ∧
      (t.apgCore c).left = 0 ∧
      ((∀ q ∈ s.chain c, (s.stream q).held = none) → t = { s with regs := t.regs, hw := t.hw, apg := t.apg, tb := t.tb } ∧ sameBut [0x09] s t)) ∧
  (∀ (s : State) (c : Nat), c < 32 → s.apgRuns c = true → (s.apgCore c).left = 0 →
    (∀ q ∈ s.chain c, s.streaming q = true → (s.apgCore c).idx ≤ s.pair F.PAT_VCNT_LO_vcnt F.PAT_VCNT_HI_vcnt q) → bitsAt (s.apgWord c) 63 62 = 0 →
    ∃ t, exec (.apgInstructionEnd c) s = .next t ∧ (∀ q ∈ s.chain c, t.apgPc q = (s.apgPc c + 1) % 1024 ∧ t.fld F.APG_STATUS_pc q = (s.apgPc c + 1) % 1024) ∧
      (t.apgCore c).left = apgVpi (t.apgWord c) ∧ (t.apgCore c).lc = (s.apgCore c).lc ∧
      (bitsAt (s.apgWord c) 24 23 = 0 → (t.apgOf c).d = (s.apgOf c).d) ∧
      (bitsAt (s.apgWord c) 24 23 = 1 → (t.apgOf c).d = 4294967295 - (s.apgOf c).d) ∧
      (bitsAt (s.apgWord c) 24 23 = 2 → (t.apgOf c).d = s.fld F.APG_DINIT_dinit c) ∧
      (bitsAt (s.apgWord c) 39 37 = 1 → s.fld F.APG_XMIN_x (s.apgLeader c) ≤ (s.apgCore c).x → (s.apgCore c).x ≤ s.fld F.APG_XMAX_x (s.apgLeader c) →
        s.fld F.APG_YRANGE_ymin (s.apgLeader c) ≤ (s.apgCore c).y → (s.apgCore c).y ≤ s.fld F.APG_YRANGE_ymax (s.apgLeader c) →
        (t.apgCore c).x = (if (s.apgCore c).x = s.fld F.APG_XMAX_x (s.apgLeader c) then s.fld F.APG_XMIN_x (s.apgLeader c) else (s.apgCore c).x + 1) ∧
        (t.apgCore c).cx = decide ((s.apgCore c).x = s.fld F.APG_XMAX_x (s.apgLeader c))) ∧
      ((∀ q ∈ s.chain c, (s.stream q).held = none) → t = { s with regs := t.regs, hw := t.hw, apg := t.apg, tb := t.tb } ∧ sameBut [0x09] s t)) ∧
  (∀ (s : State) (c : Nat) (on : Bool), c < 32 → ∃ t, exec (.apgEnableWrite .reg c on) s = .next t ∧ t.bit F.APG_CTRL_en c = on ∧
    (s.bit F.APG_CTRL_en c ≠ on → (t.apgOf c).live = false ∧ t.bit F.APG_STATUS_running c = false) ∧ t = { s with regs := t.regs, apg := t.apg } ∧
    (∀ (q : Nat), q ≠ c → t.apgOf q = s.apgOf q) ∧ sameBut [0x09] s t) ∧
  (∀ (s : State) (h : Hdr) (d : Sys2Proof.Data) (c : Nat) (on : Bool), c < 32 → Ready s h → dataFits d tBool →
    ∃ t, exec (.apgEnableWrite (.od h d) c on) s = .next t ∧ answered s t h eOk ∧ t.bit F.APG_CTRL_en c = dFlag d ∧
      t = { s with regs := t.regs, apg := t.apg, adp := t.adp, out := t.out } ∧ sameBut [0x09] s t) ∧
  (∀ (s : State) (c : Nat), c < 32 → ∃ t, exec (.fcRestart c) s = .next t ∧ (t.apgOf c).queue = [] ∧ (t.apgOf c).taken = 0 ∧
    (t.apgOf c).lostBefore = false ∧ t.fld F.APG_FC_LOST_lost c = 0 ∧ t = { s with regs := t.regs, hw := t.hw, apg := t.apg } ∧
    sameButFields [(F.APG_FC_LOST_lost, c, 0)] s t) ∧
  (∀ (s : State) (c n : Nat), c < 32 → n < 8 → ∃ t, exec (.tallyClear .reg c n) s = .next t ∧
    (t.apgOf (s.apgLeader c)).clr = (s.apgOf (s.apgLeader c)).clr ++ [(s.siteOf (8 * c + n), s.tb.loc + ns 40)] ∧
    (t.apgOf (s.apgLeader c)).cells = (s.apgOf (s.apgLeader c)).cells ∧ t = { s with apg := t.apg }) ∧
  (∀ (s : State) (h : Hdr) (d : Sys2Proof.Data) (c n : Nat), c < 32 → n < 8 → Ready s h → dTrue d →
    ∃ t, exec (.tallyClear (.od h d) c n) s = .next t ∧ answered s t h eOk ∧
      (t.apgOf (s.apgLeader c)).clr = (s.apgOf (s.apgLeader c)).clr ++ [(s.siteOf (8 * c + n), s.tb.loc + ns 40)] ∧ t = { s with apg := t.apg, adp := t.adp, out := t.out }) ∧
  (∀ (s : State) (h : Hdr) (d : Sys2Proof.Data) (c : Nat), c < 32 → Ready s h → d.ty = tBlob → d.bytes.length = 16 →
    ∃ t, exec (.failBufferReadIndex h d c) s = .next t ∧ answered s t h eOk ∧
      t.fld F.ACQ_RD_index 0 (32 + c) = dSub d 12 4 % 2 ^ F.ACQ_RD_index.wid ∧ (∀ (w : Nat), w ≠ 32 + c → t.unit w = s.unit w) ∧
      (∀ (j : Nat), j ≠ c → t.apgOf j = s.apgOf j) ∧ ((s.apgOf c).queue = [] → t.mem = s.mem ∧ sameButFields [(F.ACQ_RD_index, 0, 32 + c)] s t) ∧
      t = { s with mem := t.mem, apg := t.apg, regs := t.regs, hw := t.hw, acq := t.acq, freeCtr := t.freeCtr, adp := t.adp, out := t.out } ∧ sameBut [0x0F] s t)

/-- The vendor step instructions. A ready instruction of a home thread acts once: NOP, and any instruction whose mask bit is clear, goes on to
the next step PC; BR goes to its target when its condition differs from its invert bit, and a branch out of the launched step ends it (R92,
log entry 48); LOOP counts its loop register down and goes back while it is not 0; CALL and RET push and pop the step stack, and a fifth
CALL or a RET from the empty stack leaves open what the thread reads from then on, and touches no other thread (R2, log entry 10); SLOT asks
for a new pitch, DELAY adds to the slots pending, JUMP raises a jump request on the thread's Course within 8 ns, TALCLR a tally clear from
40 ns on, on each Course of the site,, BIN writes item 0x002, POST posts a record; HOLD holds the thread for an empty step queue and END
ends the site's threads with an END record, and with them an open-ended step (R88). Says that exec answers a next state, under conditions on
the state and the operands alone, for: stepNop, stepBr, stepLoop, stepCall, stepRet, stepSlot, stepDelay, stepJump, talclr, stepBin,
stepPost, stepHold, progEnd. -/
def Obligations.StepInstructions : Prop :=
  (∀ (s : State) (k : Nat), VendorReady s k 0x00 → ∃ t, exec (.stepNop k false) s = .next t ∧ stepped s t k ((s.spc k + 1) % 32768) ∧
    t = { s with regs := t.regs, hw := t.hw, seq := t.seq } ∧ sameBut [0x0A] s t) ∧
  (∀ (s : State) (k : Nat), k < 256 → s.running k = true → (s.thr k).dec = true → s.isHome k = true → (s.thr k).tmask.testBit (k % 8) = false →
    (s.thr k).pcSet = false → ∃ t, exec (.stepNop k false) s = .next t ∧ stepped s t k ((s.spc k + 1) % 32768) ∧
      t = { s with regs := t.regs, hw := t.hw, seq := t.seq } ∧ sameBut [0x0A] s t) ∧
  (∀ (s : State) (k : Nat), VendorReady s k 0x10 → (bitsAt (s.thr k).opr 32 27 < 16 ∨ 47 < bitsAt (s.thr k).opr 32 27 ∨ s.condComplete k = true) →
    (s.cond k (bitsAt (s.thr k).opr 32 27) = (s.thr k).opr.testBit 26 ∨ ¬(s.thr k).standing) → ∃ t, exec (.stepBr k false) s = .next t ∧
      stepped s t k (if s.cond k (bitsAt (s.thr k).opr 32 27) = (s.thr k).opr.testBit 26 then (s.spc k + 1) % 32768 else bitsAt (s.thr k).opr 47 33) ∧
      t = { s with regs := t.regs, hw := t.hw, seq := t.seq } ∧ sameBut [0x0A] s t) ∧
  (∀ (s : State) (k : Nat) (a : Step), VendorReady s k 0x10 → bitsAt (s.thr k).opr 32 27 = 0 → (s.thr k).opr.testBit 26 = false → (s.thr k).nxt = [] →
    (s.thr k).step = some a → a.st = .launched → s.siteOf k ∉ s.fc.parking → ∃ t, exec (.stepBr k false) s = .next t ∧
      t.spc k = bitsAt (s.thr k).opr 47 33 ∧ (t.thr k).dec = false ∧ (∃ b, (t.thr k).step = some b ∧ b.st = .ended ∧ b.d = some (s.now - a.t0)) ∧
      (∀ e ∈ t.tally.entries, e.thread = k → e.t0 = a.t0 → ∃ x, e.t1 = some x ∧ x ≤ s.now) ∧ (∀ (j : Nat), s.siteOf j ≠ s.siteOf k → t.thr j = s.thr j) ∧
      t = { s with regs := t.regs, hw := t.hw, seq := t.seq, rk := t.rk, tally := t.tally, md := t.md } ∧ sameBut [0x0A] s t) ∧
  (∀ (s : State) (k n v : Nat), VendorReady s k 0x11 → n = bitsAt (s.thr k).opr 32 31 →
    v = (if ((s.thr k).lc.drop n).headD 0 = 0 then max 1 (bitsAt (s.thr k).opr 30 0) else ((s.thr k).lc.drop n).headD 0) - 1 →
    (v = 0 ∨ ¬(s.thr k).standing) → ∃ t, exec (.stepLoop k false) s = .next t ∧ (t.thr k).lc = (s.thr k).lc.set n v ∧
      stepped s t k (if v = 0 then (s.spc k + 1) % 32768 else bitsAt (s.thr k).opr 47 33) ∧
      t = { s with regs := t.regs, hw := t.hw, seq := t.seq } ∧ sameBut [0x0A] s t) ∧
  (∀ (s : State) (k : Nat), VendorReady s k 0x12 → (s.thr k).sstack.length < 4 → ¬(s.thr k).standing → ∃ t, exec (.stepCall k false) s = .next t ∧
    (t.thr k).sstack = (s.spc k + 1) % 32768 :: (s.thr k).sstack ∧ stepped s t k (bitsAt (s.thr k).opr 47 33) ∧
    t = { s with regs := t.regs, hw := t.hw, seq := t.seq } ∧ sameBut [0x0A] s t) ∧
  (∀ (s : State) (k : Nat), VendorReady s k 0x12 → 4 ≤ (s.thr k).sstack.length → ∃ t, exec (.stepCall k false) s = .next t ∧
    (t.thr k).wild ≠ none ∧ (t.thr k).dec = false ∧ (∀ (j : Nat), j ≠ k → t.thr j = s.thr j) ∧
    t = { s with regs := t.regs, hw := t.hw, seq := t.seq, freeCtr := t.freeCtr } ∧ sameBut [0x0A] s t) ∧
  (∀ (s : State) (k a : Nat) (rest : List Nat), VendorReady s k 0x13 → (s.thr k).sstack = a :: rest →
    ∃ t, exec (.stepRet k false) s = .next t ∧ (t.thr k).sstack = rest ∧ stepped s t k (a % 32768) ∧
      t = { s with regs := t.regs, hw := t.hw, seq := t.seq } ∧ sameBut [0x0A] s t) ∧
  (∀ (s : State) (k : Nat), VendorReady s k 0x13 → (s.thr k).sstack = [] → ∃ t, exec (.stepRet k false) s = .next t ∧
    (t.thr k).wild ≠ none ∧ (t.thr k).dec = false ∧ (∀ (j : Nat), j ≠ k → t.thr j = s.thr j) ∧
    t = { s with regs := t.regs, hw := t.hw, seq := t.seq, freeCtr := t.freeCtr } ∧ sameBut [0x0A] s t) ∧
  (∀ (s : State) (k : Nat), VendorReady s k 0x03 → ∃ t, exec (.stepSlot k false) s = .next t ∧
    (t.thr k).pitchNext = some (bitsAt (s.thr k).opr 47 16) ∧ stepped s t k ((s.spc k + 1) % 32768) ∧
    t = { s with regs := t.regs, hw := t.hw, seq := t.seq } ∧ sameBut [0x0A] s t) ∧
  (∀ (s : State) (k : Nat), VendorReady s k 0x30 → ∃ t, exec (.stepDelay k false) s = .next t ∧
    (t.thr k).delay = (s.thr k).delay + bitsAt (s.thr k).opr 47 16 ∧ stepped s t k ((s.spc k + 1) % 32768) ∧
    t = { s with regs := t.regs, hw := t.hw, seq := t.seq } ∧ sameBut [0x0A] s t) ∧
  (∀ (s : State) (k : Nat), VendorReady s k 0x18 → ∃ (t : State) (a : Nat), exec (.stepJump k false) s = .next t ∧
    (t.stream (k / 8)).req = (s.stream (k / 8)).req ++ [a] ∧ s.stepInstant k (s.thr k).opr ≤ a ∧ a ≤ s.stepInstant k (s.thr k).opr + ns 8 ∧
    stepped s t k ((s.spc k + 1) % 32768) ∧ t = { s with regs := t.regs, hw := t.hw, seq := t.seq, pat := t.pat, freeCtr := t.freeCtr } ∧ sameBut [0x0A] s t) ∧
  (∀ (s : State) (k : Nat), VendorReady s k 0x19 → ∃ t, exec (.talclr k false) s = .next t ∧
    (∀ j ∈ s.threadsOf (s.siteOf k), (t.apgOf (s.apgLeader (j / 8))).clr = (s.apgOf (s.apgLeader (j / 8))).clr ++
      [(s.siteOf k, s.stepInstant k (s.thr k).opr + ns 40)]) ∧
    stepped s t k ((s.spc k + 1) % 32768) ∧ t = { s with regs := t.regs, hw := t.hw, seq := t.seq, apg := t.apg } ∧ sameBut [0x0A] s t) ∧
  (∀ (s : State) (k : Nat), VendorReady s k 0x20 → (s.thr k).opr.testBit 31 = false → ∃ t, exec (.stepBin k false) s = .next t ∧
    t.item (s.siteOf k) 2 = bitsAt (s.thr k).opr 47 32 ∧ stepped s t k ((s.spc k + 1) % 32768) ∧
    t = { s with regs := t.regs, hw := t.hw, seq := t.seq, rk := t.rk } ∧ sameBut [0x0A] s t) ∧
  (∀ (s : State) (k : Nat), VendorReady s k 0x21 → (s.thr k).posts < 32 → ∃ t, exec (.stepPost k false) s = .next t ∧
    t.postQ k = s.postQ k ++ [s.recordOf k kPost (s.thr k).cur] ∧ t.item (s.siteOf k) 1 = 0 ∧ t.item (s.siteOf k) 3 = 0 ∧
    stepped s t k ((s.spc k + 1) % 32768) ∧ t = { s with regs := t.regs, hw := t.hw, seq := t.seq, rk := t.rk } ∧ sameBut [0x0A] s t) ∧
  (∀ (s : State) (k : Nat), VendorReady s k 0x02 → ∃ t, exec (.stepHold k false) s = .next t ∧ t.tstate k = stHeld ∧
    HoldSrc.empty ∈ (t.thr k).holds ∧ (t.thr k).dec = false ∧ t.spc k = s.spc k ∧
    t = { s with regs := t.regs, hw := t.hw, seq := t.seq, rk := t.rk } ∧ sameBut [0x0A, 0x0B] s t) ∧
  (∀ (s : State) (k : Nat), VendorReady s k 0x01 → s.fc.parking.contains (s.siteOf k) = false → (s.thr k).posts < 32 →
    ∃ (t : State) (l : List ResRec), exec (.progEnd k false) s = .next t ∧ (∀ j ∈ s.appliers k, t.tstate j = stEnded ∧ t.running j = false) ∧
      t.postQ k = s.postQ k ++ s.recordOf k kEnd (s.thr k).cur :: l ∧
      (∀ (a : Step), (s.thr k).step = some a → a.st = .launched → a.d = none → ∃ b, (t.thr k).step = some b ∧ b.st = .ended) ∧
      t = { s with regs := t.regs, hw := t.hw, seq := t.seq, rk := t.rk, bonds := t.bonds, tally := t.tally, md := t.md } ∧ sameBut [0x0A, 0x0B] s t ∧
      ((∀ j ∈ s.appliers k, s.noOpen j) → l = [] ∧ t.tally = s.tally ∧ t.md = s.md))

/-- Instructions that request a step. With its contexts fetched and no request open, RUN, LEVEL and MEAS of a home thread each add one requested
step to the thread's steps, of their kind and operand, at the T0 that R275 chooses and with the instruction's step PC and opcode, and the
thread waits; WAITEV adds an open-ended one at no cost. ISSUE of a customer routine requests the step its OPR names; on a non-home thread it
takes the T0 that the home thread sent, and commits its own Course's part where the queues have room for it (R52, R265). Says that exec
answers a next state, under conditions on the state and the operands alone, for: stepRun, stepLevel, stepMeas, waitev, issue. -/
def Obligations.StepRequests : Prop :=
  (∀ (s : State) (k : Nat), VendorReady s k 0x08 → (s.thr k).asking = false → (s.thr k).ctxf.isSome = true → s.ctxReady k = true →
    (s.tstate k = stRunning ∨ s.tstate k = stWaiting) → ∃ (t : State) (a : Step), exec (.stepRun k false) s = .next t ∧ (t.thr k).nxt = (s.thr k).nxt ++ [a] ∧
      a.st = .requested ∧ a.kind = .run (oprArg (s.thr k).opr) ∧ a.opcode = 0x08 ∧ a.spc = s.spc k ∧
      a.t0 = ns (s.chooseT0 k (oprBond (s.thr k).opr)).1 ∧ a.bslot = oprBond (s.thr k).opr ∧ t.tstate k = stWaiting ∧
      t = { s with regs := t.regs, hw := t.hw, seq := t.seq } ∧ sameBut [0x0A] s t) ∧
  (∀ (s : State) (k : Nat), VendorReady s k 0x09 → (s.thr k).asking = false → (s.thr k).ctxf.isSome = true → s.ctxReady k = true →
    (s.tstate k = stRunning ∨ s.tstate k = stWaiting) → ∃ (t : State) (a : Step), exec (.stepLevel k false) s = .next t ∧ (t.thr k).nxt = (s.thr k).nxt ++ [a] ∧
      a.st = .requested ∧ a.kind = .level ∧ a.opcode = 0x09 ∧ a.t0 = ns (s.chooseT0 k (oprBond (s.thr k).opr)).1 ∧ t.tstate k = stWaiting ∧
      t = { s with regs := t.regs, hw := t.hw, seq := t.seq } ∧ sameBut [0x0A] s t) ∧
  (∀ (s : State) (k : Nat), VendorReady s k 0x0A → (s.thr k).asking = false → (s.thr k).ctxf.isSome = true → s.ctxReady k = true →
    (s.tstate k = stRunning ∨ s.tstate k = stWaiting) → ∃ (t : State) (a : Step), exec (.stepMeas k false) s = .next t ∧ (t.thr k).nxt = (s.thr k).nxt ++ [a] ∧
      a.st = .requested ∧ a.kind = .meas (bitsAt (s.thr k).opr 19 12) ∧ a.opcode = 0x0A ∧ a.t0 = ns (s.chooseT0 k (oprBond (s.thr k).opr)).1 ∧
      t.tstate k = stWaiting ∧ t = { s with regs := t.regs, hw := t.hw, seq := t.seq } ∧ sameBut [0x0A] s t) ∧
  (∀ (s : State) (k : Nat), VendorReady s k 0x28 → (s.thr k).asking = false → (s.thr k).waitUntil = none →
    (s.tstate k = stRunning ∨ s.tstate k = stWaiting) → ∃ (t : State) (a : Step), exec (.waitev k false) s = .next t ∧ (t.thr k).nxt = (s.thr k).nxt ++ [a] ∧
      a.st = .requested ∧ a.kind = .waitev (bitsAt (s.thr k).opr 47 44) (bitsAt (s.thr k).opr 39 0) ∧ a.d = none ∧ a.c = 0 ∧ a.smu = 0 ∧
      a.t0 = ns (s.chooseT0 k none).1 ∧ t.tstate k = stWaiting ∧ t = { s with regs := t.regs, hw := t.hw, seq := t.seq } ∧ sameBut [0x0A] s t) ∧
  (∀ (s : State) (k : Nat), s.inRoutine k = true → (s.thr k).service = some 0 → s.isHome k = true → (s.thr k).asking = false →
    (s.thr k).ctxf.isSome = true → s.ctxReady k = true → ∃ (t : State) (a : Step), exec (.issue k) s = .next t ∧ (t.thr k).nxt = (s.thr k).nxt ++ [a] ∧
      a.st = .requested ∧ a.kind = .issue ∧ a.t0 = ns (s.chooseT0 k (oprBond (s.thr k).opr)).1 ∧
      t = { s with regs := t.regs, hw := t.hw, seq := t.seq } ∧ sameBut [0x0A] s t) ∧
  (∀ (s : State) (k n : Nat) (rest : List Nat), s.inRoutine k = true → (s.thr k).service = some 0 → s.isHome k = false →
    (s.thr k).issued = n :: rest → oprCount (s.thr k).opr = 0 → ∃ t, exec (.issue k) s = .next t ∧ (t.thr k).m.t0 = n ∧ (t.thr k).issued = rest ∧
      (t.thr k).service = none ∧ (t.thr k).phase = .seq ∧ t = { s with seq := t.seq } ∧ ∀ (j : Nat), j ≠ k → t.thr j = s.thr j) ∧
  (∀ (s : State) (k n : Nat) (rest : List Nat), s.inRoutine k = true → (s.thr k).service = some 0 → s.isHome k = false →
    (s.thr k).issued = n :: rest → (∀ (a : Step), a.kind = .issue → a.ctx = oprCtx (s.thr k).opr → a.count = oprCount (s.thr k).opr →
    s.roomFor (s.stepRecs k a) = true) → ∃ t, exec (.issue k) s = .next t ∧ (t.thr k).m.t0 = n ∧ (t.thr k).issued = rest ∧ (t.thr k).service = none ∧
      (t.thr k).phase = .seq ∧ t.mem = s.mem ∧ t.pending = s.pending)

/-- Step boundaries and prefetch. At a boundary of a running thread whose steps are over the first that applies of a stop, a machine check and a
hold takes place: the thread is stopped, machine-checked or held; its open-ended step ends there (R88); otherwise a home thread within its
region decodes the word at its step PC, which its decode queue holds (R270), its opcode shown in SEQ_TSTAT, a reserved opcode leaving open
what the thread reads on (R273), and a non-home thread takes the oldest of what its home thread sent. A prefetch changes only the Course's
context cache. Says that exec answers a next state, under conditions on the state and the operands alone, for: stepBoundary,
contextPrefetch. -/
def Obligations.StepBoundaries : Prop :=
  (∀ (s : State) (k : Nat), k < 256 → s.running k = true → (s.thr k).dec = false → s.tstate k ≠ stWaiting → s.noneDue → s.noOpen k →
    (s.thr k).stopReq = true → s.fc.parking.contains (s.siteOf k) = false → ∃ t, exec (.stepBoundary k) s = .next t ∧
      t.tstate k = stStopped ∧ t.running k = false ∧ (t.thr k).stopReq = false ∧
      t = { s with regs := t.regs, hw := t.hw, seq := t.seq, rk := t.rk, bonds := t.bonds } ∧ sameBut [0x0A, 0x0B] s t) ∧
  (∀ (s : State) (k : Nat), k < 256 → s.running k = true → (s.thr k).dec = false → s.tstate k ≠ stWaiting → s.noneDue → s.noOpen k →
    (s.thr k).stopReq = false → s.siteParked (s.siteOf k) = false → s.siteOf k ∉ s.rk.stopAsked →
    s.bit F.SEQ_STATUS_mc (k / 8) = true → ∃ t, exec (.stepBoundary k) s = .next t ∧ t.tstate k = stMachineCheck ∧ t.running k = false ∧
      t = { s with regs := t.regs, hw := t.hw, seq := t.seq, rk := t.rk, bonds := t.bonds } ∧ sameBut [0x0A, 0x0B] s t) ∧
  (∀ (s : State) (k : Nat), k < 256 → s.running k = true → (s.thr k).dec = false → s.tstate k ≠ stWaiting → s.noneDue → s.noOpen k →
    (s.thr k).stopReq = false → s.siteParked (s.siteOf k) = false → s.siteOf k ∉ s.rk.stopAsked →
    s.bit F.SEQ_STATUS_mc (k / 8) = false → s.bitOf F.SEQ_TCTRL_hold (k / 8) 0 (k % 8) = true → ∃ t, exec (.stepBoundary k) s = .next t ∧
      t.tstate k = stHeld ∧ HoldSrc.owner ∈ (t.thr k).holds ∧ t.spc k = s.spc k ∧
      t = { s with regs := t.regs, hw := t.hw, seq := t.seq, rk := t.rk, bonds := t.bonds } ∧ sameBut [0x0A, 0x0B] s t) ∧
  (∀ (s : State) (k : Nat), k < 256 → s.running k = true → (s.thr k).dec = false → s.tstate k ≠ stWaiting → s.noneDue → s.noOpen k →
    (s.thr k).stopReq = false → s.siteParked (s.siteOf k) = false → s.siteOf k ∉ s.rk.stopAsked →
    s.bit F.SEQ_STATUS_mc (k / 8) = false → s.bitOf F.SEQ_TCTRL_hold (k / 8) 0 (k % 8) = false → s.ringFull = false → s.postQ k = [] →
    (s.thr k).holds = [] → s.isHome k = true → (s.thr k).pastEnd = false → s.regOff k (s.spc k) < s.regLen k →
    reservedOp (opOf ((s.fetchSteps k).nextWord k)) = false → (opOf ((s.fetchSteps k).nextWord k) < 0xC0 ∨ s.bit F.SEQ_STATUS_cust_block (k / 8) = false) →
    ∃ t, exec (.stepBoundary k) s = .next t ∧ (t.thr k).dec = true ∧ (t.thr k).opr = oprOf ((s.fetchSteps k).nextWord k) ∧ (t.thr k).tmask = maskField ((s.fetchSteps k).nextWord k) ∧
      (t.thr k).fetched = (s.fetchSteps k |>.thr k).fetched.tail ∧ t.fld F.SEQ_TSTAT_opcode (k / 8) (k % 8) = opOf ((s.fetchSteps k).nextWord k) ∧ t.spc k = s.spc k ∧
      t = { s with regs := t.regs, hw := t.hw, seq := t.seq, rk := t.rk, bonds := t.bonds } ∧ sameBut [0x0A, 0x0B] s t) ∧
  (∀ (s : State) (k : Nat), k < 256 → s.running k = true → (s.thr k).dec = false → s.tstate k ≠ stWaiting → s.noneDue → s.noOpen k →
    (s.thr k).stopReq = false → s.siteParked (s.siteOf k) = false → s.siteOf k ∉ s.rk.stopAsked →
    s.bit F.SEQ_STATUS_mc (k / 8) = false → s.bitOf F.SEQ_TCTRL_hold (k / 8) 0 (k % 8) = false → s.ringFull = false → s.postQ k = [] →
    (s.thr k).holds = [] → s.isHome k = true → (s.thr k).pastEnd = false → s.regOff k (s.spc k) < s.regLen k →
    (maskField ((s.fetchSteps k).nextWord k)).testBit (k % 8) = true → reservedOp (opOf ((s.fetchSteps k).nextWord k)) = true → ∃ t, exec (.stepBoundary k) s = .next t ∧ (t.thr k).wild ≠ none ∧
      (∀ (j : Nat), s.siteOf j ≠ s.siteOf k → t.thr j = s.thr j) ∧
      t = { s with regs := t.regs, hw := t.hw, seq := t.seq, rk := t.rk, bonds := t.bonds, freeCtr := t.freeCtr } ∧ sameBut [0x0A, 0x0B] s t) ∧
  (∀ (s : State) (k : Nat) (a : Step), k < 256 → s.running k = true → (s.thr k).dec = false → s.tstate k ≠ stWaiting → s.noneDue →
    (s.thr k).step = some a → a.st = .launched → a.d = none → (s.thr k).nxt = [] → (s.thr k).stopReq = true → s.siteOf k ∉ s.fc.parking →
    ∃ t, exec (.stepBoundary k) s = .next t ∧ t.tstate k = stStopped ∧ (∃ b, (t.thr k).step = some b ∧ b.st = .ended ∧ b.d = some (s.now - a.t0)) ∧
      (∀ e ∈ t.tally.entries, e.thread = k → e.t0 = a.t0 → ∃ x, e.t1 = some x ∧ x ≤ s.now) ∧
      t = { s with regs := t.regs, hw := t.hw, seq := t.seq, rk := t.rk, bonds := t.bonds, tally := t.tally, md := t.md } ∧ sameBut [0x0A, 0x0B] s t) ∧
  (∀ (s : State) (k w : Nat) (rest : List LinkMsg), k < 256 → s.running k = true → (s.thr k).dec = false → s.tstate k = stRunning →
    s.noneDue → s.noOpen k → (s.thr k).stopReq = false → s.siteParked (s.siteOf k) = false →
    s.bit F.SEQ_STATUS_mc (k / 8) = false → s.bitOf F.SEQ_TCTRL_hold (k / 8) 0 (k % 8) = false → s.ringFull = false → s.postQ k = [] →
    (s.thr k).holds = [] → s.isHome k = false → (s.thr k).link = .instr w :: rest → s.bit F.SEQ_STATUS_cust_block (k / 8) = false →
    ∃ t, exec (.stepBoundary k) s = .next t ∧ (t.thr k).dec = true ∧ (t.thr k).opr = oprOf w ∧ (t.thr k).link = rest ∧
      t.fld F.SEQ_TSTAT_opcode (k / 8) (k % 8) = opOf w % 256 ∧ t = { s with regs := t.regs, hw := t.hw, seq := t.seq, rk := t.rk } ∧ sameBut [0x0A, 0x0B] s t) ∧
  (∀ (s : State) (k : Nat) (a : Step) (rest : List LinkMsg), k < 256 → s.running k = true → (s.thr k).dec = false → s.tstate k = stRunning →
    s.noneDue → s.noOpen k → (s.thr k).stopReq = false → s.siteParked (s.siteOf k) = false →
    s.bit F.SEQ_STATUS_mc (k / 8) = false → s.bitOf F.SEQ_TCTRL_hold (k / 8) 0 (k % 8) = false → s.ringFull = false → s.postQ k = [] →
    (s.thr k).holds = [] → s.isHome k = false → (s.thr k).link = .step a :: rest → a.count = 0 → a.kind = .level →
    ∃ t, exec (.stepBoundary k) s = .next t ∧ (t.thr k).dec = false ∧ (t.thr k).link = rest ∧ (t.thr k).m.t0 = a.t0 / 4096 ∧
      t = { s with regs := t.regs, hw := t.hw, seq := t.seq, rk := t.rk } ∧ sameBut [0x0A, 0x0B] s t) ∧
  (∀ (s : State) (k : Nat), k < 256 → s.running k = true → s.bit F.CTX_CTRL_pf_en (k / 8) = true → (s.cache (k / 8)).missing = [] →
    (s.cache (k / 8)).waiting = [] → ∃ t, exec (.contextPrefetch k) s = .next t ∧ (∀ (c : Nat), c ≠ k / 8 → t.cache c = s.cache c) ∧
      t = { s with regs := t.regs, hw := t.hw, rk := t.rk } ∧ sameBut [0x0B] s t)

/-- Commands to threads and Courses. By register or by a ready Owner request: a start runs an enabled, underived, autonomous thread from its
entry with no event flags, and one that is not autonomous sets start_refused or answers AUTONOMY_SHORT; a stop of a running thread waits for
its boundary; OWNER_HOLD and OWNER_RESUME set and clear the thread's hold bit; SET_EVENT_FLAGS ORs its four bits in; a restart of a machine-
checked Course copies the shadow, clears the check and leaves its eight threads stopped. Step memory, the configuration of a stopped thread,
the slot grid of a stopped thread and the wait limit take the values written; a rewritten word other than HOLD that a running thread may
still reach leaves open what that thread reads from then on (R269, log entry 10). Says that exec answers a next state, under conditions on
the state and the operands alone, for: threadStart, threadStop, ownerHold, ownerResume, setEventFlags, courseRestart, stepMemoryWrite,
threadConfigWrite, slotGridWrite, waitLimitWrite. -/
def Obligations.ThreadCommands : Prop :=
  (∀ (s : State) (k : Nat), k < 256 → (k / 8) ∉ s.fc.derated → s.running k = false → s.bit F.SEQ_CTRL_en (k / 8) = true → s.autonomous k = true →
    ∃ t, exec (.threadStart .reg k) s = .next t ∧ t.running k = true ∧ t.tstate k = stRunning ∧
      t.spc k = s.fld F.SEQ_TCFG_entry (k / 8) (k % 8) % 32768 ∧ t.fld F.SEQ_TEVT_flags (k / 8) (k % 8) = 0 ∧ (t.thr k).dec = false ∧
      t = { s with regs := t.regs, hw := t.hw, seq := t.seq } ∧ sameBut [0x0A] s t) ∧
  (∀ (s : State) (k : Nat), k < 256 → (k / 8) ∉ s.fc.derated → s.running k = false → s.bit F.SEQ_CTRL_en (k / 8) = true → s.autonomous k = false →
    ∃ t, exec (.threadStart .reg k) s = .next t ∧ t.bit F.SEQ_STATUS_start_refused (k / 8) = true ∧ t.running k = false ∧
      t = { s with regs := t.regs, hw := t.hw } ∧ sameButFields [(F.SEQ_STATUS_start_refused, k / 8, 0)] s t) ∧
  (∀ (s : State) (h : Hdr) (d : Sys2Proof.Data) (k : Nat), k < 256 → Ready s h → dTrue d → (k / 8) ∉ s.fc.derated → s.running k = false →
    s.bit F.SEQ_CTRL_en (k / 8) = true → s.autonomous k = false → ∃ t, exec (.threadStart (.od h d) k) s = .next t ∧ answered s t h eAutonomyShort ∧
      t = { s with adp := t.adp, out := t.out }) ∧
  (∀ (s : State) (k : Nat), k < 256 → s.running k = true → s.tstate k ≠ stHeld → ∃ t, exec (.threadStop .reg k) s = .next t ∧
    t.thr k = { s.thr k with stopReq := true } ∧ t = { s with seq := t.seq } ∧ ∀ (j : Nat), j ≠ k → t.thr j = s.thr j) ∧
  (∀ (s : State) (h : Hdr) (d : Sys2Proof.Data) (k : Nat), k < 256 → Ready s h → dTrue d → s.running k = true → s.tstate k ≠ stHeld →
    ∃ t, exec (.threadStop (.od h d) k) s = .next t ∧ answered s t h eOk ∧ t.thr k = { s.thr k with stopReq := true } ∧
      t = { s with seq := t.seq, adp := t.adp, out := t.out }) ∧
  (∀ (s : State) (k : Nat), k < 256 → ∃ t, exec (.ownerHold .reg k) s = .next t ∧ t.bitOf F.SEQ_TCTRL_hold (k / 8) 0 (k % 8) = true ∧
    t = { s with regs := t.regs, hw := t.hw, seq := t.seq } ∧ sameButFields [(F.SEQ_TCTRL_hold, k / 8, 0)] s t) ∧
  (∀ (s : State) (h : Hdr) (d : Sys2Proof.Data) (k : Nat), k < 256 → Ready s h → dTrue d → ∃ t, exec (.ownerHold (.od h d) k) s = .next t ∧
    answered s t h eOk ∧ t.bitOf F.SEQ_TCTRL_hold (k / 8) 0 (k % 8) = true ∧ t = { s with regs := t.regs, hw := t.hw, seq := t.seq, adp := t.adp, out := t.out } ∧
    sameButFields [(F.SEQ_TCTRL_hold, k / 8, 0)] s t) ∧
  (∀ (s : State) (k : Nat), k < 256 → ∃ t, exec (.ownerResume .reg k) s = .next t ∧ t.bitOf F.SEQ_TCTRL_hold (k / 8) 0 (k % 8) = false ∧
    HoldSrc.owner ∉ (t.thr k).holds ∧ (s.tstate k = stHeld → (s.thr k).holds = [.owner] → (s.thr k).parked = false → t.tstate k = stRunning) ∧
    t = { s with regs := t.regs, hw := t.hw, seq := t.seq } ∧ sameBut [0x0A] s t) ∧
  (∀ (s : State) (h : Hdr) (d : Sys2Proof.Data) (k : Nat), k < 256 → Ready s h → dTrue d → ∃ t, exec (.ownerResume (.od h d) k) s = .next t ∧
    answered s t h eOk ∧ t.bitOf F.SEQ_TCTRL_hold (k / 8) 0 (k % 8) = false ∧ HoldSrc.owner ∉ (t.thr k).holds ∧
    t = { s with regs := t.regs, hw := t.hw, seq := t.seq, adp := t.adp, out := t.out } ∧ sameBut [0x0A] s t) ∧
  (∀ (s : State) (k m : Nat), k < 256 → ∃ t, exec (.setEventFlags .reg k m) s = .next t ∧
    (∀ f, f < 4 → (t.fld F.SEQ_TEVT_flags (k / 8) (k % 8)).testBit f = ((s.fld F.SEQ_TEVT_flags (k / 8) (k % 8)).testBit f || m.testBit f)) ∧
    t = { s with regs := t.regs, hw := t.hw } ∧ sameButFields [(F.SEQ_TEVT_flags, k / 8, k % 8)] s t) ∧
  (∀ (s : State) (h : Hdr) (d : Sys2Proof.Data) (k m : Nat), k < 256 → Ready s h → dataFits d tU8 →
    ∃ t, exec (.setEventFlags (.od h d) k m) s = .next t ∧ answered s t h eOk ∧
      (∀ f, f < 4 →
        (t.fld F.SEQ_TEVT_flags (k / 8) (k % 8)).testBit f = ((s.fld F.SEQ_TEVT_flags (k / 8) (k % 8)).testBit f || (dNat d).testBit f)) ∧
      t = { s with regs := t.regs, hw := t.hw, adp := t.adp, out := t.out } ∧ sameButFields [(F.SEQ_TEVT_flags, k / 8, k % 8)] s t) ∧
  (∀ (s : State) (c : Nat), c < 32 → s.bit F.SEQ_STATUS_mc c = true → c ∉ s.fc.derated → ∃ t, exec (.courseRestart .reg c) s = .next t ∧
    t.bit F.SEQ_STATUS_mc c = false ∧ t.store c = s.seq.shadow ∧ (∀ n, n < 8 → t.tstate (8 * c + n) = stStopped ∧ t.running (8 * c + n) = false) ∧
    t = { s with regs := t.regs, hw := t.hw, seq := t.seq, bonds := t.bonds } ∧ sameBut [0x0A] s t) ∧
  (∀ (s : State) (h : Hdr) (d : Sys2Proof.Data) (c n : Nat), c < 32 → Ready s h → d.ty = tBlob → d.bytes.length = 10 → n = dSub d 0 2 % 32768 →
    ∃ t, exec (.stepMemoryWrite h d c) s = .next t ∧ answered s t h eOk ∧ t.stepWord c n = dSub d 2 8 ∧
      (∀ a, a < 32768 → a ≠ n → t.stepWord c a = s.stepWord c a) ∧
      (∀ j, j < 8 → s.mayReach (8 * c + j) n = true → opOf (s.stepWord c n) ≠ 0x02 → (t.thr (8 * c + j)).wild ≠ none) ∧
      ((opOf (s.stepWord c n) = 0x02 ∨ ∀ j, j < 8 → s.mayReach (8 * c + j) n = false) → ∀ (k : Nat), (t.thr k).wild = (s.thr k).wild) ∧
      t = { s with regs := t.regs, hw := t.hw, seq := t.seq, freeCtr := t.freeCtr, adp := t.adp, out := t.out } ∧ sameBut [0x0A] s t) ∧
  (∀ (s : State) (h : Hdr) (d : Sys2Proof.Data) (k : Nat), k < 256 → Ready s h → d.ty = tBlob → d.bytes.length = 9 → s.running k = false →
    ∃ t, exec (.threadConfigWrite h d k) s = .next t ∧ answered s t h eOk ∧ t.siteOf k = dSub d 0 1 ∧ t.isHome k = decide (dSub d 1 1 ≠ 0) ∧
      t.fld F.SEQ_TCFG_entry (k / 8) (k % 8) = dSub d 3 2 % 2 ^ F.SEQ_TCFG_entry.wid ∧ t.regBase k = dSub d 5 2 % 2 ^ F.SEQ_TREGION_base.wid ∧
      t = { s with regs := t.regs, hw := t.hw, adp := t.adp, out := t.out } ∧ sameBut [0x0A] s t) ∧
  (∀ (s : State) (h : Hdr) (d : Sys2Proof.Data) (k : Nat), k < 256 → Ready s h → d.ty = tBlob → d.bytes.length = 9 → s.running k = true →
    ∃ t, exec (.threadConfigWrite h d k) s = .next t ∧ answered s t h eBlockEnabled ∧ t = { s with adp := t.adp, out := t.out }) ∧
  (∀ (s : State) (h : Hdr) (d : Sys2Proof.Data) (k : Nat), k < 256 → Ready s h → d.ty = tBlob → d.bytes.length = 18 → s.running k = false →
    ∃ t, exec (.slotGridWrite h d k) s = .next t ∧ answered s t h eOk ∧
      t.fld F.SEQ_TPITCH_pitch_ns (k / 8) (k % 8) = min 4294967295 (ceilDiv (dSub d 10 8) 1000) ∧
      t.origin k = ceilDiv (timeTicks d.bytes) 4096 % 2 ^ 64 ∧ t = { s with regs := t.regs, hw := t.hw, seq := t.seq, adp := t.adp, out := t.out } ∧
      sameBut [0x0A] s t) ∧
  (∀ (s : State) (h : Hdr) (d : Sys2Proof.Data) (c : Nat), c < 32 → Ready s h → dataFits d tU64 → ∃ t, exec (.waitLimitWrite h d c) s = .next t ∧
    t.fld F.SEQ_WLIMIT_limit_us c = min 4294967295 (ceilDiv (dNat d) 1000000) ∧ journaling s t h (odKey (0x5809 + 16 * c) 0) d.bytes ∧
    t = { s with regs := t.regs, hw := t.hw, dict := t.dict, eth := t.eth, adp := t.adp } ∧ sameButFields [(F.SEQ_WLIMIT_limit_us, c, 0)] s t)

/-- The ALU operations of a microword. An ALU operation of a ready microword gives its destination register the operation's value, sets Z and N
by that value, C and V as Table 9.7 says, and changes nothing else but the thread's phase: MOV, AND, OR, XOR, the shifts by B mod 64, the
signed MIN and MAX, MUL and the high half of the signed product clear C and V; ADD carries out of 64 bits and overflows where the signed sum
differs; SUB and CMP set C for no borrow; CMP and TST write no register; EXT and SEXT cut bit fields; BSET and BCLR change one bit. Says
that exec answers a next state, under conditions on the state and the operands alone, for: mov, add, sub, cmp, aluAnd, tst, aluOr, aluXor,
shl, shr, asr, mul, mulh, aluMin, aluMax, aluExt, sext, bset, bclr. -/
def Obligations.AluOperations : Prop :=
  (∀ (s : State) (k : Nat), AluReady s k 0x01 → exec (.mov k) s = .next (s.aluTo k true (s.aluB k) false false)) ∧
  (∀ (s : State) (k : Nat), AluReady s k 0x02 → ∃ (v : Word64) (c o : Bool), exec (.add k) s = .next (s.aluTo k true v c o) ∧
    v.toNat = ((s.aluA k).toNat + (s.aluB k).toNat) % 2 ^ 64 ∧ (c = true ↔ 2 ^ 64 ≤ (s.aluA k).toNat + (s.aluB k).toNat) ∧
    (o = true ↔ v.toInt ≠ (s.aluA k).toInt + (s.aluB k).toInt)) ∧
  (∀ (s : State) (k : Nat), AluReady s k 0x03 → ∃ (v : Word64) (c o : Bool), exec (.sub k) s = .next (s.aluTo k true v c o) ∧
    v.toNat = (2 ^ 64 + (s.aluA k).toNat - (s.aluB k).toNat) % 2 ^ 64 ∧ (c = true ↔ (s.aluB k).toNat ≤ (s.aluA k).toNat) ∧
    (o = true ↔ v.toInt ≠ (s.aluA k).toInt - (s.aluB k).toInt)) ∧
  (∀ (s : State) (k : Nat), AluReady s k 0x0A → ∃ (v : Word64) (c o : Bool), exec (.cmp k) s = .next (s.aluTo k false v c o) ∧
    v.toNat = (2 ^ 64 + (s.aluA k).toNat - (s.aluB k).toNat) % 2 ^ 64 ∧ (c = true ↔ (s.aluB k).toNat ≤ (s.aluA k).toNat) ∧
    (o = true ↔ v.toInt ≠ (s.aluA k).toInt - (s.aluB k).toInt)) ∧
  (∀ (s : State) (k : Nat), AluReady s k 0x04 → ∃ (v : Word64), exec (.aluAnd k) s = .next (s.aluTo k true v false false) ∧
    ∀ (i : Nat), v.getLsbD i = ((s.aluA k).getLsbD i && (s.aluB k).getLsbD i)) ∧
  (∀ (s : State) (k : Nat), AluReady s k 0x0B → ∃ (v : Word64), exec (.tst k) s = .next (s.aluTo k false v false false) ∧
    ∀ (i : Nat), v.getLsbD i = ((s.aluA k).getLsbD i && (s.aluB k).getLsbD i)) ∧
  (∀ (s : State) (k : Nat), AluReady s k 0x05 → ∃ (v : Word64), exec (.aluOr k) s = .next (s.aluTo k true v false false) ∧
    ∀ (i : Nat), v.getLsbD i = ((s.aluA k).getLsbD i || (s.aluB k).getLsbD i)) ∧
  (∀ (s : State) (k : Nat), AluReady s k 0x06 → ∃ (v : Word64), exec (.aluXor k) s = .next (s.aluTo k true v false false) ∧
    ∀ (i : Nat), v.getLsbD i = ((s.aluA k).getLsbD i != (s.aluB k).getLsbD i)) ∧
  (∀ (s : State) (k : Nat), AluReady s k 0x07 → ∃ (v : Word64), exec (.shl k) s = .next (s.aluTo k true v false false) ∧
    v.toNat = (s.aluA k).toNat * 2 ^ ((s.aluB k).toNat % 64) % 2 ^ 64) ∧
  (∀ (s : State) (k : Nat), AluReady s k 0x08 → ∃ (v : Word64), exec (.shr k) s = .next (s.aluTo k true v false false) ∧
    v.toNat = (s.aluA k).toNat / 2 ^ ((s.aluB k).toNat % 64)) ∧
  (∀ (s : State) (k : Nat), AluReady s k 0x09 → ∃ (v : Word64), exec (.asr k) s = .next (s.aluTo k true v false false) ∧
    v.toInt = (s.aluA k).toInt / 2 ^ ((s.aluB k).toNat % 64)) ∧
  (∀ (s : State) (k : Nat), AluReady s k 0x0C → ∃ (v : Word64), exec (.mul k) s = .next (s.aluTo k true v false false) ∧
    v.toNat = (s.aluA k).toNat * (s.aluB k).toNat % 2 ^ 64) ∧
  (∀ (s : State) (k : Nat), AluReady s k 0x0D → ∃ (v : Word64), exec (.mulh k) s = .next (s.aluTo k true v false false) ∧
    v.toInt = (s.aluA k).toInt * (s.aluB k).toInt / 2 ^ 64) ∧
  (∀ (s : State) (k : Nat), AluReady s k 0x0E → ∃ (v : Word64), exec (.aluMin k) s = .next (s.aluTo k true v false false) ∧
    v.toInt = min (s.aluA k).toInt (s.aluB k).toInt) ∧
  (∀ (s : State) (k : Nat), AluReady s k 0x0F → ∃ (v : Word64), exec (.aluMax k) s = .next (s.aluTo k true v false false) ∧
    v.toInt = max (s.aluA k).toInt (s.aluB k).toInt) ∧
  (∀ (s : State) (k w : Nat), AluReady s k 0x10 → w = (s.aluB k).toNat / 64 % 64 → ∃ (v : Word64), exec (.aluExt k) s = .next (s.aluTo k true v false false) ∧
    ∀ i, i < 64 → v.getLsbD i = (decide (i < if w = 0 then 64 else w) && (s.aluA k).getLsbD ((s.aluB k).toNat % 64 + i))) ∧
  (∀ (s : State) (k : Nat), AluReady s k 0x11 → ∃ (v : Word64), exec (.sext k) s = .next (s.aluTo k true v false false) ∧
    ∀ i, i < 64 → v.getLsbD i = (s.aluA k).getLsbD (min i ((s.aluB k).toNat % 64))) ∧
  (∀ (s : State) (k : Nat), AluReady s k 0x12 → ∃ (v : Word64), exec (.bset k) s = .next (s.aluTo k true v false false) ∧
    ∀ i, i < 64 → v.getLsbD i = (decide (i = (s.aluB k).toNat % 64) || (s.aluA k).getLsbD i)) ∧
  (∀ (s : State) (k : Nat), AluReady s k 0x13 → ∃ (v : Word64), exec (.bclr k) s = .next (s.aluTo k true v false false) ∧
    ∀ i, i < 64 → v.getLsbD i = (!decide (i = (s.aluB k).toNat % 64) && (s.aluA k).getLsbD i))

/-- The unit operations of a microword. A ready unit operation with fewer than 32 effects buffered adds its own effect to the outbox and changes
nothing else: WRREG, CTXS, CTXA, LAUNCH, JREQ, TCLR, SPUSH, EVSET, EVCLR, MOVT and TIMER on every thread, ADMIT, RKWR, POST and SPC on a
home thread, a non-home thread passing these four over, at its ADMIT taking the T0 that its home thread sends; ADMIT takes the cost that
COST formed for it, or that of no contexts, once; the 33rd effect leaves the outbox and what the thread reads from then on open, and touches
no other thread (R2, log entry 10). RKRD, RDREG, MOVS and SPOP give their register the value read; SLOT of a home thread sets T0 to the slot
at or after its operand; COST of no contexts costs nothing for one slot pitch; CTXF of no contexts is ready at once. Says that exec answers
a next state, under conditions on the state and the operands alone, for: wrreg, ctxs, ctxa, launch, jreq, tclr, spush, evset, evclr, movt,
timer, unitAdmit, rkwr, unitPost, spc, unitSlot, rkrd, rdreg, movs, spop, cost, ctxf. -/
def Obligations.UnitOperations : Prop :=
  (∀ (s : State) (k : Nat), (s.thr k).outbox.length < 32 →
    (UnitReady s k 0x02 → exec (.wrreg k) s = .next (s.buffered k (.wrreg (bitsAt (wUarg (s.microword k)) 12 10) (wUarg (s.microword k) % 1024)
      (((s.thr k).ur (s.microword k)).toNat % 4294967296)))) ∧
    (UnitReady s k 0x04 → exec (.ctxs k) s = .next (s.buffered k (.ctxs (((s.thr k).ur (s.microword k)).toNat % 1048576)))) ∧
    (UnitReady s k 0x05 → exec (.ctxa k) s = .next (s.buffered k (.ctxa (((s.thr k).ur (s.microword k)).toNat % 1048576) ((s.aluB k).toNat % 256)))) ∧
    (UnitReady s k 0x09 → bitsAt (wUarg (s.microword k)) 12 7 = 63 → ∃ (i : Nat), exec (.launch k) s = .next (s.buffered k (.launch i (k / 8)
      (bitsAt ((s.thr k).ur (s.microword k)).toNat 52 47) (wUarg (s.microword k) % 128) (((s.thr k).ur (s.microword k)).toNat.testBit 53)
      (bitsAt ((s.thr k).ur (s.microword k)).toNat 46 0))) ∧ (i : Int) = max 0 ((s.thr k).m.t0 * 4096 + (s.aluB k).toInt)) ∧
    (UnitReady s k 0x0D → exec (.jreq k) s = .next (s.buffered k .jreq)) ∧
    (UnitReady s k 0x0E → exec (.tclr k) s = .next (s.buffered k .tclr)) ∧
    (UnitReady s k 0x0F → exec (.spush k) s = .next (s.buffered k (.spush (wUarg (s.microword k) % 32) ((s.thr k).ur (s.microword k)).toNat))) ∧
    (UnitReady s k 0x11 → exec (.evset k) s = .next (s.buffered k (.evset (bitsAt (wUarg (s.microword k)) 4 2) (wUarg (s.microword k) % 4)))) ∧
    (UnitReady s k 0x12 → exec (.evclr k) s = .next (s.buffered k (.evclr (wUarg (s.microword k) % 4)))) ∧
    (UnitReady s k 0x15 → exec (.movt k) s = .next (s.buffered k (.movt (wUarg (s.microword k)) ((s.thr k).ur (s.microword k)).toNat))) ∧
    (UnitReady s k 0x16 → exec (.timer k) s = .next (s.buffered k (.timer (s.tb.loc + ns ((s.thr k).ur (s.microword k)).toNat)))) ∧
    (s.isHome k = true →
      (∀ (c u : Nat) (d : Option Nat) (a : Bool), UnitReady s k 0x08 → (s.thr k).m.cost.getD (0, some (s.pitch k), 0, false) = (c, d, u, a) →
        exec (.unitAdmit k) s = .next (s.modThr k (fun x => { x with phase := .seq, m := { x.m with cost := none }, outbox := x.outbox ++
          [.admission x.m.t0 c d u a (if (wUarg (s.microword k)).testBit 6 then some (wUarg (s.microword k) % 64) else none)] }))) ∧
      (UnitReady s k 0x0B → exec (.rkwr k) s = .next (s.buffered k
        (.rkwr ((wUarg (s.microword k) + (s.aluB k).toNat % 8192) % 8192) ((s.thr k).ur (s.microword k)).toNat))) ∧
      (UnitReady s k 0x0C → exec (.unitPost k) s = .next (s.buffered k .post)) ∧
      (UnitReady s k 0x13 → exec (.spc k) s = .next (s.buffered k (.spc (((s.thr k).ur (s.microword k)).toNat % 32768)))))) ∧
  (∀ (s : State) (k : Nat), s.isHome k = false → UnitReady s k 0x0B →
    exec (.rkwr k) s = .next (s.modThr k (fun x => { x with phase := .seq }))) ∧
  (∀ (s : State) (k : Nat), s.isHome k = false → UnitReady s k 0x08 → (s.thr k).issued = [] →
    exec (.unitAdmit k) s = .next (s.modThr k (fun x => { x with phase := .seq, needT0 := true }))) ∧
  (∀ (s : State) (k n : Nat) (rest : List Nat), s.isHome k = false → UnitReady s k 0x08 → (s.thr k).issued = n :: rest →
    ∃ t, exec (.unitAdmit k) s = .next t ∧ (t.thr k).m.t0 = n ∧ (t.thr k).issued = rest ∧ (t.thr k).outbox = (s.thr k).outbox ∧ (t.thr k).phase = .seq ∧
      t = { s with seq := t.seq } ∧ ∀ (j : Nat), j ≠ k → t.thr j = s.thr j) ∧
  (∀ (s : State) (k : Nat), s.isHome k = false → UnitReady s k 0x07 →
    exec (.unitSlot k) s = .next (s.modThr k (fun x => { x with phase := .seq }))) ∧
  (∀ (s : State) (k : Nat), 32 ≤ (s.thr k).outbox.length → UnitReady s k 0x0D → ∃ t, exec (.jreq k) s = .next t ∧
    (t.thr k).wild ≠ none ∧ (t.thr k).phase = .seq ∧ (t.thr k).outbox.length ≤ 32 ∧ (∀ (j : Nat), j ≠ k → t.thr j = s.thr j) ∧
    t = { s with seq := t.seq, freeCtr := t.freeCtr }) ∧
  (∀ (s : State) (k i : Nat), UnitReady s k 0x0A → i = (wUarg (s.microword k) + (s.aluB k).toNat % 8192) % 8192 → ∃ t, exec (.rkrd k) s = .next t ∧
    t.thr k = { s.thr k with phase := .seq, m := { (s.thr k).m with
      g := (s.thr k).m.g.set (wUreg (s.microword k)) (BitVec.ofNat 64 (s.itemRead (s.siteOf k) i)) } } ∧
    t = { s with seq := t.seq, rk := t.rk } ∧ t.rk.items = s.rk.items) ∧
  (∀ (s : State) (k : Nat), UnitReady s k 0x01 → ∃ (t : State) (v : Nat), exec (.rdreg k) s = .next t ∧
    v = (s.regRead (microBlock (bitsAt (wUarg (s.microword k)) 12 10)) (k / 8) (wUarg (s.microword k) % 1024 * 4)).1 ∧
    t.thr k = { s.thr k with phase := .seq, m := { (s.thr k).m with g := (s.thr k).m.g.set (wUreg (s.microword k)) (BitVec.ofNat 64 v) } } ∧
    t = { s with regs := t.regs, hw := t.hw, seq := t.seq }) ∧
  (∀ (s : State) (k : Nat), UnitReady s k 0x14 → wUarg (s.microword k) = 4 → exec (.movs k) s = .next (s.modThr k (fun x => { x with
    phase := .seq, m := { x.m with g := x.m.g.set (wUreg (s.microword k)) (BitVec.ofNat 64 (s.siteOf k)) } }))) ∧
  (∀ (s : State) (k : Nat) (e : RxEntry) (rest : List RxEntry), UnitReady s k 0x10 → (s.thr k).outbox = [] →
    (s.eng (k / 8)).rxq = e :: rest → exec (.spop k) s = .next (s.modThr k (fun x => { x with
      phase := .seq, outbox := [.spop], m := { x.m with g := x.m.g.set (wUreg (s.microword k)) (BitVec.ofNat 64 e.data) } }))) ∧
  (∀ (s : State) (k n : Nat), UnitReady s k 0x07 → s.isHome k = true → n = ((s.thr k).ur (s.microword k)).toNat → s.slotFrom k n < 2 ^ 64 →
    ∃ t, exec (.unitSlot k) s = .next t ∧ (t.thr k).m.t0 = s.slotFrom k n ∧ (t.thr k).phase = .seq ∧ t = { s with seq := t.seq } ∧
      ∀ (j : Nat), j ≠ k → t.thr j = s.thr j) ∧
  (∀ (s : State) (k : Nat), UnitReady s k 0x06 → (s.aluB k).toNat % 256 = 0 →
    exec (.cost k) s = .next (s.modThr k (fun x => { x with phase := .seq, m := { x.m with cost := some (0, some (s.pitch k), 0, false) } }))) ∧
  (∀ (s : State) (k : Nat), UnitReady s k 0x03 → (s.aluB k).toNat % 256 = 0 → (s.cache (k / 8)).waiting = [] →
    ((s.cache (k / 8)).entries.filter (fun e => e.locked)).length ≤ 512 → k < 256 → ∃ t, exec (.ctxf k) s = .next t ∧
      t.ctxReady k = true ∧ (t.thr k).ctxf.isSome = true ∧ (t.thr k).phase = .seq ∧ t = { s with regs := t.regs, hw := t.hw, seq := t.seq, rk := t.rk } ∧
      sameBut [0x0B] s t)

/-- Sequencing of microwords, commits and the exported services. CONT goes to the next address; BRANCH goes there when its condition holds and
else to the following word; CALL pushes the following address, a fifth or a RET from the empty stack leaving open what the thread reads from
then on (R2, log entry 10); COMMIT makes the registers of the routine the committed ones, END does so and ends the instruction, ABORT puts
the committed ones back, discards the outbox and ends the instruction with the current step ABORTED and INVALID: the launched one in the
site's items, one not launched yet on itself. A valid dispatch entry of a customer opcode starts the thread at its microaddress, an invalid
one leaves open what it reads, and touches no other thread. VCALL from the customer region commits and calls the service of its argument;
FINISH with the step complete ends the instruction; SEGSTART of a thread that is not the stream owner goes on; a word read with a parity
error acts not at all and is reloaded, the uncommitted registers being put back. Says that exec answers a next state, under conditions on
the state and the operands alone, for: cont, branch, microCall, microRet, commit, microEnd, abort, customerOpcode, vcall, finish, segstart. -/
def Obligations.MicroSequencing : Prop :=
  (∀ (s : State) (k : Nat), SeqReady s k 0 → ∃ t, exec (.cont k false) s = .next t ∧ wentTo t k (s.nextAddr k) ∧ (t.thr k).m = (s.thr k).m ∧
    (t.thr k).outbox = (s.thr k).outbox ∧ t = { s with regs := t.regs, hw := t.hw, seq := t.seq } ∧ sameBut [0x0A] s t ∧ ∀ (j : Nat), j ≠ k → t.thr j = s.thr j) ∧
  (∀ (s : State) (k : Nat), SeqReady s k 1 → ∃ t, exec (.branch k false) s = .next t ∧
    wentTo t k (if wWait (s.microword k) = true ∨ s.cond k (wCond (s.microword k)) = true then s.nextAddr k else s.succAddr k) ∧
    (t.thr k).m = (s.thr k).m ∧ t = { s with regs := t.regs, hw := t.hw, seq := t.seq } ∧ sameBut [0x0A] s t ∧ ∀ (j : Nat), j ≠ k → t.thr j = s.thr j) ∧
  (∀ (s : State) (k : Nat), SeqReady s k 2 → (s.thr k).m.ustack.length < 4 → ∃ t, exec (.microCall k false) s = .next t ∧
    wentTo t k (s.nextAddr k) ∧ (t.thr k).m = { (s.thr k).m with ustack := s.succAddr k :: (s.thr k).m.ustack } ∧
    t = { s with regs := t.regs, hw := t.hw, seq := t.seq } ∧ sameBut [0x0A] s t) ∧
  (∀ (s : State) (k : Nat), SeqReady s k 2 → 4 ≤ (s.thr k).m.ustack.length → ∃ t, exec (.microCall k false) s = .next t ∧
    (t.thr k).wild ≠ none ∧ (t.thr k).outbox = (s.thr k).outbox ∧ (∀ (j : Nat), j ≠ k → t.thr j = s.thr j) ∧
    t = { s with regs := t.regs, hw := t.hw, seq := t.seq, freeCtr := t.freeCtr } ∧ sameBut [0x0A] s t) ∧
  (∀ (s : State) (k a : Nat) (rest : List Nat), SeqReady s k 3 → (s.thr k).m.ustack = a :: rest →
    ∃ t, exec (.microRet k false) s = .next t ∧ wentTo t k a ∧ (t.thr k).m = { (s.thr k).m with ustack := rest } ∧
      t = { s with regs := t.regs, hw := t.hw, seq := t.seq } ∧ sameBut [0x0A] s t) ∧
  (∀ (s : State) (k : Nat), SeqReady s k 3 → (s.thr k).m.ustack = [] → ∃ t, exec (.microRet k false) s = .next t ∧
    (t.thr k).wild ≠ none ∧ (t.thr k).outbox = (s.thr k).outbox ∧ (∀ (j : Nat), j ≠ k → t.thr j = s.thr j) ∧
    t = { s with regs := t.regs, hw := t.hw, seq := t.seq, freeCtr := t.freeCtr } ∧ sameBut [0x0A] s t) ∧
  (∀ (s : State) (k : Nat), SeqReady s k 4 → (s.thr k).outbox = [] → ∃ t, exec (.commit k false) s = .next t ∧
    (t.thr k).com = (s.thr k).m ∧ (t.thr k).m = (s.thr k).m ∧ (t.thr k).rstart = s.nextAddr k ∧ wentTo t k (s.nextAddr k) ∧
    t = { s with regs := t.regs, hw := t.hw, seq := t.seq } ∧ sameBut [0x0A] s t) ∧
  (∀ (s : State) (k a : Nat), SeqReady s k 4 → (s.thr k).outbox = [.timer a] → ∃ t, exec (.commit k false) s = .next t ∧
    (t.thr k).com = (s.thr k).m ∧ (t.thr k).timer = some a ∧ (t.thr k).timerDone = false ∧ (t.thr k).outbox = [] ∧ wentTo t k (s.nextAddr k)) ∧
  (∀ (s : State) (k : Nat), SeqReady s k 5 → (s.thr k).outbox = [] → (s.thr k).pcSet = false → ∃ t, exec (.microEnd k false) s = .next t ∧
    (t.thr k).com = { (s.thr k).m with cost := none } ∧ stepped s t k ((s.spc k + 1) % 32768) ∧ t = { s with regs := t.regs, hw := t.hw, seq := t.seq } ∧ sameBut [0x0A] s t) ∧
  (∀ (s : State) (k : Nat), SeqReady s k 6 → (s.thr k).pcSet = false → ∃ t, exec (.abort k false) s = .next t ∧
    (t.thr k).m = { (s.thr k).com with cost := none } ∧ (t.thr k).outbox = [] ∧ (t.thr k).dec = false ∧ t.spc k = (s.spc k + 1) % 32768 ∧
    ((s.thr (s.homeThr k)).nxt = [] → (t.item (s.siteOf k) 1).testBit 4 = true ∧ (t.item (s.siteOf k) 1).testBit 0 = true) ∧
    (∀ a, (s.thr (s.homeThr k)).nxt.getLast? = some a → ∃ b, (t.thr (s.homeThr k)).nxt.getLast? = some b ∧ b.t0 = a.t0 ∧ b.marks.testBit 4 = true ∧
      b.marks.testBit 0 = true) ∧
    t = { s with regs := t.regs, hw := t.hw, seq := t.seq, rk := t.rk } ∧ sameBut [0x0A] s t) ∧
  (∀ (s : State) (k op e : Nat), s.inRoutine k = true → (s.thr k).phase = .idle → op = s.fld F.SEQ_TSTAT_opcode (k / 8) (k % 8) → 0xC0 ≤ op →
    (s.isHome k = true → (s.thr k).tmask.testBit (k % 8) = true) → e = (s.store (k / 8)).entry op → e.testBit 13 = true →
    s.entryBad k op false = false →
    ∃ t, exec (.customerOpcode k false) s = .next t ∧ wentTo t k (e % 8192) ∧ (t.thr k).rstart = e % 8192 ∧ (t.thr k).com = (s.thr k).m ∧
      t = { s with regs := t.regs, hw := t.hw, seq := t.seq } ∧ sameBut [0x0A] s t) ∧
  (∀ (s : State) (k op : Nat), s.inRoutine k = true → (s.thr k).phase = .idle → op = s.fld F.SEQ_TSTAT_opcode (k / 8) (k % 8) → 0xC0 ≤ op →
    (s.isHome k = true → (s.thr k).tmask.testBit (k % 8) = true) → ((s.store (k / 8)).entry op).testBit 13 = false →
    s.entryBad k op false = false →
    ∃ t, exec (.customerOpcode k false) s = .next t ∧ (t.thr k).wild ≠ none ∧ (t.thr k).com = (s.thr k).m ∧ (∀ (j : Nat), j ≠ k → t.thr j = s.thr j) ∧
      t = { s with regs := t.regs, hw := t.hw, seq := t.seq, freeCtr := t.freeCtr } ∧ sameBut [0x0A] s t) ∧
  (∀ (s : State) (k : Nat), UnitReady s k 0x17 → (s.thr k).service = none → custBase ≤ (s.thr k).upc → (s.thr k).outbox = [] →
    s.wordBad k false = false → wUarg (s.microword k) < 3 → ∃ t, exec (.vcall k false) s = .next t ∧ (t.thr k).service = some (wUarg (s.microword k)) ∧
      (t.thr k).com = (s.thr k).m ∧ t = { s with seq := t.seq } ∧ ∀ (j : Nat), j ≠ k → t.thr j = s.thr j) ∧
  (∀ (s : State) (k : Nat), s.inRoutine k = true → (s.thr k).service = some 1 → s.condComplete k = true → s.isHome k = false →
    (s.thr k).pcSet = false → ∃ t, exec (.finish k) s = .next t ∧ stepped s t k ((s.spc k + 1) % 32768) ∧ (t.thr k).service = none ∧
      t = { s with regs := t.regs, hw := t.hw, seq := t.seq } ∧ sameBut [0x0A] s t) ∧
  (∀ (s : State) (k : Nat), s.inRoutine k = true → (s.thr k).service = some 2 → s.fld F.SEQ_CTRL_stream_owner (k / 8) ≠ k % 8 →
    exec (.segstart k) s = .next (s.modThr k (fun x => { x with service := none, phase := .seq }))) ∧
  (∀ (s : State) (k : Nat), s.inRoutine k = true → (s.thr k).service = some 2 → s.fld F.SEQ_CTRL_stream_owner (k / 8) = k % 8 → s.bist.run = none →
    16 < s.credits (k / 8) → s.md.pend = [] → s.queue (k / 8) = [] → ∃ (t : State) (r : LaunchRec), exec (.segstart k) s = .next t ∧ t.queue (k / 8) = s.queue (k / 8) ++ [r] ∧ r.action = 2 ∧
      r.inst = s.resolve40 (s.thr k).m.t0 0 ∧ bitsAt r.payload 46 35 = ((s.thr k).ur (s.microword k)).toNat % 4096 ∧ r.site = s.siteOf k ∧
      (t.thr k).service = none ∧ (t.thr k).phase = .seq) ∧
  (∀ (s : State) (k : Nat), SeqReady s k 0 → actPhase (s.microword k) = .seq → (s.thr k).retried = false → k < 256 →
    ∃ t, exec (.cont k true) s = .next t ∧ (t.thr k).m = (s.thr k).com ∧ (t.thr k).outbox = [] ∧ (t.thr k).stall = some (s.thr k).upc ∧
      t.bit F.SEQ_STATUS_par_retry (k / 8) = true ∧ t = { s with regs := t.regs, hw := t.hw, seq := t.seq } ∧ sameBut [0x0A] s t)

/-- Waits, the wait limit, timers, reloads and customer images. A wait whose condition holds ends, and the word acts; a counted wait past the
Course's limit, or a WAITEV past its own, times the thread out: its routine is discarded, wait_to is set, the site is marked INVALID and the
Course reported Site-fatal. A thread's timer expires at its instant. A reload puts the shadow's word into the Course's store and the thread
goes on from its routine's start; a second error makes a machine check, which stops every running thread of the Course. An uncorrectable
shadow word reports source 60. A well-formed customer image that needs no signature, or bears a good one, goes into the shadow, blocks
customer opcodes on every Course and is journaled; a malformed one changes no shadow and leaves at most the customer region of the Courses
open (R2, R301); a bad signature is answered SIGNATURE; a Course with no thread inside a customer routine then copies the region and is
unblocked. Says that exec answers a next state, under conditions on the state and the operands alone, for: waitRelease, waitLimitTimeout,
threadTimerExpiry, parityReloadComplete, shadowUncorrectable, customerImageLoad, customerImageCourseCopy. -/
def Obligations.WaitsAndReloads : Prop :=
  (∀ (s : State) (k : Nat), s.inRoutine k = true → (s.thr k).phase = .wait → wCond (s.microword k) ≠ 19 → wCond (s.microword k) ≠ 20 →
    s.cond k (wCond (s.microword k)) = true → ∃ t, exec (.waitRelease k) s = .next t ∧ (t.thr k).phase = actPhase (s.microword k) ∧
      (t.thr k).waitSince = none ∧ (s.tstate k = stWaiting → t.tstate k = stRunning) ∧ t = { s with regs := t.regs, hw := t.hw, seq := t.seq } ∧ sameBut [0x0A] s t) ∧
  (∀ (s : State) (k a : Nat), k < 256 → s.inRoutine k = true → (s.thr k).waitUntil = none → (s.thr k).waitSince = some a → s.noOpen k →
    (∀ b, (s.thr (s.homeThr k)).nxt.getLast? = some b → b.st ≠ .committed) → ∃ t, exec (.waitLimitTimeout k) s = .next t ∧ t.tstate k = stTimedOut ∧ t.running k = false ∧ t.bit F.SEQ_STATUS_wait_to (k / 8) = true ∧
      t.tb.loc = max s.tb.loc (a + (s.waitLimit (k / 8) - (s.thr k).waitSum)) ∧ (t.thr k).m = (s.thr k).com ∧ (t.thr k).outbox = [] ∧
      (t.item (s.siteOf k) 1).testBit 0 = true ∧ (s.hearsAt (k / 8) t.tb.loc → t.srcSet (k / 8) = true)) ∧
  (∀ (s : State) (k a : Nat), (s.thr k).timer = some a → ∃ t, exec (.threadTimerExpiry k) s = .next t ∧ (t.thr k).timer = none ∧
    (t.thr k).timerDone = true ∧ t.tb.loc = max s.tb.loc a ∧ t = { s with seq := t.seq, tb := t.tb } ∧ ∀ (j : Nat), j ≠ k → t.thr j = s.thr j) ∧
  (∀ (s : State) (k a : Nat), k < 256 → (s.thr k).stall = some a → a < 8192 → ∃ t, exec (.parityReloadComplete k false) s = .next t ∧
    (t.store (k / 8)).word a = s.seq.shadow.word a ∧
    (∀ (b : Nat), b ≠ a → (t.store (k / 8)).word b = (s.store (k / 8)).word b) ∧ (t.thr k).stall = none ∧
    wentTo t k (s.thr k).rstart ∧ s.tb.loc ≤ t.tb.loc ∧ t.tb.loc ≤ s.tb.loc + us 4 ∧
    t = { s with regs := t.regs, hw := t.hw, seq := t.seq, tb := t.tb, freeCtr := t.freeCtr } ∧ sameBut [0x0A] s t) ∧
  (∀ (s : State) (k a : Nat), k < 256 → (s.thr k).stall = some a → (s.eng (k / 8)).run = none → (s.eng (k / 8)).sel = false → (s.eng (k / 8)).todo = 0 →
    ∃ t, exec (.parityReloadComplete k true) s = .next t ∧
    t.bit F.SEQ_STATUS_mc (k / 8) = true ∧ t.bit F.SEQ_MC_valid (k / 8) = true ∧ t.fld F.SEQ_MC_thread (k / 8) = k % 8 ∧
    t.fld F.SEQ_MC_uaddr (k / 8) = a % 8192 ∧
    (∀ n, n < 8 → s.running (8 * (k / 8) + n) = true → t.tstate (8 * (k / 8) + n) = stMachineCheck) ∧
    (s.hearsAt (k / 8) t.tb.loc → t.srcSet (k / 8) = true) ∧
    t = { s with regs := t.regs, hw := t.hw, seq := t.seq, rk := t.rk, tb := t.tb, fc := t.fc, freeCtr := t.freeCtr, nvm := t.nvm, bonds := t.bonds, tally := t.tally, md := t.md } ∧ sameBut [0x0A, 0x0B, 0x15] s t) ∧
  (∀ (s : State) (a : Nat), a < 8192 → ∃ t, exec (.shadowUncorrectable a) s = .next t ∧ (s.hearsAt 60 t.tb.loc → t.srcSet 60 = true) ∧
    t = { s with regs := t.regs, hw := t.hw, fc := t.fc, freeCtr := t.freeCtr, nvm := t.nvm } ∧ sameBut [0x15] s t) ∧
  (∀ (s : State) (h : Hdr) (d : Sys2Proof.Data), Ready s h → d.ty = tBlob → s.imageSigned d.bytes = true → imageOk d.bytes = true →
    ∃ t, exec (.customerImageLoad h d) s = .next t ∧ t.seq.shadow = withImage s.seq.shadow d.bytes ∧
      (∀ c, c < 32 → t.bit F.SEQ_STATUS_cust_block c = true) ∧ journaling s t h 0x5A0000 d.bytes ∧ t.seq.store = s.seq.store ∧
      t = { s with regs := t.regs, hw := t.hw, seq := t.seq, eth := t.eth, adp := t.adp } ∧ sameBut [0x0A] s t) ∧
  (∀ (s : State) (h : Hdr) (d : Sys2Proof.Data), Ready s h → d.ty = tBlob → s.imageSigned d.bytes = false →
    ∃ t, exec (.customerImageLoad h d) s = .next t ∧ answered s t h eSignature ∧ t.bit F.SEC_STATUS_sig_fail = true ∧
      t = { s with regs := t.regs, hw := t.hw, adp := t.adp, out := t.out } ∧ sameButFields [(F.SEC_STATUS_sig_fail, 0, 0)] s t) ∧
  (∀ (s : State) (h : Hdr) (d : Sys2Proof.Data), Ready s h → d.ty = tBlob → s.imageSigned d.bytes = true → imageOk d.bytes = false →
    ∃ t, exec (.customerImageLoad h d) s = .next t ∧ answered s t h eOk ∧ t.seq.shadow = s.seq.shadow ∧
      (∀ c a, c < 32 → a < custBase → Tbl.find (t.store c).words a = Tbl.find (s.store c).words a) ∧
      t = { s with seq := t.seq, adp := t.adp, out := t.out, freeCtr := t.freeCtr }) ∧
  (∀ (s : State) (c : Nat), c < 32 → s.bit F.SEQ_STATUS_cust_block c = true → (∀ n, n < 8 → s.inCustomer (8 * c + n) = false) →
    ∃ t, exec (.customerImageCourseCopy c) s = .next t ∧ t.bit F.SEQ_STATUS_cust_block c = false ∧
      (∀ a, a < custBase → Tbl.find (t.store c).words a = Tbl.find (s.store c).words a) ∧
      (∀ (a : Nat), custBase ≤ a → Tbl.find (t.store c).words a = Tbl.find s.seq.shadow.words a) ∧
      s.tb.loc ≤ t.tb.loc ∧ t.tb.loc ≤ s.tb.loc + us 30 ∧
      t = { s with regs := t.regs, hw := t.hw, seq := t.seq, tb := t.tb, freeCtr := t.freeCtr } ∧ sameBut [0x0A] s t)

/-- Context caches and the context table. The CTXF that has waited longest proceeds when its contexts fit, leaving the wait; the contexts a
Course missed arrive with the table's bytes and none is missing; a flush keeps exactly the locked entries; each leaves every other Course's
cache alone. A ready Owner write of one context puts its 64 bytes into the table and into every cache entry that holds it unlocked, a locked
one taking them when it is released; a write past the table answers ADDR_RANGE. Says that exec answers a next state, under conditions on the
state and the operands alone, for: ctxfProceed, contextFetchComplete, cacheFlush, contextWrite. -/
def Obligations.ContextCaches : Prop :=
  (∀ (s : State) (c : Nat) (w : CtxWait) (rest : List CtxWait), c < 32 → (s.cache c).waiting = w :: rest → (s.cache c).roomFor w.first w.count = true →
    ∃ t, exec (.ctxfProceed c) s = .next t ∧ (t.cache c).waiting = rest ∧ (∀ (q : Nat), q ≠ c → t.cache q = s.cache q) ∧
      t = { s with regs := t.regs, hw := t.hw, rk := t.rk } ∧ sameBut [0x0B] s t) ∧
  (∀ (s : State) (c : Nat), c < 32 → ∃ t, exec (.contextFetchComplete c) s = .next t ∧ (t.cache c).missing = [] ∧
    (∀ e ∈ (s.cache c).entries, e.ctx ∈ (s.cache c).missing → { e with data := s.ctxMem e.ctx } ∈ (t.cache c).entries) ∧
    (∀ (q : Nat), q ≠ c → t.cache q = s.cache q) ∧ t = { s with regs := t.regs, hw := t.hw, rk := t.rk } ∧ sameButFields [(F.CTX_STATUS_locked, c, 0)] s t) ∧
  (∀ (s : State) (c : Nat), c < 32 → ∃ t, exec (.cacheFlush c) s = .next t ∧
    (∀ (e : CacheEntry), e ∈ (t.cache c).entries ↔ e ∈ (s.cache c).entries ∧ e.locked = true) ∧ (∀ (q : Nat), q ≠ c → t.cache q = s.cache q) ∧
    t = { s with regs := t.regs, hw := t.hw, rk := t.rk } ∧ sameButFields [(F.CTX_STATUS_locked, c, 0)] s t) ∧
  (∀ (s : State) (h : Hdr) (d : Sys2Proof.Data), Ready s h → d.ty = tBlob → d.bytes.length = 68 → dSub d 0 4 < 1048576 →
    ∃ t, exec (.contextWrite h d) s = .next t ∧ answered s t h eOk ∧ t.bytes (ctxAddr (dSub d 0 4)) 64 = d.bytes.drop 4 ∧
      (∀ (a : Nat), (a < ctxAddr (dSub d 0 4) ∨ ctxAddr (dSub d 0 4) + 64 ≤ a) → t.byte a = s.byte a) ∧
      (∀ c e, e ∈ (t.cache c).entries → e.ctx = dSub d 0 4 → e.locked = false → e.data = d.bytes.drop 4) ∧ t.regs = s.regs ∧
      t = { s with mem := t.mem, rk := t.rk, bist := t.bist, adp := t.adp, out := t.out }) ∧
  (∀ (s : State) (h : Hdr) (d : Sys2Proof.Data), Ready s h → d.ty = tBlob → d.bytes.length = 68 → 1048576 ≤ dSub d 0 4 →
    ∃ t, exec (.contextWrite h d) s = .next t ∧ answered s t h eAddrRange ∧ t = { s with adp := t.adp, out := t.out })

/-- Results, records, acknowledgements and statistics. The arrival of a site that comes first leaves the inbox at its instant; a measured value
with a slot and no configuration there is stored in that slot's item, with its ready flag. A posted record leaves its thread's queue, enters
the ring with the next sequence number and is written at the place of that number, 64 bytes; nothing else in memory changes. A ready
acknowledgement of a number in the ring makes it the last acknowledged and drops the records up to it; one above the last number written is
answered OK, leaves the acknowledged number open and changes no memory (R2, log entry 10). A clear sets a site's accumulators and their
saturation flags to 0. Says that exec answers a next state, under conditions on the state and the operands alone, for: resultArrival,
resultRecordWrite, ringAcknowledge, statClear. -/
def Obligations.ReckonerResults : Prop :=
  (∀ (s : State) (site : Nat) (a : Arrival) (r : Nat), nextArrival s.rk.inbox site = some a → a.order ≠ 0 → a.item = none → a.slot = some r → r < 256 →
    s.item site (0x600 + r) = 0 → s.seq.th = [] → s.homeOf site = none → a.clamp = false → ∃ t, exec (.resultArrival site) s = .next t ∧
      t.rk.inbox = s.rk.inbox.erase a ∧ t.now = max s.now a.at_ ∧ t.item site (0x200 + r) = ofSigned 64 a.value ∧
      (8192 * site + (0x200 + r)) ∈ t.rk.ready ∧ t = { s with rk := t.rk, tb := t.tb }) ∧
  (∀ (s : State) (site : Nat) (a : Arrival), nextArrival s.rk.inbox site = some a → ∃ t, exec (.resultArrival site) s = .next t ∧
    t.rk.inbox = s.rk.inbox.erase a ∧ t.now = max s.now a.at_ ∧ t.mem = s.mem ∧
    t = { s with rk := t.rk, tb := t.tb, seq := t.seq, regs := t.regs, hw := t.hw, fc := t.fc, freeCtr := t.freeCtr, nvm := t.nvm }) ∧
  (∀ (s : State) (k : Nat) (r : ResRec) (rest : List ResRec), s.postQ k = r :: rest → s.ringUse < ringSize → ∃ t, exec (.resultRecordWrite k) s = .next t ∧
    t.postQ k = rest ∧ t.rk.ring = s.rk.ring ++ [{ r with seq := s.wseq + 1 }] ∧ t.wseq = (s.wseq + 1) % 2 ^ 64 ∧
    t.bytes (64 * (1068498944 + s.wseq % ringSize)) 64 = ResRec.bytes { r with seq := s.wseq + 1 } ∧
    (∀ (a : Nat), (a < 64 * (1068498944 + s.wseq % ringSize) ∨ 64 * (1068498944 + s.wseq % ringSize) + 64 ≤ a) → t.byte a = s.byte a) ∧
    t = { s with regs := t.regs, hw := t.hw, mem := t.mem, rk := t.rk, seq := t.seq, fc := t.fc, freeCtr := t.freeCtr, nvm := t.nvm } ∧ sameBut [0x0A, 0x0C, 0x15] s t) ∧
  (∀ (s : State) (h : Hdr) (d : Sys2Proof.Data), Ready s h → dataFits d tU64 → s.aseq < dNat d → dNat d ≤ s.wseq →
    ∃ t, exec (.ringAcknowledge h d) s = .next t ∧ answered s t h eOk ∧ t.aseq = dNat d ∧ (∀ (r : ResRec), r ∈ t.rk.ring ↔ r ∈ s.rk.ring ∧ dNat d < r.seq) ∧
      t.mem = s.mem ∧ t = { s with regs := t.regs, hw := t.hw, rk := t.rk, seq := t.seq, fc := t.fc, freeCtr := t.freeCtr, nvm := t.nvm, adp := t.adp, out := t.out } ∧
      sameBut [0x0A, 0x0C, 0x15] s t) ∧
  (∀ (s : State) (h : Hdr) (d : Sys2Proof.Data), Ready s h → dataFits d tU64 → s.wseq < dNat d → s.aseq < dNat d →
    ∃ t, exec (.ringAcknowledge h d) s = .next t ∧ answered s t h eOk ∧ t.wseq = s.wseq ∧ t.mem = s.mem ∧
      t = { s with regs := t.regs, hw := t.hw, rk := t.rk, seq := t.seq, fc := t.fc, freeCtr := t.freeCtr, nvm := t.nvm, adp := t.adp, out := t.out } ∧
      sameBut [0x0A, 0x0C, 0x15] s t) ∧
  (∀ (s : State) (site : Nat), site < 256 → ∃ t, exec (.statClear .reg site) s = .next t ∧ (∀ i, i < 256 → t.item site (0x300 + i) = 0) ∧
    t.item site 0x00C = 0 ∧ (∀ (q i : Nat), q ≠ site → i < 8192 → t.item q i = s.item q i) ∧ t = { s with rk := t.rk }) ∧
  (∀ (s : State) (h : Hdr) (d : Sys2Proof.Data) (site : Nat), site < 256 → Ready s h → dTrue d → ∃ t, exec (.statClear (.od h d) site) s = .next t ∧
    answered s t h eOk ∧ (∀ i, i < 256 → t.item site (0x300 + i) = 0) ∧ t = { s with rk := t.rk, adp := t.adp, out := t.out })

/-- SMU forces, apertures, range steps and pulses. An SMU_FORCE or SMU_APERTURE at its queue's head leaves it at its instant; in Safe it is
discarded and counted. A force of the mon group alone makes the staged monitor fields active; one whose staged connect is 0 opens the output
switch, once the output has slewed to 0 (R344); one of the lvl group alone makes active the staged force code kept in the envelope and in
the current reservation. An aperture opens at its instant for its length in its mode. A range change steps to the adjacent range, a pulse
ends without a change of its base, the oldest aperture's value goes to its slot, and OD 0x4403 enters one SMU_FORCE of each unit of the
quadrant, 10 µs ahead. Says that exec answers a next state, under conditions on the state and the operands alone, for: smuForce,
smuAperture, smuRangeStep, smuPulseEnd, smuMeasurementDelivery, smuForceNow. -/
def Obligations.UnitForces : Prop :=
  (∀ (s : State) (q : Nat) (r : LaunchRec) (rest : List LaunchRec), q < 4 → s.queue (32 + q) = r :: rest → r.action = 0x10 →
    (∀ p ∈ s.md.pend, ∀ (a : Nat), p.t = some a → r.exec < a) → ∃ t, exec (.smuForce q) s = .next t ∧ t.queue (32 + q) = rest ∧ t.now = max s.now r.exec ∧
      (s.inSafe = true → t.md.limitCount = s.md.limitCount + 1 ∧ t.act = s.act ∧ t.smu = s.smu ∧ sameBut [0x02, 0x15] s t) ∧
      (s.inSafe = false → s.bit F.SMU_QCTRL_en q = false → t.act = s.act) ∧
      (s.inSafe = false → s.bit F.SMU_QCTRL_en q = true → r.target < 32 → s.smuBit F.SMU_STATE_derated (32 * q + r.target) = false →
        s.md.mode ≠ .lineRate → r.payload.testBit 46 = false → r.payload.testBit 45 = false → r.payload.testBit 44 = true →
        (∀ f ∈ [F.SMU_CFG_mon_en, F.SMU_MON_HI_mon, F.SMU_MON_LO_mon, F.SMU_MON_CFG_act, F.SMU_MON_CFG_clr_mode, F.SMU_MON_CFG_filt_n,
            F.SMU_MON_CFG_filt_m, F.SMU_MON_CFG_hyst], t.actFld f q r.target = s.fld f q r.target % 2 ^ f.wid) ∧
        t.actFld F.SMU_FORCE_CODE_force q r.target = s.actFld F.SMU_FORCE_CODE_force q r.target) ∧
      (s.inSafe = false → s.bit F.SMU_QCTRL_en q = true → r.target < 32 → s.smuBit F.SMU_STATE_derated (32 * q + r.target) = false →
        r.payload.testBit 46 = true → s.fld F.SMU_CFG_connect q r.target = 0 →
        t.smuConn (32 * q + r.target) = false ∨ ∃ (w : Nat), (t.smuCh (32 * q + r.target)).discAt = some w ∧ t.tb.loc ≤ w) ∧
      (∀ (x y : SmuSet) (cut : Bool), s.inSafe = false → s.bit F.SMU_QCTRL_en q = true → r.target < 32 → s.smuBit F.SMU_STATE_derated (32 * q + r.target) = false →
        s.md.mode ≠ .lineRate → r.payload.testBit 46 = false → r.payload.testBit 45 = true → r.payload.testBit 44 = false →
        s.smuLatched (32 * q + r.target) = false → (∀ (j : Nat), (s.smuCh j).discAt = none) →
        x = s.smuEnvelope (32 * q + r.target) { (s.smuNew (32 * q + r.target) false true).limited with conn := s.smuConn (32 * q + r.target) } →
        s.smuAlloc (32 * q + r.target) x = (some y, cut) →
        t.actFld F.SMU_FORCE_CODE_force q r.target = ofSigned 24 y.force % 2 ^ F.SMU_FORCE_CODE_force.wid) ∧
      t = { s with act := t.act, fc := t.fc, freeCtr := t.freeCtr, nvm := t.nvm, lq := t.lq, lqLast := t.lqLast, md := t.md, regs := t.regs, hw := t.hw, rk := t.rk,
                   seq := t.seq, smu := t.smu, tb := t.tb, tally := t.tally, bonds := t.bonds } ∧ sameBut [0x02, 0x0D, 0x15] s t) ∧
  (∀ (s : State) (q : Nat) (r : LaunchRec) (rest : List LaunchRec), q < 4 → s.queue (32 + q) = r :: rest → r.action = 0x11 →
    (∀ p ∈ s.md.pend, ∀ (a : Nat), p.t = some a → r.exec < a) → ∃ t, exec (.smuAperture q) s = .next t ∧ t.queue (32 + q) = rest ∧
      t.now = max s.now r.exec ∧ t.act = s.act ∧
      (s.inSafe = true → t.md.limitCount = s.md.limitCount + 1 ∧ t.smu = s.smu) ∧
      (s.inSafe = false → r.target < 32 → ∃ (a : SmuAper) (l : List SmuAper), (t.smuCh (32 * q + r.target)).aper = l ++ [a] ∧
        l.map (fun (x : SmuAper) => (x.openAt, x.closeAt, x.site, x.slot)) =
          (s.smuCh (32 * q + r.target)).aper.map (fun (x : SmuAper) => (x.openAt, x.closeAt, x.site, x.slot)) ∧ a.openAt = t.tb.loc ∧
        a.closeAt = t.tb.loc + min (ns (clampNat 1000 1000000000 (r.payload % 1073741824))) (smuAperMax s.md.mode) ∧ a.site = r.site ∧
        a.slot = (if r.chipWide then none else some (bitsAt r.payload 46 39)) ∧ a.alt = r.payload.testBit 37 ∧
        a.quiet = (s.md.mode == .precision && r.payload.testBit 38)) ∧
      t = { s with lq := t.lq, lqLast := t.lqLast, md := t.md, regs := t.regs, hw := t.hw, rk := t.rk, seq := t.seq, smu := t.smu, tb := t.tb, fc := t.fc,
                   freeCtr := t.freeCtr, nvm := t.nvm, tally := t.tally, bonds := t.bonds } ∧ sameBut [0x02, 0x0D, 0x15] s t) ∧
  (∀ (s : State) (m w : Nat), (s.smuCh m).stepAt = some w → ∃ t, exec (.smuRangeStep m) s = .next t ∧ t.tb.loc = max s.tb.loc w ∧
    (t.smuCh m).rangeNow = stepRange (s.smuCh m).rangeNow (s.smuAct F.SMU_CFG_irange m) ∧
    ((t.smuCh m).stepAt = none ↔ (t.smuCh m).rangeNow = s.smuAct F.SMU_CFG_irange m) ∧ (∀ (j : Nat), j ≠ m → t.smuCh j = s.smuCh j) ∧
    t = { s with smu := t.smu, tb := t.tb }) ∧
  (∀ (s : State) (m w : Nat), (s.smuCh m).pulseEnd = some w → ∃ t, exec (.smuPulseEnd m) s = .next t ∧ t.tb.loc = max s.tb.loc w ∧
    t.smuCh m = { s.smuCh m with pulseEnd := none } ∧ (∀ (j : Nat), j ≠ m → t.smuCh j = s.smuCh j) ∧ t = { s with smu := t.smu, tb := t.tb }) ∧
  (∀ (s : State) (m : Nat) (v : Int) (a : SmuAper) (rest : List SmuAper), (s.smuCh m).aper = a :: rest →
    ∃ (t : State) (r : Arrival), exec (.smuMeasurementDelivery m v) s = .next t ∧ t.tb.loc = max s.tb.loc a.closeAt ∧ (t.smuCh m).aper = rest ∧
      t.rk = { s.rk with inbox := s.rk.inbox ++ [r] } ∧ r.site = a.site ∧ r.slot = a.slot ∧ r.value = (t.smuCh m).last ∧
      t.now ≤ r.at_ ∧ r.at_ ≤ t.now + us 2 ∧ (r.value ≠ v → r.clamp = true) ∧ (a.clamp = true → r.clamp = true) ∧
      t = { s with smu := t.smu, rk := t.rk, tb := t.tb, freeCtr := t.freeCtr }) ∧
  (∀ (s : State) (h : Hdr) (d : Sys2Proof.Data) (q : Nat), Ready s h → dTrue d → q < 4 → (s.queue (32 + q)).length + 32 ≤ 1024 →
    (∀ r ∈ s.queue (32 + q), r.inst ≠ s.now + us 10) →
    ∃ (t : State) (l : List LaunchRec), exec (.smuForceNow h d q) s = .next t ∧ answered s t h eOk ∧ t.queue (32 + q) = s.queue (32 + q) ++ l ∧
      l.map (·.target) = List.range 32 ∧ (∀ r ∈ l, r.inst = s.now + us 10 ∧ r.action = 0x10 ∧ r.chipWide = true) ∧
      t = { s with regs := t.regs, hw := t.hw, lq := t.lq, tb := t.tb, ks := t.ks, smu := t.smu, rk := t.rk, seq := t.seq, fc := t.fc, freeCtr := t.freeCtr, nvm := t.nvm,
                   adp := t.adp, out := t.out } ∧ sameBut [0x02, 0x15] s t)

/-- SMU monitors, clamps, open senses and dissipation. The enabled monitor of a connected, unlatched unit latches its trip, sets trip_any and
counts; with act 2 or 3 its output is cut and its tripped bit is set. A clear by register or ready Owner write takes the latch, the cut and
the tripped bit back, or trips again while the condition holds. A clamp sets clamp_any while an aperture of its unit is open, an open Kelvin
sense in FV its bits, and both mark the apertures that are open; a dissipation sample enters the 1 ms window of 100. Says that exec answers
a next state, under conditions on the state and the operands alone, for: smuMonitorTrip, smuTripLatchClear, smuClamp, kelvinOpen,
smuDissipationSample. -/
def Obligations.UnitMonitors : Prop :=
  (∀ (s : State) (m : Nat), m < 128 → s.smuAct F.SMU_CFG_mon_en m ≠ 0 → s.smuConn m = true → s.smuLatched m = false →
    ∃ t, exec (.smuMonitorTrip m) s = .next t ∧ t.smuLatched m = true ∧ t.bit F.SMU_QSTATUS_trip_any (smuQ m) = true ∧
      (t.smuCh m).trips = (s.smuCh m).trips + 1 ∧ (t.smuCh m).monCond = true ∧
      t.tb.loc = max s.tb.loc ((s.smuCh m).monAt + filtNeed (s.smuAct F.SMU_MON_CFG_filt_n m) (s.smuAct F.SMU_MON_CFG_filt_m m) * cycle) ∧
      (2 ≤ s.smuAct F.SMU_MON_CFG_act m → t.smuBit F.SMU_STATE_tripped m = true ∧ (t.smuCh m).cut = true ∧ (t.smuCh m).base = 0) ∧
      (s.smuAct F.SMU_MON_CFG_act m = 3 → (t.smuCh m).discAt = some (t.tb.loc + us 5)) ∧
      (s.unwatched 0x41 → t = { s with regs := t.regs, hw := t.hw, smu := t.smu, rk := t.rk, seq := t.seq, tb := t.tb } ∧ sameBut [0x0D] s t)) ∧
  (∀ (s : State) (m : Nat), m < 128 → s.smuLatched m = true → s.heldBit F.SMU_TRIP_LATCH_latch (smuQ m) 0 (smuN m) = false →
    ∃ t, exec (.smuTripLatchClear .reg m false) s = .next t ∧
    t.smuLatched m = false ∧ (t.smuCh m).cut = false ∧ t.smuBit F.SMU_STATE_tripped m = false ∧
    (∀ j, j < 128 → j ≠ m → t.smuLatched j = s.smuLatched j) ∧ t = { s with regs := t.regs, hw := t.hw, smu := t.smu } ∧ sameBut [0x0D] s t) ∧
  (∀ (s : State) (m : Nat), m < 128 → s.smuLatched m = true → s.heldBit F.SMU_TRIP_LATCH_latch (smuQ m) 0 (smuN m) = false →
    ∃ t, exec (.smuTripLatchClear .reg m true) s = .next t ∧
    t.smuLatched m = true ∧ (t.smuCh m).trips = (s.smuCh m).trips + 1) ∧
  (∀ (s : State) (h : Hdr) (d : Sys2Proof.Data) (m : Nat), m < 128 → Ready s h → dTrue d → s.smuLatched m = true →
    s.heldBit F.SMU_TRIP_LATCH_latch (smuQ m) 0 (smuN m) = false →
    ∃ t, exec (.smuTripLatchClear (.od h d) m false) s = .next t ∧ answered s t h eOk ∧ t.smuLatched m = false ∧
      t.smuBit F.SMU_STATE_tripped m = false ∧ t = { s with regs := t.regs, hw := t.hw, smu := t.smu, adp := t.adp, out := t.out } ∧ sameBut [0x0D] s t) ∧
  (∀ (s : State) (m : Nat), m < 132 → s.smuConn m = true → ∃ t, exec (.smuClamp m true) s = .next t ∧ (t.smuCh m).clamped = true ∧
    ((s.smuCh m).aper.any (fun a => decide (a.openAt ≤ s.tb.loc) && decide (s.tb.loc < a.closeAt)) = true → t.bit F.SMU_QSTATUS_clamp_any (smuQ m) = true) ∧
    (t.smuCh m).aper = (s.smuCh m).aper.map (fun a => if a.openAt ≤ s.tb.loc ∧ s.tb.loc < a.closeAt then { a with clamp := true } else a) ∧
    t = { s with regs := t.regs, hw := t.hw, smu := t.smu } ∧ sameButFields [(F.SMU_QSTATUS_clamp_any, smuQ m, 0)] s t) ∧
  (∀ (s : State) (m : Nat), m < 132 → s.smuConn m = true → ∃ t, exec (.smuClamp m false) s = .next t ∧
    t.smuCh m = { s.smuCh m with clamped := false } ∧ (∀ (j : Nat), j ≠ m → t.smuCh j = s.smuCh j) ∧ t = { s with smu := t.smu }) ∧
  (∀ (s : State) (m : Nat), m < 132 → s.smuConn m = true → s.smuAct F.SMU_CFG_fmode m ≠ 1 → s.smuBit F.SMU_STATE_kelvin_open m = false →
    ∃ t, exec (.kelvinOpen m) s = .next t ∧ t.smuBit F.SMU_STATE_kelvin_open m = true ∧ t.bit F.SMU_QSTATUS_kelvin_open (smuQ m) = true ∧
      (s.hearsAt (44 + smuQ m) t.tb.loc → t.srcSet (44 + smuQ m) = true) ∧
      (t.smuCh m).aper = (s.smuCh m).aper.map (fun a => if a.openAt ≤ s.tb.loc ∧ s.tb.loc < a.closeAt then { a with clamp := true } else a) ∧
      t = { s with regs := t.regs, hw := t.hw, smu := t.smu, fc := t.fc, freeCtr := t.freeCtr, nvm := t.nvm } ∧ sameBut [0x0D, 0x15] s t) ∧
  (∀ (s : State) (m : Nat) (i v : Int), m < 132 → ∃ t, exec (.smuDissipationSample m i v) s = .next t ∧
    t.smuCh m = { s.smuCh m with dissWin := (s.smuPower m i v :: (s.smuCh m).dissWin).take 100 } ∧ (∀ (j : Nat), j ≠ m → t.smuCh j = s.smuCh j) ∧
    t = { s with smu := t.smu })

/-- SMU autozero, repair, restore and envelopes. Plumb starts an autozero of an idle unit; offsets within four times the offset terms of the
factory values, and within one of the last ones, are taken and become pending corrections, which a unit in standby applies at once, and an
offset current further off is rejected, counted and reported by source 55. A repair of a position with a free spare begins; within 200 µs
after the owning site stands still the spare takes the position, or leaves it on a release, and the assignment is journaled. A restore
clears the derated bit, or answers FAULT_ACTIVE while the quadrant's source is set. Envelope writes are rounded to the inside and journaled.
Says that exec answers a next state, under conditions on the state and the operands alone, for: smuAutozeroStart, smuAutozeroComplete,
smuRepair, smuRepairComplete, smuRestore, smuEnvelopeWrite. -/
def Obligations.UnitCorrectionsAndRepair : Prop :=
  (∀ (s : State) (m : Nat), m < 132 → s.azMay m = true → ∃ t, exec (.smuAutozeroStart m) s = .next t ∧
    t.smuCh m = { s.smuCh m with azRun := some s.tb.loc } ∧ (∀ (j : Nat), j ≠ m → t.smuCh j = s.smuCh j) ∧ t = { s with smu := t.smu }) ∧
  (∀ (s : State) (m ir vr w : Nat) (i v : Int), (s.smuCh m).azRun = some w → s.ks.outage = false → m < 128 → s.smuBit F.SMU_STATE_spare m = false →
    (i - Config.factorySmu s.calData m ir).natAbs ≤ (4 * iOffTerm false ir).toNat →
    (v - Config.factorySmu s.calData m (16 + vr)).natAbs ≤ (4 * vOffTerm vr).toNat →
    (i - (Tbl.find (s.smuCh m).azI ir).getD (Config.factorySmu s.calData m ir)).natAbs ≤ (iOffTerm false ir).toNat →
    (v - (Tbl.find (s.smuCh m).azV vr).getD (Config.factorySmu s.calData m (16 + vr))).natAbs ≤ (vOffTerm vr).toNat →
    ∃ t, exec (.smuAutozeroComplete m ir vr i v) s = .next t ∧ (t.smuCh m).azRun = none ∧ (t.smuCh m).azAt = some s.now ∧
      Tbl.find (t.smuCh m).azI ir = some i ∧ Tbl.find (t.smuCh m).azV vr = some v ∧
      (s.smuConn m = true → (t.smuCh m).pendForce = some (s.quadTemp (smuQ m)) ∧ (t.smuCh m).pendMeas = some (s.quadTemp (smuQ m))) ∧
      (s.smuConn m = false → s.smuAperOpen m = false → (s.smuCh m).pulseEnd = none → (t.smuCh m).corrForce = s.quadTemp (smuQ m) ∧
        (t.smuCh m).corrMeas = s.quadTemp (smuQ m)) ∧ t = { s with smu := t.smu }) ∧
  (∀ (s : State) (m ir vr w : Nat) (i v : Int), (s.smuCh m).azRun = some w → s.ks.outage = false → m < 128 → s.smuBit F.SMU_STATE_spare m = false →
    (4 * iOffTerm false ir).toNat < (i - Config.factorySmu s.calData m ir).natAbs →
    ∃ t, exec (.smuAutozeroComplete m ir vr i v) s = .next t ∧
      t.smuCh m = { s.smuCh m with azRun := none, azRejects := (s.smuCh m).azRejects + 1 } ∧ t.bit F.SMU_QSTATUS_az_reject (smuQ m) = true ∧
      (s.hearsAt 55 t.tb.loc → t.srcSet 55 = true) ∧
      t = { s with regs := t.regs, hw := t.hw, smu := t.smu, fc := t.fc, freeCtr := t.freeCtr, nvm := t.nvm } ∧ sameBut [0x0D, 0x15] s t) ∧
  (∀ (s : State) (h : Hdr) (d : Sys2Proof.Data) (q : Nat), q < 4 → Ready s h → dataFits d tU8 → dNat d < 32 → Tbl.find s.smu.repair q = none →
    s.bit F.SMU_QSTATUS_spare_busy q = false → ∃ t, exec (.smuRepair h d q) s = .next t ∧ answered s t h eOk ∧
      Tbl.find t.smu.repair q = some ⟨dNat d, false, s.tb.loc⟩ ∧
      (∀ (x j : Nat), (s.smuCh (32 * q + dNat d)).owner = some x → j ∈ s.threadsOf x → s.running j = true → HoldSrc.repair ∈ (t.thr j).holds) ∧
      t = { s with smu := t.smu, seq := t.seq, adp := t.adp, out := t.out }) ∧
  (∀ (s : State) (q : Nat) (r : RepairRun), q < 4 → r.pin < 32 → Tbl.find s.smu.repair q = some r → s.smuHeld (32 * q + r.pin) = true →
    ∃ t, exec (.smuRepairComplete q) s = .next t ∧ Tbl.find t.smu.repair q = none ∧ t.bit F.SMU_QSTATUS_spare_busy q = !r.release ∧
      t.smuBit F.SMU_STATE_spare (32 * q + r.pin) = !r.release ∧ t.smuBit F.SMU_STATE_derated (32 * q + r.pin) = false ∧
      t.bit F.SMU_QSTATUS_swap_done q = true ∧ (r.release = false → t.fld F.SMU_QSTATUS_spare_pos q = r.pin) ∧
      t.eth.jrn = s.eth.jrn ++ [{ key := odKey 0x4401 q, val := toBe 1 (if r.release then 0xFF else r.pin) }] ∧
      s.tb.loc ≤ t.tb.loc ∧ t.tb.loc ≤ max s.tb.loc ((match (s.smuCh (32 * q + r.pin)).owner with | some x => s.stillSince x r.began | none => r.began) + us 200) ∧
      t = { s with regs := t.regs, hw := t.hw, smu := t.smu, seq := t.seq, fc := t.fc, eth := t.eth, nvm := t.nvm, tb := t.tb, freeCtr := t.freeCtr } ∧
      sameBut [0x0A, 0x0D] s t) ∧
  (∀ (s : State) (h : Hdr) (d : Sys2Proof.Data) (m : Nat), m < 132 → Ready s h → dTrue d → s.smuBit F.SMU_STATE_derated m = true →
    s.srcSet (44 + smuQ m) = false → ∃ t, exec (.smuRestore h d m) s = .next t ∧ answered s t h eOk ∧ t.smuBit F.SMU_STATE_derated m = false ∧
      t = { s with regs := t.regs, hw := t.hw, adp := t.adp, out := t.out } ∧ sameButFields [(F.SMU_STATE_derated, smuQ m, smuN m)] s t) ∧
  (∀ (s : State) (h : Hdr) (d : Sys2Proof.Data) (m : Nat), m < 132 → Ready s h → dTrue d → s.smuBit F.SMU_STATE_derated m = true →
    s.srcSet (44 + smuQ m) = true → ∃ t, exec (.smuRestore h d m) s = .next t ∧ answered s t h eFaultActive ∧
      t = { s with adp := t.adp, out := t.out }) ∧
  (∀ (s : State) (h : Hdr) (d : Sys2Proof.Data) (m : Nat), m < 128 → Ready s h → d.ty = tBlob → d.bytes.length = 16 →
    ∃ t, exec (.smuEnvelopeWrite h d m false) s = .next t ∧ journaling s t h (odKey 0x4009 m) d.bytes ∧
      t.smuFld F.SMU_ENV_V_vmin_mv m = ofSigned 16 (clampInt (-32768) 32767 (ceilDivInt (toSigned 64 (dSub d 0 8)) 1000000)) ∧
      t.smuFld F.SMU_ENV_V_vmax_mv m = ofSigned 16 (clampInt (-32768) 32767 (toSigned 64 (dSub d 8 8) / 1000000)) ∧
      t = { s with regs := t.regs, hw := t.hw, dict := t.dict, eth := t.eth, adp := t.adp } ∧
      sameButFields [(F.SMU_ENV_V_vmin_mv, smuQ m, smuN m), (F.SMU_ENV_V_vmax_mv, smuQ m, smuN m)] s t) ∧
  (∀ (s : State) (h : Hdr) (d : Sys2Proof.Data) (m : Nat), m < 128 → Ready s h → dataFits d tI64 →
    ∃ t, exec (.smuEnvelopeWrite h d m true) s = .next t ∧ journaling s t h (odKey 0x400A m) d.bytes ∧
      t.smuFld F.SMU_ENV_I_imax_ua m = (clampInt 0 1048575 (dInt d / 1000000000)).toNat ∧
      t = { s with regs := t.regs, hw := t.hw, dict := t.dict, eth := t.eth, adp := t.adp } ∧ sameButFields [(F.SMU_ENV_I_imax_ua, smuQ m, smuN m)] s t)

/-- Waveform starts, stops and samples. A WAV_START at its queue's head leaves it at its instant; in Safe it is discarded and counted; a source
copy outside Survey with its reservation makes the source group active, anchors the sample grid and plays; without the reservation it is
ignored. A WAV_STOP of the source freezes the generator, ramps to zero or opens the switch; one of the digitizer ends the capture. An
internal sample comes 25 ns after the one before, through the slew limiter and the envelope. A one-shot end, an underrun and a current limit
set their bits. Says that exec answers a next state, under conditions on the state and the operands alone, for: wavStart, wavStop,
wavInternalSample, wavOneShotDone, wavUnderrun, wavCurrentLimit. -/
def Obligations.WaveformSource : Prop :=
  (∀ (s : State) (hf : Nat) (r : LaunchRec) (rest : List LaunchRec), hf < 2 → s.queue (36 + hf) = r :: rest → r.action = 0x20 →
    (∀ p ∈ s.md.pend, ∀ (a : Nat), p.t = some a → r.exec < a) → ∃ t, exec (.wavStart hf) s = .next t ∧ t.queue (36 + hf) = rest ∧ t.now = max s.now r.exec ∧
      (s.inSafe = true → t.md.limitCount = s.md.limitCount + 1 ∧ t.act = s.act ∧ t.wav = s.wav ∧ sameBut [0x02, 0x15] s t) ∧
      (s.inSafe = false → s.md.mode ≠ .survey → r.target < 32 → s.bit F.WAV_HCTRL_en hf = true →
        s.wavBit F.WAV_STATE_derated (32 * hf + r.target) = false → r.payload.testBit 46 = true → r.payload.testBit 45 = false →
        s.fld F.WAV_CFG_src_en hf r.target = 1 → (s.fld F.WAV_CFG_kind hf r.target ≠ 0 ∨ s.wav.srcMask.testBit (32 * hf + r.target) = true) →
        (∀ f ∈ srcGroup, t.actFld f hf r.target = s.fld f hf r.target % 2 ^ f.wid) ∧ t.wavBit F.WAV_STATE_playing (32 * hf + r.target) = true ∧
        t.wavBit F.WAV_STATE_connected (32 * hf + r.target) = true ∧ (t.wavCh (32 * hf + r.target)).anchor = t.tb.loc ∧
        (t.wavCh (32 * hf + r.target)).n = 0 ∧ (t.wavCh (32 * hf + r.target)).frozen = false) ∧
      (s.inSafe = false → r.target < 32 → s.bit F.WAV_HCTRL_en hf = true → s.wavBit F.WAV_STATE_derated (32 * hf + r.target) = false →
        r.payload.testBit 46 = true → r.payload.testBit 45 = false → s.fld F.WAV_CFG_src_en hf r.target = 1 → s.fld F.WAV_CFG_kind hf r.target = 0 →
        s.wav.srcMask.testBit (32 * hf + r.target) = false → t.act = s.act ∧ t.bit F.WAV_HSTATUS_no_rsv hf = true) ∧
      (s.inSafe = false → r.target < 32 → s.bit F.WAV_HCTRL_en hf = true → s.wavBit F.WAV_STATE_derated (32 * hf + r.target) = false →
        r.payload.testBit 46 = false → r.payload.testBit 45 = true → s.fld F.WAV_CFG_dig_en hf r.target = 1 →
        s.wav.digMask.testBit (32 * hf + r.target) = true →
        (∀ f ∈ digFlds, t.actFld f hf r.target = s.fld f hf r.target % 2 ^ f.wid) ∧ t.wavBit F.WAV_STATE_capturing (32 * hf + r.target) = true ∧
        ∃ (c : Capture), (t.wavCh (32 * hf + r.target)).caps.getLast? = some c ∧ c.isOpen = true ∧ c.start = t.tb.loc ∧ c.site = r.site ∧
          c.slot = (if r.payload.testBit 43 then some (bitsAt r.payload 42 35) else none)) ∧
      t = { s with act := t.act, acq := t.acq, fc := t.fc, freeCtr := t.freeCtr, nvm := t.nvm, lq := t.lq, lqLast := t.lqLast, md := t.md, mem := t.mem,
                   regs := t.regs, hw := t.hw, rk := t.rk, seq := t.seq, tb := t.tb, wav := t.wav, tally := t.tally, bonds := t.bonds } ∧
      (r.payload.testBit 45 = false → t.acq = s.acq ∧ t.mem = s.mem) ∧ sameBut [0x02, 0x0A, 0x0E, 0x0F, 0x15] s t) ∧
  (∀ (s : State) (hf : Nat) (r : LaunchRec) (rest : List LaunchRec), hf < 2 → s.queue (36 + hf) = r :: rest → r.action = 0x21 →
    (∀ p ∈ s.md.pend, ∀ (a : Nat), p.t = some a → r.exec < a) → ∃ t, exec (.wavStop hf) s = .next t ∧ t.queue (36 + hf) = rest ∧ t.now = max s.now r.exec ∧
      (s.inSafe = true → t.md.limitCount = s.md.limitCount + 1 ∧ t.wav = s.wav ∧ sameBut [0x02, 0x15] s t) ∧
      (s.inSafe = false → r.target < 32 → r.payload.testBit 46 = true → t.wavBit F.WAV_STATE_playing (32 * hf + r.target) = false ∧
        (t.wavCh (32 * hf + r.target)).frozen = true ∧
        (r.payload.testBit 44 = true → (t.wavCh (32 * hf + r.target)).toZero = true ∧
          (t.wavCh (32 * hf + r.target)).openAfter = r.payload.testBit 43) ∧
        (r.payload.testBit 44 = false → r.payload.testBit 43 = true → t.wavBit F.WAV_STATE_connected (32 * hf + r.target) = false)) ∧
      (s.inSafe = false → r.target < 32 → r.payload.testBit 45 = true → t.capturing (32 * hf + r.target) = false) ∧
      t = { s with acq := t.acq, fc := t.fc, freeCtr := t.freeCtr, nvm := t.nvm, lq := t.lq, lqLast := t.lqLast, md := t.md, mem := t.mem, regs := t.regs, hw := t.hw,
                   rk := t.rk, seq := t.seq, tb := t.tb, wav := t.wav, tally := t.tally, bonds := t.bonds } ∧
      (r.payload.testBit 45 = false → t.acq = s.acq ∧ t.mem = s.mem) ∧ sameBut [0x02, 0x0A, 0x0E, 0x0F, 0x15] s t) ∧
  (∀ (s : State) (w : Nat), w < 64 → s.wavBit F.WAV_STATE_connected w = true → ∃ t, exec (.wavInternalSample w) s = .next t ∧
    t.tb.loc = max s.tb.loc ((s.wavCh w).anchor + (s.wavCh w).n * ns 25) ∧ (t.wavCh w).n = (s.wavCh w).n + 1 ∧
    ((s.wavCh w).toZero = false → (t.wavCh w).dac = clampInt (s.wavEnv w).1 (s.wavEnv w).2 (t.wavCh w).out) ∧
    ((s.wavCh w).toZero = false → (s.wavCh w).safeRamp = false → s.wavAct F.WAV_SLEW_STEP_code w ≠ 0 → s.slewShort w = false →
      ((t.wavCh w).out - (s.wavCh w).out).natAbs ≤ 16 * s.wavAct F.WAV_SLEW_STEP_code w) ∧
    ((s.wavCh w).frozen = false → (s.wavCh w).held = false → s.wavKind w = 1 → (s.wavCh w).toZero = false →
      (t.wavCh w).gen = sat24 (sineValue (s.wavCh w).phase (s.wavAct F.WAV_AMP_code w) (toSigned 20 (s.wavAct F.WAV_OFS_code w))) ∧
      (t.wavCh w).phase = ((s.wavCh w).phase + s.wavInc w) % 2 ^ 48) ∧
    ((s.wavCh w).frozen = false → (s.wavCh w).held = false → s.wavKind w = 2 → (s.wavCh w).toZero = false →
      (t.wavCh w).gen = 16 * toSigned 20 (s.wavAct F.WAV_OFS_code w)) ∧
    (∀ (j : Nat), j ≠ w → t.wavCh j = s.wavCh j) ∧
    t = { s with fc := t.fc, freeCtr := t.freeCtr, nvm := t.nvm, regs := t.regs, hw := t.hw, rk := t.rk, seq := t.seq, tb := t.tb, wav := t.wav } ∧ sameBut [0x0E, 0x15] s t) ∧
  (∀ (s : State) (w : Nat), w < 64 → s.wavBit F.WAV_STATE_playing w = true → s.wavKind w = 0 → s.wavAct F.WAV_CFG_buf_mode w = 1 →
    (s.wavCh w).played = false → (s.wavCh w).held = false → ∃ t, exec (.wavOneShotDone w) s = .next t ∧ t.wavBit F.WAV_STATE_done w = true ∧
      t.wavCh w = { s.wavCh w with played := true, gen := 16 * s.srcSample w (s.srcLen w - 1) } ∧
      t = { s with regs := t.regs, hw := t.hw, tb := t.tb, wav := t.wav } ∧ sameButFields [(F.WAV_STATE_done, w / 32, w % 32)] s t) ∧
  (∀ (s : State) (w : Nat), w < 64 → s.wavBit F.WAV_STATE_playing w = true → s.wavKind w = 0 → (s.wavCh w).played = false →
    (s.wavCh w).held = false → (s.wavAct F.WAV_CFG_buf_mode w = 2 ∨ (s.wavCh w).lateHead = true ∨ s.corruptLine (s.srcLine w) = true) →
    ∃ t, exec (.wavUnderrun w) s = .next t ∧ t.wavCh w = { s.wavCh w with held := true, flagAt := some s.tb.loc } ∧
      t.wavBit F.WAV_STATE_underrun w = true ∧ t.bitOf F.WAV_FLAG_LATCH_latch (w / 32) 0 (w % 32) = true ∧
      t.bit F.WAV_HSTATUS_underrun_any (w / 32) = true ∧ (s.hearsAt (48 + w / 32) t.tb.loc → t.srcSet (48 + w / 32) = true) ∧
      t = { s with fc := t.fc, freeCtr := t.freeCtr, nvm := t.nvm, regs := t.regs, hw := t.hw, wav := t.wav } ∧ sameBut [0x0E, 0x15] s t) ∧
  (∀ (s : State) (w : Nat), w < 64 → s.wavBit F.WAV_STATE_connected w = true → ∃ t, exec (.wavCurrentLimit w true) s = .next t ∧
    t.wavBit F.WAV_STATE_ilim w = true ∧ t.bit F.WAV_HSTATUS_ilim_any (w / 32) = true ∧
    t.bitOf F.WAV_FLAG_LATCH_latch (w / 32) 0 (w % 32) = true ∧ t = { s with regs := t.regs, hw := t.hw, rk := t.rk, seq := t.seq, wav := t.wav } ∧ sameBut [0x0E] s t) ∧
  (∀ (s : State) (w : Nat), w < 64 → s.wavBit F.WAV_STATE_connected w = true → ∃ t, exec (.wavCurrentLimit w false) s = .next t ∧
    t.wavBit F.WAV_STATE_ilim w = false ∧ t = { s with regs := t.regs, hw := t.hw } ∧ sameButFields [(F.WAV_STATE_ilim, w / 32, w % 32)] s t)

/-- Waveform captures, flags, reservations, Plumb checks and envelopes. The oldest capture ends with its samples in the unit's buffer where the
unit is enabled; a reduction goes to its slot, and a saturated sample of a capture without one marks its site's step. A flag clear takes one
latch bit back, but not at the instant of a set (R380). The reservation masks are taken if the calendar holds them, else CALENDAR_FULL
changes nothing. A Plumb check starts on an idle channel; terms within their tolerances are taken, their correction pending while the source
is connected, and terms further than four tolerances off are rejected, counted and reported by source 55. A restore clears the derated bit;
an envelope write is rounded to the inside and journaled. Says that exec answers a next state, under conditions on the state and the
operands alone, for: wavCaptureEnd, wavReductionDelivery, wavFlagClear, wavReservationWrite, wavPlumbCheck, wavRestore, wavEnvelopeWrite. -/
def Obligations.WaveformUpkeep : Prop :=
  (∀ (s : State) (w : Nat) (codes : List Int) (c : Capture) (rest : List Capture), w < 64 → (s.wavCh w).caps = c :: rest →
    ¬(c.isOpen = true ∧ (s.unit (64 + w)).arm.isSome = true) → ∃ t, exec (.wavCaptureEnd w codes) s = .next t ∧ (t.wavCh w).caps = rest ∧
      t.tb.loc = max s.tb.loc (c.start + (c.len - 1) * sec / c.fs) ∧ (c.isOpen = true → t.wavBit F.WAV_STATE_capturing w = false) ∧
      (∀ (k : Nat), c.slot = some k → ∃ (r : Reduction), (t.wavCh w).red = (s.wavCh w).red ++ [r] ∧ r.slot = some k ∧ r.site = c.site ∧
        r.sat = (codes.take c.len).any (fun v => decide (v < -8808038 ∨ 8808038 < v))) ∧
      (s.unitEn (64 + w) = false → t.mem = s.mem ∧ t.acq = s.acq) ∧
      (c.slot ≠ none ∨ (codes.take c.len).any (fun v => decide (v < -8808038 ∨ 8808038 < v)) = false → t.rk = s.rk ∧ t.seq = s.seq) ∧
      (∀ (a : Nat), (∀ (p j : Nat), p < max 1 (s.bufCap (64 + w)) → j < 4 → a ≠ s.bufAddr (64 + w) p + j) → t.byte a = s.byte a) ∧
      t = { s with acq := t.acq, freeCtr := t.freeCtr, mem := t.mem, regs := t.regs, hw := t.hw, rk := t.rk, seq := t.seq, tb := t.tb, wav := t.wav } ∧
      sameBut [0x0E, 0x0F] s t) ∧
  (∀ (s : State) (w : Nat) (r : Reduction) (rest : List Reduction), (s.wavCh w).red = r :: rest →
    ∃ (t : State) (a : Arrival), exec (.wavReductionDelivery w) s = .next t ∧ t.tb.loc = max s.tb.loc r.due ∧ t.wavCh w = { s.wavCh w with red := rest, lastRed := r.value } ∧
      t.rk = { s.rk with inbox := s.rk.inbox ++ [a] } ∧ a.site = r.site ∧ a.slot = r.slot ∧ a.value = r.value ∧ a.clamp = r.sat ∧
      t = { s with rk := t.rk, tb := t.tb, wav := t.wav }) ∧
  (∀ (s : State) (w : Nat), w < 64 → (s.wavCh w).flagAt = some s.tb.loc → exec (.wavFlagClear .reg w) s = .next s) ∧
  (∀ (s : State) (w : Nat), w < 64 → (s.wavCh w).flagAt ≠ some s.tb.loc → ∃ t, exec (.wavFlagClear .reg w) s = .next t ∧ t.bitOf F.WAV_FLAG_LATCH_latch (w / 32) 0 (w % 32) = false ∧
    (∀ k, k < 32 → k ≠ w % 32 → t.bitOf F.WAV_FLAG_LATCH_latch (w / 32) 0 k = s.bitOf F.WAV_FLAG_LATCH_latch (w / 32) 0 k) ∧
    t = { s with regs := t.regs, hw := t.hw } ∧ sameButFields [(F.WAV_FLAG_LATCH_latch, w / 32, 0)] s t) ∧
  (∀ (s : State) (h : Hdr) (d : Sys2Proof.Data) (w : Nat), w < 64 → Ready s h → dTrue d → (s.wavCh w).flagAt ≠ some s.tb.loc →
    ∃ t, exec (.wavFlagClear (.od h d) w) s = .next t ∧
    answered s t h eOk ∧ t.bitOf F.WAV_FLAG_LATCH_latch (w / 32) 0 (w % 32) = false ∧
    t = { s with regs := t.regs, hw := t.hw, adp := t.adp, out := t.out } ∧ sameButFields [(F.WAV_FLAG_LATCH_latch, w / 32, 0)] s t) ∧
  (∀ (s : State) (h : Hdr) (d : Sys2Proof.Data), Ready s h → d.ty = tBlob → d.bytes.length = 16 →
    ({ s with wav := { s.wav with srcMask := dSub d 0 8, digMask := dSub d 8 8 } } : State).fits s.md.mode = true →
    ∃ t, exec (.wavReservationWrite h d) s = .next t ∧ answered s t h eOk ∧
      t = { s with wav := { s.wav with srcMask := dSub d 0 8, digMask := dSub d 8 8 }, adp := t.adp, out := t.out }) ∧
  (∀ (s : State) (h : Hdr) (d : Sys2Proof.Data), Ready s h → d.ty = tBlob → d.bytes.length = 16 →
    ({ s with wav := { s.wav with srcMask := dSub d 0 8, digMask := dSub d 8 8 } } : State).fits s.md.mode = false →
    ∃ t, exec (.wavReservationWrite h d) s = .next t ∧ answered s t h eCalendarFull ∧ t = { s with adp := t.adp, out := t.out }) ∧
  (∀ (s : State) (w : Nat), w < 64 → s.wavCheckMay w = true → ∃ t, exec (.wavPlumbCheck w none) s = .next t ∧
    t.wavCh w = { s.wavCh w with plumbRun := some s.tb.loc } ∧ (∀ (j : Nat), j ≠ w → t.wavCh j = s.wavCh j) ∧ t = { s with wav := t.wav }) ∧
  (∀ (s : State) (w rng : Nat) (terms : List Int) (tol : List Nat), w < 64 → s.ks.outage = false → (s.wavCh w).plumbRun ≠ none → terms.length = 4 →
    rng = s.wavAct F.WAV_CFG_dig_range w → tol = [20000, 50000, 20000, if rng = 1 then 5000 else 30000] →
    (∀ k, k < 4 → (terms[k]?.getD 0 - Config.factoryWav s.calData w rng k).natAbs ≤ 4 * tol[k]?.getD 0) →
    (∀ k, k < 4 → (terms[k]?.getD 0 - (Tbl.find (s.wavCh w).plumbVals (4 * rng + k)).getD (Config.factoryWav s.calData w rng k)).natAbs ≤
      tol[k]?.getD 0) → ∃ t, exec (.wavPlumbCheck w (some terms)) s = .next t ∧ (t.wavCh w).plumbRun = none ∧ (t.wavCh w).plumbAt = some s.now ∧
      (∀ k, k < 4 → Tbl.find (t.wavCh w).plumbVals (4 * rng + k) = terms[k]?) ∧
      (s.wavBit F.WAV_STATE_connected w = true → (t.wavCh w).pendSrc = some (s.halfTemp (w / 32))) ∧
      (s.wavBit F.WAV_STATE_connected w = false → (t.wavCh w).corrSrc = s.halfTemp (w / 32)) ∧ t = { s with wav := t.wav }) ∧
  (∀ (s : State) (w k : Nat) (terms : List Int), w < 64 → s.ks.outage = false → (s.wavCh w).plumbRun ≠ none → k < 4 →
    200000 < (terms[k]?.getD 0 - Config.factoryWav s.calData w (s.wavAct F.WAV_CFG_dig_range w) k).natAbs →
    ∃ t, exec (.wavPlumbCheck w (some terms)) s = .next t ∧
      t.wavCh w = { s.wavCh w with plumbRun := none, plumbRejects := (s.wavCh w).plumbRejects + 1 } ∧
      t.bit F.WAV_HSTATUS_plumb_reject (w / 32) = true ∧ (s.hearsAt 55 t.tb.loc → t.srcSet 55 = true) ∧
      t = { s with fc := t.fc, freeCtr := t.freeCtr, nvm := t.nvm, regs := t.regs, hw := t.hw, wav := t.wav } ∧ sameBut [0x0E, 0x15] s t) ∧
  (∀ (s : State) (h : Hdr) (d : Sys2Proof.Data) (w : Nat), w < 64 → Ready s h → dTrue d → ∃ t, exec (.wavRestore h d w) s = .next t ∧
    answered s t h eOk ∧ t.wavBit F.WAV_STATE_derated w = false ∧ t = { s with regs := t.regs, hw := t.hw, adp := t.adp, out := t.out } ∧
    sameButFields [(F.WAV_STATE_derated, w / 32, w % 32)] s t) ∧
  (∀ (s : State) (h : Hdr) (d : Sys2Proof.Data) (w : Nat), w < 64 → Ready s h → d.ty = tBlob → d.bytes.length = 16 →
    ∃ t, exec (.wavEnvelopeWrite h d w) s = .next t ∧ journaling s t h (odKey 0x480B w) d.bytes ∧
      t.wavFld F.WAV_ENV_vmin_mv w = ofSigned 16 (clampInt (-32768) 32767 (ceilDivInt (toSigned 64 (dSub d 0 8)) 1000000)) ∧
      t.wavFld F.WAV_ENV_vmax_mv w = ofSigned 16 (clampInt (-32768) 32767 (toSigned 64 (dSub d 8 8) / 1000000)) ∧
      t = { s with regs := t.regs, hw := t.hw, dict := t.dict, eth := t.eth, adp := t.adp } ∧
      sameButFields [(F.WAV_ENV_vmin_mv, w / 32, w % 32), (F.WAV_ENV_vmax_mv, w / 32, w % 32)] s t)

/-- Trigger events, software events and the TRIG_OUT and MARKER balls. An event of an enabled trigger unit within 2 ns of the last one is merged
with it; before the count it is counted; at the count the unit fires once at the event's instant and counts anew. A ready Owner write of 1
to the software event of a unit whose source is software is such an event now. A TRIG_OUT or MARKER_OUT record at its queue's head sets,
clears or pulses its ball outside Safe where the ball is selected for records, and else changes no ball; a MARKER ball that is high still
listens to what raised it (R230), and a record that executes late is counted and reported by source 39 (R56). Says that exec answers a next
state, under conditions on the state and the operands alone, for: triggerEvent, softwareEvent, trigOut, markerOut. -/
def Obligations.TriggersAndBalls : Prop :=
  (∀ (s : State) (n a l : Nat), n < 16 → outsideSrc (s.fld F.TRG_CFG_src 0 n) = true → s.fld F.TRG_CFG_edge 0 n ≠ 0 →
    s.bit F.TRG_CFG_en 0 n = true → (s.trg n).lastEvent = some l → a < l + ns 2 → ∃ t, exec (.triggerEvent n a) s = .next t ∧
      t.now = max s.now (a + s.trigDelay n) ∧ t.trg n = { s.trg n with lastEvent := some a } ∧ t.acq.un = s.acq.un ∧ t = { s with acq := t.acq, tb := t.tb }) ∧
  (∀ (s : State) (n a : Nat), n < 16 → outsideSrc (s.fld F.TRG_CFG_src 0 n) = true → s.fld F.TRG_CFG_edge 0 n ≠ 0 →
    s.bit F.TRG_CFG_en 0 n = true → (∀ (l : Nat), (s.trg n).lastEvent = some l → l + ns 2 ≤ a) → (s.trg n).events + 1 < max 1 (s.fld F.TRG_COUNT_count 0 n) →
    ∃ t, exec (.triggerEvent n a) s = .next t ∧ t.now = max s.now (a + s.trigDelay n) ∧
      t.trg n = { s.trg n with lastEvent := some a, events := (s.trg n).events + 1 } ∧ t.acq.un = s.acq.un ∧ t = { s with acq := t.acq, tb := t.tb }) ∧
  (∀ (s : State) (n a : Nat), n < 16 → outsideSrc (s.fld F.TRG_CFG_src 0 n) = true → s.fld F.TRG_CFG_edge 0 n ≠ 0 →
    s.bit F.TRG_CFG_en 0 n = true → (∀ (l : Nat), (s.trg n).lastEvent = some l → l + ns 2 ≤ a) → max 1 (s.fld F.TRG_COUNT_count 0 n) ≤ (s.trg n).events + 1 →
    ∃ t, exec (.triggerEvent n a) s = .next t ∧ t.now = max s.now (a + s.trigDelay n) ∧
      t.trg n = { s.trg n with lastEvent := some a, events := 0, fires := (s.trg n).fires + 1, lastFire := a } ∧
      t.bitOf F.TRG_STATUS_fired 0 0 n = true ∧ t = { s with acq := t.acq, regs := t.regs, hw := t.hw, seq := t.seq, tb := t.tb } ∧
      sameBut [0x0A, 0x0F, 0x10] s t) ∧
  (∀ (s : State) (h : Hdr) (d : Sys2Proof.Data) (n : Nat), n < 16 → Ready s h → dTrue d → s.fld F.TRG_CFG_src 0 n = 0x0A →
    s.bit F.TRG_CFG_en 0 n = true → (∀ (l : Nat), (s.trg n).lastEvent = some l → l + ns 2 ≤ s.now) → max 1 (s.fld F.TRG_COUNT_count 0 n) ≤ (s.trg n).events + 1 →
    ∃ t, exec (.softwareEvent h d n) s = .next t ∧ answered s t h eOk ∧
      t.trg n = { s.trg n with lastEvent := some s.now, events := 0, fires := (s.trg n).fires + 1, lastFire := s.now } ∧
      t.bitOf F.TRG_STATUS_fired 0 0 n = true ∧ t = { s with acq := t.acq, regs := t.regs, hw := t.hw, seq := t.seq, adp := t.adp, out := t.out } ∧
      sameBut [0x0A, 0x0F, 0x10] s t) ∧
  (∀ (s : State) (r : LaunchRec) (rest : List LaunchRec), s.queue 39 = r :: rest → r.action = 0x40 → r.target < 4 →
    (∀ p ∈ s.md.pend, ∀ (a : Nat), p.t = some a → r.exec < a) → ∃ t, exec .trigOut s = .next t ∧ t.queue 39 = rest ∧ t.now = max s.now r.exec ∧
      (s.inSafe = true ∨ s.fld F.TRG_OUT_CFG_src 0 r.target ≠ 32 → t.acq = s.acq) ∧
      (s.inSafe = false → s.fld F.TRG_OUT_CFG_src 0 r.target = 32 → bitsAt r.payload 46 45 = 0 → t.ball r.target = ⟨false, none⟩) ∧
      (s.inSafe = false → s.fld F.TRG_OUT_CFG_src 0 r.target = 32 → bitsAt r.payload 46 45 = 1 → t.ball r.target = ⟨true, none⟩) ∧
      (s.inSafe = false → s.fld F.TRG_OUT_CFG_src 0 r.target = 32 → bitsAt r.payload 46 45 = 2 →
        t.ball r.target = ⟨true, some (t.now + ns (max 2 (r.payload % 4294967296)))⟩) ∧ (∀ (k : Nat), k ≠ r.target → t.ball k = s.ball k) ∧
      (r.late = true → t.tb.lateCount = s.tb.lateCount + 1 ∧ t.bit F.TB_STATUS_late = true ∧ (s.hearsAt 39 t.tb.loc → t.srcSet 39 = true)) ∧
      (r.late = false → t.tb.lateCount = s.tb.lateCount ∧ t.regs = s.regs ∧ t.fc = s.fc) ∧
      t = { s with acq := t.acq, lq := t.lq, lqLast := t.lqLast, rk := t.rk, seq := t.seq, tb := t.tb, regs := t.regs, hw := t.hw, fc := t.fc, freeCtr := t.freeCtr, nvm := t.nvm, tally := t.tally, bonds := t.bonds } ∧ sameBut [0x02, 0x15] s t) ∧
  (∀ (s : State) (r : LaunchRec) (rest : List LaunchRec), s.queue 39 = r :: rest → r.action = 0x41 → r.target < 4 →
    (∀ p ∈ s.md.pend, ∀ (a : Nat), p.t = some a → r.exec < a) → ∃ (t : State) (b : MarkerBall), exec .markerOut s = .next t ∧ t.queue 39 = rest ∧
      t.now = max s.now r.exec ∧ b = (s.marker r.target).settle t.tb.loc ∧
      (s.inSafe = true ∨ s.markSrc r.target b ≠ 32 → t.pat = s.pat ∧ t.acq = s.acq) ∧
      (s.inSafe = false → s.markSrc r.target b = 32 → bitsAt r.payload 46 45 = 0 → (t.marker r.target).last = false ∧
        (b.high = false → (t.marker r.target).due = [])) ∧
      (s.inSafe = false → s.markSrc r.target b = 32 → bitsAt r.payload 46 45 = 1 → (t.marker r.target).last = true ∧
        (b.high = false → (t.marker r.target).due = [((t.tb.loc : Int), true)])) ∧
      (s.inSafe = false → s.markSrc r.target b = 32 → bitsAt r.payload 46 45 = 2 → (t.marker r.target).last = false ∧
        (b.high = false → (t.marker r.target).due =
          [((t.tb.loc : Int), true), (((t.tb.loc + ns (max 2 (r.payload % 4294967296)) : Nat) : Int), false)])) ∧
      (∀ (k : Nat), k ≠ r.target → t.marker k = s.marker k) ∧ (s.unwatched (4 + r.target) → t.acq = s.acq) ∧
      t = { s with pat := t.pat, acq := t.acq, lq := t.lq, lqLast := t.lqLast, rk := t.rk, seq := t.seq, tb := t.tb, regs := t.regs, hw := t.hw, fc := t.fc, freeCtr := t.freeCtr, nvm := t.nvm, tally := t.tally, bonds := t.bonds } ∧
      sameBut [0x02, 0x0A, 0x0F, 0x10, 0x15] s t)

/-- Arming, sampling, completing and disarming acquisition units. An ACQ_ARM at its queue's head leaves it at its instant; in Safe it is
discarded; a unit not enabled keeps its arm and sets no_rsv; an enabled one is armed with its effective counts, or disarmed. OD 0x7008
enters such a record 10 µs ahead. DISARM_ALL leaves no unit armed. A full segment is filed in the log with the next number and ends its arm
after the last segment. A dead time and a hold-off by time end at their instants; an SMU unit takes one sample an interval. Says that exec
answers a next state, under conditions on the state and the operands alone, for: acqArm, armNow, disarmAll, acqSegmentComplete, deadTimeEnd,
holdOffEnd, smuIntervalSample. -/
def Obligations.AcquisitionArms : Prop :=
  (∀ (s : State) (r : LaunchRec) (rest : List LaunchRec) (u : Nat), s.queue 39 = r :: rest → r.action = 0x48 → u = bitsAt r.payload 46 38 →
    u < 264 → (u < 32 ∨ 64 ≤ u) → (∀ p ∈ s.md.pend, ∀ (a : Nat), p.t = some a → r.exec < a) →
    (128 ≤ u → u < 136 → s.md.mode = .lineRate ∨ s.md.mode = .survey) → ∃ t, exec .acqArm s = .next t ∧ t.queue 39 = rest ∧ t.now = max s.now r.exec ∧
      (s.inSafe = true → t.md.limitCount = s.md.limitCount + 1 ∧ t.acq = s.acq) ∧
      (s.inSafe = false → s.unitEn u = false → t.acq = s.acq ∧ t.bit F.ACQ_STATUS_no_rsv = true ∧ (s.hearsAt 57 t.tb.loc → t.srcSet 57 = true)) ∧
      (s.inSafe = false → s.unitEn u = true → (64 ≤ u → u < 128 → s.wav.digMask.testBit (u - 64) = true) → r.payload.testBit 32 = true →
        (t.unit u).arm = none ∧ t.fld F.ACQ_USTAT_state 0 u = 0) ∧
      (s.inSafe = false → s.unitEn u = true → (64 ≤ u → u < 128 → s.wav.digMask.testBit (u - 64) = true) → r.payload.testBit 32 = false →
        (∃ (a : Arm), (t.unit u).arm = some a ∧ a.at_ = t.now ∧ a.tunit = bitsAt r.payload 37 34 ∧ a.imm = r.payload.testBit 33 ∧ a.site = r.site) ∧
        t.fld F.ACQ_EPOST_count 0 u = min (max 1 (s.fld F.ACQ_POST_count 0 u)) (s.bufCap u) % 2 ^ 32 ∧ t.fld F.ACQ_USTAT_segs 0 u = 0 ∧
        (t.unit u).filed = 0 ∧ (t.unit u).post = 0 ∧
        (t.now ≠ (s.trg (bitsAt r.payload 37 34)).lastFire → t.fld F.ACQ_USTAT_state 0 u = (if r.payload.testBit 33 || s.still u then 2 else 1))) ∧
      (∀ (v : Nat), v ≠ u → t.unit v = s.unit v) ∧ ((s.unit u).hist = [] → ∀ a, a < 64 * 1064304640 → t.byte a = s.byte a) ∧
      t = { s with acq := t.acq, fc := t.fc, freeCtr := t.freeCtr, nvm := t.nvm, lq := t.lq, lqLast := t.lqLast, md := t.md, mem := t.mem, regs := t.regs, hw := t.hw,
                   rk := t.rk, seq := t.seq, tb := t.tb, wav := t.wav, tally := t.tally, bonds := t.bonds } ∧ sameBut [0x02, 0x0A, 0x0E, 0x0F, 0x15] s t) ∧
  (∀ (s : State) (h : Hdr) (d : Sys2Proof.Data), Ready s h → dataFits d tU64 → s.md.pend = [] → (s.queue 39).length < 1024 →
    (∀ r ∈ s.queue 39, r.inst ≠ s.now + us 10) →
    ∃ (t : State) (r : LaunchRec), exec (.armNow h d) s = .next t ∧ answered s t h eOk ∧ t.queue 39 = s.queue 39 ++ [r] ∧ r.inst = s.now + us 10 ∧ r.action = 0x48 ∧
      r.payload = clrBitAt (dNat d % 2 ^ 47) 15 ∧ t.acq = s.acq) ∧
  (∀ s : State, ∃ t, exec (.disarmAll .reg) s = .next t ∧ (∀ u, u < 264 → (t.unit u).arm = none) ∧
    (∀ (u : Nat), (s.unit u).arm = none → t.unit u = s.unit u) ∧
    ((∀ (u : Nat), (s.unit u).hist = []) → ∀ a, a < 64 * 1064304640 → t.byte a = s.byte a) ∧
    t = { s with acq := t.acq, fc := t.fc, freeCtr := t.freeCtr, nvm := t.nvm, mem := t.mem, regs := t.regs, hw := t.hw, rk := t.rk, seq := t.seq, wav := t.wav } ∧
    sameBut [0x0A, 0x0E, 0x0F, 0x15] s t) ∧
  (∀ (s : State) (h : Hdr) (d : Sys2Proof.Data), Ready s h → dTrue d → ∃ t, exec (.disarmAll (.od h d)) s = .next t ∧ answered s t h eOk ∧
    (∀ u, u < 264 → (t.unit u).arm = none) ∧ (∀ (u : Nat), (s.unit u).arm = none → t.unit u = s.unit u)) ∧
  (∀ (s : State) (u : Nat) (l : List Nat) (a : Arm), u < 264 → (u < 32 ∨ 64 ≤ u) → (64 ≤ u → u < 136 → l = []) → (s.unit u).arm = some a →
    (s.unit u).trig ≠ none → s.fld F.ACQ_EPOST_count 0 u ≤ (s.unit u).post → s.acq.queue.length < 512 →
    ∃ t, exec (.acqSegmentComplete u l) s = .next t ∧ t.now = max s.now ((s.unit u).lastAt + s.unitLatency u) ∧ t.acq.wseq = s.acq.wseq + 1 ∧
      (t.unit u).filed = (s.unit u).filed + 1 ∧ t.fld F.ACQ_USTAT_segs 0 u = ((s.unit u).filed + 1) % 2 ^ 16 ∧ (t.unit u).trig = none ∧
      (a.nseg ≤ (s.unit u).filed + 1 → (t.unit u).arm = none ∧ t.fld F.ACQ_USTAT_state 0 u = 5) ∧
      ((s.unit u).filed + 1 < a.nseg → (t.unit u).arm = some a) ∧ ((s.unit u).hist = [] → ∀ b, b < 64 * 1064304640 → t.byte b = s.byte b) ∧
      t = { s with acq := t.acq, fc := t.fc, freeCtr := t.freeCtr, nvm := t.nvm, mem := t.mem, regs := t.regs, hw := t.hw, rk := t.rk, seq := t.seq, tb := t.tb, wav := t.wav } ∧
      sameBut [0x0A, 0x0E, 0x0F, 0x15] s t) ∧
  (∀ (s : State) (u d : Nat), u < 264 → (s.unit u).deadFrom = some d → (s.unit u).trig = none → s.logFull = false →
    ∃ t, exec (.deadTimeEnd u) s = .next t ∧ t.now = max s.now (s.unit u).deadEnd ∧ (t.unit u).deadFrom = none ∧
      t.fld F.ACQ_DEAD_value 0 u = min 4294967295 ((t.now - d) / 4096) ∧ (∀ (v : Nat), v ≠ u → t.unit v = s.unit v) ∧
      t = { s with acq := t.acq, regs := t.regs, hw := t.hw, tb := t.tb } ∧ sameBut [0x0F] s t) ∧
  (∀ (s : State) (u : Nat), 64 ≤ u → u < 136 → (s.unit u).arm ≠ none → (s.unit u).deadFrom = none → 0 < (s.unit u).holdTo →
    ∃ t, exec (.holdOffEnd u) s = .next t ∧ t.now = max s.now (s.unit u).holdTo ∧ t.unit u = { s.unit u with holdTo := 0 } ∧
      (s.fld F.ACQ_USTAT_state 0 u = 4 → (s.unit u).holdN = 0 → t.fld F.ACQ_USTAT_state 0 u = 1) ∧
      (∀ (v : Nat), v ≠ u → t.unit v = s.unit v) ∧ t = { s with acq := t.acq, regs := t.regs, hw := t.hw, tb := t.tb } ∧
      sameButFields [(F.ACQ_USTAT_state, 0, u)] s t) ∧
  (∀ (s : State) (n : Nat) (mean : Int) (a : Arm), n < 128 → (s.unit (136 + n)).arm = some a → s.bit F.ACQ_CTRL_en = true → ∃ t, exec (.smuIntervalSample n mean) s = .next t ∧
    t.tb.loc = max s.tb.loc (a.loc + ((s.unit (136 + n)).count + 1) * us (clampNat 1 1000000 (s.fld F.ACQ_UCFG_interval_us 0 (136 + n))) + us 2) ∧
    (t.unit (136 + n)).count = (s.unit (136 + n)).count + 1 ∧
    (∀ (b : Nat), (∀ (p j : Nat), p < max 1 (s.bufCap (136 + n)) → j < 8 → b ≠ s.bufAddr (136 + n) p + j) → t.byte b = s.byte b) ∧
    (∀ (j : Nat), j ≠ n → t.smuCh j = s.smuCh j) ∧
    t = { s with acq := t.acq, mem := t.mem, regs := t.regs, hw := t.hw, smu := t.smu, tb := t.tb, freeCtr := t.freeCtr } ∧ sameBut [0x0F] s t)

/-- Enabling units, their settings, the read index and the capture log. A unit enabled by register takes effect if its buffer is placed and the
calendar holds it; if the calendar does not, cal_refused is set. A disable also ends its arm. A ready Owner write of its image with en 0
sets its fields, and is refused with BLOCK_ENABLED while it is enabled; of its buffer, staged counts or hold-off sets those; any other
function answers NO_SUBINDEX. The read index is what the host wrote last. An acknowledgement up to the last number frees the records it
covers; one beyond it is answered OK and leaves the acknowledged number open (R2, log entry 10). Says that exec answers a next state, under
conditions on the state and the operands alone, for: acqUnitEnable, acqUnitConfigWrite, acqReadIndexWrite, captureLogAcknowledge. -/
def Obligations.AcquisitionSettings : Prop :=
  (∀ (s : State) (u : Nat), u < 264 → ∃ t, exec (.acqUnitEnable .reg u false) s = .next t ∧ t.unitEn u = false ∧ (t.unit u).arm = none ∧
    (∀ (v : Nat), v ≠ u → t.unit v = s.unit v) ∧
    t = { s with acq := t.acq, fc := t.fc, freeCtr := t.freeCtr, nvm := t.nvm, mem := t.mem, regs := t.regs, hw := t.hw, rk := t.rk, seq := t.seq, wav := t.wav } ∧
    sameBut [0x0A, 0x0E, 0x0F, 0x15] s t) ∧
  (∀ (s : State) (u : Nat), u < 264 → s.unitEn u = false → s.bufPlaced u = true → (s.setBit F.ACQ_UCFG_en 0 u true).fits s.md.mode = true →
    exec (.acqUnitEnable .reg u true) s = .next (s.setBit F.ACQ_UCFG_en 0 u true)) ∧
  (∀ (s : State) (u : Nat), u < 264 → s.unitEn u = false → s.bufPlaced u = true → (s.setBit F.ACQ_UCFG_en 0 u true).fits s.md.mode = false →
    exec (.acqUnitEnable .reg u true) s = .next (s.setBit F.ACQ_STATUS_cal_refused 0 0 true)) ∧
  (∀ (s : State) (u : Nat), u < 264 → s.unitEn u = false → s.bufPlaced u = false → exec (.acqUnitEnable .reg u true) s = .next s) ∧
  (∀ (s : State) (h : Hdr) (d : Sys2Proof.Data) (u : Nat) (on : Bool), u < 264 → Ready s h → dataFits d tU32 → s.unitEn u = true →
    ∃ t, exec (.acqUnitEnable (.od h d) u on) s = .next t ∧ answered s t h eBlockEnabled ∧ t = { s with adp := t.adp, out := t.out }) ∧
  (∀ (s : State) (h : Hdr) (d : Sys2Proof.Data) (u : Nat), u < 264 → Ready s h → dataFits d tU32 → s.unitEn u = false → (s.unit u).arm = none →
    bitsAt (dNat d) 25 20 = 0 → dNat d < 2 ^ 31 → ∃ t, exec (.acqUnitConfigWrite h d u 1) s = .next t ∧ answered s t h eOk ∧ t.unitEn u = false ∧
      (∀ f ∈ [F.ACQ_UCFG_rmode, F.ACQ_UCFG_content, F.ACQ_UCFG_overwrite, F.ACQ_UCFG_interval_us],
        t.fld f 0 u = dNat d / 2 ^ f.lo % 2 ^ f.wid) ∧
      t = { s with regs := t.regs, hw := t.hw, adp := t.adp, out := t.out } ∧ sameBut [0x0F] s t) ∧
  (∀ (s : State) (h : Hdr) (d : Sys2Proof.Data) (u : Nat), u < 264 → (u < 32 ∨ 64 ≤ u) → Ready s h → d.ty = tBlob → d.bytes.length = 16 →
    s.unitEn u = false → dSub d 0 4 < 2 ^ 30 → dSub d 4 4 < 2 ^ 30 → ∃ t, exec (.acqUnitConfigWrite h d u 2) s = .next t ∧ answered s t h eOk ∧
      t.fld F.ACQ_BUF_FIRST_lines 0 u = dSub d 0 4 ∧ t.fld F.ACQ_BUF_LEN_lines 0 u = dSub d 4 4 ∧ t.fld F.ACQ_RD_index 0 u = dSub d 12 4 ∧
      t = { s with regs := t.regs, hw := t.hw, acq := t.acq, adp := t.adp, out := t.out } ∧
      sameButFields [(F.ACQ_BUF_FIRST_lines, 0, u), (F.ACQ_BUF_LEN_lines, 0, u), (F.ACQ_RD_index, 0, u)] s t) ∧
  (∀ (s : State) (h : Hdr) (d : Sys2Proof.Data) (u : Nat), u < 264 → Ready s h → d.ty = tBlob → d.bytes.length = 8 →
    ∃ t, exec (.acqUnitConfigWrite h d u 3) s = .next t ∧ answered s t h eOk ∧ t.fld F.ACQ_PRE_count 0 u = dSub d 0 4 ∧
      t.fld F.ACQ_POST_count 0 u = dSub d 4 4 ∧ t = { s with regs := t.regs, hw := t.hw, adp := t.adp, out := t.out } ∧
      sameButFields [(F.ACQ_PRE_count, 0, u), (F.ACQ_POST_count, 0, u)] s t) ∧
  (∀ (s : State) (h : Hdr) (d : Sys2Proof.Data) (u : Nat), u < 264 → Ready s h → d.ty = tBlob → d.bytes.length = 9 →
    ∃ t, exec (.acqUnitConfigWrite h d u 5) s = .next t ∧ answered s t h eOk ∧ t.bit F.ACQ_HOLDOFF_by_events 0 u = decide (dSub d 0 1 ≠ 0) ∧
      t.fld F.ACQ_HOLDOFF_value 0 u = min 2147483647 (if dSub d 0 1 ≠ 0 then dSub d 1 8 else (dSub d 1 8 + 500) / 1000) ∧
      t = { s with regs := t.regs, hw := t.hw, adp := t.adp, out := t.out } ∧
      sameButFields [(F.ACQ_HOLDOFF_by_events, 0, u), (F.ACQ_HOLDOFF_value, 0, u)] s t) ∧
  (∀ (s : State) (h : Hdr) (d : Sys2Proof.Data) (u fn : Nat), u < 264 → Ready s h → fn ≠ 1 → fn ≠ 2 → fn ≠ 3 → fn ≠ 5 →
    ∃ t, exec (.acqUnitConfigWrite h d u fn) s = .next t ∧ answered s t h eNoSubindex ∧ t = { s with adp := t.adp, out := t.out }) ∧
  (∀ (s : State) (u v : Nat), 32 ≤ u → u < 64 → ∃ t, exec (.acqReadIndexWrite .reg u v) s = .next t ∧ t.fld F.ACQ_RD_index 0 u = v % 4294967296 ∧
    (∀ (w : Nat), w ≠ u → t.unit w = s.unit w) ∧
    t = { s with regs := t.regs, hw := t.hw, acq := t.acq, apg := t.apg, mem := t.mem, freeCtr := t.freeCtr } ∧ sameBut [0x0F] s t) ∧
  (∀ (s : State) (u v : Nat), u < 264 → (u < 32 ∨ 64 ≤ u) → ∃ t, exec (.acqReadIndexWrite .reg u v) s = .next t ∧ t.fld F.ACQ_RD_index 0 u = v % 4294967296 ∧
    (t.unit u).fill ≤ (s.unit u).fill ∧ (∀ (w : Nat), w ≠ u → t.unit w = s.unit w) ∧ t = { s with regs := t.regs, hw := t.hw, acq := t.acq } ∧
    sameButFields [(F.ACQ_RD_index, 0, u)] s t) ∧
  (∀ (s : State) (h : Hdr) (d : Sys2Proof.Data) (u v : Nat), u < 264 → (u < 32 ∨ 64 ≤ u) → Ready s h → d.ty = tBlob → d.bytes.length = 16 →
    s.unitEn u = true → ∃ t, exec (.acqReadIndexWrite (.od h d) u v) s = .next t ∧ answered s t h eOk ∧ t.fld F.ACQ_RD_index 0 u = dSub d 12 4 ∧
      t = { s with regs := t.regs, hw := t.hw, acq := t.acq, adp := t.adp, out := t.out } ∧ sameButFields [(F.ACQ_RD_index, 0, u)] s t) ∧
  (∀ (s : State) (h : Hdr) (d : Sys2Proof.Data), Ready s h → dataFits d tU64 → s.acq.aseq < dNat d → dNat d ≤ s.acq.wseq →
    ∃ t, exec (.captureLogAcknowledge h d) s = .next t ∧ answered s t h eOk ∧ t.acq.aseq = dNat d ∧ t.acq.wseq = s.acq.wseq ∧
      (∀ r ∈ s.acq.log, dNat d < r.seq → r ∈ t.acq.log) ∧ t.acq.log.length + t.acq.queue.length ≤ s.acq.log.length + s.acq.queue.length ∧
      (∀ a, a < 64 * 1064304640 → t.byte a = s.byte a) ∧
      t = { s with regs := t.regs, hw := t.hw, acq := t.acq, mem := t.mem, adp := t.adp, out := t.out } ∧ sameButFields [(F.ACQ_STATUS_log_full, 0, 0)] s t) ∧
  (∀ (s : State) (h : Hdr) (d : Sys2Proof.Data), Ready s h → dataFits d tU64 → s.acq.wseq < dNat d → s.acq.aseq < dNat d →
    ∃ t, exec (.captureLogAcknowledge h d) s = .next t ∧ answered s t h eOk ∧ t.acq.wseq = s.acq.wseq ∧
      (∀ a, a < 64 * 1064304640 → t.byte a = s.byte a) ∧
      t = { s with regs := t.regs, hw := t.hw, acq := t.acq, mem := t.mem, freeCtr := t.freeCtr, adp := t.adp, out := t.out } ∧
      sameButFields [(F.ACQ_STATUS_log_full, 0, 0)] s t)

/-- Fast lane starts, gates and counters. An FLN_START at its queue's head leaves it at its instant. In Safe, or outside Line-rate and Survey,
it is counted as a limit and acts on no lane. A transmit copy makes the staged group and the rate that acts active; a receive copy that
turns the receiver on starts its adaptation, one that turns it off closes its gates; a gate record waits out its delay; a clear zeroes the
four counters, as does a ready Owner write. A waiting gate opens, and an open one closes, at its instant, with its errors kept. Says that
exec answers a next state, under conditions on the state and the operands alone, for: flnStart, flnCounterClear, flnGateOpen, flnGateClose. -/
def Obligations.LaneStartsAndGates : Prop :=
  (∀ (s : State) (r : LaunchRec) (rest : List LaunchRec), s.queue 38 = r :: rest → r.action = 0x30 → (∀ p ∈ s.md.pend, ∀ (a : Nat), p.t = some a → r.exec < a) →
    ∃ t, exec .flnStart s = .next t ∧ t.queue 38 = rest ∧ t.now = max s.now r.exec ∧
      (s.md.mode ≠ .lineRate → s.md.mode ≠ .survey → t.md.limitCount = s.md.limitCount + 1 ∧ t.fln = s.fln ∧ t.act = s.act ∧ sameBut [0x02, 0x15] s t) ∧
      (s.md.mode = .survey ∨ (s.md.mode = .lineRate ∧ s.md.flnFrom ≤ t.tb.loc) → r.target < 8 → s.bit F.FLN_CTRL_en = true →
        s.flnBit F.FLN_LSTAT_derated r.target = false →
        (r.payload.testBit 46 = true → r.payload.testBit 45 = false → bitsAt r.payload 34 33 = 0 →
          t.flnAct F.FLN_RATE_rate_mbps r.target = flnRateActs (s.flnFld F.FLN_LCFG_pam4 r.target == 1) (s.flnFld F.FLN_RATE_rate_mbps r.target) ∧
          (∀ f ∈ [F.FLN_LCFG_tx_en, F.FLN_LCFG_tx_inv, F.FLN_PPM_ppm, F.FLN_FFE_A_pre2, F.FLN_FFE_A_pre1, F.FLN_FFE_A_main, F.FLN_FFE_A_post1,
            F.FLN_FFE_B_post2], t.flnAct f r.target = s.flnFld f r.target % 2 ^ f.wid) ∧
          t.flnBit F.FLN_LSTAT_tx_active r.target = (s.flnFld F.FLN_LCFG_tx_en r.target == 1)) ∧
        (r.payload.testBit 46 = false → r.payload.testBit 45 = true → r.payload.testBit 44 = false → bitsAt r.payload 34 33 = 0 →
          s.flnFld F.FLN_LCFG_rx_en r.target = 1 → s.flnAct F.FLN_LCFG_rx_en r.target = 0 →
          t.flnBit F.FLN_LSTAT_rx_active r.target = true ∧ t.flnBit F.FLN_LSTAT_adapted r.target = false ∧
          t.flnBit F.FLN_LSTAT_locked r.target = false ∧ (t.lane r.target).adaptFrom = some t.tb.loc) ∧
        (r.payload.testBit 46 = false → r.payload.testBit 45 = true → bitsAt r.payload 34 33 = 0 → s.flnFld F.FLN_LCFG_rx_en r.target = 0 →
          t.flnBit F.FLN_LSTAT_rx_active r.target = false ∧ (t.lane r.target).gate = none ∧ (t.lane r.target).waiting = [] ∧
          (t.lane r.target).adaptFrom = none) ∧
        (r.payload.testBit 46 = false → r.payload.testBit 45 = false → r.payload.testBit 44 = true → bitsAt r.payload 34 33 = 0 →
          t.flnBits r.target = 0 ∧ t.flnErrs r.target = 0 ∧ t.flnUnlk r.target = 0) ∧
        (r.payload.testBit 46 = false → r.payload.testBit 45 = false → r.payload.testBit 44 = false → bitsAt r.payload 34 33 = 1 →
          ∃ (g : Gate), g ∈ (t.lane r.target).waiting ∧ (∀ x ∈ (t.lane r.target).waiting, x = g ∨ x ∈ (s.lane r.target).waiting) ∧
            g.openAt = t.tb.loc + us (s.flnFld F.FLN_GATE_DLY_delay_us r.target) ∧
            g.closeAt = (if s.flnFld F.FLN_GATE_WIN_window_us r.target = 0 then none
              else some (g.openAt + us (s.flnFld F.FLN_GATE_WIN_window_us r.target))) ∧ g.site = r.site ∧
            g.slot = (if r.payload.testBit 43 && !r.chipWide then some (bitsAt r.payload 42 35) else none))) ∧
      (∀ (n : Nat), n ≠ r.target → t.lane n = s.lane n) ∧
      t = { s with act := t.act, fln := t.fln, freeCtr := t.freeCtr, lq := t.lq, lqLast := t.lqLast, md := t.md, regs := t.regs, hw := t.hw, rk := t.rk,
                   seq := t.seq, tb := t.tb, fc := t.fc, nvm := t.nvm, tally := t.tally, bonds := t.bonds } ∧ sameBut [0x02, 0x11, 0x15] s t) ∧
  (∀ (s : State) (h : Hdr) (d : Sys2Proof.Data) (n : Nat), n < 8 → Ready s h → dTrue d → ∃ t, exec (.flnCounterClear h d n) s = .next t ∧
    answered s t h eOk ∧ t.flnBits n = 0 ∧ t.flnErrs n = 0 ∧ t.flnUnlk n = 0 ∧ t.pair F.FLN_SYM_LO_count F.FLN_SYM_HI_count 0 n = 0 ∧
    (∀ (j : Nat), j ≠ n → t.lane j = s.lane j) ∧
    t = { s with regs := t.regs, hw := t.hw, fln := t.fln, freeCtr := t.freeCtr, rk := t.rk, seq := t.seq, adp := t.adp, out := t.out } ∧ sameBut [0x11] s t) ∧
  (∀ (s : State) (n : Nat) (g : Gate) (rest : List Gate), n < 8 → (s.lane n).waiting = g :: rest → s.tb.loc ≤ g.openAt →
    (∀ x ∈ rest, g.openAt < x.openAt) → (∀ (c : Nat), g.closeAt = some c → g.openAt < c) → ∃ (t : State) (o : Gate), exec (.flnGateOpen n) s = .next t ∧
    t.tb.loc = g.openAt ∧ (t.lane n).waiting = rest ∧ (t.lane n).gate = some o ∧ o.closeAt = g.closeAt ∧ o.site = g.site ∧ o.slot = g.slot ∧
    o.bits0 = t.flnBits n ∧ o.err0 = t.flnErrs n ∧ t.flnBit F.FLN_LSTAT_gate_open n = true ∧
    t = { s with regs := t.regs, hw := t.hw, fln := t.fln, freeCtr := t.freeCtr, rk := t.rk, seq := t.seq, tb := t.tb } ∧ sameBut [0x11] s t) ∧
  (∀ (s : State) (n w : Nat) (g : Gate), n < 8 → (s.lane n).gate = some g → g.closeAt = some w →
    (∀ x ∈ (s.lane n).waiting, max s.tb.loc w < x.openAt) → ∃ t, exec (.flnGateClose n) s = .next t ∧ t.tb.loc = max s.tb.loc w ∧ (t.lane n).gate = none ∧ t.flnBit F.FLN_LSTAT_gate_open n = false ∧
    (t.lane n).lastErr = ((t.flnErrs n : Int) - g.err0).toNat ∧ (t.lane n).lastBits = ((t.flnBits n : Int) - g.bits0).toNat ∧
    (∀ (k : Nat), g.slot = some k → ∃ (a : Arrival), t.rk.inbox = s.rk.inbox ++ [a] ∧ a.site = g.site ∧ a.slot = some k ∧ a.value = ((t.lane n).lastErr : Int)) ∧
    t = { s with regs := t.regs, hw := t.hw, fln := t.fln, freeCtr := t.freeCtr, rk := t.rk, seq := t.seq, tb := t.tb } ∧ sameBut [0x11] s t)

/-- Adaptation, lock, bit errors and eye scans. Adaptation completes with the adapted bit and starts a waiting scan; after 1 ms without it
adapt_fail is set and source 50 reports once, but never with the manual equaliser. A checker locks, loses lock with lock_lost, and counts a
bit error of a gated, adapted, locked lane. A scan starts by register or ready Owner write when the receiver is adapted, else waits, and
completes with its 16,575 counts. A restore clears the derated bit. Says that exec answers a next state, under conditions on the state and
the operands alone, for: flnAdaptationComplete, flnAdaptationTimeout, flnCheckerLock, flnLockLoss, flnBitError, eyeScanStart,
eyeScanComplete, flnRestore. -/
def Obligations.LaneReceivers : Prop :=
  (∀ (s : State) (n w : Nat), n < 8 → (s.lane n).adaptFrom = some w → ∃ t, exec (.flnAdaptationComplete n) s = .next t ∧
    t.flnBit F.FLN_LSTAT_adapted n = true ∧ (t.lane n).adaptFrom = none ∧
    (s.flnFld F.FLN_SCAN_STAT_state n = 1 → t.flnFld F.FLN_SCAN_STAT_state n = 2 ∧ (t.lane n).scanAt = t.tb.loc) ∧
    (s.flnAct F.FLN_LCFG_manual_eq n = 1 → t.tb.loc = max s.tb.loc (w + us 10)) ∧
    (s.flnAct F.FLN_LCFG_manual_eq n ≠ 1 → t.tb.loc = s.tb.loc ∧ (w + ms 1 < s.tb.loc → (s.lane n).adaptLate = false →
      t.flnBit F.FLN_LSTAT_adapt_fail n = true)) ∧
    t = { s with regs := t.regs, hw := t.hw, fln := t.fln, fc := t.fc, freeCtr := t.freeCtr, nvm := t.nvm, rk := t.rk, seq := t.seq, tb := t.tb } ∧
    sameBut [0x11, 0x15] s t) ∧
  (∀ (s : State) (n : Nat), s.flnAct F.FLN_LCFG_manual_eq n = 1 → exec (.flnAdaptationTimeout n) s = .next s) ∧
  (∀ (s : State) (n w : Nat), n < 8 → (s.lane n).adaptFrom = some w → (s.lane n).adaptLate = false → s.flnAct F.FLN_LCFG_manual_eq n ≠ 1 →
    ∃ t, exec (.flnAdaptationTimeout n) s = .next t ∧ t.tb.loc = max s.tb.loc (w + ms 1) ∧ t.lane n = { s.lane n with adaptLate := true } ∧
      t.flnBit F.FLN_LSTAT_adapt_fail n = true ∧ t.bitOf F.FLN_STATUS_flagged 0 0 n = true ∧ (s.hearsAt 50 t.tb.loc → t.srcSet 50 = true) ∧
      t = { s with regs := t.regs, hw := t.hw, fln := t.fln, fc := t.fc, freeCtr := t.freeCtr, nvm := t.nvm, tb := t.tb } ∧ sameBut [0x11, 0x15] s t) ∧
  (∀ (s : State) (n : Nat), n < 8 → s.flnBit F.FLN_LSTAT_rx_active n = true → s.flnBit F.FLN_LSTAT_locked n = false →
    ∃ t, exec (.flnCheckerLock n) s = .next t ∧ t.flnBit F.FLN_LSTAT_locked n = true ∧ t.bitOf F.FLN_STATUS_locked 0 0 n = true ∧
      t.tb.loc = max s.tb.loc ((s.lane n).unlockAt + ceilDiv (1024 * 4096000) (max 1 (s.flnAct F.FLN_RATE_rate_mbps n))) ∧
      t = { s with regs := t.regs, hw := t.hw, fln := t.fln, freeCtr := t.freeCtr, rk := t.rk, seq := t.seq, tb := t.tb } ∧ sameBut [0x11] s t) ∧
  (∀ (s : State) (n : Nat), n < 8 → s.flnBit F.FLN_LSTAT_locked n = true → ∃ t, exec (.flnLockLoss n) s = .next t ∧
    t.flnBit F.FLN_LSTAT_locked n = false ∧ t.bitOf F.FLN_STATUS_locked 0 0 n = false ∧ t.flnBit F.FLN_LSTAT_lock_lost n = true ∧
    t = { s with regs := t.regs, hw := t.hw, fln := t.fln, freeCtr := t.freeCtr, rk := t.rk, seq := t.seq } ∧ sameBut [0x11] s t) ∧
  (∀ (s : State) (n : Nat) (g : Gate), n < 8 → (s.lane n).gate = some g → (∀ (c : Nat), g.closeAt = some c → s.tb.loc < c) →
    (∀ x ∈ (s.lane n).waiting, s.tb.loc < x.openAt) → s.flnBit F.FLN_LSTAT_adapted n = true → s.flnBit F.FLN_LSTAT_locked n = true →
    ∃ t, exec (.flnBitError n true) s = .next t ∧ t.flnErrs n = min (2 ^ 64 - 1) (s.flnErrs n + 1) ∧
      t.pair F.FLN_SYM_LO_count F.FLN_SYM_HI_count 0 n = min (2 ^ 64 - 1) (s.pair F.FLN_SYM_LO_count F.FLN_SYM_HI_count 0 n + 1) ∧
      (s.unwatched 0x43 → t.acq = s.acq ∧ sameBut [0x11] s t) ∧
      t = { s with regs := t.regs, hw := t.hw, fln := t.fln, acq := t.acq, freeCtr := t.freeCtr, rk := t.rk, seq := t.seq } ∧ sameBut [0x0A, 0x0F, 0x10, 0x11] s t) ∧
  (∀ (s : State) (n : Nat), n < 8 → ∃ t, exec (.eyeScanStart .reg n) s = .next t ∧ t.flnFld F.FLN_SCAN_STAT_points n = 0 ∧
    t.flnFld F.FLN_SCAN_STAT_state n = (if s.flnBit F.FLN_LSTAT_adapted n then 2 else 1) ∧
    t.lane n = { s.lane n with scan := [], scanAt := s.tb.loc, scanEye := s.flnFld F.FLN_SCAN_CFG_eye n, scanD := s.flnFld F.FLN_SCAN_CFG_dwell n } ∧ t = { s with regs := t.regs, hw := t.hw, fln := t.fln } ∧
    sameButFields [(F.FLN_SCAN_STAT_points, 0, n), (F.FLN_SCAN_STAT_state, 0, n)] s t) ∧
  (∀ (s : State) (h : Hdr) (d : Sys2Proof.Data) (n : Nat), n < 8 → Ready s h → d.ty = tBlob → d.bytes.length = 2 →
    ∃ t, exec (.eyeScanStart (.od h d) n) s = .next t ∧ answered s t h eOk ∧ t.flnFld F.FLN_SCAN_CFG_eye n = min 3 (dSub d 0 1) ∧
      t.flnFld F.FLN_SCAN_CFG_dwell n = min 15 (dSub d 1 1) ∧
      t.flnFld F.FLN_SCAN_STAT_state n = (if s.flnBit F.FLN_LSTAT_adapted n then 2 else 1) ∧
      t = { s with regs := t.regs, hw := t.hw, fln := t.fln, adp := t.adp, out := t.out } ∧ sameBut [0x11] s t) ∧
  (∀ (s : State) (n : Nat) (l : List Nat), n < 8 → s.flnFld F.FLN_SCAN_STAT_state n = 2 → 16575 ≤ l.length →
    ∃ t, exec (.eyeScanComplete n l) s = .next t ∧ t.tb.loc = max s.tb.loc ((s.lane n).scanAt + s.scanTime n 16575) ∧
      t.flnFld F.FLN_SCAN_STAT_state n = 3 ∧ t.flnFld F.FLN_SCAN_STAT_points n = 16575 ∧
      (t.lane n).scan = (l.take 16575).map (fun x => min x 4294967295) ∧ t = { s with regs := t.regs, hw := t.hw, fln := t.fln, tb := t.tb } ∧
      sameButFields [(F.FLN_SCAN_STAT_points, 0, n), (F.FLN_SCAN_STAT_state, 0, n)] s t) ∧
  (∀ (s : State) (h : Hdr) (d : Sys2Proof.Data) (n : Nat), n < 8 → Ready s h → dTrue d → ∃ t, exec (.flnRestore h d n) s = .next t ∧
    answered s t h eOk ∧ t.flnBit F.FLN_LSTAT_derated n = false ∧ t = { s with regs := t.regs, hw := t.hw, adp := t.adp, out := t.out } ∧
    sameButFields [(F.FLN_LSTAT_derated, 0, n)] s t)

/-- Serial queues, starts, aborts and transfers. A ready Owner write appends an entry of template 0 to 14 to a transmit queue with room,
discards and counts it where there is none, and leaves every engine alone for a template above 15, a host error whose answer, OK or
ADDR_RANGE, is open (log entry 46). RX_REMOVE takes entries from the front of the receive queue, START_NOW enters a SER_START 10 µs ahead,
and ABORT ends the transfer and empties the transmit queue. A SER_START at its queue's head leaves it at its instant. In Safe it is
discarded and counted; on an enabled controller it lets as many queued entries run as it asks for and the queue holds, an SPUSH counting
when its commit came 64 ns before (R458), with tx_under where it holds fewer; with the abort bit it ends the transfer. An entry starts at
its time, the engine busy, and its end frees the engine. A target's transfer starts at a select after one was seen released, takes the head
entry, and ends at the release. Says that exec answers a next state, under conditions on the state and the operands alone, for: serAppend,
serRxRemove, serStartNow, serAbort, serStart, serEntryStart, serEntryEnd, serTargetSelectAssert, serTargetSelectRelease. -/
def Obligations.SerialEngines : Prop :=
  (∀ (s : State) (h : Hdr) (d : Sys2Proof.Data) (c : Nat), c < 32 → Ready s h → d.ty = tBlob → d.bytes.length = 10 → dSub d 0 1 < 15 →
    txUse (s.eng c).txq < 256 → ∃ t, exec (.serAppend h d c) s = .next t ∧ answered s t h eOk ∧
      t.eng c = { s.eng c with txq := (s.eng c).txq ++ [⟨dSub d 0 1, dSub d 1 1 != 0, [BitVec.ofNat 64 (dSub d 2 8)], 0⟩], isOpen := true } ∧
      t = { s with ser := t.ser, adp := t.adp, out := t.out }) ∧
  (∀ (s : State) (h : Hdr) (d : Sys2Proof.Data) (c : Nat), c < 32 → Ready s h → d.ty = tBlob → d.bytes.length = 10 → dSub d 0 1 < 16 →
    256 ≤ txUse (s.eng c).txq → ∃ t, exec (.serAppend h d c) s = .next t ∧ answered s t h eOk ∧
      t.eng c = { s.eng c with txLost := (s.eng c).txLost + 1, isOpen := (s.eng c).isOpen && dSub d 0 1 == 15 } ∧ t.bit F.SER_STATUS_tx_ovf c = true ∧ (s.hearsAt c t.tb.loc → t.srcSet c = true) ∧
      t = { s with ser := t.ser, regs := t.regs, hw := t.hw, fc := t.fc, freeCtr := t.freeCtr, nvm := t.nvm, adp := t.adp, out := t.out } ∧ sameBut [0x12, 0x15] s t) ∧
  (∀ (s : State) (h : Hdr) (d : Sys2Proof.Data) (c : Nat), c < 32 → Ready s h → d.ty = tBlob → d.bytes.length = 10 → 16 ≤ dSub d 0 1 →
    ∃ (t : State) (code : Nat), exec (.serAppend h d c) s = .next t ∧ (code = eOk ∨ code = eAddrRange) ∧ answered s t h code ∧
      t = { s with freeCtr := t.freeCtr, adp := t.adp, out := t.out }) ∧
  (∀ (s : State) (h : Hdr) (d : Sys2Proof.Data) (c : Nat), c < 32 → Ready s h → dataFits d tU16 → ∃ t, exec (.serRxRemove h d c) s = .next t ∧
    answered s t h eOk ∧ t.eng c = { s.eng c with rxq := (s.eng c).rxq.drop (dNat d) } ∧ (∀ (j : Nat), j ≠ c → t.eng j = s.eng j) ∧
    t = { s with ser := t.ser, adp := t.adp, out := t.out }) ∧
  (∀ (s : State) (h : Hdr) (d : Sys2Proof.Data) (c : Nat), c < 32 → Ready s h → dataFits d tU8 → (s.queue c).length < 4096 →
    (∀ r ∈ s.queue c, r.inst ≠ s.now + us 10) →
    ∃ (t : State) (r : LaunchRec), exec (.serStartNow h d c) s = .next t ∧ answered s t h eOk ∧ t.queue c = s.queue c ++ [r] ∧ r.inst = s.now + us 10 ∧ r.action = 0x38 ∧
      bitsAt r.payload 46 39 = dNat d ∧ r.payload.testBit 38 = false ∧ t.ser = s.ser) ∧
  (∀ (s : State) (h : Hdr) (d : Sys2Proof.Data) (c : Nat), c < 32 → Ready s h → dTrue d → ∃ t, exec (.serAbort h d c) s = .next t ∧
    answered s t h eOk ∧ (t.eng c).run = none ∧ (t.eng c).txq = [] ∧ (t.eng c).todo = 0 ∧ t.bit F.SER_STATUS_busy c = false ∧
    (∀ (j : Nat), j ≠ c → t.eng j = s.eng j) ∧
    t = { s with fc := t.fc, freeCtr := t.freeCtr, nvm := t.nvm, pin := t.pin, regs := t.regs, hw := t.hw, rk := t.rk, seq := t.seq, ser := t.ser, tmg := t.tmg,
                 adp := t.adp, out := t.out } ∧ sameBut [0x06, 0x07, 0x12, 0x15] s t) ∧
  (∀ (s : State) (c : Nat) (r : LaunchRec) (rest : List LaunchRec), c < 32 → s.queue c = r :: rest → r.action = 0x38 →
    (∀ p ∈ s.md.pend, ∀ (a : Nat), p.t = some a → r.exec < a) → ∃ t, exec (.serStart c) s = .next t ∧ t.queue c = rest ∧ t.now = max s.now r.exec ∧
      (s.inSafe = true → t.md.limitCount = s.md.limitCount + 1 ∧ t.ser = s.ser ∧ sameBut [0x02, 0x15] s t) ∧
      (s.md.mode = .survey → t.md.limitCount = s.md.limitCount + 1 ∧ t.ser = s.ser ∧ sameBut [0x02, 0x15] s t) ∧
      (s.inSafe = false → s.md.mode ≠ .survey → s.bit F.SER_CTRL_en c = true → r.payload.testBit 38 = true →
        (t.eng c).run = none ∧ (t.eng c).txq = [] ∧ t.bit F.SER_STATUS_busy c = false) ∧
      (s.inSafe = false → s.md.mode ≠ .survey → s.bit F.SER_CTRL_en c = true → r.payload.testBit 38 = false → s.bit F.SER_CTRL_role c = false →
        ∃ (n : Nat), n = (((s.eng c).txq.drop (s.eng c).todo).takeWhile (fun (e : TxEntry) => decide (e.at_ = 0) || decide (e.at_ + ns 64 ≤ t.tb.loc))).length ∧
        (t.eng c).todo = (s.eng c).todo + min (max 1 (bitsAt r.payload 46 39)) n ∧ (t.eng c).txq = (s.eng c).txq ∧ (t.eng c).run = (s.eng c).run ∧
        (n < max 1 (bitsAt r.payload 46 39) → t.bit F.SER_STATUS_tx_under c = true)) ∧
      (∀ (j : Nat), j ≠ c → t.eng j = s.eng j) ∧
      t = { s with fc := t.fc, freeCtr := t.freeCtr, nvm := t.nvm, lq := t.lq, lqLast := t.lqLast, md := t.md, pin := t.pin, regs := t.regs, hw := t.hw, rk := t.rk,
                   seq := t.seq, ser := t.ser, tb := t.tb, tmg := t.tmg, tally := t.tally, bonds := t.bonds, ks := t.ks } ∧ sameBut [0x02, 0x06, 0x07, 0x12, 0x15] s t) ∧
  (∀ (s : State) (c : Nat) (e : TxEntry) (rest : List TxEntry), c < 32 → (s.eng c).txq = e :: rest → (s.eng c).todo ≠ 0 → (s.eng c).run = none →
    ∃ (t : State) (r : SerRun), exec (.serEntryStart c) s = .next t ∧ t.tb.loc = max s.tb.loc (s.eng c).nextAt ∧ (t.eng c).txq = rest ∧
      (t.eng c).todo = (s.eng c).todo - 1 ∧ (t.eng c).run = some r ∧ r.entry = e ∧ r.start = t.tb.loc ∧ r.h = (s.serHalf c).1 ∧
      t.bit F.SER_STATUS_busy c = true ∧ (∀ (j : Nat), j ≠ c → t.eng j = s.eng j) ∧
      t = { s with fc := t.fc, freeCtr := t.freeCtr, nvm := t.nvm, pin := t.pin, regs := t.regs, hw := t.hw, rk := t.rk, seq := t.seq, ser := t.ser, tb := t.tb,
                   tmg := t.tmg } ∧ sameBut [0x06, 0x07, 0x12, 0x15] s t) ∧
  (∀ (s : State) (c : Nat) (rx : List Nat) (r : SerRun), c < 32 → (s.eng c).run = some r → ∃ t, exec (.serEntryEnd c rx) s = .next t ∧
    t.tb.loc = max s.tb.loc r.finish ∧ (t.eng c).run = none ∧ (t.eng c).ran = (s.eng c).ran + 1 ∧
    (t.eng c).nextAt = (if r.finish ≤ (s.eng c).nextAt then (s.eng c).nextAt else r.finish + max 1 (s.fld F.SER_SEL_gap c) * r.h) ∧ (t.eng c).txq = (s.eng c).txq ∧ t.bit F.SER_STATUS_busy c = false ∧
    (∀ (j : Nat), j ≠ c → t.eng j = s.eng j) ∧
    t = { s with fc := t.fc, freeCtr := t.freeCtr, nvm := t.nvm, pin := t.pin, regs := t.regs, hw := t.hw, rk := t.rk, seq := t.seq, ser := t.ser, tb := t.tb,
                 tmg := t.tmg } ∧ sameBut [0x06, 0x07, 0x12, 0x15] s t) ∧
  (∀ (s : State) (c : Nat), c < 32 → s.inSafe = false → s.md.mode ≠ .survey → s.bit F.SER_CTRL_en c = true → s.bit F.SER_CTRL_role c = true →
    (s.eng c).sel = false → (s.eng c).selSeen = true → ∃ t, exec (.serTargetSelectAssert c) s = .next t ∧ (t.eng c).sel = true ∧
      (t.eng c).tgt = (s.eng c).txq.head? ∧ (t.eng c).txq = (s.eng c).txq.tail ∧ t.bit F.SER_STATUS_busy c = true ∧
      (∀ (j : Nat), j ≠ c → t.eng j = s.eng j) ∧
      t = { s with regs := t.regs, hw := t.hw, ser := t.ser, pin := t.pin, tmg := t.tmg, freeCtr := t.freeCtr } ∧ sameBut [0x06, 0x07, 0x12] s t) ∧
  (∀ (s : State) (c : Nat) (gs : List Nat), c < 32 → (s.eng c).sel = false → ∃ t, exec (.serTargetSelectRelease c gs) s = .next t ∧
    t.eng c = { s.eng c with selSeen := true } ∧ t = { s with ser := t.ser }) ∧
  (∀ (s : State) (c : Nat) (gs : List Nat), c < 32 → (s.eng c).sel = true → ∃ t, exec (.serTargetSelectRelease c gs) s = .next t ∧
    (t.eng c).sel = false ∧ (t.eng c).tgt = none ∧ (t.eng c).ran = (s.eng c).ran + 1 ∧ (t.eng c).txq = (s.eng c).txq ∧
    t.bit F.SER_STATUS_busy c = false ∧ (∀ (j : Nat), j ≠ c → t.eng j = s.eng j) ∧
    t = { s with fc := t.fc, freeCtr := t.freeCtr, nvm := t.nvm, regs := t.regs, hw := t.hw, seq := t.seq, ser := t.ser, tmg := t.tmg } ∧ sameBut [0x07, 0x12, 0x15] s t)

/-- Sessions, the lease, replays and stale numbers. An OPEN with a free place makes a session of its role with an ID that no session has; a
second Owner gets OWNER_PRESENT and a fourth Observer SESSION_FULL. A RENEW renews its session; a cached number of any WRITE is answered
from the cache with REPLAY and executes nothing, a number 64 or more below the highest gets STALE_SEQ, an unknown session NO_SESSION, and
requests in an outage are buffered. A CLOSE ends its session; the Owner's, like its deadline, is a lapse: it is counted, reported by source
53 and, without autonomous run, holds every running thread until a lease resume. Says that exec answers a next state, under conditions on
the state and the operands alone, for: adpOpen, adpRenew, adpWrite, adpClose, leaseLapse, observerTimeout, leaseResume, autonomousRunWrite. -/
def Obligations.Sessions : Prop :=
  (∀ (s : State) (port seq tel bytes : Nat) (addr : List Byte), Serving s → s.allowed addr = true → s.owner = none →
    ∃ (t : State) (x : Session) (r : Response), exec (.adpOpen port addr seq 1 tel bytes) s = .next t ∧ t.adp.sessions = s.adp.sessions ++ [x] ∧ x.owner = true ∧ x.addr = addr ∧
      x.telPort = tel ∧ x.renewed = s.tb.loc ∧ x.id ≠ 0 ∧ (s.adp.sessions.length ≤ 4 → s.session x.id = none) ∧
      t.bit F.ADP_STATUS_owner_live = true ∧ t.out = s.out ++ [OutMsg.response r] ∧ r.status = eOk ∧ r.body.head? = some (toBe 4 x.id) ∧
      t = { s with adp := t.adp, freeCtr := t.freeCtr, out := t.out, regs := t.regs, hw := t.hw } ∧ sameBut [0x14] s t) ∧
  (∀ (s : State) (port seq tel bytes : Nat) (addr : List Byte), Serving s → s.allowed addr = true → s.owner ≠ none →
    ∃ (t : State) (r : Response), exec (.adpOpen port addr seq 1 tel bytes) s = .next t ∧ t.out = s.out ++ [OutMsg.response r] ∧ r.status = eOwnerPresent ∧
      t = { s with out := t.out }) ∧
  (∀ (s : State) (port seq tel bytes : Nat) (addr : List Byte), Serving s → (s.adp.sessions.filter (fun x => !x.owner)).length < 3 →
    ∃ (t : State) (x : Session) (r : Response), exec (.adpOpen port addr seq 0 tel bytes) s = .next t ∧ t.adp.sessions = s.adp.sessions ++ [x] ∧ x.owner = false ∧ x.addr = addr ∧
      x.renewed = s.tb.loc ∧ t.out = s.out ++ [OutMsg.response r] ∧ r.status = eOk ∧
      t = { s with adp := t.adp, freeCtr := t.freeCtr, out := t.out, regs := t.regs, hw := t.hw } ∧ sameBut [0x14] s t) ∧
  (∀ (s : State) (port seq tel bytes : Nat) (addr : List Byte), Serving s → 3 ≤ (s.adp.sessions.filter (fun x => !x.owner)).length →
    ∃ (t : State) (r : Response), exec (.adpOpen port addr seq 0 tel bytes) s = .next t ∧ t.out = s.out ++ [OutMsg.response r] ∧ r.status = eSessionFull ∧
      t = { s with out := t.out }) ∧
  (∀ (s : State) (h : Hdr), Served s h → ∃ (t : State) (x : Session), exec (.adpRenew h) s = .next t ∧ answered s t h eOk ∧ t.session h.session = some x ∧
    s.tb.loc ≤ x.renewed ∧ x.port = h.port ∧ t.adp.sessions.length = s.adp.sessions.length ∧ t = { s with adp := t.adp, out := t.out }) ∧
  (∀ (s : State) (h : Hdr) (items : List Sys2Proof.DataItem) (x : Session) (c : Nat × Response), Serving s →
    s.session h.session = some x → x.cache.find? (fun c => c.1 == h.seq) = some c → ∃ t, exec (.adpWrite h items) s = .next t ∧
      t.out = s.out ++ [OutMsg.response { c.2 with port := h.port, replay := true }] ∧ t.bit F.ADP_STATUS_replay = true ∧
      t = { s with adp := t.adp, regs := t.regs, hw := t.hw, out := t.out } ∧ sameButFields [(F.ADP_STATUS_replay, 0, 0)] s t) ∧
  (∀ (s : State) (h : Hdr) (items : List Sys2Proof.DataItem) (x : Session) (hi : Nat), Serving s →
    s.session h.session = some x → x.cache.find? (fun c => c.1 == h.seq) = none → x.high = some hi →
    64 ≤ (hi + 4294967296 - h.seq % 4294967296) % 4294967296 → (hi + 4294967296 - h.seq % 4294967296) % 4294967296 ≤ 2147483648 →
    ∃ t, exec (.adpWrite h items) s = .next t ∧ answered s t h eStaleSeq ∧ t = { s with adp := t.adp, out := t.out }) ∧
  (∀ (s : State) (h : Hdr) (items : List Sys2Proof.DataItem), Serving s → s.session h.session = none →
    ∃ t, exec (.adpWrite h items) s = .next t ∧ answered s t h eNoSession ∧ t = { s with out := t.out }) ∧
  (∀ (s : State) (h : Hdr), s.ks.running = true → s.ks.outage = true → s.ks.serving = none →
    (s.ks.buffered.filter (fun b => b.port == h.port)).foldl (fun a b => a + b.bytes) 0 + h.bytes ≤ 4194304 →
    exec (.adpRenew h) s = .next { s with ks := { s.ks with buffered := s.ks.buffered ++ [⟨s.tb.loc, h.port, h.bytes, .adpRenew h⟩] } }) ∧
  (∀ (s : State) (h : Hdr), Served s h → s.isOwner h.session = false → ∃ (t : State) (l : List OutMsg) (r : Response), exec (.adpClose h) s = .next t ∧ t.session h.session = none ∧
    t.out = s.out ++ l ++ [OutMsg.response r] ∧ r.status = eOk ∧ l.length = (s.adp.transfers.filter (fun x => x.session == h.session)).length ∧
    (∀ (i : Nat), i ≠ h.session → t.session i = s.session i) ∧ t = { s with adp := t.adp, regs := t.regs, hw := t.hw, out := t.out } ∧ sameBut [0x14] s t) ∧
  (∀ (s : State) (h : Hdr) (o : Session), Served s h → s.isOwner h.session = true → s.owner = some o → o.id = h.session → ∃ (t : State) (l : List OutMsg) (r : Response), exec (.adpClose h) s = .next t ∧
    t.session h.session = none ∧ t.adp.lapses = s.adp.lapses + 1 ∧ t.bit F.ADP_STATUS_lapsed = true ∧ (s.hearsAt 53 t.tb.loc → t.srcSet 53 = true) ∧
    t.out = s.out ++ l ++ [OutMsg.response r] ∧ r.status = eOk ∧
    (s.bit F.ADP_STATUS_autonomous = true → t.seq = s.seq) ∧
    (s.bit F.ADP_STATUS_autonomous = false → t.bit F.ADP_STATUS_lapse_hold = true ∧
      ∀ k, k < 256 → s.running k = true → HoldSrc.lapse ∈ (t.thr k).holds) ∧ t.md = s.md ∧ t.bonds = s.bonds ∧ t.act = s.act ∧
    t = { s with adp := t.adp, regs := t.regs, hw := t.hw, out := t.out, seq := t.seq, fc := t.fc, freeCtr := t.freeCtr, nvm := t.nvm } ∧ sameBut [0x14, 0x15] s t) ∧
  (∀ (s : State) (o : Session), s.owner = some o → s.judging = true → ∃ t, exec .leaseLapse s = .next t ∧
    t.tb.loc = max s.tb.loc (o.renewed + leaseTicks) ∧ t.session o.id = none ∧ t.adp.lapses = s.adp.lapses + 1 ∧
    t.bit F.ADP_STATUS_lapsed = true ∧ (s.hearsAt 53 t.tb.loc → t.srcSet 53 = true) ∧
    (s.bit F.ADP_STATUS_autonomous = false → t.bit F.ADP_STATUS_lapse_hold = true ∧
      ∀ k, k < 256 → s.running k = true → HoldSrc.lapse ∈ (t.thr k).holds) ∧ t.md = s.md ∧ t.bonds = s.bonds ∧ t.act = s.act ∧
    t = { s with adp := t.adp, regs := t.regs, hw := t.hw, out := t.out, seq := t.seq, fc := t.fc, freeCtr := t.freeCtr, nvm := t.nvm, tb := t.tb } ∧
    sameBut [0x14, 0x15] s t) ∧
  (∀ (s : State) (id : Nat) (x : Session), s.session id = some x → x.owner = false → s.judging = true → ∃ t, exec (.observerTimeout id) s = .next t ∧
    t.tb.loc = max s.tb.loc (x.renewed + leaseTicks) ∧ t.session id = none ∧ (∀ (i : Nat), i ≠ id → t.session i = s.session i) ∧
    t = { s with adp := t.adp, regs := t.regs, hw := t.hw, out := t.out, tb := t.tb } ∧ sameBut [0x14] s t) ∧
  (∀ (s : State) (h : Hdr) (d : Sys2Proof.Data), Ready s h → dTrue d → ∃ t, exec (.leaseResume h d) s = .next t ∧ answered s t h eOk ∧
    t.bit F.ADP_STATUS_lapse_hold = false ∧ (∀ k, k < 256 → HoldSrc.lapse ∉ (t.thr k).holds) ∧
    (∀ (k : Nat) (x : HoldSrc), x ≠ HoldSrc.lapse → (x ∈ (t.thr k).holds ↔ x ∈ (s.thr k).holds)) ∧
    t = { s with adp := t.adp, regs := t.regs, hw := t.hw, out := t.out, seq := t.seq } ∧ sameBut [0x0A, 0x14] s t) ∧
  (∀ (s : State) (h : Hdr) (d : Sys2Proof.Data), Ready s h → dataFits d tBool → ∃ t, exec (.autonomousRunWrite h d) s = .next t ∧
    answered s t h eOk ∧ t.bit F.ADP_STATUS_autonomous = dFlag d ∧ t = { s with adp := t.adp, regs := t.regs, hw := t.hw, out := t.out } ∧
    sameButFields [(F.ADP_STATUS_autonomous, 0, 0)] s t)

/-- READ, WRITE and TUNNEL requests, and register writes. A READ answers the items it has read, or the first failing item's error; OD 0x2002
reads the chip number. A WRITE of an entry that does not exist gives its error and changes nothing, one of an RO entry READ_ONLY; of the
autonomous-run entry by the Owner it stores the BOOL. A malformed TUNNEL gets MALFORMED, one to no instance NO_OBJECT, and a tunnel write
without the Owner NOT_OWNER. A register write beyond the last register, at no instance or off a word boundary is discarded; an RW field
takes the value, a W1C bit is cleared and an RO bit stays. Says that exec answers a next state, under conditions on the state and the
operands alone, for: adpRead, adpWrite, adpTunnel, registerWrite. -/
def Obligations.ItemsAndRegisters : Prop :=
  (∀ (s : State) (h : Hdr), Served s h → ∃ t, exec (.adpRead h []) s = .next t ∧ answered s t h eOk ∧ t = { s with adp := t.adp, out := t.out }) ∧
  (∀ (s : State) (h : Hdr), Served s h → ∃ (t : State) (r : Response), exec (.adpRead h [⟨0x2002, 0⟩]) s = .next t ∧ t.out = s.out ++ [OutMsg.response r] ∧ r.status = eOk ∧
    r.items = 1 ∧ r.body = [dataItem 0x2002 0 tU32 (toBe 4 s.chipNumber)]) ∧
  (∀ (s : State) (h : Hdr) (i j : Sys2Proof.ReadItem) (e : Nat), Served s h → odFind i.idx i.sub = .error e → ∃ t, exec (.adpRead h [i, j]) s = .next t ∧
    answered s t h e ∧ t = { s with adp := t.adp, out := t.out }) ∧
  (∀ (s : State) (h : Hdr) (i j : Sys2Proof.DataItem) (e : Nat), Served s h → odFind i.idx i.sub = .error e → e ≠ eOk →
    ∃ t, exec (.adpWrite h [i, j]) s = .next t ∧ answered s t h e ∧ t = { s with adp := t.adp, out := t.out }) ∧
  (∀ (s : State) (h : Hdr) (d : Sys2Proof.Data), Ready s h → dataFits d tBool →
    ∃ t, exec (.adpWrite h [⟨0x8010, 0, d⟩]) s = .next t ∧ answered s t h eOk ∧ t.bit F.ADP_STATUS_autonomous = dFlag d ∧
      t = { s with adp := t.adp, regs := t.regs, hw := t.hw, out := t.out } ∧ sameButFields [(F.ADP_STATUS_autonomous, 0, 0)] s t) ∧
  (∀ (s : State) (h : Hdr) (d : Sys2Proof.Data), Served s h → s.isOwner h.session = false → s.bist.run = none → dataFits d tBool →
    ∃ t, exec (.adpWrite h [⟨0x8010, 0, d⟩]) s = .next t ∧ answered s t h eNotOwner ∧ t = { s with adp := t.adp, out := t.out }) ∧
  (∀ (s : State) (h : Hdr) (i : Sys2Proof.DataItem) (r : OdRow), Served s h → odFind i.idx i.sub = .ok r → r.acc = .ro →
    dataFits i.val r.ty → r.ty ≠ tBlob → ∃ t, exec (.adpWrite h [i]) s = .next t ∧ answered s t h eReadOnly ∧
      t = { s with adp := t.adp, out := t.out }) ∧
  (∀ (s : State) (h : Hdr) (l : List Sys2Proof.TunnelItem), Served s h → tunnelBad l = true → ∃ t, exec (.adpTunnel h l) s = .next t ∧
    answered s t h eMalformed ∧ t = { s with adp := t.adp, out := t.out }) ∧
  (∀ (s : State) (h : Hdr) (i : Sys2Proof.TunnelItem), Served s h → tunnelBad [i] = false →
    blockLast (i.addr / 16777216 % 256) (i.addr / 65536 % 256) = none → ∃ t, exec (.adpTunnel h [i]) s = .next t ∧ answered s t h eNoObject ∧
      t = { s with adp := t.adp, out := t.out }) ∧
  (∀ (s : State) (h : Hdr) (i : Sys2Proof.TunnelItem), Served s h → tunnelBad [i] = false → i.write = true →
    blockLast (i.addr / 16777216 % 256) (i.addr / 65536 % 256) ≠ none → s.isOwner h.session = false → ∃ t, exec (.adpTunnel h [i]) s = .next t ∧
      answered s t h eNotOwner ∧ t = { s with adp := t.adp, out := t.out }) ∧
  (∀ (s : State) (h : Hdr) (v : Nat), Ready s h → v < 2 ^ 20 →
    ∃ t, exec (.adpTunnel h [⟨true, false, 0, 1, 0x15000018, [v]⟩]) s = .next t ∧ answered s t h eOk ∧ t.fld F.FC_ESC_esc_us = v ∧
      t = { s with adp := t.adp, regs := t.regs, hw := t.hw, out := t.out } ∧ sameButFields [(F.FC_ESC_esc_us, 0, 0)] s t) ∧
  (∀ (s : State) (a v : Nat), (addrExists a = false ∨ addrBeyond a = true ∨ a % 4 ≠ 0) → exec (.registerWrite a v) s = .next s) ∧
  (∀ (s : State) (v : Nat), v < 2 ^ 20 →
    exec (.registerWrite 0x15000018 v) s = .next (s.setFld F.FC_ESC_esc_us 0 0 v)) ∧
  (∀ s : State, s.heldBit F.ADP_STATUS_lapsed 0 0 0 = false → ∃ t, exec (.registerWrite 0x14000000 1) s = .next t ∧ t.bit F.ADP_STATUS_lapsed = false ∧
    t.bit F.ADP_STATUS_owner_live = s.bit F.ADP_STATUS_owner_live ∧ t.bit F.ADP_STATUS_replay = s.bit F.ADP_STATUS_replay ∧
    t = { s with regs := t.regs, hw := t.hw } ∧ sameBut [0x14] s t)

/-- Bulk transfers and telemetry. The Owner's BULK_OPEN of DRAM lines in the pattern space opens a transfer with a free ID and answers with it;
without the Owner it gets NOT_OWNER and as the 17th BULK_LIMIT; a read sends at most the first 1,024 frames. A fresh frame in the window is
written to its DRAM bytes and to no others, and leaves open the vectors of exactly those Courses of whose streaming or prefetched segments
it rewrites lines (Table 17.8, log entry 10); a frame that does not fit its transfer changes nothing (log entry 29). An ACK moves next and
the window, the timers send an ACK or frame next again, and END, CANCEL and a stall of 1 s take the transfer out, each with an END on the
wire. A telemetry sample goes, at the next multiple of 10 ms, to each session with a telemetry port, one part outside Stress-Grid; in an
outage it is counted only. Says that exec answers a next state, under conditions on the state and the operands alone, for: bulkOpen,
bulkCancel, bulkData, bulkAckTimer, bulkAck, bulkResendTimer, bulkEnd, bulkStallTimeout, telemetrySample. -/
def Obligations.BulkTransfers : Prop :=
  (∀ (s : State) (h : Hdr) (len arg : Nat), Served s h → s.isOwner h.session = true → len % 64 = 0 → arg + len / 64 ≤ s.patLines →
    s.adp.transfers.length < 16 → ∃ (t : State) (x : Transfer) (r : Response), exec (.bulkOpen h 0xFFFF 0 0 len arg) s = .next t ∧ t.adp.transfers = s.adp.transfers ++ [x] ∧
      s.transfer x.id = none ∧ x.session = h.session ∧ x.idx = 0xFFFF ∧ x.dir = 0 ∧ x.len = len ∧ x.arg = arg ∧ x.next = 0 ∧ x.got = [] ∧
      x.progress = s.tb.loc ∧ t.out = s.out ++ [OutMsg.response r] ∧ r.status = eOk ∧ r.body = [toBe 4 x.id] ∧
      t = { s with adp := t.adp, freeCtr := t.freeCtr, out := t.out }) ∧
  (∀ (s : State) (h : Hdr) (len arg : Nat), Served s h → s.isOwner h.session = false → len % 64 = 0 → arg + len / 64 ≤ s.patLines →
    ∃ t, exec (.bulkOpen h 0xFFFF 0 0 len arg) s = .next t ∧ answered s t h eNotOwner ∧ t.adp.transfers = s.adp.transfers ∧
      t = { s with adp := t.adp, out := t.out }) ∧
  (∀ (s : State) (h : Hdr) (len arg : Nat), Served s h → s.isOwner h.session = true → len % 64 = 0 → arg + len / 64 ≤ s.patLines →
    16 ≤ s.adp.transfers.length → ∃ t, exec (.bulkOpen h 0xFFFF 0 0 len arg) s = .next t ∧ answered s t h eBulkLimit ∧
      t.adp.transfers = s.adp.transfers ∧ t = { s with adp := t.adp, out := t.out }) ∧
  (∀ (s : State) (h : Hdr) (len arg : Nat), Served s h → len % 64 = 0 → arg + len / 64 ≤ 1064370176 → s.adp.transfers.length < 16 →
    ∃ (t : State) (r : Response) (l : List OutMsg), exec (.bulkOpen h 0xFFFF 0 1 len arg) s = .next t ∧ t.adp.transfers.length = s.adp.transfers.length + 1 ∧
      t.out = s.out ++ [OutMsg.response r] ++ l ∧ r.status = eOk ∧ l.length = min (max 1 (ceilDiv len 8192)) 1024 ∧
      drainedOnly { s with adp := t.adp, out := t.out } t) ∧
  (∀ (s : State) (h : Hdr) (id : Nat), Served s h → ∃ (t : State) (l : List OutMsg) (r : Response), exec (.bulkCancel h id) s = .next t ∧
    t.adp.transfers = s.adp.transfers.filter (fun x => !(x.id == id && x.session == h.session)) ∧ t.out = s.out ++ l ++ [OutMsg.response r] ∧
    r.status = eOk ∧ l.length = (s.adp.transfers.filter (fun x => x.id == id && x.session == h.session)).length ∧
    (l ≠ [] → t.bit F.ADP_STATUS_bulk_abandon = true) ∧ t = { s with adp := t.adp, regs := t.regs, hw := t.hw, out := t.out } ∧
    sameButFields [(F.ADP_STATUS_bulk_abandon, 0, 0)] s t) ∧
  (∀ (s : State) (port id frame : Nat) (x : Transfer) (data : List Byte), s.bulkRuns = true → s.transfer id = some x → x.dir = 0 → x.idx = 0xFFFF →
    frame < x.frames → x.next ≤ frame → frame < x.next + 1024 → x.got.contains frame = false → data.length = x.frameLen frame →
    ∃ (t : State) (y : Transfer), exec (.bulkData port x.session id frame (8192 * frame) (frame + 1 == x.frames) data) s = .next t ∧
      (∀ k, k < data.length → some (t.byte (64 * (x.arg + 128 * frame) + k)) = data[k]?) ∧
      (∀ (a : Nat), (a < 64 * (x.arg + 128 * frame) ∨ 64 * (x.arg + 128 * frame) + data.length ≤ a) → t.byte a = s.byte a) ∧
      t.transfer id = some y ∧ y.moved = x.moved + data.length ∧ y.progress = s.tb.loc ∧ (frame = x.next → frame < y.next) ∧
      (x.next < frame → x.got.contains x.next = false → y.next = x.next ∧ y.sinceAck = 0 ∧ ∃ (b : List Nat), t.out = s.out ++ [OutMsg.bulkAck (s.portOf x.session) x.session id x.next b]) ∧
      (∀ c, c < 32 → s.busyLines c (x.arg + 128 * frame) ((data.length + 63) / 64) = true → (t.stream c).wild = some s.now) ∧
      (∀ c, c < 32 → s.busyLines c (x.arg + 128 * frame) ((data.length + 63) / 64) = false → t.stream c = s.stream c) ∧
      t = { s with mem := t.mem, pat := t.pat, bist := t.bist, adp := t.adp, out := t.out }) ∧
  (∀ (s : State) (port session id frame offset : Nat) (x : Transfer) (last : Bool) (data : List Byte), s.transfer id = some x →
    (s.bulkRuns = false ∨ x.session ≠ session ∨ x.dir ≠ 0 ∨ x.frames ≤ frame ∨ x.next + 1024 ≤ frame ∨ offset ≠ 8192 * frame ∨
      data.length ≠ x.frameLen frame ∨ last ≠ (frame + 1 == x.frames)) → exec (.bulkData port session id frame offset last data) s = .next s) ∧
  (∀ (s : State) (id : Nat) (x : Transfer), s.bulkRuns = true → s.transfer id = some x → 0 < x.sinceAck →
    ∃ (t : State) (y : Transfer) (b : List Nat), exec (.bulkAckTimer id) s = .next t ∧ t.tb.loc = max s.tb.loc (x.lastArr + us 50) ∧
      t.out = s.out ++ [OutMsg.bulkAck (s.portOf x.session) x.session id x.next b] ∧ t.transfer id = some y ∧ y = { x with sinceAck := 0 } ∧
      t = { s with adp := t.adp, tb := t.tb, out := t.out }) ∧
  (∀ (s : State) (port id next : Nat) (x : Transfer) (bitmap : List Nat), s.bulkRuns = true → s.transfer id = some x → x.dir = 1 → next ≤ x.sent →
    ∃ (t : State) (y : Transfer) (l : List OutMsg), exec (.bulkAck port x.session id next bitmap) s = .next t ∧ t.transfer id = some y ∧ y.next = max x.next next ∧
      y.sent = max x.sent (min x.frames (y.next + 1024)) ∧ (x.next < next → y.progress = s.tb.loc) ∧ t.out = s.out ++ l ∧
      y.sent - x.sent ≤ l.length ∧ drainedOnly { s with adp := t.adp, out := t.out } t) ∧
  (∀ (s : State) (id : Nat) (x : Transfer), s.bulkRuns = true → s.transfer id = some x → x.dir = 1 → x.next < x.sent →
    ∃ (t : State) (d : List Byte), exec (.bulkResendTimer id) s = .next t ∧ t.tb.loc = max s.tb.loc (Tbl.get x.sentAt 0 x.next + ms 2) ∧
      t.out = s.out ++ [OutMsg.bulkData (s.portOf x.session) x.session id x.next (8192 * x.next) (x.next + 1 == x.frames) d] ∧
      (x.idx = 0xFFFF → d = t.bytes (64 * x.arg + 8192 * x.next) (x.frameLen x.next)) ∧
      drainedOnly { s with adp := t.adp, tb := t.tb, out := t.out } t) ∧
  (∀ (s : State) (id : Nat) (x : Transfer), s.bulkRuns = true → s.transfer id = some x → (x.dir = 1 ∨ x.idx = 0xFFFF) →
    x.next = x.frames → x.sinceAck = 0 → ∃ t, exec (.bulkEnd id) s = .next t ∧ t.adp.transfers = s.adp.transfers.filter (fun y => y.id != id) ∧
      t.out = s.out ++ [OutMsg.bulkEnd (s.portOf x.session) x.session id x.frames x.len eOk] ∧ t = { s with adp := t.adp, out := t.out }) ∧
  (∀ (s : State) (id : Nat) (x : Transfer), s.bulkRuns = true → s.transfer id = some x → ∃ (t : State) (l : List OutMsg), exec (.bulkStallTimeout id) s = .next t ∧
    t.tb.loc = max s.tb.loc (x.progress + ms 1000) ∧ t.adp.transfers = s.adp.transfers.filter (fun y => !(y.id == id)) ∧
    t.bit F.ADP_STATUS_bulk_abandon = true ∧ t.out = s.out ++ l ∧
    l.head? = some (.bulkEnd (s.portOf x.session) x.session id x.next x.moved eBulkAbandoned) ∧
    t = { s with adp := t.adp, tb := t.tb, regs := t.regs, hw := t.hw, out := t.out } ∧ sameButFields [(F.ADP_STATUS_bulk_abandon, 0, 0)] s t) ∧
  (∀ s : State, s.ks.running = true → ∃ (t : State) (l : List OutMsg), exec .telemetrySample s = .next t ∧ t.now = (s.now / ms 10 + 1) * ms 10 ∧
    t.adp = { s.adp with tseq := (s.adp.tseq + 1) % 4294967296 } ∧ t.out = s.out ++ l ∧ (s.ks.outage = true → l = []) ∧
    (s.ks.outage = false → s.md.mode ≠ .stress → l.length = (s.adp.sessions.filter (fun x => decide (x.telPort ≠ 0))).length) ∧
    t = { s with adp := t.adp, tb := t.tb, out := t.out })

/-- Links, stored settings, the journal and the Keystone pairs. A link that goes down clears its port's up bit, sets its event bit and reports
source 51 or 52; one comes up where the start-up has reached the ports. LLDP frames go out every 30 s on each port that is up and the latest
neighbour is kept; a MACsec integrity failure is counted and reported by source 54. A ready Owner write of the allowlist, of a network
setting and of a MACsec key takes effect as a Stored value: the answer waits for the journal, whose verified record stores the value and
sends it; a failed program retires the block. Wear levelling begins an erase by its intent and ends it. A disagreement of the Keystone pair
begins an outage, or reverts in probation; the change-over and the return of service end it within 300 µs, and a request that waited is
served with its ingress instant and the LATE flag. Says that exec answers a next state, under conditions on the state and the operands
alone, for: allowlistWrite, networkConfigWrite, macsecKeyWrite, restoreDefaults, storedValueJournaled, nvmWearLevelling,
macsecIntegrityFail, linkDown, linkUp, lldpTransmit, lldpReceive, keystoneLockstepDisagree, keystoneChangeoverComplete,
keystoneServiceResume. -/
def Obligations.LinksAndStoredValues : Prop :=
  (∀ (s : State) (h : Hdr) (d : Sys2Proof.Data), Ready s h → d.ty = tBlob → d.bytes.length = 1 + 17 * dSub d 0 1 → dSub d 0 1 ≤ 8 →
    ∃ t, exec (.allowlistWrite h d) s = .next t ∧ journaling s t h 0x801300 d.bytes ∧ t.eth = { s.eth with jrn := t.eth.jrn } ∧
      t = { s with dict := Tbl.put s.dict 0x801300 d.bytes, eth := t.eth, adp := t.adp }) ∧
  (∀ (s : State) (h : Hdr) (d : Sys2Proof.Data) (idx p len ty : Nat), Ready s h → netShape idx = some (ty, len) → netSub idx p = true →
    d.ty = ty → d.bytes.length = len → netOk idx d.bytes = true → idx ≠ 0x8009 → ∃ t, exec (.networkConfigWrite h d idx p) s = .next t ∧
      journaling s t h (odKey idx p) (if idx = 0x8004 then (d.bytes.take 2).map boolByte ++ d.bytes.drop 2 else d.bytes) ∧
      t.eth = { s.eth with jrn := t.eth.jrn } ∧ (∀ (k : Nat), k ≠ odKey idx p → Tbl.find t.dict k = Tbl.find s.dict k) ∧
      t = { s with dict := t.dict, eth := t.eth, adp := t.adp }) ∧
  (∀ (s : State) (h : Hdr) (d : Sys2Proof.Data), Ready s h → dataFits d tU8 → dNat d ≤ 3 → s.eth.p0.tx ≠ none → s.eth.p0.rx ≠ none →
    ∃ t, exec (.networkConfigWrite h d 0x8009 0) s = .next t ∧ journaling s t h 0x800900 d.bytes ∧ t.macsec 0 = (dNat d).testBit 0 ∧
      t = { s with dict := t.dict, eth := t.eth, adp := t.adp, regs := t.regs, hw := t.hw, tb := t.tb, fc := t.fc, freeCtr := t.freeCtr, nvm := t.nvm } ∧
      sameBut [0x13, 0x15] s t) ∧
  (∀ (s : State) (h : Hdr) (d : Sys2Proof.Data) (idx p : Nat), Ready s h → netShape idx = none →
    ∃ t, exec (.networkConfigWrite h d idx p) s = .next t ∧ answered s t h eNoObject ∧ t = { s with adp := t.adp, out := t.out }) ∧
  (∀ (s : State) (h : Hdr) (d : Sys2Proof.Data) (p : Nat), Ready s h → p < 2 → d.ty = tBlob → d.bytes.length = 50 → dSub d 49 1 < 2 →
    ∃ t, exec (.macsecKeyWrite h d p) s = .next t ∧
      journaling s t h (0x800A00 + (p + 2 * dSub d 49 1)) (d.bytes.take 49 ++ toBe 1 (dSub d 49 1)) ∧
      (dSub d 49 1 = 0 → (t.eport p).rx = (s.eport p).rx ∧
        (t.eport p).tx = some ⟨dSub d 0 1, (d.bytes.drop 1).take 32, dSub d 33 4, (d.bytes.drop 37).take 12⟩) ∧
      (dSub d 49 1 = 1 → (t.eport p).tx = (s.eport p).tx ∧
        (t.eport p).rx = some ⟨dSub d 0 1, (d.bytes.drop 1).take 32, dSub d 33 4, (d.bytes.drop 37).take 12⟩) ∧
      t.eport (1 - p) = s.eport (1 - p) ∧ t = { s with eth := t.eth, adp := t.adp }) ∧
  (∀ (s : State) (h : Hdr) (d : Sys2Proof.Data), Ready s h → dataFits d tBool → ∃ t, exec (.restoreDefaults h d) s = .next t ∧
    answered s t h eOk ∧ t = { s with eth := { s.eth with restore := dFlag d }, adp := t.adp, out := t.out }) ∧
  (∀ (s : State) (j : JournalRec) (rest : List JournalRec) (r : Response), s.ks.outage = false → s.eth.jrn = j :: rest → j.resp = some r →
    j.told = none → ∃ t, exec (.storedValueJournaled false) s = .next t ∧ Tbl.get t.stored [] j.key = j.val ∧
      (∀ (k : Nat), k ≠ j.key → Tbl.find t.stored k = Tbl.find s.stored k) ∧ t.eth = { s.eth with jrn := rest } ∧ t.out = s.out ++ [OutMsg.response r] ∧
      (s.thm.halted = false → t.fc = s.fc) ∧ t = { s with eth := t.eth, nvm := t.nvm, stored := t.stored, adp := t.adp, out := t.out, fc := t.fc }) ∧
  (∀ (s : State) (j : JournalRec) (rest : List JournalRec), s.ks.outage = false → s.eth.jrn = j :: rest →
    ∃ t, exec (.storedValueJournaled true) s = .next t ∧ t.eth = s.eth ∧ t.stored = s.stored ∧ (s.hearsAt 36 t.tb.loc → t.srcSet 36 = true) ∧
      (∀ (b q : Nat), s.takePage.1 = some (b, q) → (t.block b).retired = true) ∧
      t = { s with regs := t.regs, hw := t.hw, fc := t.fc, freeCtr := t.freeCtr, nvm := t.nvm } ∧ sameBut [0x15] s t) ∧
  (∀ (s : State) (b e : Nat) (bad : Bool), s.ks.running = true → s.ks.outage = false → s.inQuiet = false → s.nvm.eraseOf = some e →
    ∃ t, exec (.nvmWearLevelling b bad) s = .next t ∧ t.nvm.eraseOf = none ∧ (t.block e).erases = (s.block e).erases + 1 ∧
      (t.block e).retired = ((s.block e).retired || bad) ∧ e ∉ t.nvm.intents ∧
      (s.fc.winAt = none → (t.block e).used = 0 ∧ t.nvm.pages = s.nvm.pages) ∧
      t = { s with regs := t.regs, hw := t.hw, fc := t.fc, freeCtr := t.freeCtr, nvm := t.nvm } ∧ sameBut [0x15] s t) ∧
  (∀ (s : State) (b : Nat) (bad : Bool), s.ks.running = true → s.ks.outage = false → s.inQuiet = false → s.nvm.eraseOf = none →
    s.mayErase b = true → ∃ t, exec (.nvmWearLevelling b bad) s = .next t ∧ t.nvm.eraseOf = some b ∧ b ∈ t.nvm.intents ∧
      t.ks = { s.ks with wearRuns := s.ks.wearRuns + 1 } ∧ t = { s with nvm := t.nvm, ks := t.ks }) ∧
  (∀ (s : State) (p : Nat), p < 2 → s.linkUp p = true → s.macsec p = true → ∃ t, exec (.macsecIntegrityFail p) s = .next t ∧
    (t.eport p).discards = (s.eport p).discards + 1 ∧ t.eport (1 - p) = s.eport (1 - p) ∧ (s.hearsAt 54 t.tb.loc → t.srcSet 54 = true) ∧
    t = { s with eth := t.eth, regs := t.regs, hw := t.hw, fc := t.fc, freeCtr := t.freeCtr, nvm := t.nvm } ∧ sameBut [0x15] s t) ∧
  (∀ (s : State) (p : Nat), p < 2 → s.linkUp p = true → ∃ t, exec (.linkDown p) s = .next t ∧ t.linkUp p = false ∧
    t.linkUp (1 - p) = s.linkUp (1 - p) ∧ t.bit (if p = 0 then F.ETH_STATUS_e0_down_evt else F.ETH_STATUS_e1_down_evt) = true ∧
    (s.hearsAt (51 + p) t.tb.loc → t.srcSet (51 + p) = true) ∧ (s.bit F.TB_STATUS_is_tk = false → t.tb = s.tb) ∧
    t = { s with tb := t.tb, regs := t.regs, hw := t.hw, fc := t.fc, freeCtr := t.freeCtr, nvm := t.nvm } ∧ sameBut [0x13, 0x15] s t) ∧
  (∀ (s : State) (p : Nat), p < 2 → s.portsOn = true → s.linkUp p = false → ∃ t, exec (.linkUp p) s = .next t ∧ t.linkUp p = true ∧
    t.linkUp (1 - p) = s.linkUp (1 - p) ∧ (s.bit F.TB_STATUS_is_tk = false → t.tb = s.tb) ∧
    t = { s with tb := t.tb, regs := t.regs, hw := t.hw, fc := t.fc, freeCtr := t.freeCtr, nvm := t.nvm } ∧ sameBut [0x13, 0x15] s t) ∧
  (∀ s : State, s.portsOn = true → s.ks.outage = false → ∃ (t : State) (l : List OutMsg), exec .lldpTransmit s = .next t ∧
    t.tb.loc = (s.tb.loc / ms 30000 + 1) * ms 30000 ∧ t.out = s.out ++ l ∧ l.length = (s.linkUp 0).toNat + (s.linkUp 1).toNat ∧
    (∀ p, p < 2 → s.linkUp p = true → .lldp p (toBe 6 (Config.macBase + p)) [69, BitVec.ofNat 8 (48 + p)] 120 s.lldpName s.lldpOrg ∈ l) ∧ t = { s with tb := t.tb, out := t.out }) ∧
  (∀ (s : State) (p ttl : Nat) (chassis portId : List Byte), p < 2 → s.linkUp p = true → ∃ t, exec (.lldpReceive p chassis portId ttl) s = .next t ∧
    t.eport p = { s.eport p with chassis := pad32 chassis, portId := pad32 portId, ttl := ttl % 65536, ttlAt := s.tb.loc } ∧
    t.eport (1 - p) = s.eport (1 - p) ∧ t = { s with eth := t.eth }) ∧
  (∀ s : State, s.ks.running = true → s.ks.outage = false → s.switchState ≠ swProbation → ∃ t, exec .keystoneLockstepDisagree s = .next t ∧
    t.ks = { s.ks with outage := true, outageAt := s.tb.loc, changing := true } ∧ (s.hearsAt 37 t.tb.loc → t.srcSet 37 = true) ∧
    t = { s with ks := t.ks, regs := t.regs, hw := t.hw, fc := t.fc, freeCtr := t.freeCtr, nvm := t.nvm } ∧ sameBut [0x15] s t) ∧
  (∀ s : State, s.ks.running = true → s.ks.outage = false → s.switchState = swProbation → ∃ t, exec .keystoneLockstepDisagree s = .next t ∧
    t.ks = { s.ks with outage := true, outageAt := s.tb.loc, changing := false } ∧ t.tr.bank = 1 - s.tr.bank ∧ t.switchState = swReverted ∧
    t.bit F.KEY_STATUS_reverted = true ∧ (s.hearsAt 37 t.tb.loc → t.srcSet 37 = true) ∧
    t = { s with ks := t.ks, tr := t.tr, regs := t.regs, hw := t.hw, fc := t.fc, freeCtr := t.freeCtr, nvm := t.nvm } ∧ sameBut [0x01, 0x15] s t) ∧
  (∀ (s : State) (dt : Nat), s.ks.changing = true → ∃ t, exec (.keystoneChangeoverComplete dt) s = .next t ∧
    t.ks = { s.ks with changing := false } ∧ t.tb.loc = max s.tb.loc (s.ks.outageAt + min dt (us 300)) ∧
    t.bit F.KEY_STATUS_change_over = true ∧ t.bit F.KEY_STATUS_standby_ok = false ∧ t.bit F.KEY_STATUS_pair = !s.bit F.KEY_STATUS_pair ∧
    (s.switchState ≠ swLoading → s.switchState ≠ swStaged → t.tr = s.tr) ∧
    (s.switchState = swLoading ∨ s.switchState = swStaged → t.tr.bank = 1 - s.tr.bank ∧ t.switchState = swIdle ∧
      t.bit F.KEY_STATUS_switched = true) ∧
    t = { s with ks := t.ks, tr := t.tr, tb := t.tb, regs := t.regs, hw := t.hw, nvm := t.nvm } ∧ sameBut [0x01] s t) ∧
  (∀ (s : State) (dt : Nat), s.ks.changing = false → s.tr.buffering = false → s.ks.outage = true → s.ks.buffered = [] →
    s.switchState ≠ swSwitching → ∃ t, exec (.keystoneServiceResume dt) s = .next t ∧
      t.ks = { s.ks with outage := false, serving := none } ∧ t.tb.loc = max s.tb.loc (s.ks.outageAt + min dt (us 300)) ∧
      t.fc.queued = s.fc.queued.drop 64 ∧ t = { s with ks := t.ks, tb := t.tb, fc := t.fc, nvm := t.nvm }) ∧
  (∀ (s : State) (dt at_ bytes : Nat) (h : Hdr) (x : Session), s.ks.running = true → s.tr.recovery = false → s.ks.changing = false →
    s.tr.buffering = false → s.ks.outage = true → s.ks.buffered = [⟨at_, h.port, bytes, .adpRenew h⟩] → s.switchState ≠ swSwitching →
    s.session h.session = some x → x.fresh h.seq → (∀ y ∈ s.adp.sessions, at_ ≤ y.renewed + leaseTicks) →
    ∃ (t : State) (r : Response), exec (.keystoneServiceResume dt) s = .next t ∧ t.ks = { s.ks with outage := false, serving := none, buffered := [] } ∧
      t.out = s.out ++ [OutMsg.response r] ∧ r.status = eOk ∧ r.late = true ∧ r.seq = h.seq ∧
      t = { s with ks := t.ks, tb := t.tb, fc := t.fc, nvm := t.nvm, adp := t.adp, out := t.out })

/-- Fault reports, injections, the self-check and the fault log. A report of severity 0 to 3 from a source that is not in re-arm sets its
FC_STATUS bit, raises its sev_max to the greater severity, steps its repeat count up to 255 and stores its detail; FC_INJ and OD 0x9008.00
present such a report with the inj bit set, and without inj_esc open no escalation. A Site-fatal report names a site (R513). By 2.6 ns after
the first-fault window opened its close captures the best candidate, with a stamp within 2 ns of the window's opening. The self-check
reports source 62 for a failing path. The Keystone writes the oldest waiting record to the fault log. Says that exec answers a next state,
under conditions on the state and the operands alone, for: faultReport, faultInject, firstFaultWindowClose, collectorSelfCheck,
faultLogWrite. -/
def Obligations.FaultReports : Prop :=
  (∀ (s : State) (src sev det row : Nat), src < 63 → sev ≤ 3 → (sev = 2 → det / 4096 % 16 = clsSite) → s.hears src → ∃ t, exec (.faultReport src sev det row) s = .next t ∧
    t.srcSet src = true ∧ t.fld F.FC_SRC_sev_max 0 src = max sev (s.fld F.FC_SRC_sev_max 0 src) % 4 ∧
    t.fld F.FC_SRC_repeat 0 src = satInc 8 (s.fld F.FC_SRC_repeat 0 src) ∧ t.fld F.FC_SRC_detail 0 src = det % 65536 ∧
    t = { s with regs := t.regs, hw := t.hw, fc := t.fc, freeCtr := t.freeCtr, nvm := t.nvm } ∧ sameBut [0x15] s t) ∧
  (∀ s : State, s.fld F.FC_INJ_src < 63 → s.hears (s.fld F.FC_INJ_src) → ∃ t, exec (.faultInject .reg) s = .next t ∧
    t.srcSet (s.fld F.FC_INJ_src) = true ∧ t.bit F.FC_SRC_inj 0 (s.fld F.FC_INJ_src) = true ∧
    t.fld F.FC_SRC_detail 0 (s.fld F.FC_INJ_src) = s.fld F.FC_INJ_detail % 65536 ∧
    (s.bit F.FC_INJ_inj_esc = false → t.fc.esc = s.fc.esc) ∧ t = { s with regs := t.regs, hw := t.hw, fc := t.fc, freeCtr := t.freeCtr, nvm := t.nvm } ∧ sameBut [0x15] s t) ∧
  (∀ (s : State) (h : Hdr) (d : Sys2Proof.Data), Ready s h → d.ty = tBlob → d.bytes.length = 5 → dSub d 0 1 < 63 → dSub d 1 1 ≤ 3 →
    s.hears (dSub d 0 1) → ∃ t, exec (.faultInject (.od h d)) s = .next t ∧ answered s t h eOk ∧ t.srcSet (dSub d 0 1) = true ∧
    t.bit F.FC_SRC_inj 0 (dSub d 0 1) = true ∧ (dSub d 4 1 = 0 → t.fc.esc = s.fc.esc) ∧
    t = { s with regs := t.regs, hw := t.hw, fc := t.fc, freeCtr := t.freeCtr, nvm := t.nvm, adp := t.adp, out := t.out } ∧ sameBut [0x15] s t) ∧
  (∀ (s : State) (w : Nat) (c : Cand) (cs : List Cand), s.fc.winAt = some w → s.fc.cands = c :: cs →
    ∃ t, exec .firstFaultWindowClose s = .next t ∧ t.tb.loc = max s.tb.loc (s.fc.winLoc + 10649) ∧ t.fc.winAt = none ∧ t.fc.cands = [] ∧
      w ≤ t.fc.firstAt + 8192 ∧ t.fc.firstAt ≤ w + 8192 ∧ t.bit F.FC_FIRST_valid = true ∧ t.fld F.FC_FIRST_src = (cs.foldl Cand.better c).src % 64 ∧
      t.fld F.FC_FIRST_sev = (cs.foldl Cand.better c).sev % 4 ∧ t.fld F.FC_FIRST_DET_detail = (cs.foldl Cand.better c).detail % 65536 ∧
      t = { s with regs := t.regs, hw := t.hw, fc := t.fc, tb := t.tb, freeCtr := t.freeCtr, nvm := t.nvm } ∧ sameBut [0x15] s t) ∧
  (∀ (s : State) (failing : List Nat), ∃ t, exec (.collectorSelfCheck failing) s = .next t ∧ t.tb.loc = (s.tb.loc / ms 10000 + 1) * ms 10000 ∧
    t.fc.shadowBad = failing ∧ ((∃ k ∈ failing, k < 64) → s.hearsAt 62 t.tb.loc → t.srcSet 62 = true) ∧
    t = { s with regs := t.regs, hw := t.hw, fc := t.fc, tb := t.tb, freeCtr := t.freeCtr, nvm := t.nvm } ∧ sameBut [0x15] s t) ∧
  (∀ (s : State) (r : LogRec) (rest : List LogRec), s.ks.running = true → s.ks.outage = false → s.fc.queued = r :: rest →
    ∃ t, exec .faultLogWrite s = .next t ∧ t.fc.queued = rest ∧ t.fc.written = s.fc.written + 1 ∧
      t.fc.log.getLast? = some r ∧ t = { s with fc := t.fc, nvm := t.nvm })

/-- Clearing sources, the first fault and the overflow; the escalation time; escalation and restore. A write of FC_STATUS, or a ready Owner
write of OD 0x9003.00, clears the bits of its mask but those set at this very instant (R509), and no others, and starts the re-arm of each
source cleared, over within 40 ns; FIRST_FAULT_REARM empties FC_FIRST and re-arms it within 40 ns; FC_OVF_CLEAR clears the flag and the
count. OD 0x9005.00 is rounded up to whole microseconds, kept between 100 µs and 1 s in FC_ESC, and journaled. At its expiry the entry that
expires first leaves the queue; with its source cleared since, nothing else happens; else esc_done is set: a Chip-critical one puts the chip
into Safe with no pending change, and a Site-fatal one parks the site of its detail, now or when its threads are over. A ready Owner
RESTORE_SITE whose home Course's source is clear takes a parked site out of the parked sites, and RESTORE_COURSE takes a Course whose source
is clear out of the derated ones; with the source set both give FAULT_ACTIVE and change nothing. Says that exec answers a next state, under
conditions on the state and the operands alone, for: faultClear, firstFaultRearm, fcOvfClear, escalationTimeWrite, escalationExpiry,
restoreSite, restoreCourse. -/
def Obligations.FaultClears : Prop :=
  (∀ (s : State) (m : Nat), ∃ t, exec (.faultClear .reg m) s = .next t ∧ (∀ k, k < 64 → t.srcSet k = (s.srcSet k && !(m.testBit k && !s.srcNow k))) ∧
    (∀ k, k < 64 → s.srcSet k = true → m.testBit k = true → s.srcNow k = false → (Tbl.get t.fc.rearm (0, 0) k).1 = s.tb.loc ∧
      (Tbl.get t.fc.rearm (0, 0) k).2 ≤ s.tb.loc + ns 40 ∧ t.fld F.FC_SRC_sev_max 0 k = 0 ∧ t.fld F.FC_SRC_repeat 0 k = 0) ∧
    t = { s with regs := t.regs, fc := t.fc, freeCtr := t.freeCtr } ∧ sameBut [0x15] s t) ∧
  (∀ (s : State) (h : Hdr) (d : Sys2Proof.Data) (m : Nat), Ready s h → dataFits d tU64 → ∃ t, exec (.faultClear (.od h d) m) s = .next t ∧
    answered s t h eOk ∧ (∀ k, k < 64 → t.srcSet k = (s.srcSet k && !((dNat d).testBit k && !s.srcNow k))) ∧
    t = { s with regs := t.regs, fc := t.fc, freeCtr := t.freeCtr, adp := t.adp, out := t.out } ∧ sameBut [0x15] s t) ∧
  (∀ s : State, s.heldBit F.FC_FIRST_valid 0 0 0 = false → ∃ t, exec (.firstFaultRearm .reg) s = .next t ∧ t.bit F.FC_FIRST_valid = false ∧ t.fld F.FC_FIRST_src = 0 ∧
    t.fld F.FC_FIRST_sev = 0 ∧ t.fld F.FC_FIRST_DET_detail = 0 ∧ t.fc.firstRearm.1 = s.tb.loc ∧ t.fc.firstRearm.2 ≤ s.tb.loc + ns 40 ∧ t.fc.esc = s.fc.esc ∧
    (s.firstOver = false → t = { s with regs := t.regs, fc := t.fc, freeCtr := t.freeCtr }) ∧
    t = { s with regs := t.regs, hw := t.hw, fc := t.fc, freeCtr := t.freeCtr, nvm := t.nvm } ∧ sameBut [0x15] s t) ∧
  (∀ (s : State) (h : Hdr) (d : Sys2Proof.Data), Ready s h → dTrue d → s.heldBit F.FC_FIRST_valid 0 0 0 = false → ∃ t, exec (.firstFaultRearm (.od h d)) s = .next t ∧ answered s t h eOk ∧
    t.bit F.FC_FIRST_valid = false ∧ t.fc.firstRearm.1 = s.tb.loc ∧ t.fc.firstRearm.2 ≤ s.tb.loc + ns 40 ∧
    (s.firstOver = false → t = { s with regs := t.regs, fc := t.fc, freeCtr := t.freeCtr, adp := t.adp, out := t.out }) ∧
    t = { s with regs := t.regs, hw := t.hw, fc := t.fc, freeCtr := t.freeCtr, nvm := t.nvm, adp := t.adp, out := t.out } ∧ sameBut [0x15] s t) ∧
  (∀ s : State, s.heldBit F.FC_OVF_ovf 0 0 0 = false → ∃ t, exec .fcOvfClear s = .next t ∧ t.bit F.FC_OVF_ovf = false ∧ t.fld F.FC_OVF_count = 0 ∧ t = { s with regs := t.regs, hw := t.hw } ∧
    sameButFields [(F.FC_OVF_ovf, 0, 0), (F.FC_OVF_count, 0, 0)] s t) ∧
  (∀ (s : State) (h : Hdr) (d : Sys2Proof.Data), Ready s h → dataFits d tU64 → ∃ t, exec (.escalationTimeWrite h d) s = .next t ∧
    t.fld F.FC_ESC_esc_us = clampNat 100 1000000 (ceilDiv (dNat d) 1000000) ∧
    journaling s t h 0x900500 (toBe 8 (ceilDiv (dNat d) 1000000 * 1000000)) ∧
    t = { s with regs := t.regs, hw := t.hw, dict := t.dict, eth := t.eth, adp := t.adp } ∧ sameButFields [(F.FC_ESC_esc_us, 0, 0)] s t) ∧
  (∀ (s : State) (e : EscEntry), nextEsc s.fc.esc = some e → s.srcSet e.src = false → ∃ t, exec .escalationExpiry s = .next t ∧
    t.fc = { s.fc with esc := s.fc.esc.erase e } ∧ t.tb.loc = max s.tb.loc e.expiry ∧ t = { s with tb := t.tb, fc := t.fc }) ∧
  (∀ (s : State) (e : EscEntry), nextEsc s.fc.esc = some e → s.srcSet e.src = true → e.src < 63 → s.thm.halted = true → ∃ t, exec .escalationExpiry s = .next t ∧
    t.fc.esc = s.fc.esc.erase e ∧ t.bit F.FC_SRC_esc_done 0 e.src = true ∧ t.md = s.md ∧ t.fc.parked = s.fc.parked ∧
    t = { s with regs := t.regs, hw := t.hw, fc := t.fc, nvm := t.nvm, tb := t.tb } ∧ sameBut [0x15] s t) ∧
  (∀ (s : State) (e : EscEntry), nextEsc s.fc.esc = some e → s.srcSet e.src = true → e.src < 63 → e.sev = 3 → s.thm.halted = false →
    ∃ t, exec .escalationExpiry s = .next t ∧ t.md.mode = .safe ∧ t.md.safeCause = 2 ∧ t.md.pend = []) ∧
  (∀ (s : State) (e : EscEntry), nextEsc s.fc.esc = some e → s.srcSet e.src = true → e.src < 63 → e.sev = 2 → e.detail / 4096 = clsSite → e.detail % 4096 < 256 → s.thm.halted = false →
    ∃ t, exec .escalationExpiry s = .next t ∧ (e.detail % 4096 ∈ t.fc.parked ∨ e.detail % 4096 ∈ t.fc.parking)) ∧
  (∀ (s : State) (h : Hdr) (d : Sys2Proof.Data) (site : Nat), Ready s h → dTrue d → site < 256 → site ∈ s.fc.parked →
    s.srcSet ((s.homeCourse site).getD (site / 8)) = false → ∃ t, exec (.restoreSite h d site) s = .next t ∧ answered s t h eOk ∧
      t.fc = { s.fc with parked := removeNat s.fc.parked site, parking := removeNat s.fc.parking site } ∧
      t = { s with regs := t.regs, hw := t.hw, seq := t.seq, fc := t.fc, adp := t.adp, out := t.out } ∧ sameBut [0x0A] s t) ∧
  (∀ (s : State) (h : Hdr) (d : Sys2Proof.Data) (site : Nat), Ready s h → dTrue d → site < 256 → site ∈ s.fc.parked →
    s.srcSet ((s.homeCourse site).getD (site / 8)) = true → ∃ t, exec (.restoreSite h d site) s = .next t ∧ answered s t h eFaultActive ∧
      t = { s with adp := t.adp, out := t.out }) ∧
  (∀ (s : State) (h : Hdr) (d : Sys2Proof.Data) (c : Nat), Ready s h → dTrue d → c < 32 → c ∈ s.fc.derated → s.srcSet c = false →
    ∃ t, exec (.restoreCourse h d c) s = .next t ∧ answered s t h eOk ∧ t.fc.derated = removeNat s.fc.derated c ∧
      (∀ n, n < 8 → s.siteOf (8 * c + n) ∉ t.fc.parked) ∧
      t = { s with regs := t.regs, hw := t.hw, seq := t.seq, bonds := t.bonds, fc := t.fc, adp := t.adp, out := t.out } ∧ sameBut [0x0A] s t) ∧
  (∀ (s : State) (h : Hdr) (d : Sys2Proof.Data) (c : Nat), Ready s h → dTrue d → c < 32 → c ∈ s.fc.derated → s.srcSet c = true →
    ∃ t, exec (.restoreCourse h d c) s = .next t ∧ answered s t h eFaultActive ∧ t = { s with adp := t.adp, out := t.out })

/-- Self-test runs, fuses, DRAM errors and post-package repair. A start that Table 18.5 allows begins a run, exclusive kinds in Safe or Survey
only; a second one gets BUSY_BIST. Slices run between due launch records and count; equal signatures end a run PASS, unequal ones FAIL with
a report of the target; an abort and the time limit end it INCOMPLETE. In Safe the fuse map takes the soft repairs and hard PPR the
candidate rows it has resources for; out of Safe both get MODE_CONFLICT. A DRAM line read again counts its retries and reports the stack's
source; after three failures it stays uncorrectable and its row is a candidate; a patrol pass counts what it corrected. Says that exec
answers a next state, under conditions on the state and the operands alone, for: bistStart, bistAbort, bistSliceStart, bistSliceComplete,
bistComplete, bistTimeLimit, fuseSoftRepairMap, hardPpr, dramLineRetry, patrolScrub. -/
def Obligations.SelfTestAndDram : Prop :=
  (∀ s : State, s.bist.run = none → bistAllows (s.fld F.BST_CFG_kind) (s.fld F.BST_CFG_target) = true →
    (2 ≤ s.fld F.BST_CFG_kind ∨ s.md.mode = .safe ∨ s.md.mode = .survey) → ∃ t, exec (.bistStart .reg) s = .next t ∧
      t.bist = { s.bist with run := some ⟨s.fld F.BST_CFG_kind, s.fld F.BST_CFG_target, s.tb.loc, false, 0, s.bit F.BST_CTRL_soft_rep⟩ } ∧
      t.fld F.BST_STATUS_state = 1 ∧ t.fld F.BST_DONE_count = 0 ∧
      t.fld F.BST_PROG_count = bistSlices (s.fld F.BST_CFG_kind) (s.fld F.BST_CFG_target) % 2 ^ 32 ∧
      t = { s with bist := t.bist, regs := t.regs, hw := t.hw } ∧ sameBut [0x16] s t) ∧
  (∀ s : State, s.bist.run ≠ none → exec (.bistStart .reg) s = .next s) ∧
  (∀ (s : State) (h : Hdr) (d : Sys2Proof.Data), Served s h → d.ty = tBlob → d.bytes.length = 3 → bistAllows (dSub d 0 1) (dSub d 1 1) = true →
    s.bist.run = none → (2 ≤ dSub d 0 1 ∨ s.isOwner h.session = true ∧ (s.md.mode = .safe ∨ s.md.mode = .survey)) →
    ∃ t, exec (.bistStart (.od h d)) s = .next t ∧ answered s t h eOk ∧
      t.bist = { s.bist with run := some ⟨dSub d 0 1, dSub d 1 1, s.tb.loc, false, 0, decide (dSub d 2 1 ≠ 0)⟩ } ∧ t.fld F.BST_STATUS_state = 1 ∧
      t = { s with bist := t.bist, regs := t.regs, hw := t.hw, adp := t.adp, out := t.out } ∧ sameBut [0x16] s t) ∧
  (∀ (s : State) (h : Hdr) (d : Sys2Proof.Data), Served s h → d.ty = tBlob → d.bytes.length = 3 → bistAllows (dSub d 0 1) (dSub d 1 1) = true →
    s.bist.run ≠ none → (2 ≤ dSub d 0 1 ∨ s.isOwner h.session = true) → ∃ t, exec (.bistStart (.od h d)) s = .next t ∧ answered s t h eBusyBist ∧
      t = { s with adp := t.adp, out := t.out }) ∧
  (∀ (s : State) (r : BistRun), s.bist.run = some r → ∃ t, exec (.bistAbort .reg) s = .next t ∧ t.bist = { s.bist with run := none, last := t.bist.last } ∧
    t.bist.last.verdict = vIncomplete ∧ t.bist.last.target = r.target ∧ t.fld F.BST_STATUS_state = 4 ∧
    t = { s with bist := t.bist, regs := t.regs, hw := t.hw, fc := t.fc, nvm := t.nvm } ∧ sameButFields [(F.BST_STATUS_state, 0, 0)] s t) ∧
  (∀ (s : State) (h : Hdr) (d : Sys2Proof.Data) (r : BistRun), Served s h → dTrue d → s.bist.run = some r → (2 ≤ r.kind ∨ s.isOwner h.session = true) →
    ∃ t, exec (.bistAbort (.od h d)) s = .next t ∧ answered s t h eOk ∧ t.bist.run = none ∧ t.bist.last.verdict = vIncomplete ∧
      t.fld F.BST_STATUS_state = 4 ∧ t = { s with bist := t.bist, regs := t.regs, hw := t.hw, fc := t.fc, nvm := t.nvm, adp := t.adp, out := t.out } ∧
      sameButFields [(F.BST_STATUS_state, 0, 0)] s t) ∧
  (∀ (s : State) (r : BistRun), s.bist.run = some r → s.sliceMay r = true →
    exec .bistSliceStart s = .next { s with bist := { s.bist with run := some { r with slice := true } } }) ∧
  (∀ (s : State) (r : BistRun), s.bist.run = some r → r.slice = true → ∃ t, exec .bistSliceComplete s = .next t ∧
    t.bist = { s.bist with run := some { r with slice := false } } ∧ t.fld F.BST_DONE_count = (s.fld F.BST_DONE_count + 1) % 2 ^ 32 ∧
    t = { s with bist := t.bist, regs := t.regs, hw := t.hw } ∧ sameButFields [(F.BST_DONE_count, 0, 0)] s t) ∧
  (∀ (s : State) (r : BistRun) (sig src det : Nat) (repairs : List Nat), s.bist.run = some r →
    (r.kind < 2 ∨ s.fld F.BST_DONE_count = s.fld F.BST_PROG_count) → ∃ t, exec (.bistComplete sig sig src det repairs) s = .next t ∧
      t.bist.run = none ∧ t.bist.last.verdict = vPass ∧ t.fld F.BST_STATUS_state = 2 ∧
      t.bist.softMap = (if r.kind ≤ 1 || r.soft then s.bist.softMap ++ repairs else s.bist.softMap) ∧
      t = { s with bist := t.bist, regs := t.regs, hw := t.hw, fc := t.fc, nvm := t.nvm } ∧ sameBut [0x16] s t) ∧
  (∀ (s : State) (r : BistRun) (sig exp_ src det : Nat) (repairs : List Nat), s.bist.run = some r →
    (r.kind < 2 ∨ s.fld F.BST_DONE_count = s.fld F.BST_PROG_count) → sig % 2 ^ 64 ≠ exp_ % 2 ^ 64 →
    ∃ t, exec (.bistComplete sig exp_ src det repairs) s = .next t ∧ t.bist.run = none ∧ t.bist.last.verdict = vFail ∧
      t.fld F.BST_STATUS_state = 3 ∧ (r.kind ≠ 0 → r.target < 63 → s.hearsAt r.target t.tb.loc → t.srcSet r.target = true) ∧
      t = { s with bist := t.bist, regs := t.regs, hw := t.hw, fc := t.fc, freeCtr := t.freeCtr, nvm := t.nvm } ∧ sameBut [0x15, 0x16] s t) ∧
  (∀ (s : State) (r : BistRun), s.bist.run = some r → ∃ t, exec .bistTimeLimit s = .next t ∧
    t.tb.loc = max s.tb.loc (r.started + ms (max 1 (s.fld F.BST_LIMIT_limit_ms))) ∧ t.bist.run = none ∧ t.bist.last.verdict = vIncomplete ∧
    t.fld F.BST_STATUS_state = 4 ∧ t = { s with bist := t.bist, regs := t.regs, hw := t.hw, fc := t.fc, nvm := t.nvm, tb := t.tb } ∧
    sameButFields [(F.BST_STATUS_state, 0, 0)] s t) ∧
  (∀ (s : State) (h : Hdr) (d : Sys2Proof.Data) (bad : List Nat), Ready s h → dTrue d → s.md.mode = .safe →
    s.bist.fuseField.length + s.bist.softMap.length ≤ 512 → ∃ t l, exec (.fuseSoftRepairMap h d bad) s = .next t ∧ answered s t h eOk ∧
      t.bist = { s.bist with fuseField := s.bist.fuseField ++ l } ∧ (∀ e ∈ l, e.1 ∈ s.bist.softMap ∧ e.2 = !bad.contains e.1) ∧
      (∀ e ∈ s.bist.softMap, (e, true) ∈ t.bist.fuseField ∨ (e, false) ∈ l) ∧
      t = { s with bist := t.bist, regs := t.regs, hw := t.hw, fc := t.fc, freeCtr := t.freeCtr, nvm := t.nvm, adp := t.adp, out := t.out } ∧ sameBut [0x15] s t) ∧
  (∀ (s : State) (h : Hdr) (d : Sys2Proof.Data) (bad : List Nat), Ready s h → dataFits d tBool → s.md.mode ≠ .safe →
    ∃ t, exec (.fuseSoftRepairMap h d bad) s = .next t ∧ answered s t h eModeConflict ∧ t = { s with adp := t.adp, out := t.out }) ∧
  (∀ (s : State) (h : Hdr) (d : Sys2Proof.Data) (n : Nat), Ready s h → n < 4 → dTrue d → s.md.mode = .safe → ∃ t, exec (.hardPpr h d n) s = .next t ∧
    t.stack n = { s.stack n with
      cands := (s.stack n).cands.drop (s.pprLeft n), hard := (s.stack n).hard ++ (s.stack n).cands.take (s.pprLeft n) } ∧
    (∀ m, m ≠ n → t.stack m = s.stack m) ∧ ((s.stack n).cands.take (s.pprLeft n) = [] → answered s t h eOk ∧ t.eth = s.eth) ∧
    ((s.stack n).cands.take (s.pprLeft n) ≠ [] → t.out = s.out ∧ t.eth.jrn.length = s.eth.jrn.length + 1) ∧
    t = { s with bist := t.bist, eth := t.eth, regs := t.regs, hw := t.hw, fc := t.fc, freeCtr := t.freeCtr, nvm := t.nvm, adp := t.adp, out := t.out } ∧
    sameBut [0x15] s t) ∧
  (∀ (s : State) (h : Hdr) (d : Sys2Proof.Data) (n : Nat), Ready s h → n < 4 → dataFits d tBool → s.md.mode ≠ .safe →
    ∃ t, exec (.hardPpr h d n) s = .next t ∧ answered s t h eModeConflict ∧ t = { s with adp := t.adp, out := t.out }) ∧
  (∀ (s : State) (n pc bank row line tries : Nat), n < 4 → ∃ t, exec (.dramLineRetry n pc bank row line tries true) s = .next t ∧
    t.stack n = { s.stack n with retries := (s.stack n).retries + clampNat 1 3 tries, corrected := (s.stack n).corrected + 1 } ∧
    (∀ m, m ≠ n → t.stack m = s.stack m) ∧ t.bist.corrupt = s.bist.corrupt ∧ (s.hearsAt (32 + n) t.tb.loc → t.srcSet (32 + n) = true) ∧
    t = { s with bist := t.bist, regs := t.regs, hw := t.hw, fc := t.fc, freeCtr := t.freeCtr, nvm := t.nvm } ∧ sameBut [0x15] s t) ∧
  (∀ (s : State) (n pc bank row line tries : Nat), n < 4 → ∃ t, exec (.dramLineRetry n pc bank row line tries false) s = .next t ∧
    (t.stack n).retries = (s.stack n).retries + 3 ∧ (t.stack n).uncorrectable = (s.stack n).uncorrectable + 1 ∧ row ∈ (t.stack n).cands ∧
    (∀ m, m ≠ n → t.stack m = s.stack m) ∧ (∀ k, t.corruptLine k = (k == line || s.corruptLine k)) ∧
    (s.hearsAt (32 + n) t.tb.loc → t.srcSet (32 + n) = true) ∧
    ((∀ c, c < 32 → (s.stream c).starving = false) →
      t = { s with bist := t.bist, eth := t.eth, regs := t.regs, hw := t.hw, fc := t.fc, freeCtr := t.freeCtr, nvm := t.nvm } ∧ sameBut [0x15] s t)) ∧
  (∀ (s : State) (n : Nat) (rows : List Nat), n < 4 → s.inQuiet = false → s.ks.running = true → s.thm.halted = false →
    ∃ t, exec (.patrolScrub n rows) s = .next t ∧ (t.stack n).corrected = (s.stack n).corrected + rows.length ∧
      t.ks = { s.ks with patrols := s.ks.patrols + 1 } ∧ (∀ m, m ≠ n → t.stack m = s.stack m) ∧
      (∀ r ∈ rows, 15 ≤ ((Tbl.get (s.stack n).patrol [] r).filter (fun a => decide (s.tb.loc < a + ms 86400000))).length →
        r ∈ (t.stack n).cands) ∧ t = { s with bist := t.bist, ks := t.ks, eth := t.eth })

/-- Calibration drafts, runs and commits. The Owner's LOAD_DRAFT copies the set in force to the draft, a write of 196,608 bytes replaces it, and
CAL_REF and the standard take their values. A commit in Safe or Survey with no run and no commit in progress begins one of the next
generation; a draft equal to the set in force completes it with no new generation, another one revokes every slot and takes a fresh slot,
while there is one, and the NVM copy, and is in force. A run in Survey takes its class's time, aborts the one before and writes its reading
into the draft; out of Survey it gets MODE_CONFLICT. Says that exec answers a next state, under conditions on the state and the operands
alone, for: calLoadDraft, calDraftWrite, calCommit, calCommitComplete, calRefModeWrite, standardValueWrite, calRun, calRunComplete. -/
def Obligations.CalibrationSets : Prop :=
  (∀ (s : State) (h : Hdr) (d : Sys2Proof.Data), Ready s h → dTrue d → ∃ t, exec (.calLoadDraft h d) s = .next t ∧ answered s t h eOk ∧
    t = { s with cal := { s.cal with draft := s.calData }, adp := t.adp, out := t.out }) ∧
  (∀ (s : State) (h : Hdr) (d : Sys2Proof.Data), Ready s h → d.ty = tBlob → d.bytes.length = 196608 → ∃ t, exec (.calDraftWrite h d) s = .next t ∧
    answered s t h eOk ∧ (∀ k, k < 196608 → some (Tbl.get t.cal.draft 0 k) = d.bytes[k]?) ∧ t.cal = { s.cal with draft := t.cal.draft } ∧
    t = { s with cal := t.cal, adp := t.adp, out := t.out }) ∧
  (∀ (s : State) (h : Hdr) (d : Sys2Proof.Data), Ready s h → d.ty = tBlob → d.bytes.length ≠ 196608 → ∃ t, exec (.calDraftWrite h d) s = .next t ∧
    answered s t h eLength ∧ t = { s with adp := t.adp, out := t.out }) ∧
  (∀ (s : State) (h : Hdr) (d : Sys2Proof.Data), Ready s h → dTrue d → s.md.mode = .safe ∨ s.md.mode = .survey → s.cal.run = none →
    s.cal.commit = none → ∃ (t : State) (c : CalCommitState), exec (.calCommit h d) s = .next t ∧ answered s t h eOk ∧ t.cal = { s.cal with commit := some c } ∧
      c.set = ⟨(match s.cal.force with | some x => x.gen | none => 0) + 1, Config.keptBack s.cal.draft s.calData⟩ ∧
      t.bit F.CAL_STATUS_committing = true ∧ (Config.implausible s.cal.draft s.calData ≠ [] → t.bit F.CAL_STATUS_flagged = true) ∧
      t = { s with cal := t.cal, regs := t.regs, hw := t.hw, fc := t.fc, freeCtr := t.freeCtr, nvm := t.nvm, adp := t.adp, out := t.out } ∧ sameBut [0x15, 0x17] s t) ∧
  (∀ (s : State) (h : Hdr) (d : Sys2Proof.Data), Ready s h → dTrue d → (s.md.mode ≠ .safe ∧ s.md.mode ≠ .survey ∨ s.cal.run ≠ none ∨ s.cal.commit ≠ none) →
    ∃ t, exec (.calCommit h d) s = .next t ∧ answered s t h eModeConflict ∧ t = { s with adp := t.adp, out := t.out }) ∧
  (∀ (s : State) (c : CalCommitState) (bad : Nat), s.cal.commit = some c → s.cal.force ≠ none → c.set.data = s.calData →
    ∃ t, exec (.calCommitComplete bad) s = .next t ∧ t.cal.commit = none ∧ t.cal.force = s.cal.force ∧ t.cal.slots = s.cal.slots ∧
      t.cal.report.1 = 1 ∧ t.bit F.CAL_STATUS_committing = false ∧ t.tb.loc ≤ max s.tb.loc (c.started + ms 50) ∧
      t = { s with cal := t.cal, tb := t.tb, freeCtr := t.freeCtr, regs := t.regs, hw := t.hw } ∧
      sameButFields [(F.CAL_STATUS_committing, 0, 0)] s t) ∧
  (∀ (s : State) (c : CalCommitState), s.cal.commit = some c → c.set.data ≠ s.calData → ∃ t, exec (.calCommitComplete 0) s = .next t ∧
    t.cal.commit = none ∧ t.cal.force = some c.set ∧ t.cal.nvm = some (c.set, true) ∧ t.cal.report = (0, c.set.gen, c.flagged) ∧
    t.cal.slots = s.cal.slots.map (fun (z : CalSlot) => { z with revoked := true }) ++
      (if s.cal.slots.length < 16 then [⟨c.set, true, true, false⟩] else []) ∧
    t.bit F.CAL_STATUS_committed = true ∧ t.bit F.CAL_STATUS_committing = false ∧ t.bit F.CAL_STATUS_absent = false ∧
    t.fld F.CAL_STATUS_gen = c.set.gen % 2 ^ F.CAL_STATUS_gen.wid ∧
    t = { s with cal := t.cal, tb := t.tb, freeCtr := t.freeCtr, nvm := t.nvm, regs := t.regs, hw := t.hw, tmg := t.tmg, pin := t.pin, smu := t.smu, wav := t.wav, act := t.act } ∧
    sameBut [0x07, 0x17] s t) ∧
  (∀ (s : State) (h : Hdr) (d : Sys2Proof.Data), Ready s h → d.ty = tBlob → d.bytes.length = 9 → dSub d 0 1 < 4 →
    ∃ t, exec (.calRefModeWrite h d) s = .next t ∧ answered s t h eOk ∧ t.cal.refMode = dSub d 0 1 ∧
      t.cal.refForce = clampInt (-12000000000) 12000000000 (toSigned 64 (dSub d 1 8)) ∧
      t.cal = { s.cal with refMode := t.cal.refMode, refForce := t.cal.refForce } ∧ t = { s with cal := t.cal, adp := t.adp, out := t.out }) ∧
  (∀ (s : State) (h : Hdr) (d : Sys2Proof.Data), Ready s h → dataFits d tI64 → ∃ t, exec (.standardValueWrite h d) s = .next t ∧
    answered s t h eOk ∧ t = { s with cal := { s.cal with standard := toSigned 64 (dNat d) }, adp := t.adp, out := t.out }) ∧
  (∀ (s : State) (h : Hdr) (d : Sys2Proof.Data), Ready s h → dataFits d tU8 → dNat d < 8 → s.md.mode = .survey →
    ∃ t, exec (.calRun h d) s = .next t ∧ answered s t h eOk ∧ t.cal.run = some ⟨dNat d, s.tb.loc⟩ ∧ t.bit F.CAL_STATUS_run_busy = true ∧
      t.cal.draft = s.cal.draft ∧ (s.cal.run = none → t.cal = { s.cal with run := t.cal.run }) ∧
      t = { s with cal := t.cal, regs := t.regs, hw := t.hw, adp := t.adp, out := t.out } ∧ sameBut [0x17] s t) ∧
  (∀ (s : State) (h : Hdr) (d : Sys2Proof.Data), Ready s h → dataFits d tU8 → s.md.mode ≠ .survey →
    ∃ t, exec (.calRun h d) s = .next t ∧ answered s t h eModeConflict ∧ t = { s with adp := t.adp, out := t.out }) ∧
  (∀ (s : State) (r : CalRunState) (reading : Int), s.cal.run = some r → ∃ t, exec (.calRunComplete reading) s = .next t ∧
    t.tb.loc = max s.tb.loc (r.started + ms (1000 * runSeconds r.cls)) ∧ t.cal.run = none ∧ t.cal.lastRun = (r.cls, 0, t.now) ∧
    t.cal.m0 = (if r.cls = 0 then reading else s.cal.m0) ∧ t.cal.m1 = (if r.cls = 1 ∨ r.cls = 2 then reading else s.cal.m1) ∧
    t.cal.draft = runDraft r.cls s.cal.draft t.cal.m0 t.cal.m1 s.cal.standard ∧ t.cal.force = s.cal.force ∧ t.cal.slots = s.cal.slots ∧
    t.bit F.CAL_STATUS_run_busy = false ∧ t = { s with cal := t.cal, tb := t.tb, regs := t.regs, hw := t.hw } ∧
    sameButFields [(F.CAL_STATUS_run_busy, 0, 0)] s t)

/-- Anti-rollback, keys, firmware loads, the hitless switch and quotes. The Owner's ROLLBACK_ADVANCE raises the counter to the rollback value of
the bank in force and never lowers it. In Safe a first modulus is enrolled, a second only with the first one's signature, a third never. A
load that verifies fills the idle bank and cancels a switch under way, another one leaves the bank empty with SIGNATURE. A switch starts
from idle, failed or reverted; the standby pair stages or fails it within 200 ms; at a quiet point the active pair freezes; the probation's
end keeps the new bank; a revert goes back to the old one and reports source 37. A nonce is kept, and a quote is answered with the signed
bytes of Table 19.8. Says that exec answers a next state, under conditions on the state and the operands alone, for: rollbackAdvance,
keyEnrol, idleBankLoad, firmwareSwitch, switchLoaded, switchQuietPoint, probationEnd, switchRevert, quoteNonceWrite, attestationQuote. -/
def Obligations.FirmwareTrust : Prop :=
  (∀ (s : State) (h : Hdr) (d : Sys2Proof.Data), Ready s h → dTrue d → ∃ t, exec (.rollbackAdvance h d) s = .next t ∧ answered s t h eOk ∧
    t.tr = { s.tr with rollback := max s.tr.rollback (s.fwBank s.tr.bank).rollback } ∧ t = { s with tr := t.tr, adp := t.adp, out := t.out }) ∧
  (∀ (s : State) (h : Hdr) (d : Sys2Proof.Data), Ready s h → d.ty = tBlob → d.bytes.length = 512 → s.md.mode = .safe → s.tr.keys = [] →
    ∃ t, exec (.keyEnrol h d) s = .next t ∧ journaling s t h 0x810500 d.bytes ∧ t.tr = { s.tr with keys := [d.bytes] } ∧
      t = { s with tr := t.tr, eth := t.eth, adp := t.adp }) ∧
  (∀ (s : State) (h : Hdr) (d : Sys2Proof.Data) (k : List Byte), Ready s h → d.ty = tBlob → d.bytes.length = 1024 → s.md.mode = .safe →
    s.tr.keys = [k] → ∃ t, exec (.keyEnrol h d) s = .next t ∧
      (Config.sigOk k (d.bytes.drop 512) (d.bytes.take 512) = true → journaling s t h 0x810500 (d.bytes.take 512) ∧
        t.tr = { s.tr with keys := [k, d.bytes.take 512] } ∧ t = { s with tr := t.tr, eth := t.eth, adp := t.adp }) ∧
      (Config.sigOk k (d.bytes.drop 512) (d.bytes.take 512) = false → answered s t h eSignature ∧ t.bit F.SEC_STATUS_sig_fail = true ∧
        t = { s with regs := t.regs, hw := t.hw, adp := t.adp, out := t.out } ∧ sameButFields [(F.SEC_STATUS_sig_fail, 0, 0)] s t)) ∧
  (∀ (s : State) (h : Hdr) (d : Sys2Proof.Data) (k : List Byte), Ready s h → d.ty = tBlob → d.bytes.length = 512 → s.md.mode = .safe →
    s.tr.keys = [k] → ∃ t, exec (.keyEnrol h d) s = .next t ∧ answered s t h eSignature ∧ t.bit F.SEC_STATUS_sig_fail = true ∧
      t = { s with regs := t.regs, hw := t.hw, adp := t.adp, out := t.out } ∧ sameButFields [(F.SEC_STATUS_sig_fail, 0, 0)] s t) ∧
  (∀ (s : State) (h : Hdr) (d : Sys2Proof.Data) (j k : List Byte) (l : List (List Byte)), Ready s h → d.ty = tBlob →
    (d.bytes.length = 512 ∨ d.bytes.length = 1024) → s.md.mode = .safe → s.tr.keys = j :: k :: l → ∃ t, exec (.keyEnrol h d) s = .next t ∧
      answered s t h eAccessDenied ∧ t = { s with adp := t.adp, out := t.out }) ∧
  (∀ (s : State) (h : Hdr) (d : Sys2Proof.Data), Ready s h → d.ty = tBlob → s.tr.banks.length = 2 → ∃ t, exec (.idleBankLoad h d) s = .next t ∧
    (fwOk s.tr.rollback d.bytes = true → answered s t h eOk ∧ (t.fwBank (1 - s.tr.bank)).loaded = true ∧
      (t.fwBank (1 - s.tr.bank)).pass = true ∧ (t.fwBank (1 - s.tr.bank)).digest = Config.sha512 d.bytes ∧
      (t.fwBank (1 - s.tr.bank)).release = leNat ((d.bytes.drop 8).take 4) ∧ t.bit F.SEC_STATUS_sig_fail = s.bit F.SEC_STATUS_sig_fail) ∧
    (fwOk s.tr.rollback d.bytes = false → answered s t h eSignature ∧ (t.fwBank (1 - s.tr.bank)).loaded = false ∧
      t.bit F.SEC_STATUS_sig_fail = true) ∧
    t.tr.bank = s.tr.bank ∧ t.switchState = (if s.switchState = swLoading ∨ s.switchState = swStaged then swIdle else s.switchState) ∧
    t = { s with tr := t.tr, regs := t.regs, hw := t.hw, adp := t.adp, out := t.out } ∧
    sameButFields [(F.KEY_STATUS_switch_state, 0, 0), (F.SEC_STATUS_sig_fail, 0, 0)] s t) ∧
  (∀ (s : State) (h : Hdr) (d : Sys2Proof.Data), Ready s h → dTrue d →
    s.switchState = swIdle ∨ s.switchState = swFailed ∨ s.switchState = swReverted → ∃ t, exec (.firmwareSwitch h d) s = .next t ∧
      answered s t h eOk ∧ t.switchState = swLoading ∧ t.tr = { s.tr with loadAt := some s.tb.loc } ∧
      t = { s with tr := t.tr, regs := t.regs, hw := t.hw, adp := t.adp, out := t.out } ∧
      sameButFields [(F.KEY_STATUS_switch_state, 0, 0)] s t) ∧
  (∀ (s : State) (h : Hdr) (d : Sys2Proof.Data), Ready s h → dTrue d → s.switchState ≠ swIdle → s.switchState ≠ swFailed →
    s.switchState ≠ swReverted → ∃ t, exec (.firmwareSwitch h d) s = .next t ∧ answered s t h eOk ∧ t = { s with adp := t.adp, out := t.out }) ∧
  (∀ s : State, s.switchState = swLoading → s.ks.running = true → s.ks.outage = false → (s.fwBank (1 - s.tr.bank)).loaded = true →
    s.tr.rollback ≤ (s.fwBank (1 - s.tr.bank)).rollback → ∃ t, exec (.switchLoaded true) s = .next t ∧ t.switchState = swStaged ∧
      t.tr = { s.tr with loadAt := none, stagedAt := some t.tb.loc } ∧ s.tb.loc ≤ t.tb.loc ∧
      t.tb.loc ≤ max s.tb.loc (s.tr.loadAt.getD s.tb.loc + ms 200) ∧
      t = { s with tr := t.tr, tb := t.tb, regs := t.regs, hw := t.hw, freeCtr := t.freeCtr } ∧ sameButFields [(F.KEY_STATUS_switch_state, 0, 0)] s t) ∧
  (∀ s : State, s.switchState = swLoading → s.ks.running = true → s.ks.outage = false → ∃ t, exec (.switchLoaded false) s = .next t ∧
    t.switchState = swFailed ∧ (t.fwBank (1 - s.tr.bank)).pass = false ∧ t.tr.bank = s.tr.bank ∧ t.tr.loadAt = none ∧
    t.tb.loc ≤ max s.tb.loc (s.tr.loadAt.getD s.tb.loc + ms 200) ∧
    (s.hearsAt 54 t.tb.loc → t.srcSet 54 = true) ∧
    t = { s with tr := t.tr, tb := t.tb, regs := t.regs, hw := t.hw, fc := t.fc, freeCtr := t.freeCtr, nvm := t.nvm } ∧ sameBut [0x01, 0x15] s t) ∧
  (∀ (s : State) (t0 : Nat), s.tr.stagedAt = some t0 → s.switchState = swStaged → s.ks.outage = false → s.nvmBusy = false → s.nvm.eraseOf = none →
    ∃ t, exec .switchQuietPoint s = .next t ∧ t.ks = { s.ks with outage := true, outageAt := s.tb.loc } ∧
      t.tr = { s.tr with freezeAt := some s.tb.loc, stagedAt := none, buffering := false } ∧ t.switchState = swSwitching ∧
      t = { s with ks := t.ks, tr := t.tr, regs := t.regs, hw := t.hw } ∧ sameButFields [(F.KEY_STATUS_switch_state, 0, 0)] s t) ∧
  (∀ (s : State) (t0 : Nat), s.tr.stagedAt = some t0 → s.switchState = swStaged → s.ks.outage = false → (s.nvmBusy = true ∨ s.nvm.eraseOf ≠ none) →
    ∃ t, exec .switchQuietPoint s = .next t ∧ t.tb.loc = max s.tb.loc (t0 + ms 100) ∧ t.tr = { s.tr with buffering := true } ∧
      t = { s with tr := t.tr, tb := t.tb }) ∧
  (∀ (s : State) (e : Nat), s.tr.probationEnd = some e → s.switchState = swProbation → s.ks.outage = false → ∃ t, exec .probationEnd s = .next t ∧
    t.tb.loc = max s.tb.loc e ∧ t.tr = { s.tr with preferred := s.tr.bank, probationEnd := none } ∧ t.switchState = swIdle ∧
    t.bit F.KEY_STATUS_switched = true ∧ t.bit F.KEY_STATUS_standby_ok = true ∧ t = { s with tr := t.tr, tb := t.tb, nvm := t.nvm, regs := t.regs, hw := t.hw } ∧
    sameBut [0x01] s t) ∧
  (∀ s : State, s.switchState = swProbation ∨ s.switchState = swSwitching → ∃ t, exec .switchRevert s = .next t ∧
    t.tr.bank = (if s.switchState = swProbation then 1 - s.tr.bank else s.tr.bank) ∧ t.tr.probationEnd = none ∧ t.tr.freezeAt = none ∧
    t.tr.preferred = s.tr.preferred ∧ t.ks.outage = true ∧ t.ks.changing = false ∧ t.switchState = swReverted ∧
    t.bit F.KEY_STATUS_reverted = true ∧ (s.hearsAt 37 t.tb.loc → t.srcSet 37 = true) ∧
    t = { s with ks := t.ks, tr := t.tr, regs := t.regs, hw := t.hw, fc := t.fc, freeCtr := t.freeCtr, nvm := t.nvm } ∧ sameBut [0x01, 0x15] s t) ∧
  (∀ s : State, s.switchState ≠ swProbation → s.switchState ≠ swSwitching → exec .switchRevert s = .next s) ∧
  (∀ (s : State) (h : Hdr) (d : Sys2Proof.Data), Ready s h → d.ty = tBlob → d.bytes.length = 32 → ∃ t, exec (.quoteNonceWrite h d) s = .next t ∧
    answered s t h eOk ∧ t = { s with tr := { s.tr with nonce := d.bytes }, adp := t.adp, out := t.out }) ∧
  (∀ (s : State) (h : Hdr), Served s h → ∃ (t : State) (r : Response), exec (.attestationQuote h) s = .next t ∧ t.out = s.out ++ [OutMsg.response r] ∧ r.status = eOk ∧
    r.items = 1 ∧ r.body = [dataItem 0x8102 1 tBlob (s.quoteBody ++ (Config.sign s.quoteBody).toList)] ∧
    t = { s with adp := t.adp, out := t.out })

/-- Resets, the start-up sequence, rails, ALIVE and the TAP. A rail below its power-good threshold, RESET_N and the end of Thermal Halt each
take everything but what fuses, NVM and supplies keep to its reset value; a release samples the straps and begins the sequence. Its steps
follow in order, 1.5 s together at most; step 3 runs the preferred bank that verifies, or the recovery service where neither does; step 10
brings up the ports and counts the start-up. A rail outside its range for 100 µs sets its bit, is counted and reported by source 43; ALIVE
toggles every 500 µs, by 50 µs at most sooner or later. While VIO and VCORE are good each TAP command selects its instruction and register,
and drives the balls only while RESET_N is asserted; the boundary register captures what the chip drives. Says that exec answers a next
state, under conditions on the state and the operands alone, for: powerOnResetAssert, resetNAssert, thermalHaltEnd, resetRelease,
startupStepComplete, railOutOfRange, aliveToggle, tapReset, tapIdcode, tapExtest, tapClamp, tapHighz, tapBypass, samplePreload. -/
def Obligations.ResetsAndTap : Prop :=
  (∀ (s : State) (r : Nat) (mv : Int), r < 11 → railGood r mv = false → ∃ t, exec (.powerOnResetAssert r mv) s = .next t ∧ wiped s t ∧
    t.pw.powered = false ∧ t.pw.startStep = 0 ∧ t.tb = { posId := s.tb.posId } ∧ t.tap = (if r = 0 ∨ r = 2 then {} else s.tap)) ∧
  (∀ (s : State) (r : Nat) (mv : Int), (11 ≤ r ∨ railGood r mv = true) → exec (.powerOnResetAssert r mv) s = .next s) ∧
  (∀ s : State, ∃ t, exec .resetNAssert s = .next t ∧ wiped s t ∧ t.pw.resetLow = true ∧ t.pw.powered = s.pw.powered ∧ t.pw.startStep = 0 ∧
    t.tb = { posId := s.tb.posId } ∧ t.tap = { s.tap with driving := if s.pw.powered then tapDrive s.tap.ir else 0 }) ∧
  (∀ (s : State) (t0 : Nat), s.thm.belowSince = some t0 → s.thm.halted = true → ∃ t, exec .thermalHaltEnd s = .next t ∧ wiped s t ∧
    t.thm.haltCount = s.thm.haltCount + 1 ∧ t.thm.halted = false ∧ t.pw.startStep = 1 ∧ t.pw.cause = 2 ∧ t.pw.powered = true) ∧
  (∀ (s : State) (pos : Nat) (rails : List (Int × Nat)), s.pw.powered = false → s.pw.resetLow = false →
    (∀ r, r < 11 → railGood r (Tbl.get (s.readRails 0 (rails.take 11)).pw.rails {} r).mv = true) →
    ∃ t, exec (.resetRelease pos true rails) s = .next t ∧ t.pw.powered = true ∧ t.pw.resetLow = false ∧ t.pw.startStep = 1 ∧ t.pw.cause = 0 ∧
      t.pw.t0 = s.tb.loc + ms 2 ∧ t.tb.loc = s.tb.loc + ms 2 ∧ t.tb.posId = pos % 64 ∧ t.tap = { s.tap with driving := 0 } ∧
      t = { s with pw := t.pw, tb := t.tb, tap := t.tap }) ∧
  (∀ (s : State) (pos : Nat) (rails : List (Int × Nat)), s.pw.powered = false → s.pw.resetLow = true →
    (∀ r, r < 11 → railGood r (Tbl.get (s.readRails 0 (rails.take 11)).pw.rails {} r).mv = true) →
    ∃ t, exec (.resetRelease pos true rails) s = .next t ∧ t.pw.powered = true ∧ t.pw.resetLow = true ∧ t.pw.startStep = s.pw.startStep ∧
      t.tb.loc = s.tb.loc + ms 2 ∧ t = { s with pw := t.pw, tb := t.tb }) ∧
  (∀ (s : State) (pos : Nat) (rails : List (Int × Nat)), s.pw.powered = true → s.pw.resetLow = true →
    ∃ t, exec (.resetRelease pos false rails) s = .next t ∧ t.pw.powered = true ∧ t.pw.resetLow = false ∧ t.pw.startStep = 1 ∧ t.pw.cause = 1 ∧
      t.pw.t0 = s.tb.loc ∧ t.tb = { s.tb with posId := pos % 64 } ∧ t.tap = { s.tap with driving := 0 } ∧
      t = { s with pw := t.pw, tb := t.tb, tap := t.tap }) ∧
  (∀ (s : State) (pos : Nat) (rails : List (Int × Nat)), s.pw.powered = false → s.pw.resetLow = true →
    exec (.resetRelease pos false rails) s = .next { s with pw := { s.pw with resetLow := false } }) ∧
  (∀ (s : State) (dt n : Nat) (bad repairs : List Nat), s.pw.powered = true → s.pw.resetLow = false → s.tr.recovery = false → s.pw.startStep = n →
    (n = 1 ∨ n = 2 ∧ s.bit F.THM_STATUS_first_set = true ∨ n = 5 ∧ s.bit F.THM_STATUS_shutdown = false) →
    ∃ t, exec (.startupStepComplete dt bad repairs) s = .next t ∧ t.tb.loc = s.tb.loc + min dt (ms 1500 - s.pw.startUsed) ∧
      t.pw = { s.pw with startStep := n + 1, startUsed := s.pw.startUsed + min dt (ms 1500 - s.pw.startUsed) } ∧ t = { s with pw := t.pw, tb := t.tb }) ∧
  (∀ (s : State) (dt n : Nat) (bad repairs : List Nat), s.pw.powered = true → s.pw.resetLow = false → s.tr.recovery = false → s.pw.startStep = n →
    (n = 4 ∨ 6 ≤ n ∧ n ≤ 9) → ∃ t, exec (.startupStepComplete dt bad repairs) s = .next t ∧ t.pw.startStep = n + 1 ∧ t.tr.recovery = false ∧
      t.mem = s.mem ∧ t.adp = s.adp) ∧
  (∀ (s : State) (dt : Nat) (repairs : List Nat), s.pw.powered = true → s.pw.resetLow = false → s.tr.recovery = false → s.pw.startStep = 3 →
    s.tr.preferred < s.tr.banks.length → (s.fwBank s.tr.preferred).loaded = true → s.tr.rollback ≤ (s.fwBank s.tr.preferred).rollback →
    ∃ t, exec (.startupStepComplete dt [] repairs) s = .next t ∧ t.ks = { s.ks with running := true } ∧ t.tr.bank = s.tr.preferred ∧
      t.tr.recovery = false ∧ t.pw.startStep = 4 ∧ t = { s with pw := t.pw, tb := t.tb, tr := t.tr, ks := t.ks, fc := t.fc, nvm := t.nvm, regs := t.regs, hw := t.hw } ∧
      sameButFields [(F.KEY_STATUS_bank, 0, 0)] s t) ∧
  (∀ (s : State) (dt : Nat) (repairs : List Nat), s.pw.powered = true → s.pw.resetLow = false → s.tr.recovery = false → s.pw.startStep = 3 →
    s.tr.preferred < 2 → ∃ t, exec (.startupStepComplete dt [0, 1] repairs) s = .next t ∧ t.tr.recovery = true ∧
      t.pw = { s.pw with startUsed := t.pw.startUsed } ∧ t = { s with pw := t.pw, tb := t.tb, tr := t.tr }) ∧
  (∀ (s : State) (dt : Nat) (repairs : List Nat), s.pw.powered = true → s.pw.resetLow = false → s.tr.recovery = false → s.pw.startStep = 10 →
    ∃ t, exec (.startupStepComplete dt [] repairs) s = .next t ∧ t.linkUp 0 = true ∧ t.linkUp 1 = true ∧ t.pw.startStep = 11 ∧
      t.pw.startups = s.pw.startups + 1 ∧ t.md = { s.md with safeCause := 0, safeAt := t.now } ∧ t.bit F.KEY_STATUS_standby_ok = true ∧
      t = { s with pw := t.pw, tb := t.tb, md := t.md, fc := t.fc, freeCtr := t.freeCtr, nvm := t.nvm, regs := t.regs, hw := t.hw } ∧
      sameBut [0x01, 0x02, 0x13, 0x15] s t) ∧
  (∀ (s : State) (r t0 : Nat), r < 11 → s.pw.powered = true → s.pw.resetLow = false → (Tbl.get s.pw.rails {} r).outSince = some t0 →
    (Tbl.get s.pw.rails {} r).outTold = false → ∃ t, exec (.railOutOfRange r) s = .next t ∧ t.tb.loc = max s.tb.loc (t0 + us 100) ∧
      Tbl.get t.pw.railCount 0 r = Tbl.get s.pw.railCount 0 r + 1 ∧ t.bitOf F.PWR_STATUS_out_evt 0 0 r = true ∧
      (s.hearsAt 43 t.tb.loc → t.srcSet 43 = true) ∧ t = { s with pw := t.pw, tb := t.tb, regs := t.regs, hw := t.hw, fc := t.fc, freeCtr := t.freeCtr, nvm := t.nvm } ∧
      sameBut [0x15, 0x1A] s t) ∧
  (∀ s : State, s.ks.running = true → s.ks.outage = false → s.thm.halted = false → ∃ t, exec .aliveToggle s = .next t ∧
    max s.tb.loc (s.pw.aliveAt + us 450) ≤ t.tb.loc ∧ t.tb.loc ≤ max s.tb.loc (s.pw.aliveAt + us 550) ∧
    t.pw = { s.pw with alive := !s.pw.alive, aliveAt := t.tb.loc } ∧ t = { s with pw := t.pw, tb := t.tb, freeCtr := t.freeCtr }) ∧
  (∀ s : State, s.tapOn = true → ∃ f : Nat → Nat → Nat → State, (∀ (ir dr cap : Nat), f ir dr cap =
      { s with tap := { s.tap with ir := ir, dr := dr, captured := cap, driving := if s.pw.resetLow then tapDrive ir else 0 } }) ∧
    exec .tapReset s = .next (f 0x01 0x27680A3F 0x27680A3F) ∧ exec .tapIdcode s = .next (f 0x01 0x27680A3F 0x27680A3F) ∧
    (s.pw.resetLow = false → exec .tapExtest s = .next (f 0x03 0 0)) ∧ exec .tapClamp s = .next (f 0x04 0 0) ∧
    exec .tapHighz s = .next (f 0x05 0 0) ∧ exec .tapBypass s = .next (f 0xFF 0 0)) ∧
  (∀ s : State, s.tapOn = true → s.pw.resetLow = true → ∃ t, exec .tapExtest s = .next t ∧
    t.tap = { s.tap with ir := 0x03, dr := s.tap.shifted, captured := t.tap.captured, driving := 1 } ∧
    (∀ (k : Nat) (b : Bool), k < 3129 → s.cellNow k = some b → t.tap.captured.testBit k = b) ∧ t = { s with tap := t.tap, freeCtr := t.freeCtr }) ∧
  (∀ (s : State) (cells : List Nat), s.tapOn = true → ∃ t, exec (.samplePreload cells) s = .next t ∧ t.tap.ir = 0x02 ∧
    (∀ (k : Nat), Tbl.get t.tap.boundary 0 k = if k ∈ cells ∧ k < 3129 then 1 else 0) ∧ (∀ (k : Nat), t.tap.dr.testBit k = decide (k ∈ cells ∧ k < 3129)) ∧
    (∀ (k : Nat) (b : Bool), k < 3129 → s.cellNow k = some b → t.tap.captured.testBit k = b) ∧
    t.tap.driving = (if s.pw.resetLow then tapDrive 0x02 else 0) ∧ t = { s with tap := t.tap, freeCtr := t.freeCtr }) ∧
  (∀ (s : State) (cells : List Nat), s.tapOn = false → exec .tapReset s = .next s ∧ exec .tapIdcode s = .next s ∧
    exec (.samplePreload cells) s = .next s ∧ exec .tapExtest s = .next s ∧ exec .tapClamp s = .next s ∧ exec .tapHighz s = .next s ∧
    exec .tapBypass s = .next s)

/-- TLY_BUDGET keeps a written budget between 40,000 and 240,000 mW. A write to TLY_BUDGET.budget_mw, by the BUDGET_WRITE command or as a
register write of the field's 18 bits, stores 40,000 for a value below 40,000, 240,000 for one above 240,000 and any other value as it is,
and changes no other register; a READ of OD 0x2200.00 by a served session answers the stored value. Says that exec answers a next state,
under conditions on the state and the operands alone, for: budgetWrite, registerWrite, adpRead. Formalises R102. -/
def Obligations.BudgetClamp : Prop :=
  (∀ (s : State) (v : Nat), ∃ t, exec (.budgetWrite .reg v) s = .next t ∧ (v < 40000 → t.fld F.TLY_BUDGET_budget_mw = 40000) ∧
    (240000 < v → t.fld F.TLY_BUDGET_budget_mw = 240000) ∧ (40000 ≤ v → v ≤ 240000 → t.fld F.TLY_BUDGET_budget_mw = v) ∧
    t = { s with regs := t.regs, hw := t.hw } ∧ sameButFields [(F.TLY_BUDGET_budget_mw, 0, 0)] s t) ∧
  (∀ (s : State) (v : Nat), v < 2 ^ 18 → ∃ t, exec (.registerWrite 0x03000004 v) s = .next t ∧
    (v < 40000 → t.fld F.TLY_BUDGET_budget_mw = 40000) ∧ (240000 < v → t.fld F.TLY_BUDGET_budget_mw = 240000) ∧
    (40000 ≤ v → v ≤ 240000 → t.fld F.TLY_BUDGET_budget_mw = v) ∧ t = { s with regs := t.regs, hw := t.hw } ∧
    sameButFields [(F.TLY_BUDGET_budget_mw, 0, 0)] s t) ∧
  (∀ (s : State) (h : Hdr), Served s h → ∃ (t : State) (r : Response), exec (.adpRead h [⟨0x2200, 0⟩]) s = .next t ∧ t.out = s.out ++ [OutMsg.response r] ∧ r.status = eOk ∧
    r.body = [dataItem 0x2200 0 tU32 (toBe 4 (s.fld F.TLY_BUDGET_budget_mw))] ∧ t.regs = s.regs)

/-- The Owner allowlist. While service runs: with at least one prefix in OD 0x8013 an Owner OPEN from an address that no prefix holds opens no
session, is answered ACCESS_DENIED, sets acl_reject and reports an Advisory fault from source 53; from an address inside a prefix, with no
Owner present, it opens the Owner session; an Observer OPEN with a place free opens its session from every address, whatever the list holds.
Says that exec answers a next state, under conditions on the state and the operands alone, for: adpOpen. Formalises R477. -/
def Obligations.OwnerAllowlist : Prop :=
  (∀ (s : State) (port seq tel bytes n : Nat) (addr l : List Byte), Serving s → l = s.od 0x8013 0 [0] → n = beNat (l.take 1) → n ≠ 0 →
    (∀ k, k < n → beNat ((l.drop (1 + 17 * k)).take 16) / 2 ^ (128 - beNat ((l.drop (17 + 17 * k)).take 1)) ≠
      beNat addr / 2 ^ (128 - beNat ((l.drop (17 + 17 * k)).take 1))) →
    ∃ (t : State) (r : Response), exec (.adpOpen port addr seq 1 tel bytes) s = .next t ∧ t.out = s.out ++ [OutMsg.response r] ∧ r.status = eAccessDenied ∧
      t.adp = s.adp ∧ t.bit F.ADP_STATUS_acl_reject = true ∧
      (s.hearsAt 53 t.tb.loc → t.srcSet 53 = true ∧ t.fld F.FC_SRC_sev_max 0 53 = s.fld F.FC_SRC_sev_max 0 53 % 4 ∧
        t.fld F.FC_SRC_repeat 0 53 = satInc 8 (s.fld F.FC_SRC_repeat 0 53)) ∧
      t = { s with regs := t.regs, hw := t.hw, fc := t.fc, freeCtr := t.freeCtr, nvm := t.nvm, out := t.out } ∧ sameBut [0x14, 0x15] s t) ∧
  (∀ (s : State) (port seq tel bytes n k : Nat) (addr l : List Byte), Serving s → l = s.od 0x8013 0 [0] → n = beNat (l.take 1) → k < n →
    beNat ((l.drop (1 + 17 * k)).take 16) / 2 ^ (128 - beNat ((l.drop (17 + 17 * k)).take 1)) =
      beNat addr / 2 ^ (128 - beNat ((l.drop (17 + 17 * k)).take 1)) → s.owner = none →
    ∃ (t : State) (r : Response) (x : Session), exec (.adpOpen port addr seq 1 tel bytes) s = .next t ∧ t.out = s.out ++ [OutMsg.response r] ∧ r.status = eOk ∧
      t.adp.sessions = s.adp.sessions ++ [x] ∧ x.owner = true ∧ x.addr = addr ∧ t.fc = s.fc ∧
      t.bit F.ADP_STATUS_acl_reject = s.bit F.ADP_STATUS_acl_reject) ∧
  (∀ (s : State) (port seq tel bytes : Nat) (addr : List Byte), Serving s → (s.adp.sessions.filter (fun x => !x.owner)).length < 3 →
    ∃ (t : State) (r : Response) (x : Session), exec (.adpOpen port addr seq 0 tel bytes) s = .next t ∧ t.out = s.out ++ [OutMsg.response r] ∧ r.status = eOk ∧
      t.adp.sessions = s.adp.sessions ++ [x] ∧ x.owner = false ∧ t.fc = s.fc ∧
      t.bit F.ADP_STATUS_acl_reject = s.bit F.ADP_STATUS_acl_reject)

/-- BOND line frames with a bad preamble or CRC. While the lines are on, a frame of any type received with a bad preamble or CRC adds 1 to the
CRC error count, which a READ of OD 0x200C.00 by a served session answers, and sets TB_STATUS.frame_crc; nothing of the frame is taken up:
no other register changes, and of the time base only the note that the count changed since the last SYNC edge. Says that exec answers a next
state, under conditions on the state and the operands alone, for: adpRead. Formalises R42. -/
def Obligations.BadFrames : Prop :=
  (∀ (s : State) (i : Instr) (bad : Nat), s.linesUp = true →
    (∃ (c p m x : Nat) (u y : Bool), i = .presence c p m x u y bad ∧ bad % 4096 ≠ (Frame.presence c p m x u y).check) ∨
    (∃ (n : Nat) (u h : Bool), i = .timeFrame n u h bad ∧ bad % 4096 ≠ (Frame.time n u h).check) ∨
    (∃ (p f : Nat), i = .alignFrame p f bad ∧ bad % 4096 ≠ (Frame.align (p * 4096 + f % 4096)).check) ∨
    (∃ (r : Int), i = .trimFrame r bad ∧ bad % 4096 ≠ (Frame.trim r).check) ∨
    (∃ (p : Nat) (m x : Int), i = .calFrame p m x bad ∧ bad % 4096 ≠ (Frame.calReport p m).check) ∨
    (∃ (b c x : Nat) (y : Bool), i = .join .lines b c x y bad ∧ bad % 4096 ≠ (Frame.join b c x y 0).check) ∨
    (∃ (b t : Nat), i = .ready .lines b t bad ∧ bad % 4096 ≠ (Frame.ready b t).check) ∨
    (∃ (b t : Nat), i = .beat .lines b t bad ∧ bad % 4096 ≠ (Frame.beat b t).check) ∨
    (∃ (b c : Nat), i = .memberBeat .lines b c bad ∧ bad % 4096 ≠ (Frame.memberBeat b c).check) ∨
    (∃ (b t : Nat), i = .defer .lines b t bad ∧ bad % 4096 ≠ (Frame.defer b t).check) ∨
    (∃ (b t : Nat), i = .split .lines b t bad ∧ bad % 4096 ≠ (Frame.split b t).check) →
    ∃ t, exec i s = .next t ∧ t.bit F.TB_STATUS_frame_crc = true ∧ sameButFields [(F.TB_STATUS_frame_crc, 0, 0)] s t ∧
      t = { s with tb := { s.tb with crcCount := s.tb.crcCount + 1, crcSinceEdge := true }, regs := t.regs, hw := t.hw }) ∧
  (∀ (s : State) (h : Hdr), Served s h → ∃ (t : State) (r : Response), exec (.adpRead h [⟨0x200C, 0⟩]) s = .next t ∧ t.out = s.out ++ [OutMsg.response r] ∧
    r.status = eOk ∧ r.body = [dataItem 0x200C 0 tU64 (toBe 8 s.tb.crcCount)] ∧ t.tb = s.tb)
end

