-- ==== Sys2Proof/Laws/State.lean ====
section
/-! SUPPORT. What each basic update of the state leaves alone: one lemma for each field and update, true by rfl. -/

namespace Sys2Proof.Machine

/-! ### setFld -/
@[simp] theorem State.setFld_hw (s : State) (f : Fld) (i n v : Nat) : (s.setFld f i n v).hw = s.hw := rfl
@[simp] theorem State.setFld_act (s : State) (f : Fld) (i n v : Nat) : (s.setFld f i n v).act = s.act := rfl
@[simp] theorem State.setFld_mem (s : State) (f : Fld) (i n v : Nat) : (s.setFld f i n v).mem = s.mem := rfl
@[simp] theorem State.setFld_dict (s : State) (f : Fld) (i n v : Nat) : (s.setFld f i n v).dict = s.dict := rfl
@[simp] theorem State.setFld_stored (s : State) (f : Fld) (i n v : Nat) : (s.setFld f i n v).stored = s.stored := rfl
@[simp] theorem State.setFld_freeCtr (s : State) (f : Fld) (i n v : Nat) : (s.setFld f i n v).freeCtr = s.freeCtr := rfl
@[simp] theorem State.setFld_out (s : State) (f : Fld) (i n v : Nat) : (s.setFld f i n v).out = s.out := rfl
@[simp] theorem State.setFld_tb (s : State) (f : Fld) (i n v : Nat) : (s.setFld f i n v).tb = s.tb := rfl
@[simp] theorem State.setFld_bonds (s : State) (f : Fld) (i n v : Nat) : (s.setFld f i n v).bonds = s.bonds := rfl
@[simp] theorem State.setFld_net (s : State) (f : Fld) (i n v : Nat) : (s.setFld f i n v).net = s.net := rfl
@[simp] theorem State.setFld_lq (s : State) (f : Fld) (i n v : Nat) : (s.setFld f i n v).lq = s.lq := rfl
@[simp] theorem State.setFld_lqLast (s : State) (f : Fld) (i n v : Nat) : (s.setFld f i n v).lqLast = s.lqLast := rfl
@[simp] theorem State.setFld_tally (s : State) (f : Fld) (i n v : Nat) : (s.setFld f i n v).tally = s.tally := rfl
@[simp] theorem State.setFld_thm (s : State) (f : Fld) (i n v : Nat) : (s.setFld f i n v).thm = s.thm := rfl
@[simp] theorem State.setFld_md (s : State) (f : Fld) (i n v : Nat) : (s.setFld f i n v).md = s.md := rfl
@[simp] theorem State.setFld_seq (s : State) (f : Fld) (i n v : Nat) : (s.setFld f i n v).seq = s.seq := rfl
@[simp] theorem State.setFld_fc (s : State) (f : Fld) (i n v : Nat) : (s.setFld f i n v).fc = s.fc := rfl
@[simp] theorem State.setFld_bist (s : State) (f : Fld) (i n v : Nat) : (s.setFld f i n v).bist = s.bist := rfl
@[simp] theorem State.setFld_rk (s : State) (f : Fld) (i n v : Nat) : (s.setFld f i n v).rk = s.rk := rfl
@[simp] theorem State.setFld_ks (s : State) (f : Fld) (i n v : Nat) : (s.setFld f i n v).ks = s.ks := rfl
@[simp] theorem State.setFld_cal (s : State) (f : Fld) (i n v : Nat) : (s.setFld f i n v).cal = s.cal := rfl
@[simp] theorem State.setFld_tr (s : State) (f : Fld) (i n v : Nat) : (s.setFld f i n v).tr = s.tr := rfl
@[simp] theorem State.setFld_nvm (s : State) (f : Fld) (i n v : Nat) : (s.setFld f i n v).nvm = s.nvm := rfl
@[simp] theorem State.setFld_pw (s : State) (f : Fld) (i n v : Nat) : (s.setFld f i n v).pw = s.pw := rfl
@[simp] theorem State.setFld_tap (s : State) (f : Fld) (i n v : Nat) : (s.setFld f i n v).tap = s.tap := rfl
@[simp] theorem State.setFld_pin (s : State) (f : Fld) (i n v : Nat) : (s.setFld f i n v).pin = s.pin := rfl
@[simp] theorem State.setFld_adp (s : State) (f : Fld) (i n v : Nat) : (s.setFld f i n v).adp = s.adp := rfl
@[simp] theorem State.setFld_eth (s : State) (f : Fld) (i n v : Nat) : (s.setFld f i n v).eth = s.eth := rfl
@[simp] theorem State.setFld_tmg (s : State) (f : Fld) (i n v : Nat) : (s.setFld f i n v).tmg = s.tmg := rfl
@[simp] theorem State.setFld_pat (s : State) (f : Fld) (i n v : Nat) : (s.setFld f i n v).pat = s.pat := rfl
@[simp] theorem State.setFld_apg (s : State) (f : Fld) (i n v : Nat) : (s.setFld f i n v).apg = s.apg := rfl
@[simp] theorem State.setFld_smu (s : State) (f : Fld) (i n v : Nat) : (s.setFld f i n v).smu = s.smu := rfl
@[simp] theorem State.setFld_wav (s : State) (f : Fld) (i n v : Nat) : (s.setFld f i n v).wav = s.wav := rfl
@[simp] theorem State.setFld_acq (s : State) (f : Fld) (i n v : Nat) : (s.setFld f i n v).acq = s.acq := rfl
@[simp] theorem State.setFld_fln (s : State) (f : Fld) (i n v : Nat) : (s.setFld f i n v).fln = s.fln := rfl
@[simp] theorem State.setFld_ser (s : State) (f : Fld) (i n v : Nat) : (s.setFld f i n v).ser = s.ser := rfl
@[simp] theorem State.setFld_pending (s : State) (f : Fld) (i n v : Nat) : (s.setFld f i n v).pending = s.pending := rfl

/-! ### setBit -/
@[simp] theorem State.setBit_act (s : State) (f : Fld) (i n : Nat) (b : Bool) : (s.setBit f i n b).act = s.act := rfl
@[simp] theorem State.setBit_mem (s : State) (f : Fld) (i n : Nat) (b : Bool) : (s.setBit f i n b).mem = s.mem := rfl
@[simp] theorem State.setBit_dict (s : State) (f : Fld) (i n : Nat) (b : Bool) : (s.setBit f i n b).dict = s.dict := rfl
@[simp] theorem State.setBit_stored (s : State) (f : Fld) (i n : Nat) (b : Bool) : (s.setBit f i n b).stored = s.stored := rfl
@[simp] theorem State.setBit_freeCtr (s : State) (f : Fld) (i n : Nat) (b : Bool) : (s.setBit f i n b).freeCtr = s.freeCtr := rfl
@[simp] theorem State.setBit_out (s : State) (f : Fld) (i n : Nat) (b : Bool) : (s.setBit f i n b).out = s.out := rfl
@[simp] theorem State.setBit_tb (s : State) (f : Fld) (i n : Nat) (b : Bool) : (s.setBit f i n b).tb = s.tb := rfl
@[simp] theorem State.setBit_bonds (s : State) (f : Fld) (i n : Nat) (b : Bool) : (s.setBit f i n b).bonds = s.bonds := rfl
@[simp] theorem State.setBit_net (s : State) (f : Fld) (i n : Nat) (b : Bool) : (s.setBit f i n b).net = s.net := rfl
@[simp] theorem State.setBit_lq (s : State) (f : Fld) (i n : Nat) (b : Bool) : (s.setBit f i n b).lq = s.lq := rfl
@[simp] theorem State.setBit_lqLast (s : State) (f : Fld) (i n : Nat) (b : Bool) : (s.setBit f i n b).lqLast = s.lqLast := rfl
@[simp] theorem State.setBit_tally (s : State) (f : Fld) (i n : Nat) (b : Bool) : (s.setBit f i n b).tally = s.tally := rfl
@[simp] theorem State.setBit_thm (s : State) (f : Fld) (i n : Nat) (b : Bool) : (s.setBit f i n b).thm = s.thm := rfl
@[simp] theorem State.setBit_md (s : State) (f : Fld) (i n : Nat) (b : Bool) : (s.setBit f i n b).md = s.md := rfl
@[simp] theorem State.setBit_seq (s : State) (f : Fld) (i n : Nat) (b : Bool) : (s.setBit f i n b).seq = s.seq := rfl
@[simp] theorem State.setBit_fc (s : State) (f : Fld) (i n : Nat) (b : Bool) : (s.setBit f i n b).fc = s.fc := rfl
@[simp] theorem State.setBit_bist (s : State) (f : Fld) (i n : Nat) (b : Bool) : (s.setBit f i n b).bist = s.bist := rfl
@[simp] theorem State.setBit_rk (s : State) (f : Fld) (i n : Nat) (b : Bool) : (s.setBit f i n b).rk = s.rk := rfl
@[simp] theorem State.setBit_ks (s : State) (f : Fld) (i n : Nat) (b : Bool) : (s.setBit f i n b).ks = s.ks := rfl
@[simp] theorem State.setBit_cal (s : State) (f : Fld) (i n : Nat) (b : Bool) : (s.setBit f i n b).cal = s.cal := rfl
@[simp] theorem State.setBit_tr (s : State) (f : Fld) (i n : Nat) (b : Bool) : (s.setBit f i n b).tr = s.tr := rfl
@[simp] theorem State.setBit_nvm (s : State) (f : Fld) (i n : Nat) (b : Bool) : (s.setBit f i n b).nvm = s.nvm := rfl
@[simp] theorem State.setBit_pw (s : State) (f : Fld) (i n : Nat) (b : Bool) : (s.setBit f i n b).pw = s.pw := rfl
@[simp] theorem State.setBit_tap (s : State) (f : Fld) (i n : Nat) (b : Bool) : (s.setBit f i n b).tap = s.tap := rfl
@[simp] theorem State.setBit_pin (s : State) (f : Fld) (i n : Nat) (b : Bool) : (s.setBit f i n b).pin = s.pin := rfl
@[simp] theorem State.setBit_adp (s : State) (f : Fld) (i n : Nat) (b : Bool) : (s.setBit f i n b).adp = s.adp := rfl
@[simp] theorem State.setBit_eth (s : State) (f : Fld) (i n : Nat) (b : Bool) : (s.setBit f i n b).eth = s.eth := rfl
@[simp] theorem State.setBit_tmg (s : State) (f : Fld) (i n : Nat) (b : Bool) : (s.setBit f i n b).tmg = s.tmg := rfl
@[simp] theorem State.setBit_pat (s : State) (f : Fld) (i n : Nat) (b : Bool) : (s.setBit f i n b).pat = s.pat := rfl
@[simp] theorem State.setBit_apg (s : State) (f : Fld) (i n : Nat) (b : Bool) : (s.setBit f i n b).apg = s.apg := rfl
@[simp] theorem State.setBit_smu (s : State) (f : Fld) (i n : Nat) (b : Bool) : (s.setBit f i n b).smu = s.smu := rfl
@[simp] theorem State.setBit_wav (s : State) (f : Fld) (i n : Nat) (b : Bool) : (s.setBit f i n b).wav = s.wav := rfl
@[simp] theorem State.setBit_acq (s : State) (f : Fld) (i n : Nat) (b : Bool) : (s.setBit f i n b).acq = s.acq := rfl
@[simp] theorem State.setBit_fln (s : State) (f : Fld) (i n : Nat) (b : Bool) : (s.setBit f i n b).fln = s.fln := rfl
@[simp] theorem State.setBit_ser (s : State) (f : Fld) (i n : Nat) (b : Bool) : (s.setBit f i n b).ser = s.ser := rfl
@[simp] theorem State.setBit_pending (s : State) (f : Fld) (i n : Nat) (b : Bool) : (s.setBit f i n b).pending = s.pending := rfl

/-! ### setAct -/
@[simp] theorem State.setAct_regs (s : State) (f : Fld) (i n v : Nat) : (s.setAct f i n v).regs = s.regs := rfl
@[simp] theorem State.setAct_hw (s : State) (f : Fld) (i n v : Nat) : (s.setAct f i n v).hw = s.hw := rfl
@[simp] theorem State.setAct_mem (s : State) (f : Fld) (i n v : Nat) : (s.setAct f i n v).mem = s.mem := rfl
@[simp] theorem State.setAct_dict (s : State) (f : Fld) (i n v : Nat) : (s.setAct f i n v).dict = s.dict := rfl
@[simp] theorem State.setAct_stored (s : State) (f : Fld) (i n v : Nat) : (s.setAct f i n v).stored = s.stored := rfl
@[simp] theorem State.setAct_freeCtr (s : State) (f : Fld) (i n v : Nat) : (s.setAct f i n v).freeCtr = s.freeCtr := rfl
@[simp] theorem State.setAct_out (s : State) (f : Fld) (i n v : Nat) : (s.setAct f i n v).out = s.out := rfl
@[simp] theorem State.setAct_tb (s : State) (f : Fld) (i n v : Nat) : (s.setAct f i n v).tb = s.tb := rfl
@[simp] theorem State.setAct_bonds (s : State) (f : Fld) (i n v : Nat) : (s.setAct f i n v).bonds = s.bonds := rfl
@[simp] theorem State.setAct_net (s : State) (f : Fld) (i n v : Nat) : (s.setAct f i n v).net = s.net := rfl
@[simp] theorem State.setAct_lq (s : State) (f : Fld) (i n v : Nat) : (s.setAct f i n v).lq = s.lq := rfl
@[simp] theorem State.setAct_lqLast (s : State) (f : Fld) (i n v : Nat) : (s.setAct f i n v).lqLast = s.lqLast := rfl
@[simp] theorem State.setAct_tally (s : State) (f : Fld) (i n v : Nat) : (s.setAct f i n v).tally = s.tally := rfl
@[simp] theorem State.setAct_thm (s : State) (f : Fld) (i n v : Nat) : (s.setAct f i n v).thm = s.thm := rfl
@[simp] theorem State.setAct_md (s : State) (f : Fld) (i n v : Nat) : (s.setAct f i n v).md = s.md := rfl
@[simp] theorem State.setAct_seq (s : State) (f : Fld) (i n v : Nat) : (s.setAct f i n v).seq = s.seq := rfl
@[simp] theorem State.setAct_fc (s : State) (f : Fld) (i n v : Nat) : (s.setAct f i n v).fc = s.fc := rfl
@[simp] theorem State.setAct_bist (s : State) (f : Fld) (i n v : Nat) : (s.setAct f i n v).bist = s.bist := rfl
@[simp] theorem State.setAct_rk (s : State) (f : Fld) (i n v : Nat) : (s.setAct f i n v).rk = s.rk := rfl
@[simp] theorem State.setAct_ks (s : State) (f : Fld) (i n v : Nat) : (s.setAct f i n v).ks = s.ks := rfl
@[simp] theorem State.setAct_cal (s : State) (f : Fld) (i n v : Nat) : (s.setAct f i n v).cal = s.cal := rfl
@[simp] theorem State.setAct_tr (s : State) (f : Fld) (i n v : Nat) : (s.setAct f i n v).tr = s.tr := rfl
@[simp] theorem State.setAct_nvm (s : State) (f : Fld) (i n v : Nat) : (s.setAct f i n v).nvm = s.nvm := rfl
@[simp] theorem State.setAct_pw (s : State) (f : Fld) (i n v : Nat) : (s.setAct f i n v).pw = s.pw := rfl
@[simp] theorem State.setAct_tap (s : State) (f : Fld) (i n v : Nat) : (s.setAct f i n v).tap = s.tap := rfl
@[simp] theorem State.setAct_pin (s : State) (f : Fld) (i n v : Nat) : (s.setAct f i n v).pin = s.pin := rfl
@[simp] theorem State.setAct_adp (s : State) (f : Fld) (i n v : Nat) : (s.setAct f i n v).adp = s.adp := rfl
@[simp] theorem State.setAct_eth (s : State) (f : Fld) (i n v : Nat) : (s.setAct f i n v).eth = s.eth := rfl
@[simp] theorem State.setAct_tmg (s : State) (f : Fld) (i n v : Nat) : (s.setAct f i n v).tmg = s.tmg := rfl
@[simp] theorem State.setAct_pat (s : State) (f : Fld) (i n v : Nat) : (s.setAct f i n v).pat = s.pat := rfl
@[simp] theorem State.setAct_apg (s : State) (f : Fld) (i n v : Nat) : (s.setAct f i n v).apg = s.apg := rfl
@[simp] theorem State.setAct_smu (s : State) (f : Fld) (i n v : Nat) : (s.setAct f i n v).smu = s.smu := rfl
@[simp] theorem State.setAct_wav (s : State) (f : Fld) (i n v : Nat) : (s.setAct f i n v).wav = s.wav := rfl
@[simp] theorem State.setAct_acq (s : State) (f : Fld) (i n v : Nat) : (s.setAct f i n v).acq = s.acq := rfl
@[simp] theorem State.setAct_fln (s : State) (f : Fld) (i n v : Nat) : (s.setAct f i n v).fln = s.fln := rfl
@[simp] theorem State.setAct_ser (s : State) (f : Fld) (i n v : Nat) : (s.setAct f i n v).ser = s.ser := rfl
@[simp] theorem State.setAct_pending (s : State) (f : Fld) (i n v : Nat) : (s.setAct f i n v).pending = s.pending := rfl

/-! ### setPair -/
@[simp] theorem State.setPair_hw (s : State) (lo hi : Fld) (i n v : Nat) : (s.setPair lo hi i n v).hw = s.hw := rfl
@[simp] theorem State.setPair_act (s : State) (lo hi : Fld) (i n v : Nat) : (s.setPair lo hi i n v).act = s.act := rfl
@[simp] theorem State.setPair_mem (s : State) (lo hi : Fld) (i n v : Nat) : (s.setPair lo hi i n v).mem = s.mem := rfl
@[simp] theorem State.setPair_dict (s : State) (lo hi : Fld) (i n v : Nat) : (s.setPair lo hi i n v).dict = s.dict := rfl
@[simp] theorem State.setPair_stored (s : State) (lo hi : Fld) (i n v : Nat) : (s.setPair lo hi i n v).stored = s.stored := rfl
@[simp] theorem State.setPair_freeCtr (s : State) (lo hi : Fld) (i n v : Nat) : (s.setPair lo hi i n v).freeCtr = s.freeCtr := rfl
@[simp] theorem State.setPair_out (s : State) (lo hi : Fld) (i n v : Nat) : (s.setPair lo hi i n v).out = s.out := rfl
@[simp] theorem State.setPair_tb (s : State) (lo hi : Fld) (i n v : Nat) : (s.setPair lo hi i n v).tb = s.tb := rfl
@[simp] theorem State.setPair_bonds (s : State) (lo hi : Fld) (i n v : Nat) : (s.setPair lo hi i n v).bonds = s.bonds := rfl
@[simp] theorem State.setPair_net (s : State) (lo hi : Fld) (i n v : Nat) : (s.setPair lo hi i n v).net = s.net := rfl
@[simp] theorem State.setPair_lq (s : State) (lo hi : Fld) (i n v : Nat) : (s.setPair lo hi i n v).lq = s.lq := rfl
@[simp] theorem State.setPair_lqLast (s : State) (lo hi : Fld) (i n v : Nat) : (s.setPair lo hi i n v).lqLast = s.lqLast := rfl
@[simp] theorem State.setPair_tally (s : State) (lo hi : Fld) (i n v : Nat) : (s.setPair lo hi i n v).tally = s.tally := rfl
@[simp] theorem State.setPair_thm (s : State) (lo hi : Fld) (i n v : Nat) : (s.setPair lo hi i n v).thm = s.thm := rfl
@[simp] theorem State.setPair_md (s : State) (lo hi : Fld) (i n v : Nat) : (s.setPair lo hi i n v).md = s.md := rfl
@[simp] theorem State.setPair_seq (s : State) (lo hi : Fld) (i n v : Nat) : (s.setPair lo hi i n v).seq = s.seq := rfl
@[simp] theorem State.setPair_fc (s : State) (lo hi : Fld) (i n v : Nat) : (s.setPair lo hi i n v).fc = s.fc := rfl
@[simp] theorem State.setPair_bist (s : State) (lo hi : Fld) (i n v : Nat) : (s.setPair lo hi i n v).bist = s.bist := rfl
@[simp] theorem State.setPair_rk (s : State) (lo hi : Fld) (i n v : Nat) : (s.setPair lo hi i n v).rk = s.rk := rfl
@[simp] theorem State.setPair_ks (s : State) (lo hi : Fld) (i n v : Nat) : (s.setPair lo hi i n v).ks = s.ks := rfl
@[simp] theorem State.setPair_cal (s : State) (lo hi : Fld) (i n v : Nat) : (s.setPair lo hi i n v).cal = s.cal := rfl
@[simp] theorem State.setPair_tr (s : State) (lo hi : Fld) (i n v : Nat) : (s.setPair lo hi i n v).tr = s.tr := rfl
@[simp] theorem State.setPair_nvm (s : State) (lo hi : Fld) (i n v : Nat) : (s.setPair lo hi i n v).nvm = s.nvm := rfl
@[simp] theorem State.setPair_pw (s : State) (lo hi : Fld) (i n v : Nat) : (s.setPair lo hi i n v).pw = s.pw := rfl
@[simp] theorem State.setPair_tap (s : State) (lo hi : Fld) (i n v : Nat) : (s.setPair lo hi i n v).tap = s.tap := rfl
@[simp] theorem State.setPair_pin (s : State) (lo hi : Fld) (i n v : Nat) : (s.setPair lo hi i n v).pin = s.pin := rfl
@[simp] theorem State.setPair_adp (s : State) (lo hi : Fld) (i n v : Nat) : (s.setPair lo hi i n v).adp = s.adp := rfl
@[simp] theorem State.setPair_eth (s : State) (lo hi : Fld) (i n v : Nat) : (s.setPair lo hi i n v).eth = s.eth := rfl
@[simp] theorem State.setPair_tmg (s : State) (lo hi : Fld) (i n v : Nat) : (s.setPair lo hi i n v).tmg = s.tmg := rfl
@[simp] theorem State.setPair_pat (s : State) (lo hi : Fld) (i n v : Nat) : (s.setPair lo hi i n v).pat = s.pat := rfl
@[simp] theorem State.setPair_apg (s : State) (lo hi : Fld) (i n v : Nat) : (s.setPair lo hi i n v).apg = s.apg := rfl
@[simp] theorem State.setPair_smu (s : State) (lo hi : Fld) (i n v : Nat) : (s.setPair lo hi i n v).smu = s.smu := rfl
@[simp] theorem State.setPair_wav (s : State) (lo hi : Fld) (i n v : Nat) : (s.setPair lo hi i n v).wav = s.wav := rfl
@[simp] theorem State.setPair_acq (s : State) (lo hi : Fld) (i n v : Nat) : (s.setPair lo hi i n v).acq = s.acq := rfl
@[simp] theorem State.setPair_fln (s : State) (lo hi : Fld) (i n v : Nat) : (s.setPair lo hi i n v).fln = s.fln := rfl
@[simp] theorem State.setPair_ser (s : State) (lo hi : Fld) (i n v : Nat) : (s.setPair lo hi i n v).ser = s.ser := rfl
@[simp] theorem State.setPair_pending (s : State) (lo hi : Fld) (i n v : Nat) : (s.setPair lo hi i n v).pending = s.pending := rfl

/-! ### setByte -/
@[simp] theorem State.setByte_regs (s : State) (a : Nat) (b : Byte) : (s.setByte a b).regs = s.regs := rfl
@[simp] theorem State.setByte_hw (s : State) (a : Nat) (b : Byte) : (s.setByte a b).hw = s.hw := rfl
@[simp] theorem State.setByte_act (s : State) (a : Nat) (b : Byte) : (s.setByte a b).act = s.act := rfl
@[simp] theorem State.setByte_dict (s : State) (a : Nat) (b : Byte) : (s.setByte a b).dict = s.dict := rfl
@[simp] theorem State.setByte_stored (s : State) (a : Nat) (b : Byte) : (s.setByte a b).stored = s.stored := rfl
@[simp] theorem State.setByte_freeCtr (s : State) (a : Nat) (b : Byte) : (s.setByte a b).freeCtr = s.freeCtr := rfl
@[simp] theorem State.setByte_out (s : State) (a : Nat) (b : Byte) : (s.setByte a b).out = s.out := rfl
@[simp] theorem State.setByte_tb (s : State) (a : Nat) (b : Byte) : (s.setByte a b).tb = s.tb := rfl
@[simp] theorem State.setByte_bonds (s : State) (a : Nat) (b : Byte) : (s.setByte a b).bonds = s.bonds := rfl
@[simp] theorem State.setByte_net (s : State) (a : Nat) (b : Byte) : (s.setByte a b).net = s.net := rfl
@[simp] theorem State.setByte_lq (s : State) (a : Nat) (b : Byte) : (s.setByte a b).lq = s.lq := rfl
@[simp] theorem State.setByte_lqLast (s : State) (a : Nat) (b : Byte) : (s.setByte a b).lqLast = s.lqLast := rfl
@[simp] theorem State.setByte_tally (s : State) (a : Nat) (b : Byte) : (s.setByte a b).tally = s.tally := rfl
@[simp] theorem State.setByte_thm (s : State) (a : Nat) (b : Byte) : (s.setByte a b).thm = s.thm := rfl
@[simp] theorem State.setByte_md (s : State) (a : Nat) (b : Byte) : (s.setByte a b).md = s.md := rfl
@[simp] theorem State.setByte_seq (s : State) (a : Nat) (b : Byte) : (s.setByte a b).seq = s.seq := rfl
@[simp] theorem State.setByte_fc (s : State) (a : Nat) (b : Byte) : (s.setByte a b).fc = s.fc := rfl
@[simp] theorem State.setByte_bist (s : State) (a : Nat) (b : Byte) : (s.setByte a b).bist = s.bist := rfl
@[simp] theorem State.setByte_rk (s : State) (a : Nat) (b : Byte) : (s.setByte a b).rk = s.rk := rfl
@[simp] theorem State.setByte_ks (s : State) (a : Nat) (b : Byte) : (s.setByte a b).ks = s.ks := rfl
@[simp] theorem State.setByte_cal (s : State) (a : Nat) (b : Byte) : (s.setByte a b).cal = s.cal := rfl
@[simp] theorem State.setByte_tr (s : State) (a : Nat) (b : Byte) : (s.setByte a b).tr = s.tr := rfl
@[simp] theorem State.setByte_nvm (s : State) (a : Nat) (b : Byte) : (s.setByte a b).nvm = s.nvm := rfl
@[simp] theorem State.setByte_pw (s : State) (a : Nat) (b : Byte) : (s.setByte a b).pw = s.pw := rfl
@[simp] theorem State.setByte_tap (s : State) (a : Nat) (b : Byte) : (s.setByte a b).tap = s.tap := rfl
@[simp] theorem State.setByte_pin (s : State) (a : Nat) (b : Byte) : (s.setByte a b).pin = s.pin := rfl
@[simp] theorem State.setByte_adp (s : State) (a : Nat) (b : Byte) : (s.setByte a b).adp = s.adp := rfl
@[simp] theorem State.setByte_eth (s : State) (a : Nat) (b : Byte) : (s.setByte a b).eth = s.eth := rfl
@[simp] theorem State.setByte_tmg (s : State) (a : Nat) (b : Byte) : (s.setByte a b).tmg = s.tmg := rfl
@[simp] theorem State.setByte_pat (s : State) (a : Nat) (b : Byte) : (s.setByte a b).pat = s.pat := rfl
@[simp] theorem State.setByte_apg (s : State) (a : Nat) (b : Byte) : (s.setByte a b).apg = s.apg := rfl
@[simp] theorem State.setByte_smu (s : State) (a : Nat) (b : Byte) : (s.setByte a b).smu = s.smu := rfl
@[simp] theorem State.setByte_wav (s : State) (a : Nat) (b : Byte) : (s.setByte a b).wav = s.wav := rfl
@[simp] theorem State.setByte_acq (s : State) (a : Nat) (b : Byte) : (s.setByte a b).acq = s.acq := rfl
@[simp] theorem State.setByte_fln (s : State) (a : Nat) (b : Byte) : (s.setByte a b).fln = s.fln := rfl
@[simp] theorem State.setByte_ser (s : State) (a : Nat) (b : Byte) : (s.setByte a b).ser = s.ser := rfl
@[simp] theorem State.setByte_pending (s : State) (a : Nat) (b : Byte) : (s.setByte a b).pending = s.pending := rfl

/-! ### send -/
@[simp] theorem State.send_regs (s : State) (m : OutMsg) : (s.send m).regs = s.regs := rfl
@[simp] theorem State.send_hw (s : State) (m : OutMsg) : (s.send m).hw = s.hw := rfl
@[simp] theorem State.send_act (s : State) (m : OutMsg) : (s.send m).act = s.act := rfl
@[simp] theorem State.send_mem (s : State) (m : OutMsg) : (s.send m).mem = s.mem := rfl
@[simp] theorem State.send_dict (s : State) (m : OutMsg) : (s.send m).dict = s.dict := rfl
@[simp] theorem State.send_stored (s : State) (m : OutMsg) : (s.send m).stored = s.stored := rfl
@[simp] theorem State.send_freeCtr (s : State) (m : OutMsg) : (s.send m).freeCtr = s.freeCtr := rfl
@[simp] theorem State.send_tb (s : State) (m : OutMsg) : (s.send m).tb = s.tb := rfl
@[simp] theorem State.send_bonds (s : State) (m : OutMsg) : (s.send m).bonds = s.bonds := rfl
@[simp] theorem State.send_net (s : State) (m : OutMsg) : (s.send m).net = s.net := rfl
@[simp] theorem State.send_lq (s : State) (m : OutMsg) : (s.send m).lq = s.lq := rfl
@[simp] theorem State.send_lqLast (s : State) (m : OutMsg) : (s.send m).lqLast = s.lqLast := rfl
@[simp] theorem State.send_tally (s : State) (m : OutMsg) : (s.send m).tally = s.tally := rfl
@[simp] theorem State.send_thm (s : State) (m : OutMsg) : (s.send m).thm = s.thm := rfl
@[simp] theorem State.send_md (s : State) (m : OutMsg) : (s.send m).md = s.md := rfl
@[simp] theorem State.send_seq (s : State) (m : OutMsg) : (s.send m).seq = s.seq := rfl
@[simp] theorem State.send_fc (s : State) (m : OutMsg) : (s.send m).fc = s.fc := rfl
@[simp] theorem State.send_bist (s : State) (m : OutMsg) : (s.send m).bist = s.bist := rfl
@[simp] theorem State.send_rk (s : State) (m : OutMsg) : (s.send m).rk = s.rk := rfl
@[simp] theorem State.send_ks (s : State) (m : OutMsg) : (s.send m).ks = s.ks := rfl
@[simp] theorem State.send_cal (s : State) (m : OutMsg) : (s.send m).cal = s.cal := rfl
@[simp] theorem State.send_tr (s : State) (m : OutMsg) : (s.send m).tr = s.tr := rfl
@[simp] theorem State.send_nvm (s : State) (m : OutMsg) : (s.send m).nvm = s.nvm := rfl
@[simp] theorem State.send_pw (s : State) (m : OutMsg) : (s.send m).pw = s.pw := rfl
@[simp] theorem State.send_tap (s : State) (m : OutMsg) : (s.send m).tap = s.tap := rfl
@[simp] theorem State.send_pin (s : State) (m : OutMsg) : (s.send m).pin = s.pin := rfl
@[simp] theorem State.send_adp (s : State) (m : OutMsg) : (s.send m).adp = s.adp := rfl
@[simp] theorem State.send_eth (s : State) (m : OutMsg) : (s.send m).eth = s.eth := rfl
@[simp] theorem State.send_tmg (s : State) (m : OutMsg) : (s.send m).tmg = s.tmg := rfl
@[simp] theorem State.send_pat (s : State) (m : OutMsg) : (s.send m).pat = s.pat := rfl
@[simp] theorem State.send_apg (s : State) (m : OutMsg) : (s.send m).apg = s.apg := rfl
@[simp] theorem State.send_smu (s : State) (m : OutMsg) : (s.send m).smu = s.smu := rfl
@[simp] theorem State.send_wav (s : State) (m : OutMsg) : (s.send m).wav = s.wav := rfl
@[simp] theorem State.send_acq (s : State) (m : OutMsg) : (s.send m).acq = s.acq := rfl
@[simp] theorem State.send_fln (s : State) (m : OutMsg) : (s.send m).fln = s.fln := rfl
@[simp] theorem State.send_ser (s : State) (m : OutMsg) : (s.send m).ser = s.ser := rfl
@[simp] theorem State.send_pending (s : State) (m : OutMsg) : (s.send m).pending = s.pending := rfl

/-! ### pass -/
@[simp] theorem State.pass_regs (s : State) (d : Nat) : (s.pass d).regs = s.regs := rfl
@[simp] theorem State.pass_hw (s : State) (d : Nat) : (s.pass d).hw = s.hw := rfl
@[simp] theorem State.pass_act (s : State) (d : Nat) : (s.pass d).act = s.act := rfl
@[simp] theorem State.pass_mem (s : State) (d : Nat) : (s.pass d).mem = s.mem := rfl
@[simp] theorem State.pass_dict (s : State) (d : Nat) : (s.pass d).dict = s.dict := rfl
@[simp] theorem State.pass_stored (s : State) (d : Nat) : (s.pass d).stored = s.stored := rfl
@[simp] theorem State.pass_freeCtr (s : State) (d : Nat) : (s.pass d).freeCtr = s.freeCtr := rfl
@[simp] theorem State.pass_out (s : State) (d : Nat) : (s.pass d).out = s.out := rfl
@[simp] theorem State.pass_bonds (s : State) (d : Nat) : (s.pass d).bonds = s.bonds := rfl
@[simp] theorem State.pass_net (s : State) (d : Nat) : (s.pass d).net = s.net := rfl
@[simp] theorem State.pass_lq (s : State) (d : Nat) : (s.pass d).lq = s.lq := rfl
@[simp] theorem State.pass_lqLast (s : State) (d : Nat) : (s.pass d).lqLast = s.lqLast := rfl
@[simp] theorem State.pass_tally (s : State) (d : Nat) : (s.pass d).tally = s.tally := rfl
@[simp] theorem State.pass_thm (s : State) (d : Nat) : (s.pass d).thm = s.thm := rfl
@[simp] theorem State.pass_md (s : State) (d : Nat) : (s.pass d).md = s.md := rfl
@[simp] theorem State.pass_seq (s : State) (d : Nat) : (s.pass d).seq = s.seq := rfl
@[simp] theorem State.pass_fc (s : State) (d : Nat) : (s.pass d).fc = s.fc := rfl
@[simp] theorem State.pass_bist (s : State) (d : Nat) : (s.pass d).bist = s.bist := rfl
@[simp] theorem State.pass_rk (s : State) (d : Nat) : (s.pass d).rk = s.rk := rfl
@[simp] theorem State.pass_ks (s : State) (d : Nat) : (s.pass d).ks = s.ks := rfl
@[simp] theorem State.pass_cal (s : State) (d : Nat) : (s.pass d).cal = s.cal := rfl
@[simp] theorem State.pass_tr (s : State) (d : Nat) : (s.pass d).tr = s.tr := rfl
@[simp] theorem State.pass_nvm (s : State) (d : Nat) : (s.pass d).nvm = s.nvm := rfl
@[simp] theorem State.pass_pw (s : State) (d : Nat) : (s.pass d).pw = s.pw := rfl
@[simp] theorem State.pass_tap (s : State) (d : Nat) : (s.pass d).tap = s.tap := rfl
@[simp] theorem State.pass_pin (s : State) (d : Nat) : (s.pass d).pin = s.pin := rfl
@[simp] theorem State.pass_adp (s : State) (d : Nat) : (s.pass d).adp = s.adp := rfl
@[simp] theorem State.pass_eth (s : State) (d : Nat) : (s.pass d).eth = s.eth := rfl
@[simp] theorem State.pass_tmg (s : State) (d : Nat) : (s.pass d).tmg = s.tmg := rfl
@[simp] theorem State.pass_pat (s : State) (d : Nat) : (s.pass d).pat = s.pat := rfl
@[simp] theorem State.pass_apg (s : State) (d : Nat) : (s.pass d).apg = s.apg := rfl
@[simp] theorem State.pass_smu (s : State) (d : Nat) : (s.pass d).smu = s.smu := rfl
@[simp] theorem State.pass_wav (s : State) (d : Nat) : (s.pass d).wav = s.wav := rfl
@[simp] theorem State.pass_acq (s : State) (d : Nat) : (s.pass d).acq = s.acq := rfl
@[simp] theorem State.pass_fln (s : State) (d : Nat) : (s.pass d).fln = s.fln := rfl
@[simp] theorem State.pass_ser (s : State) (d : Nat) : (s.pass d).ser = s.ser := rfl
@[simp] theorem State.pass_pending (s : State) (d : Nat) : (s.pass d).pending = s.pending := rfl

/-! ### reachLoc -/
@[simp] theorem State.reachLoc_regs (s : State) (t : Nat) : (s.reachLoc t).regs = s.regs := rfl
@[simp] theorem State.reachLoc_hw (s : State) (t : Nat) : (s.reachLoc t).hw = s.hw := rfl
@[simp] theorem State.reachLoc_act (s : State) (t : Nat) : (s.reachLoc t).act = s.act := rfl
@[simp] theorem State.reachLoc_mem (s : State) (t : Nat) : (s.reachLoc t).mem = s.mem := rfl
@[simp] theorem State.reachLoc_dict (s : State) (t : Nat) : (s.reachLoc t).dict = s.dict := rfl
@[simp] theorem State.reachLoc_stored (s : State) (t : Nat) : (s.reachLoc t).stored = s.stored := rfl
@[simp] theorem State.reachLoc_freeCtr (s : State) (t : Nat) : (s.reachLoc t).freeCtr = s.freeCtr := rfl
@[simp] theorem State.reachLoc_out (s : State) (t : Nat) : (s.reachLoc t).out = s.out := rfl
@[simp] theorem State.reachLoc_bonds (s : State) (t : Nat) : (s.reachLoc t).bonds = s.bonds := rfl
@[simp] theorem State.reachLoc_net (s : State) (t : Nat) : (s.reachLoc t).net = s.net := rfl
@[simp] theorem State.reachLoc_lq (s : State) (t : Nat) : (s.reachLoc t).lq = s.lq := rfl
@[simp] theorem State.reachLoc_lqLast (s : State) (t : Nat) : (s.reachLoc t).lqLast = s.lqLast := rfl
@[simp] theorem State.reachLoc_tally (s : State) (t : Nat) : (s.reachLoc t).tally = s.tally := rfl
@[simp] theorem State.reachLoc_thm (s : State) (t : Nat) : (s.reachLoc t).thm = s.thm := rfl
@[simp] theorem State.reachLoc_md (s : State) (t : Nat) : (s.reachLoc t).md = s.md := rfl
@[simp] theorem State.reachLoc_seq (s : State) (t : Nat) : (s.reachLoc t).seq = s.seq := rfl
@[simp] theorem State.reachLoc_fc (s : State) (t : Nat) : (s.reachLoc t).fc = s.fc := rfl
@[simp] theorem State.reachLoc_bist (s : State) (t : Nat) : (s.reachLoc t).bist = s.bist := rfl
@[simp] theorem State.reachLoc_rk (s : State) (t : Nat) : (s.reachLoc t).rk = s.rk := rfl
@[simp] theorem State.reachLoc_ks (s : State) (t : Nat) : (s.reachLoc t).ks = s.ks := rfl
@[simp] theorem State.reachLoc_cal (s : State) (t : Nat) : (s.reachLoc t).cal = s.cal := rfl
@[simp] theorem State.reachLoc_tr (s : State) (t : Nat) : (s.reachLoc t).tr = s.tr := rfl
@[simp] theorem State.reachLoc_nvm (s : State) (t : Nat) : (s.reachLoc t).nvm = s.nvm := rfl
@[simp] theorem State.reachLoc_pw (s : State) (t : Nat) : (s.reachLoc t).pw = s.pw := rfl
@[simp] theorem State.reachLoc_tap (s : State) (t : Nat) : (s.reachLoc t).tap = s.tap := rfl
@[simp] theorem State.reachLoc_pin (s : State) (t : Nat) : (s.reachLoc t).pin = s.pin := rfl
@[simp] theorem State.reachLoc_adp (s : State) (t : Nat) : (s.reachLoc t).adp = s.adp := rfl
@[simp] theorem State.reachLoc_eth (s : State) (t : Nat) : (s.reachLoc t).eth = s.eth := rfl
@[simp] theorem State.reachLoc_tmg (s : State) (t : Nat) : (s.reachLoc t).tmg = s.tmg := rfl
@[simp] theorem State.reachLoc_pat (s : State) (t : Nat) : (s.reachLoc t).pat = s.pat := rfl
@[simp] theorem State.reachLoc_apg (s : State) (t : Nat) : (s.reachLoc t).apg = s.apg := rfl
@[simp] theorem State.reachLoc_smu (s : State) (t : Nat) : (s.reachLoc t).smu = s.smu := rfl
@[simp] theorem State.reachLoc_wav (s : State) (t : Nat) : (s.reachLoc t).wav = s.wav := rfl
@[simp] theorem State.reachLoc_acq (s : State) (t : Nat) : (s.reachLoc t).acq = s.acq := rfl
@[simp] theorem State.reachLoc_fln (s : State) (t : Nat) : (s.reachLoc t).fln = s.fln := rfl
@[simp] theorem State.reachLoc_ser (s : State) (t : Nat) : (s.reachLoc t).ser = s.ser := rfl
@[simp] theorem State.reachLoc_pending (s : State) (t : Nat) : (s.reachLoc t).pending = s.pending := rfl

/-! ### nextLoc -/
@[simp] theorem State.nextLoc_regs (s : State) (p : Nat) : (s.nextLoc p).regs = s.regs := rfl
@[simp] theorem State.nextLoc_hw (s : State) (p : Nat) : (s.nextLoc p).hw = s.hw := rfl
@[simp] theorem State.nextLoc_act (s : State) (p : Nat) : (s.nextLoc p).act = s.act := rfl
@[simp] theorem State.nextLoc_mem (s : State) (p : Nat) : (s.nextLoc p).mem = s.mem := rfl
@[simp] theorem State.nextLoc_dict (s : State) (p : Nat) : (s.nextLoc p).dict = s.dict := rfl
@[simp] theorem State.nextLoc_stored (s : State) (p : Nat) : (s.nextLoc p).stored = s.stored := rfl
@[simp] theorem State.nextLoc_freeCtr (s : State) (p : Nat) : (s.nextLoc p).freeCtr = s.freeCtr := rfl
@[simp] theorem State.nextLoc_out (s : State) (p : Nat) : (s.nextLoc p).out = s.out := rfl
@[simp] theorem State.nextLoc_bonds (s : State) (p : Nat) : (s.nextLoc p).bonds = s.bonds := rfl
@[simp] theorem State.nextLoc_net (s : State) (p : Nat) : (s.nextLoc p).net = s.net := rfl
@[simp] theorem State.nextLoc_lq (s : State) (p : Nat) : (s.nextLoc p).lq = s.lq := rfl
@[simp] theorem State.nextLoc_lqLast (s : State) (p : Nat) : (s.nextLoc p).lqLast = s.lqLast := rfl
@[simp] theorem State.nextLoc_tally (s : State) (p : Nat) : (s.nextLoc p).tally = s.tally := rfl
@[simp] theorem State.nextLoc_thm (s : State) (p : Nat) : (s.nextLoc p).thm = s.thm := rfl
@[simp] theorem State.nextLoc_md (s : State) (p : Nat) : (s.nextLoc p).md = s.md := rfl
@[simp] theorem State.nextLoc_seq (s : State) (p : Nat) : (s.nextLoc p).seq = s.seq := rfl
@[simp] theorem State.nextLoc_fc (s : State) (p : Nat) : (s.nextLoc p).fc = s.fc := rfl
@[simp] theorem State.nextLoc_bist (s : State) (p : Nat) : (s.nextLoc p).bist = s.bist := rfl
@[simp] theorem State.nextLoc_rk (s : State) (p : Nat) : (s.nextLoc p).rk = s.rk := rfl
@[simp] theorem State.nextLoc_ks (s : State) (p : Nat) : (s.nextLoc p).ks = s.ks := rfl
@[simp] theorem State.nextLoc_cal (s : State) (p : Nat) : (s.nextLoc p).cal = s.cal := rfl
@[simp] theorem State.nextLoc_tr (s : State) (p : Nat) : (s.nextLoc p).tr = s.tr := rfl
@[simp] theorem State.nextLoc_nvm (s : State) (p : Nat) : (s.nextLoc p).nvm = s.nvm := rfl
@[simp] theorem State.nextLoc_pw (s : State) (p : Nat) : (s.nextLoc p).pw = s.pw := rfl
@[simp] theorem State.nextLoc_tap (s : State) (p : Nat) : (s.nextLoc p).tap = s.tap := rfl
@[simp] theorem State.nextLoc_pin (s : State) (p : Nat) : (s.nextLoc p).pin = s.pin := rfl
@[simp] theorem State.nextLoc_adp (s : State) (p : Nat) : (s.nextLoc p).adp = s.adp := rfl
@[simp] theorem State.nextLoc_eth (s : State) (p : Nat) : (s.nextLoc p).eth = s.eth := rfl
@[simp] theorem State.nextLoc_tmg (s : State) (p : Nat) : (s.nextLoc p).tmg = s.tmg := rfl
@[simp] theorem State.nextLoc_pat (s : State) (p : Nat) : (s.nextLoc p).pat = s.pat := rfl
@[simp] theorem State.nextLoc_apg (s : State) (p : Nat) : (s.nextLoc p).apg = s.apg := rfl
@[simp] theorem State.nextLoc_smu (s : State) (p : Nat) : (s.nextLoc p).smu = s.smu := rfl
@[simp] theorem State.nextLoc_wav (s : State) (p : Nat) : (s.nextLoc p).wav = s.wav := rfl
@[simp] theorem State.nextLoc_acq (s : State) (p : Nat) : (s.nextLoc p).acq = s.acq := rfl
@[simp] theorem State.nextLoc_fln (s : State) (p : Nat) : (s.nextLoc p).fln = s.fln := rfl
@[simp] theorem State.nextLoc_ser (s : State) (p : Nat) : (s.nextLoc p).ser = s.ser := rfl
@[simp] theorem State.nextLoc_pending (s : State) (p : Nat) : (s.nextLoc p).pending = s.pending := rfl

/-! ### draw -/
@[simp] theorem State.draw_regs (s : State) (m : Nat) : (s.draw m).2.regs = s.regs := rfl
@[simp] theorem State.draw_hw (s : State) (m : Nat) : (s.draw m).2.hw = s.hw := rfl
@[simp] theorem State.draw_act (s : State) (m : Nat) : (s.draw m).2.act = s.act := rfl
@[simp] theorem State.draw_mem (s : State) (m : Nat) : (s.draw m).2.mem = s.mem := rfl
@[simp] theorem State.draw_dict (s : State) (m : Nat) : (s.draw m).2.dict = s.dict := rfl
@[simp] theorem State.draw_stored (s : State) (m : Nat) : (s.draw m).2.stored = s.stored := rfl
@[simp] theorem State.draw_out (s : State) (m : Nat) : (s.draw m).2.out = s.out := rfl
@[simp] theorem State.draw_tb (s : State) (m : Nat) : (s.draw m).2.tb = s.tb := rfl
@[simp] theorem State.draw_bonds (s : State) (m : Nat) : (s.draw m).2.bonds = s.bonds := rfl
@[simp] theorem State.draw_net (s : State) (m : Nat) : (s.draw m).2.net = s.net := rfl
@[simp] theorem State.draw_lq (s : State) (m : Nat) : (s.draw m).2.lq = s.lq := rfl
@[simp] theorem State.draw_lqLast (s : State) (m : Nat) : (s.draw m).2.lqLast = s.lqLast := rfl
@[simp] theorem State.draw_tally (s : State) (m : Nat) : (s.draw m).2.tally = s.tally := rfl
@[simp] theorem State.draw_thm (s : State) (m : Nat) : (s.draw m).2.thm = s.thm := rfl
@[simp] theorem State.draw_md (s : State) (m : Nat) : (s.draw m).2.md = s.md := rfl
@[simp] theorem State.draw_seq (s : State) (m : Nat) : (s.draw m).2.seq = s.seq := rfl
@[simp] theorem State.draw_fc (s : State) (m : Nat) : (s.draw m).2.fc = s.fc := rfl
@[simp] theorem State.draw_bist (s : State) (m : Nat) : (s.draw m).2.bist = s.bist := rfl
@[simp] theorem State.draw_rk (s : State) (m : Nat) : (s.draw m).2.rk = s.rk := rfl
@[simp] theorem State.draw_ks (s : State) (m : Nat) : (s.draw m).2.ks = s.ks := rfl
@[simp] theorem State.draw_cal (s : State) (m : Nat) : (s.draw m).2.cal = s.cal := rfl
@[simp] theorem State.draw_tr (s : State) (m : Nat) : (s.draw m).2.tr = s.tr := rfl
@[simp] theorem State.draw_nvm (s : State) (m : Nat) : (s.draw m).2.nvm = s.nvm := rfl
@[simp] theorem State.draw_pw (s : State) (m : Nat) : (s.draw m).2.pw = s.pw := rfl
@[simp] theorem State.draw_tap (s : State) (m : Nat) : (s.draw m).2.tap = s.tap := rfl
@[simp] theorem State.draw_pin (s : State) (m : Nat) : (s.draw m).2.pin = s.pin := rfl
@[simp] theorem State.draw_adp (s : State) (m : Nat) : (s.draw m).2.adp = s.adp := rfl
@[simp] theorem State.draw_eth (s : State) (m : Nat) : (s.draw m).2.eth = s.eth := rfl
@[simp] theorem State.draw_tmg (s : State) (m : Nat) : (s.draw m).2.tmg = s.tmg := rfl
@[simp] theorem State.draw_pat (s : State) (m : Nat) : (s.draw m).2.pat = s.pat := rfl
@[simp] theorem State.draw_apg (s : State) (m : Nat) : (s.draw m).2.apg = s.apg := rfl
@[simp] theorem State.draw_smu (s : State) (m : Nat) : (s.draw m).2.smu = s.smu := rfl
@[simp] theorem State.draw_wav (s : State) (m : Nat) : (s.draw m).2.wav = s.wav := rfl
@[simp] theorem State.draw_acq (s : State) (m : Nat) : (s.draw m).2.acq = s.acq := rfl
@[simp] theorem State.draw_fln (s : State) (m : Nat) : (s.draw m).2.fln = s.fln := rfl
@[simp] theorem State.draw_ser (s : State) (m : Nat) : (s.draw m).2.ser = s.ser := rfl
@[simp] theorem State.draw_pending (s : State) (m : Nat) : (s.draw m).2.pending = s.pending := rfl

/-! ### reach -/
@[simp] theorem State.reach_regs (s : State) (t : Nat) : (s.reach t).regs = s.regs := by unfold State.reach; split <;> rfl
@[simp] theorem State.reach_hw (s : State) (t : Nat) : (s.reach t).hw = s.hw := by unfold State.reach; split <;> rfl
@[simp] theorem State.reach_act (s : State) (t : Nat) : (s.reach t).act = s.act := by unfold State.reach; split <;> rfl
@[simp] theorem State.reach_mem (s : State) (t : Nat) : (s.reach t).mem = s.mem := by unfold State.reach; split <;> rfl
@[simp] theorem State.reach_dict (s : State) (t : Nat) : (s.reach t).dict = s.dict := by unfold State.reach; split <;> rfl
@[simp] theorem State.reach_stored (s : State) (t : Nat) : (s.reach t).stored = s.stored := by unfold State.reach; split <;> rfl
@[simp] theorem State.reach_freeCtr (s : State) (t : Nat) : (s.reach t).freeCtr = s.freeCtr := by unfold State.reach; split <;> rfl
@[simp] theorem State.reach_out (s : State) (t : Nat) : (s.reach t).out = s.out := by unfold State.reach; split <;> rfl
@[simp] theorem State.reach_bonds (s : State) (t : Nat) : (s.reach t).bonds = s.bonds := by unfold State.reach; split <;> rfl
@[simp] theorem State.reach_net (s : State) (t : Nat) : (s.reach t).net = s.net := by unfold State.reach; split <;> rfl
@[simp] theorem State.reach_lq (s : State) (t : Nat) : (s.reach t).lq = s.lq := by unfold State.reach; split <;> rfl
@[simp] theorem State.reach_lqLast (s : State) (t : Nat) : (s.reach t).lqLast = s.lqLast := by unfold State.reach; split <;> rfl
@[simp] theorem State.reach_tally (s : State) (t : Nat) : (s.reach t).tally = s.tally := by unfold State.reach; split <;> rfl
@[simp] theorem State.reach_thm (s : State) (t : Nat) : (s.reach t).thm = s.thm := by unfold State.reach; split <;> rfl
@[simp] theorem State.reach_md (s : State) (t : Nat) : (s.reach t).md = s.md := by unfold State.reach; split <;> rfl
@[simp] theorem State.reach_seq (s : State) (t : Nat) : (s.reach t).seq = s.seq := by unfold State.reach; split <;> rfl
@[simp] theorem State.reach_fc (s : State) (t : Nat) : (s.reach t).fc = s.fc := by unfold State.reach; split <;> rfl
@[simp] theorem State.reach_bist (s : State) (t : Nat) : (s.reach t).bist = s.bist := by unfold State.reach; split <;> rfl
@[simp] theorem State.reach_rk (s : State) (t : Nat) : (s.reach t).rk = s.rk := by unfold State.reach; split <;> rfl
@[simp] theorem State.reach_ks (s : State) (t : Nat) : (s.reach t).ks = s.ks := by unfold State.reach; split <;> rfl
@[simp] theorem State.reach_cal (s : State) (t : Nat) : (s.reach t).cal = s.cal := by unfold State.reach; split <;> rfl
@[simp] theorem State.reach_tr (s : State) (t : Nat) : (s.reach t).tr = s.tr := by unfold State.reach; split <;> rfl
@[simp] theorem State.reach_nvm (s : State) (t : Nat) : (s.reach t).nvm = s.nvm := by unfold State.reach; split <;> rfl
@[simp] theorem State.reach_pw (s : State) (t : Nat) : (s.reach t).pw = s.pw := by unfold State.reach; split <;> rfl
@[simp] theorem State.reach_tap (s : State) (t : Nat) : (s.reach t).tap = s.tap := by unfold State.reach; split <;> rfl
@[simp] theorem State.reach_pin (s : State) (t : Nat) : (s.reach t).pin = s.pin := by unfold State.reach; split <;> rfl
@[simp] theorem State.reach_adp (s : State) (t : Nat) : (s.reach t).adp = s.adp := by unfold State.reach; split <;> rfl
@[simp] theorem State.reach_eth (s : State) (t : Nat) : (s.reach t).eth = s.eth := by unfold State.reach; split <;> rfl
@[simp] theorem State.reach_tmg (s : State) (t : Nat) : (s.reach t).tmg = s.tmg := by unfold State.reach; split <;> rfl
@[simp] theorem State.reach_pat (s : State) (t : Nat) : (s.reach t).pat = s.pat := by unfold State.reach; split <;> rfl
@[simp] theorem State.reach_apg (s : State) (t : Nat) : (s.reach t).apg = s.apg := by unfold State.reach; split <;> rfl
@[simp] theorem State.reach_smu (s : State) (t : Nat) : (s.reach t).smu = s.smu := by unfold State.reach; split <;> rfl
@[simp] theorem State.reach_wav (s : State) (t : Nat) : (s.reach t).wav = s.wav := by unfold State.reach; split <;> rfl
@[simp] theorem State.reach_acq (s : State) (t : Nat) : (s.reach t).acq = s.acq := by unfold State.reach; split <;> rfl
@[simp] theorem State.reach_fln (s : State) (t : Nat) : (s.reach t).fln = s.fln := by unfold State.reach; split <;> rfl
@[simp] theorem State.reach_ser (s : State) (t : Nat) : (s.reach t).ser = s.ser := by unfold State.reach; split <;> rfl
@[simp] theorem State.reach_pending (s : State) (t : Nat) : (s.reach t).pending = s.pending := by unfold State.reach; split <;> rfl

/-! ### setBytes -/
@[simp] theorem State.setBytes_regs (s : State) (a : Nat) (l : List Byte) : (s.setBytes a l).regs = s.regs := by
  induction l generalizing s a with
  | nil => rfl
  | cons b t ih => exact ih (s.setByte a b) (a + 1)
@[simp] theorem State.setBytes_hw (s : State) (a : Nat) (l : List Byte) : (s.setBytes a l).hw = s.hw := by
  induction l generalizing s a with
  | nil => rfl
  | cons b t ih => exact ih (s.setByte a b) (a + 1)
@[simp] theorem State.setBytes_act (s : State) (a : Nat) (l : List Byte) : (s.setBytes a l).act = s.act := by
  induction l generalizing s a with
  | nil => rfl
  | cons b t ih => exact ih (s.setByte a b) (a + 1)
@[simp] theorem State.setBytes_dict (s : State) (a : Nat) (l : List Byte) : (s.setBytes a l).dict = s.dict := by
  induction l generalizing s a with
  | nil => rfl
  | cons b t ih => exact ih (s.setByte a b) (a + 1)
@[simp] theorem State.setBytes_stored (s : State) (a : Nat) (l : List Byte) : (s.setBytes a l).stored = s.stored := by
  induction l generalizing s a with
  | nil => rfl
  | cons b t ih => exact ih (s.setByte a b) (a + 1)
@[simp] theorem State.setBytes_freeCtr (s : State) (a : Nat) (l : List Byte) : (s.setBytes a l).freeCtr = s.freeCtr := by
  induction l generalizing s a with
  | nil => rfl
  | cons b t ih => exact ih (s.setByte a b) (a + 1)
@[simp] theorem State.setBytes_out (s : State) (a : Nat) (l : List Byte) : (s.setBytes a l).out = s.out := by
  induction l generalizing s a with
  | nil => rfl
  | cons b t ih => exact ih (s.setByte a b) (a + 1)
@[simp] theorem State.setBytes_tb (s : State) (a : Nat) (l : List Byte) : (s.setBytes a l).tb = s.tb := by
  induction l generalizing s a with
  | nil => rfl
  | cons b t ih => exact ih (s.setByte a b) (a + 1)
@[simp] theorem State.setBytes_bonds (s : State) (a : Nat) (l : List Byte) : (s.setBytes a l).bonds = s.bonds := by
  induction l generalizing s a with
  | nil => rfl
  | cons b t ih => exact ih (s.setByte a b) (a + 1)
@[simp] theorem State.setBytes_net (s : State) (a : Nat) (l : List Byte) : (s.setBytes a l).net = s.net := by
  induction l generalizing s a with
  | nil => rfl
  | cons b t ih => exact ih (s.setByte a b) (a + 1)
@[simp] theorem State.setBytes_lq (s : State) (a : Nat) (l : List Byte) : (s.setBytes a l).lq = s.lq := by
  induction l generalizing s a with
  | nil => rfl
  | cons b t ih => exact ih (s.setByte a b) (a + 1)
@[simp] theorem State.setBytes_lqLast (s : State) (a : Nat) (l : List Byte) : (s.setBytes a l).lqLast = s.lqLast := by
  induction l generalizing s a with
  | nil => rfl
  | cons b t ih => exact ih (s.setByte a b) (a + 1)
@[simp] theorem State.setBytes_tally (s : State) (a : Nat) (l : List Byte) : (s.setBytes a l).tally = s.tally := by
  induction l generalizing s a with
  | nil => rfl
  | cons b t ih => exact ih (s.setByte a b) (a + 1)
@[simp] theorem State.setBytes_thm (s : State) (a : Nat) (l : List Byte) : (s.setBytes a l).thm = s.thm := by
  induction l generalizing s a with
  | nil => rfl
  | cons b t ih => exact ih (s.setByte a b) (a + 1)
@[simp] theorem State.setBytes_md (s : State) (a : Nat) (l : List Byte) : (s.setBytes a l).md = s.md := by
  induction l generalizing s a with
  | nil => rfl
  | cons b t ih => exact ih (s.setByte a b) (a + 1)
@[simp] theorem State.setBytes_seq (s : State) (a : Nat) (l : List Byte) : (s.setBytes a l).seq = s.seq := by
  induction l generalizing s a with
  | nil => rfl
  | cons b t ih => exact ih (s.setByte a b) (a + 1)
@[simp] theorem State.setBytes_fc (s : State) (a : Nat) (l : List Byte) : (s.setBytes a l).fc = s.fc := by
  induction l generalizing s a with
  | nil => rfl
  | cons b t ih => exact ih (s.setByte a b) (a + 1)
@[simp] theorem State.setBytes_bist (s : State) (a : Nat) (l : List Byte) : (s.setBytes a l).bist = s.bist := by
  induction l generalizing s a with
  | nil => rfl
  | cons b t ih => exact ih (s.setByte a b) (a + 1)
@[simp] theorem State.setBytes_rk (s : State) (a : Nat) (l : List Byte) : (s.setBytes a l).rk = s.rk := by
  induction l generalizing s a with
  | nil => rfl
  | cons b t ih => exact ih (s.setByte a b) (a + 1)
@[simp] theorem State.setBytes_ks (s : State) (a : Nat) (l : List Byte) : (s.setBytes a l).ks = s.ks := by
  induction l generalizing s a with
  | nil => rfl
  | cons b t ih => exact ih (s.setByte a b) (a + 1)
@[simp] theorem State.setBytes_cal (s : State) (a : Nat) (l : List Byte) : (s.setBytes a l).cal = s.cal := by
  induction l generalizing s a with
  | nil => rfl
  | cons b t ih => exact ih (s.setByte a b) (a + 1)
@[simp] theorem State.setBytes_tr (s : State) (a : Nat) (l : List Byte) : (s.setBytes a l).tr = s.tr := by
  induction l generalizing s a with
  | nil => rfl
  | cons b t ih => exact ih (s.setByte a b) (a + 1)
@[simp] theorem State.setBytes_nvm (s : State) (a : Nat) (l : List Byte) : (s.setBytes a l).nvm = s.nvm := by
  induction l generalizing s a with
  | nil => rfl
  | cons b t ih => exact ih (s.setByte a b) (a + 1)
@[simp] theorem State.setBytes_pw (s : State) (a : Nat) (l : List Byte) : (s.setBytes a l).pw = s.pw := by
  induction l generalizing s a with
  | nil => rfl
  | cons b t ih => exact ih (s.setByte a b) (a + 1)
@[simp] theorem State.setBytes_tap (s : State) (a : Nat) (l : List Byte) : (s.setBytes a l).tap = s.tap := by
  induction l generalizing s a with
  | nil => rfl
  | cons b t ih => exact ih (s.setByte a b) (a + 1)
@[simp] theorem State.setBytes_pin (s : State) (a : Nat) (l : List Byte) : (s.setBytes a l).pin = s.pin := by
  induction l generalizing s a with
  | nil => rfl
  | cons b t ih => exact ih (s.setByte a b) (a + 1)
@[simp] theorem State.setBytes_adp (s : State) (a : Nat) (l : List Byte) : (s.setBytes a l).adp = s.adp := by
  induction l generalizing s a with
  | nil => rfl
  | cons b t ih => exact ih (s.setByte a b) (a + 1)
@[simp] theorem State.setBytes_eth (s : State) (a : Nat) (l : List Byte) : (s.setBytes a l).eth = s.eth := by
  induction l generalizing s a with
  | nil => rfl
  | cons b t ih => exact ih (s.setByte a b) (a + 1)
@[simp] theorem State.setBytes_tmg (s : State) (a : Nat) (l : List Byte) : (s.setBytes a l).tmg = s.tmg := by
  induction l generalizing s a with
  | nil => rfl
  | cons b t ih => exact ih (s.setByte a b) (a + 1)
@[simp] theorem State.setBytes_pat (s : State) (a : Nat) (l : List Byte) : (s.setBytes a l).pat = s.pat := by
  induction l generalizing s a with
  | nil => rfl
  | cons b t ih => exact ih (s.setByte a b) (a + 1)
@[simp] theorem State.setBytes_apg (s : State) (a : Nat) (l : List Byte) : (s.setBytes a l).apg = s.apg := by
  induction l generalizing s a with
  | nil => rfl
  | cons b t ih => exact ih (s.setByte a b) (a + 1)
@[simp] theorem State.setBytes_smu (s : State) (a : Nat) (l : List Byte) : (s.setBytes a l).smu = s.smu := by
  induction l generalizing s a with
  | nil => rfl
  | cons b t ih => exact ih (s.setByte a b) (a + 1)
@[simp] theorem State.setBytes_wav (s : State) (a : Nat) (l : List Byte) : (s.setBytes a l).wav = s.wav := by
  induction l generalizing s a with
  | nil => rfl
  | cons b t ih => exact ih (s.setByte a b) (a + 1)
@[simp] theorem State.setBytes_acq (s : State) (a : Nat) (l : List Byte) : (s.setBytes a l).acq = s.acq := by
  induction l generalizing s a with
  | nil => rfl
  | cons b t ih => exact ih (s.setByte a b) (a + 1)
@[simp] theorem State.setBytes_fln (s : State) (a : Nat) (l : List Byte) : (s.setBytes a l).fln = s.fln := by
  induction l generalizing s a with
  | nil => rfl
  | cons b t ih => exact ih (s.setByte a b) (a + 1)
@[simp] theorem State.setBytes_ser (s : State) (a : Nat) (l : List Byte) : (s.setBytes a l).ser = s.ser := by
  induction l generalizing s a with
  | nil => rfl
  | cons b t ih => exact ih (s.setByte a b) (a + 1)
@[simp] theorem State.setBytes_pending (s : State) (a : Nat) (l : List Byte) : (s.setBytes a l).pending = s.pending := by
  induction l generalizing s a with
  | nil => rfl
  | cons b t ih => exact ih (s.setByte a b) (a + 1)

end Sys2Proof.Machine
end

