-- ==== Sys2Proof/Laws/Table.lean ====
section
/-! SUPPORT. Sparse tables: what is read after a write, and that the canonical form is kept. -/

namespace Sys2Proof.Machine

variable {α : Type}

/-! ### Reads after writes, in any table -/

/-- What is put is found. -/
@[simp] theorem Tbl.find_put_same (t : Tbl α) (k : Nat) (v : α) : Tbl.find (Tbl.put t k v) k = some v := by
  induction t with
  | nil => simp [Tbl.put, Tbl.find]
  | cons x t ih =>
    obtain ⟨k', v'⟩ := x
    simp only [Tbl.put]
    split
    · simp [Tbl.find]
    · split
      · simp [Tbl.find]
      · next h1 h2 => simp [Tbl.find, h1, ih]

/-- Other keys are found as before. -/
theorem Tbl.find_put_other (t : Tbl α) {k j : Nat} (v : α) (h : j ≠ k) : Tbl.find (Tbl.put t k v) j = Tbl.find t j := by
  induction t with
  | nil => simp [Tbl.put, Tbl.find, h]
  | cons x t ih =>
    obtain ⟨k', v'⟩ := x
    simp only [Tbl.put]
    split
    · next e => subst e; simp [Tbl.find, h]
    · split
      · simp [Tbl.find, h]
      · simp only [Tbl.find, ih]

/-- A dropped key is not found. -/
@[simp] theorem Tbl.find_drop_same (t : Tbl α) (k : Nat) : Tbl.find (Tbl.drop t k) k = none := by
  induction t with
  | nil => rfl
  | cons x t ih =>
    obtain ⟨k', v'⟩ := x
    simp only [Tbl.drop]
    split
    · exact ih
    · next h => simp [Tbl.find, h, ih]

/-- Other keys are found as before. -/
theorem Tbl.find_drop_other (t : Tbl α) {k j : Nat} (h : j ≠ k) : Tbl.find (Tbl.drop t k) j = Tbl.find t j := by
  induction t with
  | nil => rfl
  | cons x t ih =>
    obtain ⟨k', v'⟩ := x
    simp only [Tbl.drop]
    split
    · next e => subst e; simp [Tbl.find, h, ih]
    · simp only [Tbl.find, ih]

/-- What is put is read. -/
@[simp] theorem Tbl.get_put_same (t : Tbl α) (d : α) (k : Nat) (v : α) : Tbl.get (Tbl.put t k v) d k = v := by simp [Tbl.get]

/-- Other keys read as before. -/
theorem Tbl.get_put_other (t : Tbl α) (d : α) {k j : Nat} (v : α) (h : j ≠ k) : Tbl.get (Tbl.put t k v) d j = Tbl.get t d j := by
  simp [Tbl.get, Tbl.find_put_other t v h]

/-- A value set is read back. -/
@[simp] theorem Tbl.get_set_same [DecidableEq α] (t : Tbl α) (d : α) (k : Nat) (v : α) : Tbl.get (Tbl.set t d k v) d k = v := by
  unfold Tbl.get Tbl.set
  split
  · next e => simp [e]
  · simp

/-- Other keys read as before. -/
theorem Tbl.get_set_other [DecidableEq α] (t : Tbl α) (d : α) {k j : Nat} (v : α) (hj : j ≠ k) (d' : α) :
    Tbl.get (Tbl.set t d k v) d' j = Tbl.get t d' j := by
  unfold Tbl.get Tbl.set
  split
  · rw [Tbl.find_drop_other t hj]
  · rw [Tbl.find_put_other t v hj]

/-! ### The canonical form -/

/-- Every key of a table lies above a bound. -/
def Tbl.above (lo : Nat) (t : Tbl α) : Prop := ∀ e ∈ t, lo < e.1

/-- A rising table's tail rises, from above its head. -/
theorem Tbl.rising_cons {k : Nat} {v : α} {t : Tbl α} : Tbl.rising ((k, v) :: t) = true ↔ Tbl.rising t = true ∧ Tbl.above k t := by
  induction t generalizing k v with
  | nil => simp [Tbl.rising, Tbl.above]
  | cons e t ih =>
    obtain ⟨k', v'⟩ := e
    simp only [Tbl.rising, Bool.and_eq_true, decide_eq_true_eq]
    constructor
    · rintro ⟨h, hr⟩
      refine ⟨hr, fun e he => ?_⟩
      have := (ih.1 hr).2
      rcases List.mem_cons.1 he with rfl | he
      · exact h
      · exact Nat.lt_trans h (this e he)
    · rintro ⟨hr, ha⟩
      exact ⟨ha (k', v') (by simp), hr⟩

/-- Keys of a table with an entry put into it. -/
theorem Tbl.mem_put {t : Tbl α} {k : Nat} {v : α} {e : Nat × α} (h : e ∈ Tbl.put t k v) : e = (k, v) ∨ e ∈ t := by
  induction t with
  | nil => simpa [Tbl.put] using h
  | cons x t ih =>
    obtain ⟨k', v'⟩ := x
    simp only [Tbl.put] at h
    split at h
    · rcases List.mem_cons.1 h with h | h
      · exact .inl h
      · exact .inr (by simp [h])
    · split at h
      · rcases List.mem_cons.1 h with h | h
        · exact .inl h
        · exact .inr h
      · rcases List.mem_cons.1 h with h | h
        · exact .inr (by simp [h])
        · rcases ih h with h | h
          · exact .inl h
          · exact .inr (by simp [h])

/-- Entries left after one is dropped were there before. -/
theorem Tbl.mem_drop {t : Tbl α} {k : Nat} {e : Nat × α} (h : e ∈ Tbl.drop t k) : e ∈ t := by
  induction t with
  | nil => simp [Tbl.drop] at h
  | cons x t ih =>
    obtain ⟨k', v'⟩ := x
    simp only [Tbl.drop] at h
    split at h
    · simp [ih h]
    · rcases List.mem_cons.1 h with h | h
      · simp [h]
      · simp [ih h]

/-- Putting an entry keeps keys rising. -/
theorem Tbl.rising_put {t : Tbl α} (h : Tbl.rising t = true) (k : Nat) (v : α) : Tbl.rising (Tbl.put t k v) = true := by
  induction t with
  | nil => simp [Tbl.put, Tbl.rising]
  | cons x t ih =>
    obtain ⟨k', v'⟩ := x
    obtain ⟨hr, ha⟩ := Tbl.rising_cons.1 h
    simp only [Tbl.put]
    split
    · next e => subst e; exact Tbl.rising_cons.2 ⟨hr, ha⟩
    · split
      · next hl =>
        refine Tbl.rising_cons.2 ⟨h, fun e he => ?_⟩
        rcases List.mem_cons.1 he with rfl | he
        · exact hl
        · exact Nat.lt_trans hl (ha e he)
      · next hn hl =>
        refine Tbl.rising_cons.2 ⟨ih hr, fun e he => ?_⟩
        rcases Tbl.mem_put he with rfl | he
        · simp only; omega
        · exact ha e he

/-- Dropping an entry keeps keys rising. -/
theorem Tbl.rising_drop {t : Tbl α} (h : Tbl.rising t = true) (k : Nat) : Tbl.rising (Tbl.drop t k) = true := by
  induction t with
  | nil => simp [Tbl.drop, Tbl.rising]
  | cons x t ih =>
    obtain ⟨k', v'⟩ := x
    obtain ⟨hr, ha⟩ := Tbl.rising_cons.1 h
    simp only [Tbl.drop]
    split
    · exact ih hr
    · exact Tbl.rising_cons.2 ⟨ih hr, fun e he => ha e (Tbl.mem_drop he)⟩

/-- Setting a value keeps keys rising. -/
theorem Tbl.rising_set [DecidableEq α] {t : Tbl α} (h : Tbl.rising t = true) (d : α) (k : Nat) (v : α) :
    Tbl.rising (Tbl.set t d k v) = true := by
  unfold Tbl.set
  split
  · exact Tbl.rising_drop h k
  · exact Tbl.rising_put h k v

/-- Setting a value keeps the canonical form. -/
theorem Tbl.wf_set [DecidableEq α] {t : Tbl α} {d : α} (h : Tbl.wf t d = true) (k : Nat) (v : α) : Tbl.wf (Tbl.set t d k v) d = true := by
  simp only [Tbl.wf, Bool.and_eq_true, List.all_eq_true, decide_eq_true_eq] at h ⊢
  refine ⟨Tbl.rising_set h.1 d k v, fun e he => ?_⟩
  unfold Tbl.set at he
  split at he
  · exact h.2 e (Tbl.mem_drop he)
  · next hv =>
    rcases Tbl.mem_put he with rfl | he
    · exact hv
    · exact h.2 e he

end Sys2Proof.Machine
end

