-- ==== Sys2Proof/Laws/Ops.lean ====
section
/-! SUPPORT. What the shared operations do to registers and DRAM. -/

namespace Sys2Proof.Machine

/-! ### DRAM -/

/-- A byte written is read back. -/
@[simp] theorem State.byte_setByte_same (s : State) (a : Nat) (b : Byte) : (s.setByte a b).byte a = b := Tbl.get_set_same _ _ _ _

/-- Other bytes read as before. -/
theorem State.byte_setByte_other (s : State) {a c : Nat} (b : Byte) (hc : c ≠ a) : (s.setByte a b).byte c = s.byte c :=
  Tbl.get_set_other _ _ b hc _

/-- Writing a byte keeps the canonical form. -/
theorem State.wf_setByte {s : State} (h : Memory.wf s.mem = true) (a : Nat) (b : Byte) : Memory.wf (s.setByte a b).mem = true :=
  Tbl.wf_set h a b

/-- Writing bytes keeps the canonical form. -/
theorem State.wf_setBytes {s : State} (h : Memory.wf s.mem = true) (a : Nat) (l : List Byte) : Memory.wf (s.setBytes a l).mem = true := by
  induction l generalizing s a with
  | nil => exact h
  | cons b t ih => exact ih (s.wf_setByte h a b) (a + 1)

/-- Bytes below or past those written read as before. -/
theorem State.byte_setBytes_other (s : State) (a : Nat) (l : List Byte) (c : Nat)
    (hc : c < a ∨ a + l.length ≤ c) : (s.setBytes a l).byte c = s.byte c := by
  induction l generalizing s a with
  | nil => rfl
  | cons b t ih =>
    simp only [List.length_cons] at hc
    rw [State.setBytes, ih (s.setByte a b) (a + 1) (by omega), State.byte_setByte_other s b (by omega)]

/-- Writing lines keeps the canonical form. -/
theorem State.wf_writeLines {s : State} (h : Memory.wf s.mem = true) (line : Nat) (b : List Byte) :
    Memory.wf (s.writeLines line b).mem = true := by
  unfold State.writeLines
  apply State.wf_setBytes
  exact h

/-! ### Registers -/

/-- A field written reads as the value, cut to its width. -/
@[simp] theorem State.fld_setFld_same (s : State) (f : Fld) (i n v : Nat) : (s.setFld f i n v).fld f i n = v % 2 ^ f.wid := by
  simp [State.fld, State.setFld]

/-- Fields under other keys read as before. -/
theorem State.fld_setFld_other (s : State) (f : Fld) (i n v : Nat) (g : Fld) (j m : Nat) (hk : fkey g j m ≠ fkey f i n) :
    (s.setFld f i n v).fld g j m = s.fld g j m := by
  simp only [State.fld, State.setFld]
  rw [Tbl.get_set_other _ _ _ hk]

/-- Setting a one-bit field reads as writing it. -/
@[simp] theorem State.fld_setBit (s : State) (f : Fld) (i n : Nat) (b : Bool) (g : Fld) (j m : Nat) :
    (s.setBit f i n b).fld g j m = (s.setFld f i n b.toNat).fld g j m := rfl

/-- Setting one bit of a field reads as writing the field with it. -/
@[simp] theorem State.fld_setBitIn (s : State) (f : Fld) (i n k : Nat) (g : Fld) (j m : Nat) :
    (s.setBitIn f i n k).fld g j m = (s.setFld f i n (setBitAt (s.fld f i n) k)).fld g j m := rfl

/-- A field is below the bound of its width. -/
theorem State.fld_lt (s : State) (f : Fld) (i n : Nat) : s.fld f i n < 2 ^ f.wid := Nat.mod_lt _ (Nat.two_pow_pos _)

/-- An active field written reads as the value, cut to its width. -/
@[simp] theorem State.actFld_setAct_same (s : State) (f : Fld) (i n v : Nat) : (s.setAct f i n v).actFld f i n = v % 2 ^ f.wid := by
  simp [State.actFld, State.setAct]

/-- Active fields under other keys read as before. -/
theorem State.actFld_setAct_other (s : State) (f : Fld) (i n v : Nat) (g : Fld) (j m : Nat) (hk : fkey g j m ≠ fkey f i n) :
    (s.setAct f i n v).actFld g j m = s.actFld g j m := by
  simp only [State.actFld, State.setAct]
  rw [Tbl.get_set_other _ _ _ hk]

/-- Writing a field keeps the registers' keys rising. -/
theorem State.rising_setFld {s : State} (h : Tbl.rising s.regs = true) (f : Fld) (i n v : Nat) :
    Tbl.rising (s.setFld f i n v).regs = true := Tbl.rising_set h _ _ _

/-- Keys of fields differ where block, offset, lowest bit, instance or element do. -/
theorem fkey_inj {f g : Fld} {i j n m : Nat} (hf : f.off < 65536 ∧ f.lo < 32) (hg : g.off < 65536 ∧ g.lo < 32)
    (hi : i < 64) (hj : j < 64) (hn : n < 1048576) (hm : m < 1048576) (h : fkey f i n = fkey g j m) :
    f.blk = g.blk ∧ f.off = g.off ∧ f.lo = g.lo ∧ i = j ∧ n = m := by
  unfold fkey at h
  omega

/-! ### The journal -/

/-- Taking a page changes the NVM alone. -/
theorem State.takePage_frame (s : State) : ∃ n, s.takePage.2 = { s with nvm := n } := by
  unfold State.takePage
  dsimp only
  split
  · exact ⟨s.nvm, rfl⟩
  · exact ⟨_, rfl⟩

/-- Programming pages changes the NVM alone. -/
theorem State.putPages_frame (l : List (List Byte)) (s : State) (acc : List JPage) (n : Nat) :
    ∃ v, (s.putPages acc n l).2 = { s with nvm := v } := by
  induction l generalizing s acc n with
  | nil => exact ⟨s.nvm, rfl⟩
  | cons d t ih =>
    obtain ⟨v, hv⟩ := s.takePage_frame
    unfold State.putPages
    split <;> rename_i h <;> rw [h] at hv <;> dsimp only at hv <;> subst hv
    · obtain ⟨w, hw⟩ := ih { s with nvm := v } _ _
      exact ⟨w, hw⟩
    · exact ⟨v, rfl⟩

/-- Programming a record changes the NVM alone. -/
theorem State.program_frame (s : State) (key : Nat) (d : List Byte) : ∃ v, s.program key d = { s with nvm := v } := by
  obtain ⟨v, hv⟩ := State.putPages_frame (partsOf d) s [] 0
  unfold State.program
  dsimp only
  rw [hv]
  split
  · exact ⟨v, rfl⟩
  · exact ⟨_, rfl⟩

/-! ### Time -/

/-- Local time after a wait. -/
@[simp] theorem State.pass_loc (s : State) (d : Nat) : (s.pass d).tb.loc = s.tb.loc + d := rfl

/-- Local time after a wait for an instant. -/
theorem State.reachLoc_loc (s : State) (t : Nat) : (s.reachLoc t).tb.loc = max s.tb.loc t := by
  simp [State.reachLoc]; omega

end Sys2Proof.Machine
end

