-- ==== Sys2Proof/Laws/Faults.lean ====
section
/-! SUPPORT. What a fault report does: the one way a fault is raised (R515 to R519). -/

namespace Sys2Proof.Machine

/-- Only the fault collector's registers and state, the journal that holds its log, and the count of free draws differ. -/
def onlyFaults (s t : State) : Prop :=
  t = { s with regs := t.regs, hw := t.hw, fc := t.fc, freeCtr := t.freeCtr, nvm := t.nvm } ∧ sameBut [0x15] s t

theorem onlyFaults.refl (s : State) : onlyFaults s s := ⟨rfl, fun _ _ _ _ _ _ _ _ => rfl⟩

theorem onlyFaults.trans {s t u : State} (h : onlyFaults s t) (g : onlyFaults t u) : onlyFaults s u := by
  refine ⟨?_, fun f i n a b c d e => (g.2 f i n a b c d e).trans (h.2 f i n a b c d e)⟩
  rw [g.1, h.1]

/-- Of the collector, FC_STATUS keeps its bits too. -/
def quiet (s t : State) : Prop := onlyFaults s t ∧ t.faultMask = s.faultMask

theorem quiet.refl (s : State) : quiet s s := ⟨onlyFaults.refl s, rfl⟩

theorem quiet.trans {s t u : State} (h : quiet s t) (g : quiet t u) : quiet s u := ⟨h.1.trans g.1, g.2.trans h.2⟩

/-- A field of the collector's block. -/
theorem onlyFaults_setFld (s : State) (f : Fld) (i n v : Nat) (hb : f.blk = 0x15) (hf : f.off < 65536 ∧ f.lo < 32) (hi : i < 64)
    (hn : n < 1048576) : onlyFaults s (s.setFld f i n v) := by
  refine ⟨rfl, fun g j m ho hl hj hm hg => State.fld_setFld_other _ _ _ _ _ _ _ _ (fun h => hg ?_)⟩
  have := (fkey_inj ⟨ho, hl⟩ hf hj hi hm hn h).1
  simp [this, hb]

/-- A field of the collector's block past FC_STATUS. -/
theorem quiet_setFld (s : State) (f : Fld) (i n v : Nat) (hb : f.blk = 0x15) (h8 : 8 ≤ f.off) (hf : f.off < 65536 ∧ f.lo < 32) (hi : i < 64)
    (hn : n < 1048576) : quiet s (s.setFld f i n v) := by
  refine ⟨onlyFaults_setFld s f i n v hb hf hi hn, ?_⟩
  unfold State.faultMask State.pair
  rw [State.fld_setFld_other, State.fld_setFld_other]
  · intro h
    have := (fkey_inj (by decide) hf (by decide) hi (by decide) hn h).2.1
    simp [F.FC_STATUS_HI_status] at this
    omega
  · intro h
    have := (fkey_inj (by decide) hf (by decide) hi (by decide) hn h).2.1
    simp [F.FC_STATUS_LO_status] at this
    omega

/-- A one-bit field of the collector's block past FC_STATUS. -/
theorem quiet_setBit (s : State) (f : Fld) (i n : Nat) (b : Bool) (hb : f.blk = 0x15) (h8 : 8 ≤ f.off) (hf : f.off < 65536 ∧ f.lo < 32) (hi : i < 64)
    (hn : n < 1048576) : quiet s (s.setBit f i n b) :=
  (quiet_setFld s f i n b.toNat hb h8 hf hi hn).trans ⟨⟨rfl, fun _ _ _ _ _ _ _ _ => rfl⟩, rfl⟩

/-- What changes no register but what a report may change is quiet. -/
theorem quiet_of {s t : State} (h : t = { s with hw := t.hw, fc := t.fc, freeCtr := t.freeCtr, nvm := t.nvm }) : quiet s t := by
  have hr : t.regs = s.regs := by rw [h]
  have hf : ∀ f i n, t.fld f i n = s.fld f i n := fun _ _ _ => by simp [State.fld, hr]
  refine ⟨⟨?_, fun f i n _ _ _ _ _ => hf f i n⟩, by simp [State.faultMask, State.pair, hf]⟩
  rw [hr]
  exact h

theorem quiet_fc (s : State) (c : Collector) : quiet s { s with fc := c } := quiet_of rfl

theorem quiet_draw (s : State) (m : Nat) : quiet s (s.draw m).2 := quiet_of rfl

theorem quiet_overflow (s : State) (n : Nat) : quiet s (s.overflow n) := by
  unfold State.overflow
  split
  · exact quiet.refl s
  · exact (quiet_setBit s F.FC_OVF_ovf 0 0 true rfl (by decide) (by decide) (by decide) (by decide)).trans
      (quiet_setFld _ F.FC_OVF_count 0 0 _ rfl (by decide) (by decide) (by decide) (by decide))

theorem quiet_writeLog (s : State) (r : LogRec) : quiet s (s.writeLog r) := by
  obtain ⟨v, hv⟩ := s.program_frame (jKey 4 (s.fc.written % 4096)) r.bytes
  unfold State.writeLog
  dsimp only
  rw [hv]
  exact quiet_of rfl

theorem quiet_logAt (s : State) (o : Bool) (t k src sev det fl : Nat) (a : List Byte) : quiet s (s.logAt o t k src sev det fl a) := by
  unfold State.logAt
  simp only
  split
  · exact (quiet_fc s _).trans (quiet_writeLog _ _)
  · split <;> exact quiet_fc s _

theorem quiet_closeWindow (s : State) : quiet s s.closeWindow := by
  unfold State.closeWindow
  split
  · refine quiet.trans ?_ (quiet_logAt _ _ _ _ _ _ _ _ _)
    refine quiet.trans ?_ (quiet_fc _ _)
    refine quiet.trans ?_ (quiet_overflow _ _)
    iterate 3 (refine quiet.trans ?_ (quiet_setFld _ _ 0 0 _ rfl (by decide) (by decide) (by decide) (by decide)))
    iterate 3 (refine quiet.trans ?_ (quiet_setBit _ _ 0 0 _ rfl (by decide) (by decide) (by decide) (by decide)))
    exact quiet_draw s 16385
  · exact quiet_fc s _

theorem quiet_addCand (s : State) (c : Cand) (hc : c.src < 1048576) : quiet s (s.addCand c) := by
  unfold State.addCand
  split
  · exact ((quiet_setBit s F.FC_SRC_inj_masked 0 c.src true rfl (by decide) (by decide) (by decide) hc).trans
      (quiet_setFld _ F.FC_SRC_detail 0 c.src _ rfl (by decide) (by decide) (by decide) hc)).trans (quiet_fc _ _)
  · exact quiet_fc s _

theorem quiet_firstFault (s : State) (c : Cand) (dt : Nat) (hc : c.src < 1048576) : quiet s (s.firstFault c dt) := by
  unfold State.firstFault
  simp only
  have h1 : quiet s (if (s.fc.winAt.isSome && s.tb.loc + dt - s.fc.winLoc > 10649) = true then s.closeWindow else s) := by
    split
    · exact quiet_closeWindow s
    · exact quiet.refl s
  refine h1.trans ?_
  generalize (if (s.fc.winAt.isSome && s.tb.loc + dt - s.fc.winLoc > 10649) = true then s.closeWindow else s) = t
  split
  · exact quiet_overflow t 1
  split
  · exact quiet_overflow t 1
  split
  · exact quiet_fc t _
  · split
    · exact quiet_addCand t c hc
    · split
      · exact (quiet_draw t 2).trans (quiet_addCand _ c hc)
      · exact (quiet_draw t 2).trans ((quiet_closeWindow _).trans (quiet_overflow _ 1))

theorem quiet_openEsc (s : State) (src sev det : Nat) (inj : Bool) (dt row : Nat) (hs : src < 1048576) :
    quiet s (s.openEsc src sev det inj dt row) := by
  unfold State.openEsc
  split
  · exact quiet.refl s
  split
  · exact quiet.refl s
  split
  · exact quiet_setBit s F.FC_SRC_esc_lost 0 src true rfl (by decide) (by decide) (by decide) hs
  · exact quiet_fc s _

/-- A report that the collector hears sets its source's bit, and beside that changes nothing but the collector. -/
theorem State.reportAt_heard {s : State} {src : Nat} (sev det : Nat) (inj esc : Bool) (dt row : Nat) (hs : src < 63)
    (hh : s.hearsAt src (s.tb.loc + dt)) :
    quiet (if src < 32 then s.setBitIn F.FC_STATUS_LO_status 0 0 src else s.setBitIn F.FC_STATUS_HI_status 0 0 (src - 32))
      (s.reportAt src sev det inj esc dt row) := by
  have hb : src < 1048576 := by omega
  unfold State.reportAt
  rw [if_neg (show ¬ src ≥ 63 by omega), if_neg hh]
  simp only
  generalize (if src < 32 then s.setBitIn F.FC_STATUS_LO_status 0 0 src else s.setBitIn F.FC_STATUS_HI_status 0 0 (src - 32)) = s
  have fin : ∀ t : State, quiet s t → quiet s (if esc = true then t.openEsc src sev det inj dt row else t) := by
    intro t ht
    split
    · exact ht.trans (quiet_openEsc t src sev det inj dt row hb)
    · exact ht
  apply fin
  refine quiet.trans ?_ (quiet_firstFault _ _ _ hb)
  have inj' : ∀ t : State, quiet s t → quiet s (if inj = true then t.setBit F.FC_SRC_inj 0 src true else t) := by
    intro t ht
    split
    · exact ht.trans (quiet_setBit t F.FC_SRC_inj 0 src true rfl (by decide) (by decide) (by decide) hb)
    · exact ht
  apply inj'
  iterate 2 (refine quiet.trans ?_ (quiet_setFld _ _ 0 src _ rfl (by decide) (by decide) (by decide) hb))
  exact quiet_setFld s _ 0 src _ rfl (by decide) (by decide) (by decide) hb

/-- A bit of the collector's block. -/
theorem onlyFaults_setBitIn (s : State) (f : Fld) (i n k : Nat) (hb : f.blk = 0x15) (hf : f.off < 65536 ∧ f.lo < 32) (hi : i < 64)
    (hn : n < 1048576) : onlyFaults s (s.setBitIn f i n k) :=
  (onlyFaults_setFld s f i n _ hb hf hi hn).trans ⟨rfl, fun _ _ _ _ _ _ _ _ => rfl⟩

/-- A report changes nothing but the fault collector. -/
theorem State.reportAt_frame (s : State) (src sev det : Nat) (inj esc : Bool) (dt row : Nat) :
    onlyFaults s (s.reportAt src sev det inj esc dt row) := by
  by_cases hs : src < 63
  · by_cases hh : s.hearsAt src (s.tb.loc + dt)
    · refine onlyFaults.trans ?_ (State.reportAt_heard sev det inj esc dt row hs hh).1
      split
      · exact onlyFaults_setBitIn s F.FC_STATUS_LO_status 0 0 _ rfl (by decide) (by decide) (by decide)
      · exact onlyFaults_setBitIn s F.FC_STATUS_HI_status 0 0 _ rfl (by decide) (by decide) (by decide)
    · unfold State.reportAt
      rw [if_neg (show ¬ src ≥ 63 by omega), if_pos (by simpa [State.hearsAt] using hh)]
      exact onlyFaults.refl s
  · unfold State.reportAt
    rw [if_pos (show src ≥ 63 by omega)]
    exact onlyFaults.refl s

/-- A report changes nothing but the fault collector. -/
theorem State.report_frame (s : State) (src sev det : Nat) : onlyFaults s (s.report src sev det) := State.reportAt_frame s src sev det _ _ _ _

/-- A report that the collector hears sets its source's bit. -/
theorem State.report_srcSet {s : State} {src : Nat} (sev det : Nat) (hs : src < 63) (hh : s.hears src) :
    (s.report src sev det).srcSet src = true := by
  have q := (State.reportAt_heard (s := s) sev det false true 0 0 hs hh).2
  unfold State.srcSet State.report
  rw [q]
  unfold State.faultMask State.pair
  have kl : fkey F.FC_STATUS_LO_status 0 0 ≠ fkey F.FC_STATUS_HI_status 0 0 := by decide
  have hlo : s.fld F.FC_STATUS_LO_status < 2 ^ 32 := State.fld_lt s _ _ _
  have cat : ∀ x y : Nat, x + 4294967296 * y = 2 ^ 32 * y + x := by intro x y; omega
  split
  · rename_i h
    rw [State.fld_setBitIn, State.fld_setBitIn, State.fld_setFld_same, State.fld_setFld_other _ _ _ _ _ _ _ _ kl.symm, cat, show F.FC_STATUS_LO_status.wid = 32 from rfl,
      Nat.testBit_two_pow_mul_add _ (Nat.mod_lt _ (by decide)), if_pos h, Nat.testBit_mod_two_pow]
    simp [h, setBitAt, Nat.testBit_or, Nat.testBit_two_pow_self]
  · rename_i h
    rw [State.fld_setBitIn, State.fld_setBitIn, State.fld_setFld_same, State.fld_setFld_other _ _ _ _ _ _ _ _ kl, cat, show F.FC_STATUS_HI_status.wid = 32 from rfl,
      Nat.testBit_two_pow_mul_add _ hlo, if_neg h, Nat.testBit_mod_two_pow]
    simp [show src - 32 < 32 by omega, setBitAt, Nat.testBit_or, Nat.testBit_two_pow_self]

end Sys2Proof.Machine
end

