-- ==== Sys2Proof/Laws/Server.lean ====
section
/-! SUPPORT. What the shared path of a dictionary request does: a served request, a written item, its answer. -/

namespace Sys2Proof.Machine

/-- A request's session renewed: only the sessions change, and none changes its ID or role. -/
def renewedFor (s t : State) : Prop :=
  t = { s with adp := { s.adp with sessions := t.adp.sessions } } ∧ ∀ id, t.isOwner id = s.isOwner id

/-- While firmware serves, a request passes the gate. -/
theorem State.gate_serving {s : State} (h : Serving s) (i : Instr) (port bytes : Nat) (k : State → State) :
    s.gate i port bytes k = (k (s.asking (reqKind i))).asking s.ks.reqKind := by
  simp [State.gate, h.runs, h.up, h.open_]

/-- The message type does not bear on whether firmware serves. -/
theorem Serving.asking {s : State} (h : Serving s) (n : Nat) : Serving (s.asking n) := ⟨h.runs, h.up, h.open_, h.direct, h.leases⟩

/-- While firmware serves and no deadline has passed, no session ends. -/
theorem State.expire_serving {s : State} (h : Serving s) : s.expireSessions s.ingress = s := by
  have hi : s.ingress = s.tb.loc := by simp [State.ingress, h.direct]
  have hf : s.adp.sessions.filter (fun x => decide (x.renewed + leaseTicks < s.tb.loc)) = [] := by
    rw [List.filter_eq_nil_iff]
    intro x hx
    have := h.leases x hx
    simp; omega
  rw [hi]
  simp only [State.expireSessions, hf, List.foldl_nil]

/-- Changing what a session holds beside its ID and role leaves the Owner as it is. -/
theorem State.isOwner_modSession (s : State) (id : Nat) (f : Session → Session) (hi : ∀ x, (f x).id = x.id) (ho : ∀ x, (f x).owner = x.owner)
    (j : Nat) : (s.modSession id f).isOwner j = s.isOwner j := by
  unfold State.isOwner State.session State.modSession
  simp only [List.find?_map]
  have hc : ((fun x : Session => x.id == j) ∘ fun x => if x.id = id then f x else x) = fun x => x.id == j := by
    funext x
    by_cases h : x.id = id <;> simp [h, hi]
  rw [hc]
  cases s.adp.sessions.find? (fun x => x.id == j) with
  | none => rfl
  | some x => by_cases h : x.id = id <;> simp [h, ho]

/-- A served request is carried out on the state in which its session is renewed. -/
theorem State.request_served {s : State} {h : Hdr} (hs : Served s h) (i : Instr) (k : State → State) :
    ∃ t, s.request i h k = (k t).asking s.ks.reqKind ∧ renewedFor (s.asking (reqKind i)) t := by
  obtain ⟨x, hx, hf⟩ := hs.live
  have hx' : (s.asking (reqKind i)).session h.session = some x := hx
  unfold State.request
  rw [State.gate_serving hs.toServing]
  simp only [State.expire_serving (hs.toServing.asking _), hx', hf.1]
  rw [if_neg]
  · refine ⟨_, rfl, rfl, fun j => ?_⟩
    apply State.isOwner_modSession <;> intro _ <;> rfl
  · rintro ⟨h1, h2, h3⟩
    cases hh : x.high with
    | none => simp [hh] at h1
    | some hi =>
      simp only [hh] at h2 h3
      have := hf.2 hi hh
      omega

/-- A written item that passes the checks of type, length and right has its own effect. -/
theorem State.item490_ok {s : State} {h : Hdr} {d : Sys2Proof.Data} {ty : Nat} {len : Nat → Bool} {enabled : Bool}
    (own : State → State × Nat) (hty : d.ty = ty) (hl : (if ty = tBlob then len d.bytes.length else d.bytes.length == tySize ty) = true)
    (ho : s.isOwner h.session = true) (he : enabled = false) : s.item490 h d ty len enabled own = own s := by
  simp [State.item490, hty, hl, ho, he]

/-- A value of a fixed-size type passes its checks. -/
theorem State.item490_fits {s : State} {h : Hdr} {d : Sys2Proof.Data} {ty : Nat} {len : Nat → Bool} (own : State → State × Nat)
    (hd : dataFits d ty) (hb : ty ≠ tBlob) (ho : s.isOwner h.session = true) : s.item490 h d ty len false own = own s :=
  State.item490_ok own hd.1 (by simp [hb, hd.2]) ho rfl

/-- A BLOB of any length passes its checks. -/
theorem State.item490_blob {s : State} {h : Hdr} {d : Sys2Proof.Data} (own : State → State × Nat) (hd : d.ty = tBlob)
    (ho : s.isOwner h.session = true) : s.item490 h d tBlob anyLen false own = own s :=
  State.item490_ok own hd (by simp [anyLen]) ho rfl

/-- While no self-test runs none holds an entry's block, and a request abandons no slice. -/
theorem State.bistGuard_idle {s : State} (h : s.bist.run = none) (e : Option (Nat × Nat)) (w : State → State × Nat) :
    s.bistGuard e w = w s := by
  have hb : s.entryBusy e = false := by
    unfold State.entryBusy
    split
    · split <;> simp [State.bistExcl, h]
    · rfl
  have hr : ∀ o, s.bistRequest o = s := by
    intro o
    cases o <;> simp [State.bistRequest, State.abandonSlice, h]
  simp [State.bistGuard, hb, hr]

/-- An answer changes the sessions' caches and goes out on its port. -/
theorem State.answer_eq (s : State) (h : Hdr) (status items : Nat) (body : List (List Byte)) :
    ∃ a, s.answer h status items body = { s with adp := a, out := s.out ++ [.response (s.response h status items body)] } := ⟨_, rfl⟩

/-- A write that started no journal record is answered at once. -/
theorem State.answerWrite_done {s : State} {n : Nat} (hn : s.eth.jrn.length ≤ n) (h : Hdr) (status items : Nat) :
    s.answerWrite n h status items = s.answer h status items [] := by simp [State.answerWrite, hn]

/-- A write that started one journal record is answered by it. -/
theorem State.answerWrite_journal {s : State} {l : List JournalRec} {j : JournalRec} (hj : s.eth.jrn = l ++ [j]) (h : Hdr) (status items : Nat) :
    s.answerWrite l.length h status items =
      { s with eth := { s.eth with jrn := l ++ [{ j with resp := some (s.response h status items []) }] } } := by
  have hn : ¬ s.eth.jrn.length ≤ l.length := by rw [hj]; simp
  unfold State.answerWrite
  rw [if_neg hn, hj]
  simp

/-- A ready request that writes an item: the item's effect on the renewed state, then the answer. -/
theorem State.hostItem_ready {s : State} {h : Hdr} (hr : Ready s h) (i : Instr) (w : State → State × Nat) :
    ∃ t, renewedFor (s.asking (reqKind i)) t ∧ t.isOwner h.session = true ∧
      s.hostItem i h w = ((w t).1.answerWrite t.eth.jrn.length h (w t).2 (if (w t).2 = 0 then 1 else 0)).asking s.ks.reqKind := by
  obtain ⟨t, ht, hn⟩ := State.request_served hr.served i
    (fun s => let (s', c) := if s.tr.recovery then (s, eNoObject) else s.bistGuard (instrEntry i) w
              s'.answerWrite s.eth.jrn.length h c (if c = 0 then 1 else 0))
  refine ⟨t, hn, by rw [hn.2]; exact hr.owner, ?_⟩
  have hrec : t.tr.recovery = false := by rw [hn.1]; exact hr.served.full
  have hrun : t.bist.run = none := by rw [hn.1]; exact hr.idle
  unfold State.hostItem
  rw [ht]
  simp only [hrec, State.bistGuard_idle hrun, Bool.false_eq_true, if_false]

end Sys2Proof.Machine
end

