-- ==== Sys2Proof/WellFormed.lean ====
section
/-! DEFINITION. Well-formed commands: operands that name a thing the block has. A meaning is total on every operand; what an operand that names
nothing does is part of that meaning. -/

namespace Sys2Proof.WellFormed

/-- One of the two Ethernet ports E0 and E1. -/
def portOk (x : Nat) : Bool := decide (x < 2)
/-- A control message: one of the two ports, 32-bit session and sequence number, 16 to 1,232 bytes (R470, Table 16.2). -/
def hdrOk (h : Hdr) : Bool := portOk h.port && decide (h.session < 2 ^ 32) && decide (h.seq < 2 ^ 32) && decide (16 ≤ h.bytes) && decide (h.bytes ≤ 1232)
/-- A data item: an 8-bit type code and a 16-bit length (Table 16.4). -/
def dataOk (d : Data) : Bool := decide (d.ty < 256) && decide (d.bytes.length < 65536)
/-- A command with a dictionary entry and a register bit. -/
def pathOk (p : Path) : Bool :=
  match p with
  | .od h d => hdrOk h && dataOk d
  | .reg => true
/-- A Course, C00 to C31. -/
def courseOk (x : Nat) : Bool := decide (x < 32)
/-- A thread, 8 × Course + its place. -/
def threadOk (x : Nat) : Bool := decide (x < 256)
/-- A site. -/
def siteOk (x : Nat) : Bool := decide (x < 256)
/-- A pin channel of a Course, with its spare electronics at 32. -/
def channelOk (x : Nat) : Bool := decide (x < 33)
/-- An SMU, with the four spares at 128 to 131. -/
def smuOk (x : Nat) : Bool := decide (x < 132)
/-- An SMU quadrant. -/
def quadOk (x : Nat) : Bool := decide (x < 4)
/-- A waveform channel. -/
def waveOk (x : Nat) : Bool := decide (x < 64)
/-- A waveform half. -/
def halfOk (x : Nat) : Bool := decide (x < 2)
/-- An acquisition unit (Table 13.1). -/
def unitOk (x : Nat) : Bool := decide (x < 264)
/-- A bond slot. -/
def slotOk (x : Nat) : Bool := decide (x < 64)
/-- A DRAM stack. -/
def stackOk (x : Nat) : Bool := decide (x < 4)
/-- A fast lane. -/
def laneOk (x : Nat) : Bool := decide (x < 8)
/-- A trigger unit. -/
def triggerOk (x : Nat) : Bool := decide (x < 16)
/-- A launch queue (Table 2.5). -/
def queueOk (x : Nat) : Bool := decide (x < 40)
/-- A fault source (R513). -/
def sourceOk (x : Nat) : Bool := decide (x < 64)

/-- A command whose operands each name a thing the block has. -/
def wellFormed (i : Instr) : Bool :=
  match i with
  | .calRestart path => pathOk path
  | .timekeeperSelectionWrite h d => hdrOk h && dataOk d
  | .chipNumberWrite h d => hdrOk h && dataOk d
  | .bondSlotWrite h d n _ => hdrOk h && dataOk d && slotOk n
  | .bondForm h d n => hdrOk h && dataOk d && slotOk n
  | .bondDissolve h d n => hdrOk h && dataOk d && slotOk n
  | .bondResume h d n => hdrOk h && dataOk d && slotOk n
  | .kReset path => pathOk path
  | .budgetWrite path _ => pathOk path
  | .analogReserveWrite path _ => pathOk path
  | .modeChangeCommand h d => hdrOk h && dataOk d
  | .strobeNow h d c => hdrOk h && dataOk d && courseOk c
  | .tripLatchClear path c p _ => pathOk path && courseOk c && channelOk p
  | .pinRepair h d c => hdrOk h && dataOk d && courseOk c
  | .spareRelease h c => hdrOk h && courseOk c
  | .deratedRestore h d c p => hdrOk h && dataOk d && courseOk c && channelOk p
  | .envelopeWrite h d c n _ => hdrOk h && dataOk d && courseOk c && channelOk n
  | .applyNow path c => pathOk path && courseOk c
  | .timingSetWrite h d c _ _ => hdrOk h && dataOk d && courseOk c
  | .fixtureDeskewWrite h d c pp => hdrOk h && dataOk d && courseOk c && channelOk pp
  | .descriptorWrite h d c => hdrOk h && dataOk d && courseOk c
  | .jumpRequest path c => pathOk path && courseOk c
  | .apgEnableWrite path c _ => pathOk path && courseOk c
  | .failBufferReadIndex h d c => hdrOk h && dataOk d && courseOk c
  | .tallyClear path c _ => pathOk path && courseOk c
  | .threadStart path k => pathOk path && threadOk k
  | .threadStop path k => pathOk path && threadOk k
  | .ownerHold path k => pathOk path && threadOk k
  | .ownerResume path k => pathOk path && threadOk k
  | .setEventFlags path k _ => pathOk path && threadOk k
  | .stepMemoryWrite h d c => hdrOk h && dataOk d && courseOk c
  | .threadConfigWrite h d k => hdrOk h && dataOk d && threadOk k
  | .slotGridWrite h d k => hdrOk h && dataOk d && threadOk k
  | .waitLimitWrite h d c => hdrOk h && dataOk d && courseOk c
  | .courseRestart path c => pathOk path && courseOk c
  | .customerImageLoad h d => hdrOk h && dataOk d
  | .contextWrite h d => hdrOk h && dataOk d
  | .ringAcknowledge h d => hdrOk h && dataOk d
  | .statClear path site => pathOk path && siteOk site
  | .smuTripLatchClear path m _ => pathOk path && smuOk m
  | .smuRepair h d q => hdrOk h && dataOk d && quadOk q
  | .smuRestore h d m => hdrOk h && dataOk d && smuOk m
  | .smuForceNow h d q => hdrOk h && dataOk d && quadOk q
  | .smuEnvelopeWrite h d m _ => hdrOk h && dataOk d && smuOk m
  | .wavFlagClear path w => pathOk path && waveOk w
  | .wavReservationWrite h d => hdrOk h && dataOk d
  | .wavRestore h d w => hdrOk h && dataOk d && waveOk w
  | .wavEnvelopeWrite h d w => hdrOk h && dataOk d && waveOk w
  | .softwareEvent h d n => hdrOk h && dataOk d && triggerOk n
  | .armNow h d => hdrOk h && dataOk d
  | .disarmAll path => pathOk path
  | .acqUnitEnable path u _ => pathOk path && unitOk u
  | .acqUnitConfigWrite h d u _ => hdrOk h && dataOk d && unitOk u
  | .acqReadIndexWrite path u _ => pathOk path && unitOk u
  | .captureLogAcknowledge h d => hdrOk h && dataOk d
  | .flnCounterClear h d n => hdrOk h && dataOk d && laneOk n
  | .eyeScanStart path n => pathOk path && laneOk n
  | .flnRestore h d n => hdrOk h && dataOk d && laneOk n
  | .serAppend h d c => hdrOk h && dataOk d && courseOk c
  | .serRxRemove h d c => hdrOk h && dataOk d && courseOk c
  | .serStartNow h d c => hdrOk h && dataOk d && courseOk c
  | .serAbort h d c => hdrOk h && dataOk d && courseOk c
  | .adpOpen port _ _ _ _ _ => portOk port
  | .adpClose h => hdrOk h
  | .adpRenew h => hdrOk h
  | .adpRead h _ => hdrOk h
  | .adpWrite h _ => hdrOk h
  | .adpTunnel h _ => hdrOk h
  | .bulkOpen h _ _ _ _ _ => hdrOk h
  | .bulkCancel h _ => hdrOk h
  | .leaseResume h d => hdrOk h && dataOk d
  | .autonomousRunWrite h d => hdrOk h && dataOk d
  | .allowlistWrite h d => hdrOk h && dataOk d
  | .networkConfigWrite h d _ _ => hdrOk h && dataOk d
  | .macsecKeyWrite h d p => hdrOk h && dataOk d && portOk p
  | .restoreDefaults h d => hdrOk h && dataOk d
  | .faultClear path _ => pathOk path
  | .firstFaultRearm path => pathOk path
  | .faultInject path => pathOk path
  | .escalationTimeWrite h d => hdrOk h && dataOk d
  | .restoreSite h d site => hdrOk h && dataOk d && siteOk site
  | .restoreCourse h d c => hdrOk h && dataOk d && courseOk c
  | .bistStart path => pathOk path
  | .bistAbort path => pathOk path
  | .fuseSoftRepairMap h d _ => hdrOk h && dataOk d
  | .hardPpr h d n => hdrOk h && dataOk d && stackOk n
  | .calLoadDraft h d => hdrOk h && dataOk d
  | .calDraftWrite h d => hdrOk h && dataOk d
  | .calCommit h d => hdrOk h && dataOk d
  | .calRefModeWrite h d => hdrOk h && dataOk d
  | .standardValueWrite h d => hdrOk h && dataOk d
  | .calRun h d => hdrOk h && dataOk d
  | .rollbackAdvance h d => hdrOk h && dataOk d
  | .keyEnrol h d => hdrOk h && dataOk d
  | .idleBankLoad h d => hdrOk h && dataOk d
  | .firmwareSwitch h d => hdrOk h && dataOk d
  | .quoteNonceWrite h d => hdrOk h && dataOk d
  | .attestationQuote h => hdrOk h
  | .keystoneLockstepDisagree => true
  | .keystoneChangeoverComplete _ => true
  | .keystoneServiceResume _ => true
  | .plumbCheckStart c p => courseOk c && channelOk p
  | .plumbCheckComplete c p _ _ _ => courseOk c && channelOk p
  | .plumbCandidateCheck c p => courseOk c && channelOk p
  | .comparatorSelfCheck c p _ => courseOk c && channelOk p
  | .plumbGapTimeout c p => courseOk c && channelOk p
  | .patrolScrub n _ => stackOk n
  | .nvmWearLevelling _ _ => true
  | .syncEdge _ => true
  | .refclkLoss => true
  | .refclkStable => true
  | .syncAbsent => true
  | .timekeeperAbsent => true
  | .ptpSyncReceive port _ _ _ _ _ => portOk port
  | .ptpDelayReq port => portOk port
  | .ptpSyncTimeout => true
  | .domainHoldoverLimit => true
  | .presenceSend => true
  | .leaderFramesSend _ => true
  | .presence _ _ _ _ _ _ _ => true
  | .posConflict => true
  | .timeFrame _ _ _ _ => true
  | .alignFrame _ _ _ => true
  | .trimFrame _ _ => true
  | .calFrame _ _ _ _ => true
  | .initialCalibrationComplete _ => true
  | .linesEnWrite _ => true
  | .join _ _ _ _ _ _ => true
  | .ready _ _ _ _ => true
  | .bondReadyDeadline n => slotOk n
  | .bondActivation n => slotOk n
  | .beatSend n => slotOk n
  | .beat _ _ _ _ => true
  | .memberBeatSend n => slotOk n
  | .memberBeat _ _ _ _ => true
  | .memberAbsent n _ => slotOk n
  | .defer _ _ _ _ => true
  | .splitSend n _ => slotOk n
  | .split _ _ _ _ => true
  | .bondLatencyCheck => true
  | .bondDissolveComplete n => slotOk n
  | .launchRecordEntry queue _ _ _ _ _ _ _ => queueOk queue
  | .loadStrobe c => courseOk c
  | .segmentStart c => courseOk c
  | .modeChange => true
  | .smuForce q => quadOk q
  | .smuRangeStep m => smuOk m
  | .smuAperture q => quadOk q
  | .wavStart hf => halfOk hf
  | .wavStop hf => halfOk hf
  | .flnStart => true
  | .serStart c => courseOk c
  | .trigOut => true
  | .markerOut => true
  | .acqArm => true
  | .admissionDecision => true
  | .bondedCommit => true
  | .stepEnd k => threadOk k
  | .powerSample _ _ => true
  | .ledgerBinRetire => true
  | .thermalSample _ => true
  | .levelDwellEnd _ => true
  | .thermalHaltEnd => true
  | .throttleUpdate => true
  | .temperatureCorrectionRecompute => true
  | .trip c p => courseOk c && channelOk p
  | .pmuMeasurementComplete c n _ _ => courseOk c && channelOk n
  | .repairSwapComplete c => courseOk c
  | .vectorStart c _ => courseOk c
  | .jumpDecisionPoint c => courseOk c
  | .runEnd c => courseOk c
  | .headFetchComplete c _ => courseOk c
  | .refillStarve c => courseOk c
  | .refillResume c => courseOk c
  | .dramLineRetry n _ _ _ _ _ _ => stackOk n
  | .apgInstructionEnd c => courseOk c
  | .fcRestart c => courseOk c
  | .stepBoundary k => threadOk k
  | .stepNop k _ => threadOk k
  | .progEnd k _ => threadOk k
  | .stepHold k _ => threadOk k
  | .stepSlot k _ => threadOk k
  | .stepRun k _ => threadOk k
  | .stepLevel k _ => threadOk k
  | .stepMeas k _ => threadOk k
  | .stepBr k _ => threadOk k
  | .stepLoop k _ => threadOk k
  | .stepCall k _ => threadOk k
  | .stepRet k _ => threadOk k
  | .stepJump k _ => threadOk k
  | .talclr k _ => threadOk k
  | .stepBin k _ => threadOk k
  | .stepPost k _ => threadOk k
  | .waitev k _ => threadOk k
  | .stepDelay k _ => threadOk k
  | .customerOpcode k _ => threadOk k
  | .mov k => threadOk k
  | .add k => threadOk k
  | .sub k => threadOk k
  | .aluAnd k => threadOk k
  | .aluOr k => threadOk k
  | .aluXor k => threadOk k
  | .shl k => threadOk k
  | .shr k => threadOk k
  | .asr k => threadOk k
  | .cmp k => threadOk k
  | .tst k => threadOk k
  | .mul k => threadOk k
  | .mulh k => threadOk k
  | .aluMin k => threadOk k
  | .aluMax k => threadOk k
  | .aluExt k => threadOk k
  | .sext k => threadOk k
  | .bset k => threadOk k
  | .bclr k => threadOk k
  | .cont k _ => threadOk k
  | .branch k _ => threadOk k
  | .microCall k _ => threadOk k
  | .microRet k _ => threadOk k
  | .commit k _ => threadOk k
  | .microEnd k _ => threadOk k
  | .abort k _ => threadOk k
  | .rdreg k => threadOk k
  | .wrreg k => threadOk k
  | .ctxf k => threadOk k
  | .ctxs k => threadOk k
  | .ctxa k => threadOk k
  | .cost k => threadOk k
  | .unitSlot k => threadOk k
  | .unitAdmit k => threadOk k
  | .launch k => threadOk k
  | .rkrd k => threadOk k
  | .rkwr k => threadOk k
  | .unitPost k => threadOk k
  | .jreq k => threadOk k
  | .tclr k => threadOk k
  | .spush k => threadOk k
  | .spop k => threadOk k
  | .evset k => threadOk k
  | .evclr k => threadOk k
  | .spc k => threadOk k
  | .movs k => threadOk k
  | .movt k => threadOk k
  | .timer k => threadOk k
  | .vcall k _ => threadOk k
  | .issue k => threadOk k
  | .finish k => threadOk k
  | .segstart k => threadOk k
  | .waitRelease k => threadOk k
  | .waitLimitTimeout k => threadOk k
  | .threadTimerExpiry k => threadOk k
  | .parityReloadComplete k _ => threadOk k
  | .shadowUncorrectable _ => true
  | .customerImageCourseCopy c => courseOk c
  | .ctxfProceed c => courseOk c
  | .contextFetchComplete c => courseOk c
  | .contextPrefetch k => threadOk k
  | .cacheFlush c => courseOk c
  | .resultArrival site => siteOk site
  | .resultRecordWrite k => threadOk k
  | .smuMonitorTrip m => smuOk m
  | .smuMeasurementDelivery m _ => smuOk m
  | .smuPulseEnd m => smuOk m
  | .kelvinOpen m => smuOk m
  | .smuDissipationSample m _ _ => smuOk m
  | .smuAutozeroStart m => smuOk m
  | .smuAutozeroComplete m _ _ _ _ => smuOk m
  | .smuRepairComplete q => quadOk q
  | .wavUnderrun w => waveOk w
  | .wavOneShotDone w => waveOk w
  | .wavCaptureEnd w _ => waveOk w
  | .wavReductionDelivery w => waveOk w
  | .wavCurrentLimit w _ => waveOk w
  | .wavPlumbCheck w _ => waveOk w
  | .triggerEvent n _ => triggerOk n
  | .acqSegmentComplete u _ => unitOk u
  | .deadTimeEnd u => unitOk u
  | .smuIntervalSample n _ => smuOk n
  | .flnGateOpen n => laneOk n
  | .flnGateClose n => laneOk n
  | .flnAdaptationComplete n => laneOk n
  | .flnAdaptationTimeout n => laneOk n
  | .flnCheckerLock n => laneOk n
  | .flnLockLoss n => laneOk n
  | .flnBitError n _ => laneOk n
  | .eyeScanComplete n _ => laneOk n
  | .serEntryStart c => courseOk c
  | .serEntryEnd c _ => courseOk c
  | .serTargetSelectAssert c => courseOk c
  | .serTargetSelectRelease c _ => courseOk c
  | .bulkData port _ _ _ _ _ _ => portOk port
  | .bulkAck port _ _ _ _ => portOk port
  | .bulkAckTimer _ => true
  | .bulkResendTimer _ => true
  | .bulkEnd _ => true
  | .bulkStallTimeout _ => true
  | .leaseLapse => true
  | .observerTimeout _ => true
  | .macsecIntegrityFail p => portOk p
  | .linkDown p => portOk p
  | .linkUp p => portOk p
  | .lldpTransmit => true
  | .lldpReceive p _ _ _ => portOk p
  | .telemetrySample => true
  | .storedValueJournaled _ => true
  | .registerWrite _ _ => true
  | .faultReport src _ _ _ => sourceOk src
  | .firstFaultWindowClose => true
  | .escalationExpiry => true
  | .fcOvfClear => true
  | .collectorSelfCheck _ => true
  | .faultLogWrite => true
  | .bistSliceStart => true
  | .bistComplete _ _ _ _ _ => true
  | .bistTimeLimit => true
  | .calRunComplete _ => true
  | .switchLoaded _ => true
  | .switchQuietPoint => true
  | .probationEnd => true
  | .switchRevert => true
  | .powerOnResetAssert _ _ => true
  | .resetNAssert => true
  | .resetRelease _ _ _ => true
  | .startupStepComplete _ _ _ => true
  | .railOutOfRange _ => true
  | .aliveToggle => true
  | .tapReset => true
  | .tapIdcode => true
  | .samplePreload _ => true
  | .tapExtest => true
  | .tapClamp => true
  | .tapHighz => true
  | .tapBypass => true
  | .calCommitComplete _ => true
  | .holdOffEnd u => unitOk u
  | .smuClamp m _ => smuOk m
  | .wavInternalSample w => waveOk w
  | .ptpDelayRespReceive port _ => portOk port
  | .bistSliceComplete => true

end Sys2Proof.WellFormed
end

