-- ==== Sys2Proof/Tests/Slice0.lean ====
section
/-! SUPPORT. Tests: ill-formed commands, the spec's worked examples, and for each statement with hypotheses a state and operands that meet all of
them, clause by clause. -/

set_option linter.unusedVariables false
set_option maxRecDepth 8000

namespace Sys2Proof.Tests

open Sys2Proof Sys2Proof.Machine

/-! ### States the tests stand on -/

/-- The Owner's request and an Observer's. -/
def h0 : Hdr := ⟨0, 7, 100, 32⟩
/-- An Observer's request. -/
def h1 : Hdr := ⟨0, 8, 100, 32⟩
/-- The Owner's session. -/
def own : Session := { id := 7, owner := true, addr := [], telPort := 0, renewed := 0, port := 0 }
/-- An Observer's session. -/
def obs : Session := { own with id := 8, owner := false }
/-- Firmware runs, with an Owner and an Observer session. -/
def s0 : State := { State.reset with ks := { running := true }, adp := { sessions := [own, obs] } }
/-- Register fields given values. -/
def on (s : State) (l : List (Fld × Nat × Nat × Nat)) : State := l.foldl (fun s e => s.setFld e.1 e.2.1 e.2.2.1 e.2.2.2) s
/-- Active values given. -/
def act (s : State) (l : List (Fld × Nat × Nat × Nat)) : State := l.foldl (fun s e => s.setAct e.1 e.2.1 e.2.2.1 e.2.2.2) s
/-- A launch record. -/
def lrec (action payload : Nat) : LaunchRec := { inst := 0, target := 0, action, chipWide := false, site := 0, payload, entered := 0, exec := 1000, late := false, lateness := 0 }
/-- Queue `q` holds one record. -/
def queued (s : State) (q action payload : Nat) : State := { s with lq := [(q, [lrec action payload])] }
/-- Thread 255 runs with a value. -/
def thr (x : Thread) : State := on (s0.setThr 255 x) [(F.SEQ_TCTRL_run, 31, 0, 128)]
/-- Thread 255 has decoded a vendor instruction. -/
def ven (op : Nat) (x : Thread) : State := on (thr { x with dec := true }) [(F.SEQ_TSTAT_opcode, 31, 7, op)]
/-- Thread 255 stands at a microword in a phase. -/
def mic (w : Nat) (x : Thread) : State :=
  let s := thr { x with dec := true }
  { s with seq := { s.seq with store := [(31, { words := [(x.upc, withParity w)] })] } }
/-- A step. -/
def stp (st : StepSt) : Step := { opcode := 0, spc := 0, kind := .routine, t0 := us 1000, c := 5, d := some 7, smu := 0, analogue := false, bslot := none, ctx := 0, count := 0, st }
theorem nd {s : State} (h : s.seq.th.all (fun e => e.2.nxt.isEmpty) = true) : s.noneDue := by
  intro e he b hb
  have := List.all_eq_true.1 h e he
  simp only [List.isEmpty_iff] at this
  rw [this] at hb
  cases hb
theorem no {s : State} {k : Nat} (h : (s.thr k).step = none) : s.noOpen k := by
  intro a ha
  rw [h] at ha
  cases ha
theorem fit {d : Sys2Proof.Data} {ty : Nat} (h1 : d.ty = ty) (h2 : d.bytes.length = tySize ty) : dataFits d ty := ⟨h1, h2⟩
theorem up {s : State} (hk : s.ks = s0.ks) (hb : s.tr.buffering = false) (ha : s.adp.sessions = s0.adp.sessions) (hl : s.tb.loc ≤ ms 1500) :
    Serving s := by
  refine ⟨by rw [hk]; rfl, by rw [hk]; rfl, hb, by rw [hk]; rfl, ?_⟩
  rw [ha]
  intro x hx
  rcases List.mem_cons.1 hx with rfl | hx
  · exact hl
  · rw [List.mem_singleton.1 hx]; exact hl
theorem srv {s : State} (hk : s.ks = s0.ks) (hb : s.tr.buffering = false) (hr : s.tr.recovery = false) (ha : s.adp.sessions = s0.adp.sessions)
    (hl : s.tb.loc ≤ ms 1500) : Served s h0 := ⟨up hk hb ha hl, hr, own, by unfold State.session; rw [ha]; rfl, rfl, by simp [own]⟩
theorem srv1 {s : State} (hk : s.ks = s0.ks) (hb : s.tr.buffering = false) (hr : s.tr.recovery = false) (ha : s.adp.sessions = s0.adp.sessions)
    (hl : s.tb.loc ≤ ms 1500) : Served s h1 := ⟨up hk hb ha hl, hr, obs, by unfold State.session; rw [ha]; rfl, rfl, by simp [obs, own]⟩
theorem rdy {s : State} (hk : s.ks = s0.ks) (hb : s.tr.buffering = false) (hr : s.tr.recovery = false) (ha : s.adp.sessions = s0.adp.sessions)
    (hi : s.bist.run = none) (hl : s.tb.loc ≤ ms 1500) : Ready s h0 :=
  ⟨srv hk hb hr ha hl, by unfold State.isOwner State.session; rw [ha]; rfl, hi⟩
theorem zadd (x : Int) {n : Nat} (h : n < 1000000000000000000) : n < (x + 1000000000000000000 - x).natAbs := by omega
theorem four {p : Nat → Prop} (h0 : p 0) (h1 : p 1) (h2 : p 2) (h3 : p 3) : ∀ k, k < 4 → p k
  | 0, _ => h0
  | 1, _ => h1
  | 2, _ => h2
  | 3, _ => h3
theorem zle (x : Int) (n : Nat) : (x - x).natAbs ≤ n := by simp
/-- The factory values of pin 31 of Course 31. -/
def fac : Corr :=
  ⟨(Config.factoryTiming [] 1023 0).toInt, (Config.factoryTiming [] 1023 1).toInt, (Config.factoryTiming [] 1023 2).toInt⟩
/-- The same in force, with a Plumb candidate. -/
def sCand (x : Corr) : State := { s0 with
  regs := [(985265530208287, (Config.factoryTiming [] 1023 0).toNat), (985266603950111, (Config.factoryTiming [] 1023 1).toNat),
    (985274120142879, (Config.factoryTiming [] 1023 2).toNat)]
  tmg := { ch := [(1023, { cand := some x })] } }
theorem near_self (x : Corr) (w : Int) : x.near x w = true := by simp [Corr.near]
theorem far_fac : ({ fac with rise := fac.rise + 205 } : Corr).near fac 204 = false := by
  have h : ¬ (fac.rise + 205 - fac.rise).natAbs ≤ Int.toNat 204 := by omega
  simp only [Corr.near, decide_eq_false h, Bool.false_and]
theorem toSigned_toNat (b : BitVec 16) : toSigned 16 b.toNat = b.toInt := by
  have := b.isLt
  simp only [toSigned, BitVec.toInt, Nat.mod_eq_of_lt this]
  split <;> split <;> omega
theorem fac_sCand (x : Corr) : (sCand x).factory 31 31 = fac := rfl
theorem cand_sCand (x : Corr) : ((sCand x).chTim (32 * 31 + 31)).cand = some x := rfl
theorem corr_sCand (x : Corr) : (sCand x).corrOf 31 31 = fac := by
  show (⟨toSigned 16 ((Config.factoryTiming [] 1023 0).toNat % 2 ^ 16), toSigned 16 ((Config.factoryTiming [] 1023 1).toNat % 2 ^ 16),
    toSigned 16 ((Config.factoryTiming [] 1023 2).toNat % 2 ^ 16)⟩ : Corr) = _
  simp only [toSigned_toNat, Nat.mod_eq_of_lt (BitVec.isLt _)]; rfl
/-- Thread 255 has decoded a customer opcode with dispatch entry `e`. -/
def dsp (op e : Nat) (x : Thread) : State := let s := ven op x
  { s with seq := { s.seq with store := [(31, { disp := [(op, dispParity e)] })] } }
theorem nun {s : State} {n : Nat} (h : s.nextUnready = none) : ∀ u : Nat × Nat × Nat, s.nextUnready = some u → n ≤ u.2.2 := by
  intro u hu
  rw [h] at hu
  cases hu
theorem nst {x : Thread} (h : x.step = none) : ¬ x.standing := by
  rintro ⟨_, a, ha, _⟩
  rw [h] at ha
  cases ha
theorem room0 {s : State} {k : Nat} (hh : s.isHome k = false) (ho : (s.thr k).opr = 0) (hr : s.roomFor [] = true) : ∀ a : Step, a.kind = .issue →
    a.ctx = oprCtx (s.thr k).opr → a.count = oprCount (s.thr k).opr → s.roomFor (s.stepRecs k a) = true := by
  intro a h1 h2 h3
  rw [ho] at h2 h3
  have e : s.stepRecs k a = [] := by
    have : a.count = 0 := h3
    simp [State.stepRecs, State.stepCtxs, State.courseRecs, hh, h1, h2, this, ctxRange]
  rw [e, hr]

/-! ### Ill-formed commands: one term for each check -/

theorem wf_good : WellFormed.wellFormed (.bondForm h0 ⟨tBool, [255]⟩ 63) = true := by decide
theorem wf_port : WellFormed.wellFormed (.ptpDelayReq 2) = false := by decide
theorem wf_header_short : WellFormed.wellFormed (.adpRenew ⟨0, 7, 0, 15⟩) = false := by decide
theorem wf_header_session : WellFormed.wellFormed (.adpRenew ⟨0, 4294967296, 0, 16⟩) = false := by decide
theorem wf_data_type : WellFormed.wellFormed (.leaseResume h0 ⟨256, []⟩) = false := by decide
theorem wf_path : WellFormed.wellFormed (.kReset (.od ⟨2, 7, 0, 16⟩ ⟨tBool, [255]⟩)) = false := by decide
theorem wf_course : WellFormed.wellFormed (.runEnd 32) = false := by decide
theorem wf_thread : WellFormed.wellFormed (.add 256) = false := by decide
theorem wf_site : WellFormed.wellFormed (.resultArrival 256) = false := by decide
theorem wf_channel : WellFormed.wellFormed (.trip 0 33) = false := by decide
theorem wf_smu : WellFormed.wellFormed (.smuMonitorTrip 132) = false := by decide
theorem wf_quad : WellFormed.wellFormed (.smuForce 4) = false := by decide
theorem wf_wave : WellFormed.wellFormed (.wavUnderrun 64) = false := by decide
theorem wf_half : WellFormed.wellFormed (.wavStart 2) = false := by decide
theorem wf_unit : WellFormed.wellFormed (.deadTimeEnd 264) = false := by decide
theorem wf_slot : WellFormed.wellFormed (.beatSend 64) = false := by decide
theorem wf_stack : WellFormed.wellFormed (.patrolScrub 4 []) = false := by decide
theorem wf_lane : WellFormed.wellFormed (.flnCheckerLock 8) = false := by decide
theorem wf_trigger : WellFormed.wellFormed (.triggerEvent 16 0) = false := by decide
theorem wf_queue : WellFormed.wellFormed (.launchRecordEntry 40 0 0 false 0 0 0 0) = false := by decide
theorem wf_source : WellFormed.wellFormed (.faultReport 64 0 0 0) = false := by decide

/-! ### The spec's worked examples and tables, one step or one operation each -/

/-- The table of the block spells no command in bits, so no word is one. -/
theorem test_no_word : decodeTableWord 32 0 = none := by decide
/-- Chapter 2, position 13: θ is 111 ticks. -/
theorem test_theta : halfOf (4612 - 4390) = 111 := by decide
/-- Chapter 2: the position's CAL frame leaves θ to be taken from TB_SYNC_OFFSET. -/
theorem test_cal_frame :
    (match exec (.calFrame 13 4390 4612 (Frame.calReport 13 4390).check) (on { s0 with tb := { posId := 13 }, pw := { startStep := 10 } }
        [(F.TB_CTRL_lines_en, 0, 0, 1), (F.TB_STATUS_cal_valid, 0, 0, 1), (F.TB_STATUS_is_tk, 0, 0, 0)]) with
      | .next t => decide (t.tb.skewPending = 111)
      | _ => false) = true := by decide
/-- Chapter 3, admission under throttle: E = 130,625 mW at m_q = 608. -/
theorem test_budget :
    (on s0 [(F.TLY_BUDGET_budget_mw, 0, 0, 220000), (F.TLY_MULT_m_q, 0, 0, 608)]).budgetFor false 0 = 130625 := by decide
/-- Chapter 3: c = 1,800 mW on L = 55,000 mW with k = 1,148 takes 125,079 mW. -/
theorem test_bin_takes : (on s0 [(F.TLY_CORR_k, 0, 0, 1148)]).binTakes 61400 55000 0 125079
    { stp .requested with c := 1800 } = true := by decide
/-- Chapter 3: one milliwatt less refuses it. -/
theorem test_bin_refuses : (on s0 [(F.TLY_CORR_k, 0, 0, 1148)]).binTakes 61400 55000 0 125078
    { stp .requested with c := 1800 } = false := by decide
/-- Chapter 3: at 103.250 °C the multiplier is 608. -/
theorem test_throttle :
    (match exec .throttleUpdate { s0 with thm := { s0.thm with tmax := 103250 } } with
      | .next t => decide (t.fld F.TLY_MULT_m_q = 608)
      | _ => false) = true := by decide
/-- Chapter 3: at 108.000 °C it is 0. -/
theorem test_throttle_full :
    (match exec .throttleUpdate { s0 with thm := { s0.thm with tmax := 108000 } } with
      | .next t => decide (t.fld F.TLY_MULT_m_q = 0)
      | _ => false) = true := by decide
/-- Chapter 7, a Line-Rate load: 720 slots of demand, 160 of raw capture at P = 1,024. -/
theorem test_demand : let s := on s0 [(F.TMG_PERIOD_period, 3, 0, 1024)]
    s.vecDemand 3 = 720 ∧ s.rawDemand 3 = 160 := by decide
/-- Chapter 7: a segment of 1,024 granules that loops for ever, with such a jump target, adds 12 slots; one of 128 granules 90. -/
theorem test_jump_overhead :
    let d := fun (n : Nat) => toLe 4 0 ++ toLe 4 n ++ toLe 4 0 ++ toLe 2 1 ++ toLe 2 2 ++ [1#8] ++ List.replicate 15 0#8
    let s := fun (n : Nat) => on { s0 with pat := { desc := [(12288, d n), (12289, d 1024), (12290, d 1024)] } } [(F.TMG_PERIOD_period, 3, 0, 1024)]
    (s 1024).jumpLines 3 = 12 ∧ (s 128).jumpLines 3 = 90 := by decide
/-- Chapter 9, TRIM8: the fields of 0xC401_012C_0014_F800. -/
theorem test_trim8_fields : let w := 0xC401012C0014F800
    opOf w = 0xC4 ∧ maskField w = 0x01 ∧ oprCtx (oprOf w) = 0x012C0 ∧ oprCount (oprOf w) = 1 ∧ oprBond (oprOf w) = none := by decide
/-- Chapter 9, TRIM8: EXT with 0x1C8 gives the target 120, with 0x14F the pin 9. -/
theorem test_trim8_ext : aluExtract 0x012C0014F800 0x1C8 = 120 ∧ aluExtract 0x012C0014F800 0x14F = 9 := by decide
/-- Table 9.5: NEXT, SEQ, COND, WAIT, ALU, dst, srcA, srcB, bimm, unit, ureg, uarg and the immediate of a word written out field by field. -/
theorem test_microword :
    let w := 0b1100000000001_011_001100_0_000010_0101_0101_0000_1_01001_0111_1111110111000_0000000000000000_000010011100010000000000000000000000000000000000
    wNext w = 0x1801 ∧ wSeq w = 3 ∧ wCond w = 12 ∧ wWait w = false ∧ wAlu w = 2 ∧ wDst w = 5 ∧ wSrcA w = 5 ∧ wSrcB w = 0 ∧ wBimm w = true ∧
      wUnit w = 9 ∧ wUreg w = 7 ∧ wUarg w = 0x1FB8 ∧ wImm w = 0x09C400000000 := by decide
/-- Table 9.7: ADD carries out of 64 bits and overflows where two negatives give a positive. -/
theorem test_add_flags : aluAdd (1#64 <<< 63) (1#64 <<< 63) = ⟨0, true, true, true⟩ := by decide
/-- Table 9.7: SUB borrows with C = 0. -/
theorem test_sub_flags : aluSub 0 1 = ⟨-1, false, false, true⟩ := by decide
/-- Table 9.7: MULH is the high half of the signed product; SEXT extends from bit B[5:0]. -/
theorem test_mulh_sext : aluMulh (-1) 1 = -1 ∧ aluSext 0x80 7 = -128 ∧ aluSext 0x17F 7 = 127 := by decide
/-- Table 9.7: ASR keeps the sign, SHR does not. -/
theorem test_shifts : (aluOp 0x09 (-8) 65).map (·.val) = some (-4) ∧ (aluOp 0x08 (-8) 1).map (·.val) = some 0x7FFFFFFFFFFFFFFC := by decide
/-- Chapter 10: context 0x012C0 lies in line 1,072,698,048. -/
theorem test_context_line : ctxAddr 0x012C0 = 64 * 1072698048 := by decide
/-- Site 37 after the four values of chapter 10, slot 5 configured 0x0007_200B. -/
def site37 : State := [1200040000, 1199980000, 1200010000, 1200090000].foldl (fun s x => s.accumulate 37 x 0x0007200B) s0
/-- Chapter 10: n, sum, the sum of squares, min and max of accumulator 2; the square is below 2⁶⁴, so its high item is 0 (log entry 37). -/
theorem test_accumulate : site37.itemRead 37 0x310 = 4 ∧ site37.itemRead 37 0x311 = 4800120000 ∧ site37.itemRead 37 0x313 = 0 ∧
    site37.itemRead 37 0x312 = 5760288010200000000 ∧ site37.itemRead 37 0x314 = 1199980000 ∧ site37.itemRead 37 0x315 = 1200090000 := by decide
/-- Chapter 10: the mean and the variance. -/
theorem test_mean_var : site37.itemRead 37 0x316 = 1200030000 ∧ site37.itemRead 37 0x317 = 1650000000 := by decide
/-- Chapter 10: step 4 fails its limits, so the site takes bin 7 and OUT_LIMIT, 0x0100. -/
theorem test_limit : let s := ((s0.setItem 37 0x40A 1199950000).setItem 37 0x40B 1200080000).limitTest 37 5 1200090000 0x0007200B none
    s.item 37 2 = 7 ∧ s.item 37 1 = 0x0100 := by decide
/-- Chapter 10: step 3 passes. -/
theorem test_limit_pass : let s := ((s0.setItem 37 0x40A 1199950000).setItem 37 0x40B 1200080000).limitTest 37 5 1200010000 0x0007200B none
    s.item 37 2 = 0 ∧ s.item 37 1 = 0 := by decide
/-- Table 10.7: a record takes 64 bytes, its number first. -/
theorem test_record : let b := ResRec.bytes ⟨81922, 0, 307237, 7, 0x0100, 0, 0, 0, 1, 0, 0, 1200090000, 0, 0⟩
    b.length = 64 ∧ b.take 8 = [0x02, 0x40, 0x01, 0, 0, 0, 0, 0] ∧ leNat ((b.drop 18).take 4) = 307237 := by decide
/-- Chapter 11: force code 0x23_3333 on the 6 V range is 3.2999997 V; 100 pA on the 10 nA range is 41,943 codes. -/
theorem test_smu_codes : smuValue (smuVolt 1) 0x233333 / 100 = 32999997 ∧ smuCode true (smuAmp 0) 100000 = 41943 := by decide
/-- Chapter 15, TRIM8: 16 bits on two lanes are eight groups; group 4 of 0x0080 is 10. -/
theorem test_serial_groups : let u : SerUnit := ⟨0, 0, 2, 16, 0x0080, true⟩
    u.groups = 8 ∧ (List.range 8).map (fun g => (u.laneBit false g 1, u.laneBit false g 0)) =
      [(false, false), (false, false), (false, false), (false, false), (true, false), (false, false), (false, false), (false, false)] := by decide
/-- Chapter 15, TRIM8: SER_TPL_A 0xC000_0001 holds phase 0, TX of one word, and phase 1, which ends the template. -/
theorem test_serial_phase : phLen 0x0001 = 1 ∧ phKind 0x0001 = 0 ∧ phKind 0xC000 = 3 := by decide
/-- Chapter 8, the twisted array: a Gray-ordered row decoder gives pin rows 0, 1, 3, 2. -/
theorem test_scrambler : (List.range 4).map (fun x =>
    (on { s0 with apg := [(6, { x := x })] } [(F.APG_SCR_xor_en, 6, 0, 1), (F.APG_SCR_xsrc, 6, 0, 1)]).pinRow 6) = [0, 1, 3, 2] := by decide
/-- Chapter 18: the three details. -/
theorem test_details : detail clsSmu 41 = 0x3029 ∧ detail clsSite 170 = 0x20AA ∧ detail clsSite 9 = 0x2009 := by decide
/-- Chapter 18: sources 45, 21 and 39 stand at FC_STATUS_HI 0x0000_2080 and FC_STATUS_LO 0x0020_0000, and FAULT_N is low. -/
theorem test_three_faults : let s := ((s0.report 45 sevDegraded 0x3029).report 21 sevSite 0x20AA).report 39 sevDegraded 0x2009
    s.fld F.FC_STATUS_HI_status = 0x2080 ∧ s.fld F.FC_STATUS_LO_status = 0x00200000 := by decide
/-- Chapter 18: the host's write of 0x0000_0080 clears bit 39 alone. -/
theorem test_fault_clear :
    let s := on s0 [(F.FC_STATUS_HI_status, 0, 0, 0x2080), (F.FC_STATUS_LO_status, 0, 0, 0x00200000)]
    let t := s.clearSources (0x80 * 4294967296)
    t.fld F.FC_STATUS_HI_status = 0x2000 ∧ t.fld F.FC_STATUS_LO_status = 0x00200000 := by decide
/-- R6: register and DRAM numbers are least significant byte first, ADP numbers most significant first. -/
theorem test_byte_orders : toLe 4 0x01020304 = [4, 3, 2, 1] ∧ toBe 4 0x01020304 = [1, 2, 3, 4] := by decide
/-- R98: the budget register keeps 40,000 to 240,000 mW. -/
theorem test_budget_clamp : (s0.setBudget 300000).fld F.TLY_BUDGET_budget_mw = 240000 ∧ (s0.setBudget 0).fld F.TLY_BUDGET_budget_mw = 40000 := by decide
/-- Table 2.5: 4,096 records in a Course's queue, 1,024 in another. -/
theorem test_queue_depths : lqDepth 31 = 4096 ∧ lqDepth 39 = 1024 := by decide
/-- The Owner's request is answered OK once, on its port. -/
theorem test_answer : (match exec (.adpRenew h0) s0 with
    | .next t => t.out.map (fun m => match m with | .response r => (r.port, r.seq, r.status) | _ => (9, 9, 9))
    | _ => []) = [(0, 100, 0)] := by decide
/-- A DRAM byte written back to what an unlisted byte reads as leaves no entry. -/
theorem test_memory_form : ((s0.setByte 5 7).setByte 5 0).mem = [] ∧ ((s0.setByte 9 1).setByte 5 7).mem = [(5, 7), (9, 1)] := by decide
/-- A queue with nothing in it has its full depth of credits (R59). -/
theorem test_credits : s0.credits 39 = 1024 ∧ (queued s0 39 0 0).credits 39 = 1023 := by decide
/-- R269: thread 255 stands at address 5 of a program NOP, NOP, HOLD, NOP. -/
def sProg : State :=
  let s := on (thr {}) [(F.SEQ_TREGION_base, 31, 7, 0), (F.SEQ_TREGION_len, 31, 7, 16), (F.SEQ_TSTAT_step_pc, 31, 7, 5)]
  { s with seq := { s.seq with stepMem := [(32768 * 31 + 5, 0x00FF000000000000), (32768 * 31 + 6, 0x00FF000000000000), (32768 * 31 + 7, 0x02FF000000000000)] } }
/-- R269: the word after the step PC may still be reached, one past the HOLD may not. -/
theorem test_reach : sProg.mayReach 255 6 = true ∧ sProg.mayReach 255 7 = true ∧ sProg.mayReach 255 8 = false := by decide
/-- R269: rewriting a word that may be reached leaves the thread's program open; writing past the HOLD and over it does not. -/
theorem test_rewrite : ((sProg.rewriteSteps 31 6 1).thr 255).wild.isSome = true ∧ ((sProg.rewriteSteps 31 7 2).thr 255).wild = none := by decide
/-- R14: another site's record for the same unit and instant clashes, one for another unit does not. -/
theorem test_clash : clashes 33 100 9 false 4 { inst := 100, target := 9, action := 0x10, chipWide := false, site := 5, payload := 0, entered := 0, exec := 100, late := false } = true ∧
    clashes 33 100 9 false 4 { inst := 100, target := 8, action := 0x10, chipWide := false, site := 5, payload := 0, entered := 0, exec := 100, late := false } = false := by decide
/-- R568: the ball of C07.P19 is (5, 51). -/
theorem test_ball : ballAt 5 51 = some (.pin 7 19) := by decide
/-- The invariant has a state, and a step from it. -/
theorem wit_InvariantKept : ∃ s : State, s.Inv ∧ s.pending ≠ [] := ⟨{ s0 with pending := [.refclkLoss] }, ⟨by decide, by decide⟩, by decide⟩

/-! ### What meets the hypotheses of the statements -/

theorem wit_FrontCommand :
    (∃ (s : State) (i : Instr) (rest : List Instr), s.pending = i :: rest) ∧
    (∃ (s : State), s.pending = []) :=
  ⟨⟨{ s0 with pending := [.refclkLoss] }, .refclkLoss, [], rfl⟩,
   ⟨s0, rfl⟩⟩

theorem wit_LineFramesReceived :
    (∃ (s : State) (n phiNs frac check : Nat) (trim : Int) (u h : Bool), s.linesUp = true) ∧
    (∃ (s : State) (pos check : Nat) (meas dab : Int), s.linesUp = true ∧ check % 4096 = (Frame.calReport pos meas).check ∧ pos % 64 = s.tb.posId ∧ s.tb.tkGone = false ∧ s.bit F.TB_STATUS_is_tk = false ∧ s.bit F.TB_STATUS_cal_valid = true) ∧
    (∃ (s : State) (i : Instr), s.linesUp = false ∧ ((∃ (n c : Nat) (u h : Bool), i = .timeFrame n u h c) ∨ (∃ (p f c : Nat), i = .alignFrame p f c) ∨ (∃ (r : Int) (c : Nat), i = .trimFrame r c) ∨ (∃ (p c : Nat) (m x : Int), i = .calFrame p m x c))) :=
  ⟨⟨{ s0 with pw := { startStep := 10 } }, 0, 0, 0, 0, 0, true, true, (by decide)⟩,
   ⟨on { s0 with pw := { startStep := 10 } } [(F.TB_STATUS_is_tk, 0, 0, 0), (F.TB_STATUS_cal_valid, 0, 0, 1)], 0, (Frame.calReport 0 0).check, 0, 0, (by decide), (by decide +kernel), rfl, (by decide), (by decide), (by decide)⟩,
   ⟨s0, .timeFrame 0 false false 0, (by decide), .inl ⟨_, _, _, _, rfl⟩⟩⟩

theorem wit_Calibration :
    (∃ (s : State) (h : Hdr) (d : Sys2Proof.Data), Ready s h ∧ dataFits d tBool ∧ dFlag d = true) ∧
    (∃ (s : State) (dab : Int), s.tb.calRunning = true ∧ s.linesUp = true ∧ s.tb.tkGone = false ∧ s.bit F.TB_STATUS_is_tk = false) :=
  ⟨⟨s0, h0, ⟨tBool, List.replicate 1 255⟩, (rdy rfl rfl rfl rfl rfl (by decide)), (fit rfl rfl), (by decide)⟩,
   ⟨on { s0 with tb := { calRunning := true }, pw := { startStep := 10 } } [(F.TB_STATUS_is_tk, 0, 0, 0)], 0, (by decide), (by decide), (by decide), (by decide)⟩⟩

theorem wit_SyncEdges : ∃ (s : State), s.tb.syncGone = false :=
  ⟨s0, (by decide)⟩

theorem wit_RefclkAndHoldover :
    (∃ (s : State), s.timeState ≠ tsRef) ∧
    (∃ (s : State), s.bit F.TB_CTRL_tk_auto = false ∧ s.tb.tkGone = false ∧ s.linesUp = true) ∧
    (∃ (s : State) (a : Nat), s.tb.holdoverAt = some a ∧ s.tb.limitPassed = false) :=
  ⟨⟨s0, (by decide)⟩,
   ⟨on { s0 with pw := { startStep := 10 } } [(F.TB_CTRL_tk_auto, 0, 0, 0)], (by decide), (by decide), (by decide)⟩,
   ⟨{ s0 with tb := { holdoverAt := some 5 } }, 5, rfl, (by decide)⟩⟩

theorem wit_PtpPort :
    (∃ (s : State) (port origin n phi : Nat) (trim : Int) (lock : Bool), s.ptpFollow.ptpOn port = true ∧ s.timeState ≠ tsUnset ∧ s.timeState ≠ tsRef) ∧
    (∃ (s : State) (port : Nat), s.ptpFollow.ptpOn port = true) ∧
    (∃ (s : State) (port received t3 : Nat), s.ptpOn port = true ∧ s.tb.delayReqAt = some t3) ∧
    (∃ (s : State), s.bit F.TB_STATUS_is_tk = true ∧ s.timeState = tsLocked) :=
  ⟨⟨on s0 [(F.TB_STATUS_is_tk, 0, 0, 1), (F.TB_CTRL_ptp_en, 0, 0, 1), (F.ETH_STATUS_e1_up, 0, 0, 1), (F.TB_STATUS_time_state, 0, 0, 2)], 1, 0, 0, 0, 0, true, (by decide), (by decide), (by decide)⟩,
   ⟨on s0 [(F.TB_STATUS_is_tk, 0, 0, 1), (F.TB_CTRL_ptp_en, 0, 0, 1), (F.ETH_STATUS_e1_up, 0, 0, 1), (F.TB_STATUS_time_state, 0, 0, 2)], 1, (by decide)⟩,
   ⟨on { s0 with tb := { delayReqAt := some 9 } } [(F.TB_STATUS_is_tk, 0, 0, 1), (F.TB_CTRL_ptp_en, 0, 0, 1), (F.ETH_STATUS_e1_up, 0, 0, 1), (F.TB_STATUS_time_state, 0, 0, 2)], 1, 0, 9, (by decide), rfl⟩,
   ⟨on s0 [(F.TB_STATUS_is_tk, 0, 0, 1), (F.TB_STATUS_is_tk, 0, 0, 1), (F.TB_CTRL_ptp_en, 0, 0, 1), (F.ETH_STATUS_e1_up, 0, 0, 1), (F.TB_STATUS_time_state, 0, 0, 2)], (by decide), rfl⟩⟩

theorem wit_LineFramesSent :
    (∃ (s : State), s.linesUp = true) ∧
    (∃ (s : State) (cal : List (Nat × Int)), s.linesUp = true ∧ s.bit F.TB_STATUS_is_tk = true ∧ s.tb.tkGone = false ∧ s.tb.lastSync ≠ none ∧ (s.leaderSlots cal).getLastD 0 + lineSlot ≤ s.tb.edgeAt + ms 900) :=
  ⟨⟨{ s0 with pw := { startStep := 10 } }, (by decide)⟩,
   ⟨on { s0 with tb := { lastSync := some 0, loc := 3686400000000 }, pw := { startStep := 10 } } [(F.TB_STATUS_is_tk, 0, 0, 1)], [], (by decide), (by decide), (by decide), (by decide), (by decide +kernel)⟩⟩

theorem wit_LinesAndSelection :
    (∃ (s : State), s.bit F.TB_CTRL_lines_en = false) ∧
    (∃ (s : State), s.bit F.TB_CTRL_lines_en = true) ∧
    (∃ (s : State) (h : Hdr) (d : Sys2Proof.Data), Ready s h ∧ dataFits d tU8 ∧ ((dNat d < 64 ∨ dNat d = 255))) ∧
    (∃ (s : State) (h : Hdr) (d : Sys2Proof.Data), Ready s h ∧ dataFits d tU8 ∧ 64 ≤ dNat d ∧ dNat d < 255) ∧
    (∃ (s : State) (h : Hdr) (d : Sys2Proof.Data), Ready s h ∧ dataFits d tU32 ∧ ((dNat d < 262144 ∨ dNat d = 0xFFFFFFFF)) ∧ ((s.md.mode = .safe ∨ s.md.mode = .survey)) ∧ (∀ e ∈ s.bonds, e.2.st = .empty)) :=
  ⟨⟨on s0 [(F.TB_CTRL_lines_en, 0, 0, 0)], (by decide)⟩,
   ⟨on s0 [(F.TB_CTRL_lines_en, 0, 0, 1)], (by decide)⟩,
   ⟨s0, h0, ⟨tU8, List.replicate 1 255⟩, (rdy rfl rfl rfl rfl rfl (by decide)), (fit rfl rfl), (by decide)⟩,
   ⟨s0, h0, ⟨tU8, [254]⟩, (rdy rfl rfl rfl rfl rfl (by decide)), (fit rfl rfl), (by decide), (by decide)⟩,
   ⟨s0, h0, ⟨tU32, List.replicate 4 255⟩, (rdy rfl rfl rfl rfl rfl (by decide)), (fit rfl rfl), (by decide), (by decide), (by decide)⟩⟩

theorem wit_BondSlotCommands :
    (∃ (s : State) (h : Hdr) (d : Sys2Proof.Data) (n : Nat), Ready s h ∧ n < 64 ∧ (s.bond n).live = false) ∧
    (∃ (s : State) (h : Hdr) (d : Sys2Proof.Data) (n : Nat), Ready s h ∧ n < 64 ∧ (s.bond n).live = true ∧ dataFits d tU16) ∧
    (∃ (s : State) (h : Hdr) (d : Sys2Proof.Data) (n : Nat), Ready s h ∧ n < 64 ∧ dataFits d tTime80 ∧ (s.bond n).st ≠ .empty ∧ (s.bond n).live = false ∧ (s.bond n).id ≠ 0 ∧ s.unassigned = false) ∧
    (∃ (s : State) (h : Hdr) (d : Sys2Proof.Data) (n : Nat), Ready s h ∧ n < 64 ∧ dataFits d tBool ∧ dFlag d = true ∧ (s.bond n).dissolving = false) ∧
    (∃ (s : State) (h : Hdr) (d : Sys2Proof.Data) (n : Nat), Ready s h ∧ n < 64 ∧ dataFits d tTime80 ∧ (s.bond n).st = .rejoined ∧ s.now + us 50 ≤ dTime d) ∧
    (∃ (s : State) (h : Hdr) (d : Sys2Proof.Data) (n : Nat), Ready s h ∧ n < 64 ∧ dataFits d tTime80 ∧ (s.bond n).st ≠ .rejoined) ∧
    (∃ (s : State) (h : Hdr) (d : Sys2Proof.Data) (n : Nat), Ready s h ∧ n < 64 ∧ dataFits d tTime80 ∧ (s.bond n).st = .rejoined ∧ dTime d < s.now + us 50) :=
  ⟨⟨s0, h0, ⟨tBlob, []⟩, 63, (rdy rfl rfl rfl rfl rfl (by decide)), (by decide), (by decide)⟩,
   ⟨{ s0 with bonds := [(63, { id := 65535, st := .held })] }, h0, ⟨tU16, List.replicate 2 255⟩, 63, (rdy rfl rfl rfl rfl rfl (by decide)), (by decide), (by decide), (fit rfl rfl)⟩,
   ⟨{ s0 with dict := [(0x200200, [0, 0, 0, 5])], bonds := [(63, { id := 65535, st := .formFailed })] }, h0, ⟨tTime80, List.replicate 10 255⟩, 63, (rdy rfl rfl rfl rfl rfl (by decide)), (by decide), (fit rfl rfl), (by decide), (by decide), (by decide), (by decide)⟩,
   ⟨s0, h0, ⟨tBool, List.replicate 1 255⟩, 63, (rdy rfl rfl rfl rfl rfl (by decide)), (by decide), (fit rfl rfl), (by decide), (by decide)⟩,
   ⟨{ s0 with bonds := [(63, { id := 65535, st := .rejoined })] }, h0, ⟨tTime80, List.replicate 10 255⟩, 63, (rdy rfl rfl rfl rfl rfl (by decide)), (by decide), (fit rfl rfl), (by decide), (by decide)⟩,
   ⟨s0, h0, ⟨tTime80, List.replicate 10 255⟩, 63, (rdy rfl rfl rfl rfl rfl (by decide)), (by decide), (fit rfl rfl), (by decide)⟩,
   ⟨{ s0 with bonds := [(63, { id := 65535, st := .rejoined })] }, h0, ⟨tTime80, List.replicate 10 0⟩, 63, (rdy rfl rfl rfl rfl rfl (by decide)), (by decide), (fit rfl rfl), (by decide), (by decide)⟩⟩

theorem wit_BondFormation :
    (∃ (bond chip tstate inst port sender tx seq : Nat) (sync : Bool) (f : Frame), (f = .join bond chip tstate sync inst ∨ f = .defer bond inst ∨ f = .split bond inst ∨ f = .beat bond inst ∨ f = .ready bond inst ∨ (f = .memberBeat bond chip ∧ inst = 0))) ∧
    (∃ (s : State) (chip pos mode tstate check : Nat) (u sync : Bool), s.linesUp = true ∧ check % 4096 = (Frame.presence chip pos mode tstate u sync).check) ∧
    (∃ (s : State) (via : Via) (bond n chip tstate check : Nat) (sync : Bool), taken s via (.join bond chip tstate sync 0) check n) ∧
    (∃ (s : State) (via : Via) (bond n inst check : Nat), taken s via (.ready bond inst) check n ∧ (s.bond n).st = .forming ∧ (s.bond n).ready = false ∧ s.isQuoin n = false ∧ s.heardInst via (.ready bond inst) check / 4096 = (s.bond n).activation / 4096 ∧ s.now + ms 1 ≤ (s.bond n).activation) ∧
    (∃ (s : State) (n : Nat), (s.bond n).st = .forming ∧ (s.bond n).ready = false ∧ (s.bond n).dissolving = false) ∧
    (∃ (s : State) (n : Nat), (s.bond n).st = .forming ∧ (s.bond n).ready = true) :=
  ⟨⟨0, 0, 0, 0, 0, 0, 0, 0, true, .beat 0 0, .inr (.inr (.inr (.inl rfl)))⟩,
   ⟨{ s0 with pw := { startStep := 10 } }, 0, 0, 0, 0, (Frame.presence 0 0 0 0 true true).check, true, true, (by decide), (by decide +kernel)⟩,
   ⟨{ s0 with dict := [(0x200200, [0, 0, 0, 5])], bonds := [(63, { id := 65535, st := .forming })], pw := { startStep := 10 } }, .lines, 65535, 63, 0, 0, (Frame.join 65535 0 0 true 0).check, true, (show _ ∧ _ ∧ _ ∧ _ from ⟨by decide, by decide +kernel, by decide, by decide +kernel⟩)⟩,
   ⟨{ s0 with dict := [(0x200200, [0, 0, 0, 5])], bonds := [(63, { id := 65535, st := .forming, quoin := 6, activation := ms 1 })], pw := { startStep := 10 } }, .lines, 65535, 63, 4096000000, (Frame.ready 65535 4096000000).check, (show _ ∧ _ ∧ _ ∧ _ from ⟨by decide, by decide +kernel, by decide, by decide +kernel⟩), (by decide), (by decide), (by decide), (by decide +kernel), (by decide)⟩,
   ⟨{ s0 with bonds := [(63, { id := 65535, st := .forming })] }, 63, (by decide), (by decide), (by decide)⟩,
   ⟨{ s0 with bonds := [(63, { id := 65535, st := .forming, ready := true })] }, 63, (by decide), (by decide)⟩⟩

theorem wit_BondBeats :
    (∃ (s : State) (n : Nat), (s.bond n).st = .active ∧ s.isQuoin n = true ∧ s.unassigned = false) ∧
    (∃ (s : State) (n : Nat), (((s.bond n).st = .active ∨ (s.bond n).st = .held ∨ (s.bond n).st = .rejoined)) ∧ s.isQuoin n = false ∧ s.unassigned = false) ∧
    (∃ (s : State) (via : Via) (bond n inst check : Nat), taken s via (.beat bond inst) check n ∧ s.isQuoin n = false ∧ (((s.bond n).st = .active ∨ (s.bond n).st = .held ∨ (s.bond n).st = .rejoined)) ∧ (4, s.heardInst via (.beat bond inst) check / 4096 * 4096) ∉ (s.bond n).seen) ∧
    (∃ (s : State) (via : Via) (bond n chip check : Nat), taken s via (.memberBeat bond chip) check n ∧ s.isQuoin n = true ∧ (heardOf via (.memberBeat bond chip) check).chip ∈ s.others n ∧ (s.bond n).ready = true) ∧
    (∃ (s : State) (n chip : Nat), s.isQuoin n = true ∧ (s.bond n).st = .active ∧ chip ∈ s.others n ∧ (Tbl.get (s.bond n).info {} chip).absent = false) ∧
    (∃ (s : State), s.Inv) :=
  ⟨⟨{ s0 with dict := [(0x200200, [0, 0, 0, 5])], bonds := [(63, { id := 65535, st := .active, quoin := 5 })] }, 63, (by decide), (by decide), (by decide)⟩,
   ⟨{ s0 with dict := [(0x200200, [0, 0, 0, 5])], bonds := [(63, { id := 65535, st := .rejoined, quoin := 6 })] }, 63, (by decide), (by decide), (by decide)⟩,
   ⟨{ s0 with dict := [(0x200200, [0, 0, 0, 5])], bonds := [(63, { id := 65535, st := .held, quoin := 6 })], pw := { startStep := 10 } }, .lines, 65535, 63, 0, (Frame.beat 65535 0).check, (show _ ∧ _ ∧ _ ∧ _ from ⟨by decide, by decide +kernel, by decide, by decide +kernel⟩), (by decide), (by decide), (by decide +kernel)⟩,
   ⟨{ s0 with dict := [(0x200200, [0, 0, 0, 5])], bonds := [(63, { id := 65535, st := .active, ready := true, quoin := 5, members := [5, 7] })], pw := { startStep := 10 } }, .lines, 65535, 63, 7, (Frame.memberBeat 65535 7).check, (show _ ∧ _ ∧ _ ∧ _ from ⟨by decide, by decide +kernel, by decide, by decide +kernel⟩), (by decide), (by decide +kernel), (by decide)⟩,
   ⟨{ s0 with dict := [(0x200200, [0, 0, 0, 5])], bonds := [(63, { id := 65535, st := .active, quoin := 5, members := [5, 7] })] }, 63, 7, (by decide), (by decide), (by decide), (by decide)⟩,
   ⟨s0, ⟨by decide, by decide⟩⟩⟩

theorem wit_BondDeferSplit :
    (∃ (s : State) (via : Via) (bond n inst check : Nat), taken s via (.defer bond inst) check n ∧ (s.bond n).takesPart (s.heardInst via (.defer bond inst) check) = true ∧ (2, s.heardInst via (.defer bond inst) check / 4096 * 4096) ∉ (s.bond n).seen) ∧
    (∃ (s : State) (via : Via) (bond n inst check : Nat), taken s via (.split bond inst) check n ∧ (s.bond n).takesPart (s.heardInst via (.split bond inst) check) = true ∧ (3, s.heardInst via (.split bond inst) check / 4096 * 4096) ∉ (s.bond n).seen) ∧
    (∃ (s : State) (n t0 : Nat), (s.bond n).live = true ∧ (s.bond n).takesPart t0 = true ∧ t0 ∈ (s.bond n).deferSent ∧ t0 ∉ (s.bond n).deferRx ∧ t0 ∉ (s.bond n).splitSent ∧ s.unassigned = false) ∧
    (∃ (s : State) (n : Nat), (s.bond n).dissolving = true ∧ (∀ x ∈ (s.bond n).sites, x ∈ (s.bond n).passed) ∧ ((∀ e ∈ s.launchDue.seq.th, ∀ a ∈ e.2.nxt, a.bslot = some n → a.st ≠ .provisional ∧ a.st ≠ .committed))) :=
  ⟨⟨{ s0 with dict := [(0x200200, [0, 0, 0, 5])], bonds := [(63, { id := 65535, st := .active })], pw := { startStep := 10 } }, .lines, 65535, 63, 0, (Frame.defer 65535 0).check, (show _ ∧ _ ∧ _ ∧ _ from ⟨by decide, by decide +kernel, by decide, by decide +kernel⟩), (by decide +kernel), (by decide +kernel)⟩,
   ⟨{ s0 with dict := [(0x200200, [0, 0, 0, 5])], bonds := [(63, { id := 65535, st := .active })], pw := { startStep := 10 } }, .lines, 65535, 63, 0, (Frame.split 65535 0).check, (show _ ∧ _ ∧ _ ∧ _ from ⟨by decide, by decide +kernel, by decide, by decide +kernel⟩), (by decide +kernel), (by decide +kernel)⟩,
   ⟨{ s0 with dict := [(0x200200, [0, 0, 0, 5])], bonds := [(63, { id := 65535, st := .active, deferSent := [4096] })] }, 63, 4096, (by decide), (by decide), (by decide), (by decide), (by decide), (by decide)⟩,
   ⟨{ s0 with bonds := [(63, { id := 65535, st := .active, dissolving := true, sites := [1], passed := [1] })] }, 63, (by decide), (by decide), (by decide)⟩⟩

theorem wit_TallyRegisters :
    (∃ (s : State) (h : Hdr) (d : Sys2Proof.Data) (v : Nat), Ready s h ∧ dataFits d tU32) ∧
    (∃ (s : State) (h : Hdr) (d : Sys2Proof.Data) (v : Nat), Ready s h ∧ dataFits d tU8) ∧
    (∃ (s : State) (h : Hdr) (d : Sys2Proof.Data), Ready s h ∧ dataFits d tBool ∧ dFlag d = true) :=
  ⟨⟨s0, h0, ⟨tU32, List.replicate 4 255⟩, 0, (rdy rfl rfl rfl rfl rfl (by decide)), (fit rfl rfl)⟩,
   ⟨s0, h0, ⟨tU8, List.replicate 1 255⟩, 0, (rdy rfl rfl rfl rfl rfl (by decide)), (fit rfl rfl)⟩,
   ⟨s0, h0, ⟨tBool, List.replicate 1 255⟩, (rdy rfl rfl rfl rfl rfl (by decide)), (fit rfl rfl), (by decide)⟩⟩

theorem wit_ThermalSampling :
    (∃ (s : State) (readings : List Int), s.pw.powered = true ∧ s.pw.resetLow = false) ∧
    (∃ (s : State) (a : Nat), s.thm.changed.getD 0 none = some a ∧ s.bit F.THM_STATUS_first_set = true ∧ s.bit F.THM_STATUS_warning = true ∧ s.thm.tmax < 92000) ∧
    (∃ (s : State) (a : Nat), s.thm.changed.getD 1 none = some a ∧ s.bit F.THM_STATUS_first_set = true ∧ s.bit F.THM_STATUS_throttle = false ∧ 100000 ≤ s.thm.tmax) ∧
    (∃ (s : State), s.thm.halted = false ∧ s.bit F.THM_STATUS_first_set = true) :=
  ⟨⟨{ s0 with pw := { powered := true } }, [], (by decide), (by decide)⟩,
   ⟨on { s0 with thm := { changed := [some 0, none, none], tmax := 91999 } } [(F.THM_STATUS_first_set, 0, 0, 1), (F.THM_STATUS_warning, 0, 0, 1)], 0, rfl, (by decide), (by decide), (by decide)⟩,
   ⟨on { s0 with thm := { changed := [none, some 0, none], tmax := 100000 } } [(F.THM_STATUS_first_set, 0, 0, 1), (F.THM_STATUS_throttle, 0, 0, 0)], 0, rfl, (by decide), (by decide), (by decide)⟩,
   ⟨on s0 [(F.THM_STATUS_first_set, 0, 0, 1)], (by decide), (by decide)⟩⟩

theorem wit_StepEndAndModes :
    (∃ (s : State) (k : Nat) (a : Step) (d : Nat), k < 256 ∧ (s.thr k).step = some a ∧ a.d = some d ∧ a.st = .launched ∧ (s.thr k).nxt = []) ∧
    (∃ (s : State) (h : Hdr) (d : Sys2Proof.Data) (m : Mode), Ready s h ∧ d.ty = tBlob ∧ d.bytes.length = 11 ∧ modeOf (dSub d 0 1) = some m ∧ m ≠ .safe ∧ s.md.mode = .safe ∧ s.md.pend = [] ∧ s.now + us 100 ≤ timeTicks (d.bytes.drop 1) ∧ s.commSteps = [] ∧ s.cal.commit = none ∧ ((∀ k, k < 63 → s.srcSet k = true → s.fld F.FC_SRC_sev_max 0 k ≠ 3)) ∧ ((∀ n, n < 4 → (Tbl.get s.bist.drams {} n).trained = true)) ∧ s.bit F.CAL_STATUS_absent = false ∧ s.fitsMode m = true) ∧
    (∃ (s : State) (h : Hdr) (d : Sys2Proof.Data) (m : Mode), Ready s h ∧ d.ty = tBlob ∧ d.bytes.length = 11 ∧ modeOf (dSub d 0 1) = some m ∧ m ≠ .safe ∧ s.md.pend = [] ∧ ((s.md.mode = .survey ∨ m = s.md.mode ∨ (m = .survey ∧ s.md.mode ≠ .safe)))) ∧
    (∃ (s : State) (p : ModePending) (rest : List ModePending) (a : Nat), s.md.pend = p :: rest ∧ p.t = some a ∧ ((p.entered = true ∨ (s.queue 39 = [] ∧ Tbl.find s.lqLast 39 = none ∧ us 2 ≤ a)))) ∧
    (∃ (s : State), s.nextRequest = none ∧ s.nextUnready = none) ∧
    (∃ (s m : State) (k n t0 : Nat), s.nextRequest = none ∧ s.nextUnready = some (k, n, t0) ∧ m = (s.reach (t0 - us 50)).launchDue) ∧
    (∃ (s m : State) (k : Nat) (st : Step), s.nextRequest = some (k, st) ∧ st.lateReq = false ∧ m = (s.reach (st.t0 - us 50)).launchDue ∧ ((∀ u, s.nextUnready = some u → st.t0 ≤ u.2.2)) ∧ (m.thr k).nxt.getLast? = some st ∧ st.bslot = none ∧ st.kind = .routine ∧ m.inSafe = false ∧ m.stepExcl k st = false ∧ m.tallyAdmits st = true ∧ m.badCtx st = false) ∧
    (∃ (s m : State) (k : Nat) (st : Step), s.nextRequest = some (k, st) ∧ st.lateReq = false ∧ m = (s.reach (st.t0 - us 50)).launchDue ∧ ((∀ u, s.nextUnready = some u → st.t0 ≤ u.2.2)) ∧ st.bslot = none ∧ st.kind = .routine ∧ m.inSafe = false ∧ m.stepExcl k st = false ∧ m.tallyAdmits st = false) ∧
    (∃ (s m : State) (k : Nat) (st : Step), s.nextRequest = some (k, st) ∧ st.lateReq = false ∧ m = (s.reach (st.t0 - us 50)).launchDue ∧ ((∀ u, s.nextUnready = some u → st.t0 ≤ u.2.2)) ∧ st.bslot = none ∧ st.kind = .routine ∧ m.inSafe = true) ∧
    (∃ (s m : State) (k : Nat) (st : Step), s.nextProvisional = some (k, st) ∧ m = (s.reach (st.t0 - us 5 + 1)).launchDue ∧ (m.thr k).nxt.getLast? = some st ∧ st.kind = .routine) :=
  ⟨⟨thr { step := some (stp .launched) }, 255, stp .launched, 7, (by decide), (by decide), rfl, rfl, (by decide)⟩,
   ⟨on { s0 with bist := { drams := [(0, { trained := true }), (1, { trained := true }), (2, { trained := true }), (3, { trained := true })] } } [(F.CAL_STATUS_absent, 0, 0, 0)], h0, ⟨tBlob, [1] ++ List.replicate 10 255⟩, .survey, (rdy rfl rfl rfl rfl rfl (by decide)), rfl, rfl, rfl, (by decide +kernel), rfl, rfl, (by decide +kernel), (by decide +kernel), rfl, (by decide +kernel), (by decide +kernel), (by decide), (by decide +kernel)⟩,
   ⟨{ s0 with md := { mode := .survey } }, h0, ⟨tBlob, [5] ++ List.replicate 10 0⟩, .stress, (rdy rfl rfl rfl rfl rfl (by decide)), rfl, rfl, rfl, (by decide), rfl, (by decide)⟩,
   ⟨{ s0 with md := { pend := [{ target := .survey, t := some 5, accepted := 0, entered := true }] } }, { target := .survey, t := some 5, accepted := 0, entered := true }, [], 5, rfl, rfl, (.inl rfl)⟩,
   ⟨s0, rfl, rfl⟩,
   ⟨on { thr { dec := true, waitSince := some 3, opr := 254 } with bonds := [(63, { id := 65535, st := .active, sites := [255] })] } [(F.SEQ_TSTAT_opcode, 31, 7, 8)], (((on { thr { dec := true, waitSince := some 3, opr := 254 } with bonds := [(63, { id := 65535, st := .active, sites := [255] })] } [(F.SEQ_TSTAT_opcode, 31, 7, 8)])).reach ((ns (((on { thr { dec := true, waitSince := some 3, opr := 254 } with bonds := [(63, { id := 65535, st := .active, sites := [255] })] } [(F.SEQ_TSTAT_opcode, 31, 7, 8)])).chooseT0 255 (some 63)).1) - us 50)).launchDue, 255, 63, ns (((on { thr { dec := true, waitSince := some 3, opr := 254 } with bonds := [(63, { id := 65535, st := .active, sites := [255] })] } [(F.SEQ_TSTAT_opcode, 31, 7, 8)])).chooseT0 255 (some 63)).1, (by decide +kernel), (by decide +kernel), rfl⟩,
   ⟨{ thr { nxt := [stp .requested] } with md := { mode := .survey } }, (({ thr { nxt := [stp .requested] } with md := { mode := .survey } }).reach ((stp .requested).t0 - us 50)).launchDue, 255, stp .requested, rfl, (by decide), rfl, (nun (by decide +kernel)), (by decide +kernel), rfl, rfl, (by decide +kernel), (by decide +kernel), (by decide +kernel), (by decide +kernel)⟩,
   ⟨{ thr { nxt := [{ stp .requested with c := 4294967295 }] } with md := { mode := .survey } }, (({ thr { nxt := [{ stp .requested with c := 4294967295 }] } with md := { mode := .survey } }).reach ((stp .requested).t0 - us 50)).launchDue, 255, { stp .requested with c := 4294967295 }, rfl, (by decide), rfl, (nun (by decide +kernel)), rfl, rfl, (by decide +kernel), (by decide +kernel), (by decide +kernel)⟩,
   ⟨thr { nxt := [stp .requested] }, (((thr { nxt := [stp .requested] })).reach ((stp .requested).t0 - us 50)).launchDue, 255, stp .requested, rfl, (by decide), rfl, (nun (by decide +kernel)), rfl, rfl, (by decide +kernel)⟩,
   ⟨thr { nxt := [stp .provisional] }, (((thr { nxt := [stp .provisional] })).reach ((stp .provisional).t0 - us 5 + 1)).launchDue, 255, stp .provisional, rfl, rfl, (by decide +kernel), rfl⟩⟩

theorem wit_LaunchRecords :
    (∃ (s : State) (q target action site payload n40 frac : Nat) (cw : Bool), q < 40 ∧ action ∈ queueActions q ∧ ((q = 39 → s.md.pend = [])) ∧ s.thm.halted = false ∧ s.bist.run = none ∧ (s.queue q).length < lqDepth q ∧ (∀ e ∈ s.queue q, clashes q (s.resolve40 n40 frac) (target % 64) cw (site % 256) e = false)) ∧
    (∃ (s : State) (q target action site payload n40 frac : Nat) (e : LaunchRec), q < 39 ∧ action ∈ queueActions q ∧ s.thm.halted = false ∧ s.bist.run = none ∧ (s.queue q).length < lqDepth q ∧ e ∈ s.queue q ∧ clashes q (s.resolve40 n40 frac) (target % 64) false (site % 256) e = true) ∧
    (∃ (s : State) (q target action site payload n40 frac : Nat) (cw : Bool), q < 40 ∧ action ≠ 4 ∧ action ∉ queueActions q ∧ ((q = 39 → s.md.pend = [])) ∧ s.thm.halted = false ∧ s.bist.run = none ∧ (s.queue q).length < lqDepth q) :=
  ⟨⟨s0, 39, 0, 0x48, 0, 0, 0, 0, true, (by decide), (by decide), (by decide), (by decide), rfl, (by decide), (by decide)⟩,
   ⟨{ s0 with lq := [(33, [{ inst := 0, target := 9, action := 16, chipWide := false, site := 4, payload := 5, entered := 0, exec := 0, late := false }])] }, 33, 9, 16, 5, 0, 0, 0, { inst := 0, target := 9, action := 16, chipWide := false, site := 4, payload := 5, entered := 0, exec := 0, late := false }, (by decide), (by decide), (by decide), rfl, (by decide), (by decide), (by decide)⟩,
   ⟨s0, 39, 0, 0, 0, 0, 0, 0, true, (by decide), (by decide), (by decide), (by decide), (by decide), rfl, (by decide)⟩⟩

theorem wit_PinTripsAndStrobes :
    (∃ (s : State) (c p : Nat), c < 32 ∧ p < 32 ∧ s.actFld F.PCH_TRIP_CFG_trip_en c p ≠ 0 ∧ s.actFld F.PCH_TRIP_CFG_cond c p ≠ 0 ∧ s.parked c p = false ∧ s.latched c p = false) ∧
    (∃ (s : State) (c p : Nat), c < 32 ∧ p < 32 ∧ s.latched c p = true ∧ s.heldBit F.PCH_TRIP_LATCH_latch c 0 p = false) ∧
    (∃ (s : State) (c p : Nat), c < 32 ∧ p < 32 ∧ s.latched c p = true ∧ s.heldBit F.PCH_TRIP_LATCH_latch c 0 p = false) ∧
    (∃ (s : State) (h : Hdr) (d : Sys2Proof.Data) (c p : Nat), c < 32 ∧ p < 32 ∧ Ready s h ∧ dTrue d ∧ s.latched c p = true ∧ s.heldBit F.PCH_TRIP_LATCH_latch c 0 p = false) ∧
    (∃ (s : State) (c : Nat) (r : LaunchRec) (rest : List LaunchRec), c < 32 ∧ s.queue c = r :: rest ∧ r.action = 1) ∧
    (∃ (s : State) (h : Hdr) (d : Sys2Proof.Data) (c : Nat), Ready s h ∧ dTrue d ∧ c < 32 ∧ (s.queue c).length < 4096) :=
  ⟨⟨on (act s0 [(F.PCH_TRIP_CFG_trip_en, 31, 31, 1), (F.PCH_TRIP_CFG_cond, 31, 31, 1)]) [(F.PCH_CH_STATE_active, 31, 31, 1)], 31, 31, (by decide), (by decide), (by decide), (by decide), (by decide), (by decide)⟩,
   ⟨on s0 [(F.PCH_TRIP_LATCH_latch, 31, 0, 2147483648)], 31, 31, (by decide), (by decide), (by decide), (by decide)⟩,
   ⟨on s0 [(F.PCH_TRIP_LATCH_latch, 31, 0, 2147483648)], 31, 31, (by decide), (by decide), (by decide), (by decide)⟩,
   ⟨on s0 [(F.PCH_TRIP_LATCH_latch, 31, 0, 2147483648)], h0, ⟨tBool, [1]⟩, 31, 31, (by decide), (by decide), (rdy rfl rfl rfl rfl rfl (by decide)), ⟨fit rfl rfl, by decide⟩, (by decide), (by decide)⟩,
   ⟨queued s0 31 1 0, 31, lrec 1 0, [], (by decide), rfl, rfl⟩,
   ⟨s0, h0, ⟨tBool, [1]⟩, 31, (rdy rfl rfl rfl rfl rfl (by decide)), ⟨fit rfl rfl, by decide⟩, (by decide), (by decide)⟩⟩

theorem wit_PinRepairAndMeasurement :
    (∃ (s : State) (c n : Nat) (v : Int) (cl : Bool) (m : PmuMeas), (s.pch c n).meas = some m) ∧
    (∃ (s : State) (h : Hdr) (d : Sys2Proof.Data) (c n : Nat), c < 32 ∧ n ≤ 32 ∧ Ready s h ∧ d.ty = tBlob ∧ d.bytes.length = 16) ∧
    (∃ (s : State) (h : Hdr) (d : Sys2Proof.Data) (c n : Nat), c < 32 ∧ n ≤ 32 ∧ Ready s h ∧ dataFits d tI64) ∧
    (∃ (s : State) (h : Hdr) (d : Sys2Proof.Data) (c : Nat), c < 32 ∧ Ready s h ∧ dataFits d tU8 ∧ dNat d < 32 ∧ s.repairing c = false ∧ s.bit F.PCH_STATUS_spare_busy c = false ∧ s.fastSet c = false) ∧
    (∃ (s : State) (h : Hdr) (c : Nat), c < 32 ∧ Ready s h ∧ s.repairing c = false ∧ s.bit F.PCH_STATUS_spare_busy c = true) ∧
    (∃ (s : State) (c : Nat) (r : RepairRun), c < 32 ∧ r.pin < 32 ∧ Tbl.find s.pin.repair c = some r ∧ s.siteHeld c r.pin = true) ∧
    (∃ (s : State) (h : Hdr) (d : Sys2Proof.Data) (c p : Nat), c < 32 ∧ p ≤ 32 ∧ Ready s h ∧ dTrue d ∧ s.bit F.PCH_CH_STATE_derated c p = true ∧ s.srcSet c = false) ∧
    (∃ (s : State) (h : Hdr) (d : Sys2Proof.Data) (c p : Nat), c < 32 ∧ p ≤ 32 ∧ Ready s h ∧ dTrue d ∧ s.bit F.PCH_CH_STATE_derated c p = true ∧ s.srcSet c = true) :=
  ⟨⟨{ s0 with pin := { ch := [(1055, { meas := some ⟨0, 0, none, none, false⟩ })] } }, 31, 32, 0, true, ⟨0, 0, none, none, false⟩, (by decide)⟩,
   ⟨s0, h0, ⟨tBlob, List.replicate 16 0⟩, 31, 32, (by decide), (by decide), (rdy rfl rfl rfl rfl rfl (by decide)), rfl, rfl⟩,
   ⟨s0, h0, ⟨tI64, List.replicate 8 255⟩, 31, 32, (by decide), (by decide), (rdy rfl rfl rfl rfl rfl (by decide)), (fit rfl rfl)⟩,
   ⟨on s0 [(F.PCH_STATUS_spare_busy, 31, 0, 0)], h0, ⟨tU8, [31]⟩, 31, (by decide), (rdy rfl rfl rfl rfl rfl (by decide)), (fit rfl rfl), (by decide), (by decide), (by decide), (by decide +kernel)⟩,
   ⟨on s0 [(F.PCH_STATUS_spare_busy, 31, 0, 1)], h0, 31, (by decide), (rdy rfl rfl rfl rfl rfl (by decide)), (by decide), (by decide)⟩,
   ⟨{ s0 with pin := { repair := [(31, ⟨31, false, 0⟩)] } }, 31, ⟨31, false, 0⟩, (by decide), (by decide), rfl, (by decide)⟩,
   ⟨on s0 [(F.PCH_CH_STATE_derated, 31, 32, 1)], h0, ⟨tBool, [1]⟩, 31, 32, (by decide), (by decide), (rdy rfl rfl rfl rfl rfl (by decide)), ⟨fit rfl rfl, by decide⟩, (by decide), (by decide)⟩,
   ⟨on s0 [(F.PCH_CH_STATE_derated, 31, 32, 1), (F.FC_STATUS_LO_status, 0, 0, 2147483648)], h0, ⟨tBool, [1]⟩, 31, 32, (by decide), (by decide), (rdy rfl rfl rfl rfl rfl (by decide)), ⟨fit rfl rfl, by decide⟩, (by decide), (by decide)⟩⟩

theorem wit_TimingSetsAndFixture :
    (∃ (s : State) (h : Hdr) (d : Sys2Proof.Data) (c ss : Nat), c < 32 ∧ ss < 64 ∧ Ready s h ∧ dataFits d tU32 ∧ Tbl.rising s.regs = true ∧ s.streaming c = false ∧ minPeriod s.md.mode ≤ min (dNat d) 4096000000 ∧ ((s.bit F.PCH_STATUS_spare_busy c = true → 2048 ≤ min (dNat d) 4096000000)) ∧ ((∀ (u : State), u = s.setFld F.TMG_PERIOD_period c ss (min (dNat d) 4096000000) → u.fits s.md.mode = true))) ∧
    (∃ (s : State) (h : Hdr) (d : Sys2Proof.Data) (c ss : Nat), c < 32 ∧ ss < 64 ∧ Ready s h ∧ dataFits d tU32 ∧ s.streaming c = false ∧ min (dNat d) 4096000000 < minPeriod s.md.mode) ∧
    (∃ (s : State) (h : Hdr) (d : Sys2Proof.Data) (c ss : Nat), c < 32 ∧ ss < 64 ∧ Ready s h ∧ d.ty = tBlob ∧ d.bytes.length = 768) ∧
    (∃ (s : State) (h : Hdr) (d : Sys2Proof.Data) (c p : Nat), c < 32 ∧ p < 32 ∧ Ready s h ∧ d.ty = tBlob ∧ d.bytes.length = 8) ∧
    (∃ (s : State) (c : Nat), c < 32 ∧ s.streaming c = false ∧ Tbl.rising s.regs = true) ∧
    (∃ (s : State) (h : Hdr) (d : Sys2Proof.Data) (c : Nat), c < 32 ∧ s.streaming c = false ∧ Tbl.rising s.regs = true ∧ Ready s h ∧ dTrue d) ∧
    (∃ (s : State) (c : Nat), c < 32 ∧ s.streaming c = true) :=
  ⟨⟨on s0 [(F.TMG_STATUS_streaming, 31, 0, 0)], h0, ⟨tU32, List.replicate 4 255⟩, 31, 63, (by decide), (by decide), (rdy rfl rfl rfl rfl rfl (by decide)), (fit rfl rfl), (by decide), (by decide), (by decide), (by decide), (by rintro _ rfl; decide)⟩,
   ⟨on s0 [(F.TMG_STATUS_streaming, 31, 0, 0)], h0, ⟨tU32, [0, 0, 3, 255]⟩, 31, 63, (by decide), (by decide), (rdy rfl rfl rfl rfl rfl (by decide)), (fit rfl rfl), (by decide), (by decide)⟩,
   ⟨s0, h0, ⟨tBlob, List.replicate 768 0⟩, 31, 63, (by decide), (by decide), (rdy rfl rfl rfl rfl rfl (by decide)), rfl, List.length_replicate⟩,
   ⟨s0, h0, ⟨tBlob, List.replicate 8 0⟩, 31, 31, (by decide), (by decide), (rdy rfl rfl rfl rfl rfl (by decide)), rfl, rfl⟩,
   ⟨on s0 [(F.TMG_STATUS_streaming, 31, 0, 0)], 31, (by decide), (by decide), (by decide)⟩,
   ⟨on s0 [(F.TMG_STATUS_streaming, 31, 0, 0)], h0, ⟨tBool, [1]⟩, 31, (by decide), (by decide), (by decide), (rdy rfl rfl rfl rfl rfl (by decide)), ⟨fit rfl rfl, by decide⟩⟩,
   ⟨on s0 [(F.TMG_STATUS_streaming, 31, 0, 1)], 31, (by decide), (by decide)⟩⟩

theorem wit_PlumbAndSelfChecks :
    (∃ (s : State) (c p : Nat), c < 32 ∧ p < 32 ∧ (s.settleEdges c).plumbMay c p = true) ∧
    (∃ (s : State) (c p : Nat) (r f m : Int) (k : ChanCheck), p < 32 ∧ Tbl.find s.ks.checks (33 * c + p) = some k ∧ k.kind = 0 ∧ k.restore = none) ∧
    (∃ (s : State) (c p : Nat) (x : Corr), c < 32 ∧ p < 32 ∧ s.ks.running = true ∧ s.ks.outage = false ∧ (s.chTim (32 * c + p)).cand = some x ∧ x.near (s.factory c p) 204 = true ∧ x.near (s.corrOf c p) 33 = true) ∧
    (∃ (s : State) (c p : Nat) (x : Corr), c < 32 ∧ p < 32 ∧ s.ks.running = true ∧ s.ks.outage = false ∧ (s.chTim (32 * c + p)).cand = some x ∧ ((x.near (s.factory c p) 204 = false ∨ x.near (s.corrOf c p) 33 = false))) ∧
    (∃ (s m : State) (c p : Nat), c < 32 ∧ p ≤ 32 ∧ m = s.reachLoc (max (Tbl.get s.ks.gapAt 0 c) (Tbl.get s.ks.lastGap 0 (33 * c + p)) + ms 60000) ∧ m.dueSoon c = false) ∧
    (∃ (s m : State) (c p : Nat), c < 32 ∧ p ≤ 32 ∧ m = s.reachLoc (max (Tbl.get s.ks.gapAt 0 c) (Tbl.get s.ks.lastGap 0 (33 * c + p)) + ms 60000) ∧ m.dueSoon c = true) ∧
    (∃ (s : State) (c p : Nat), c < 32 ∧ p ≤ 32 ∧ s.gapFree c p = true ∧ s.bit F.PCH_CTRL_selfchk_en c = true ∧ s.streaming c = false) ∧
    (∃ (s : State) (c p : Nat) (fail : Bool) (k : ChanCheck), c < 32 ∧ p ≤ 32 ∧ Tbl.find s.ks.checks (33 * c + p) = some k ∧ k.kind = 1 ∧ k.restore = none) :=
  ⟨⟨s0, 31, 31, (by decide), (by decide), (by decide)⟩,
   ⟨{ s0 with ks := { checks := [(1054, { kind := 0, started := 0 })] } }, 31, 31, 0, 0, 0, { kind := 0, started := 0 }, (by decide), rfl, rfl, rfl⟩,
   ⟨sCand fac, 31, 31, fac, (by decide), (by decide), (by decide), (by decide), (cand_sCand _), (by rw [fac_sCand]; exact near_self _ _), (by rw [corr_sCand]; exact near_self _ _)⟩,
   ⟨sCand { fac with rise := fac.rise + 205 }, 31, 31, { fac with rise := fac.rise + 205 }, (by decide), (by decide), (by decide), (by decide), (cand_sCand _), (.inl (by rw [fac_sCand]; exact far_fac))⟩,
   ⟨s0, ((s0).reachLoc (max (Tbl.get (s0).ks.gapAt 0 31) (Tbl.get (s0).ks.lastGap 0 (33 * 31 + 32)) + ms 60000)), 31, 32, (by decide), (by decide), rfl, (by decide)⟩,
   ⟨queued s0 31 1 0, (((queued s0 31 1 0)).reachLoc (max (Tbl.get ((queued s0 31 1 0)).ks.gapAt 0 31) (Tbl.get ((queued s0 31 1 0)).ks.lastGap 0 (33 * 31 + 32)) + ms 60000)), 31, 32, (by decide), (by decide), rfl, (by decide)⟩,
   ⟨on s0 [(F.PCH_CTRL_selfchk_en, 31, 0, 1), (F.TMG_STATUS_streaming, 31, 0, 0)], 31, 32, (by decide), (by decide), (by decide), (by decide), (by decide)⟩,
   ⟨{ s0 with ks := { checks := [(1055, { kind := 1, started := 0 })] } }, 31, 32, true, { kind := 1, started := 0 }, (by decide), (by decide), rfl, rfl, rfl⟩⟩

theorem wit_SegmentStarts :
    (∃ (s : State) (c : Nat) (r : LaunchRec) (rest : List LaunchRec), c < 32 ∧ s.queue c = r :: rest ∧ r.action = 2 ∧ s.inSafe = false) ∧
    (∃ (s : State) (c : Nat) (r : LaunchRec) (rest : List LaunchRec), c < 32 ∧ s.queue c = r :: rest ∧ r.action = 2 ∧ s.inSafe = false) ∧
    (∃ (s : State) (c : Nat) (r : LaunchRec) (rest : List LaunchRec), c < 32 ∧ s.queue c = r :: rest ∧ r.action = 2 ∧ s.inSafe = false) ∧
    (∃ (s : State) (c seg : Nat), c < 32 ∧ s.streaming c = true ∧ s.curSeg c = seg ∧ (s.stream c).headOk = false) ∧
    (∃ (s : State) (c seg : Nat), c < 32 ∧ s.streaming c = false ∧ ((∃ r ∈ s.queue c, r.action = 2 ∧ bitsAt r.payload 46 35 = seg))) ∧
    (∃ (s : State) (c : Nat), c < 32) ∧
    (∃ (s : State) (h : Hdr) (d : Sys2Proof.Data) (c : Nat), c < 32 ∧ Ready s h ∧ dTrue d) ∧
    (∃ (s : State) (c : Nat), c < 32 ∧ s.streaming c = true ∧ (s.stream c).whole = false ∧ s.nextIdx c < s.runLen c) ∧
    (∃ (s : State) (c : Nat), c < 32 ∧ s.streaming c = true ∧ (s.stream c).starving = true) ∧
    (∃ (s : State) (h : Hdr) (d : Sys2Proof.Data) (c : Nat) (b : List Byte), c < 32 ∧ Ready s h ∧ d.ty = tBlob ∧ d.bytes.length = 34 ∧ b = cleanDesc (d.bytes.drop 2) ∧ dSub d 0 2 < 4095 ∧ 8 ≤ descLen b ∧ descStart b + 18 * descLen b ≤ s.patLines ∧ s.segBusy c (dSub d 0 2) = false ∧ ((descValid b = true → ({ s with pat := { s.pat with desc := Tbl.set s.pat.desc (List.replicate 32 0) (4096 * c + dSub d 0 2) b } } : State).fits s.md.mode = true))) ∧
    (∃ (s : State) (h : Hdr) (d : Sys2Proof.Data) (c : Nat), c < 32 ∧ Ready s h ∧ d.ty = tBlob ∧ d.bytes.length = 34 ∧ dSub d 0 2 < 4095 ∧ descLen (cleanDesc (d.bytes.drop 2)) < 8) :=
  ⟨⟨{ queued s0 31 2 0 with md := { mode := .survey } }, 31, lrec 2 0, [], (by decide), rfl, rfl, (by decide)⟩,
   ⟨{ queued s0 31 2 0 with md := { mode := .survey } }, 31, lrec 2 0, [], (by decide), rfl, rfl, (by decide)⟩,
   ⟨{ queued s0 31 2 0 with md := { mode := .survey } }, 31, lrec 2 0, [], (by decide), rfl, rfl, (by decide)⟩,
   ⟨on { s0 with pat := { st := [(31, { headOk := false })] } } [(F.TMG_STATUS_streaming, 31, 0, 1), (F.TMG_STATUS_streaming, 31, 0, 1), (F.PAT_STATUS_cur_seg, 31, 0, 0)], 31, 0, (by decide), (by decide), rfl, (by decide)⟩,
   ⟨on (queued s0 31 2 0) [(F.TMG_STATUS_streaming, 31, 0, 0)], 31, 0, (by decide), (by decide), ⟨lrec 2 0, by decide, rfl, by decide⟩⟩,
   ⟨s0, 31, (by decide)⟩,
   ⟨s0, h0, ⟨tBool, [1]⟩, 31, (by decide), (rdy rfl rfl rfl rfl rfl (by decide)), ⟨fit rfl rfl, by decide⟩⟩,
   ⟨on { s0 with pat := { desc := [(4096 * 31, [0, 0, 0, 0, 8, 0, 0, 0, 0, 0, 0, 0, 255, 15, 255, 15, 1] ++ List.replicate 15 0)], st := [(31, {  })] } } [(F.TMG_STATUS_streaming, 31, 0, 1), (F.TMG_STATUS_streaming, 31, 0, 1), (F.PAT_STATUS_cur_seg, 31, 0, 0)], 31, (by decide), (by decide), (by decide +kernel), (by decide)⟩,
   ⟨on { s0 with pat := { st := [(31, { starving := true })] } } [(F.TMG_STATUS_streaming, 31, 0, 1), (F.TMG_STATUS_streaming, 31, 0, 1)], 31, (by decide), (by decide), (by decide)⟩,
   ⟨s0, h0, ⟨tBlob, [15, 254, 0, 0, 0, 0, 8] ++ List.replicate 27 0⟩, 31, cleanDesc ([0, 0, 0, 0, 8] ++ List.replicate 27 0), (by decide), (rdy rfl rfl rfl rfl rfl (by decide)), rfl, rfl, rfl, (by decide), (by decide), (by decide), (by decide), (by decide)⟩,
   ⟨s0, h0, ⟨tBlob, [15, 254, 0, 0, 0, 0, 7] ++ List.replicate 27 0⟩, 31, (by decide), (rdy rfl rfl rfl rfl rfl (by decide)), rfl, rfl, (by decide), (by decide)⟩⟩

theorem wit_RunsAndVectors :
    (∃ (s : State) (c : Nat), c < 32 ∧ s.atDecision c = true) ∧
    (∃ (s : State) (c : Nat), c < 32 ∧ s.streaming c = true ∧ (s.stream c).starving = false ∧ s.nextIdx c = s.runLen c ∧ (s.stream c).decided = some .again ∧ (s.stream c).endless = false) ∧
    (∃ (s : State) (c seg : Nat), c < 32 ∧ s.streaming c = true ∧ (s.stream c).starving = false ∧ s.nextIdx c = s.runLen c ∧ (((s.stream c).decided = some (.go seg) ∨ (s.stream c).decided = some (.jump seg))) ∧ s.segValid c seg = true) ∧
    (∃ (s : State) (c : Nat), c < 32 ∧ s.streaming c = true ∧ (s.stream c).starving = false ∧ s.nextIdx c = s.runLen c ∧ (s.stream c).decided = some (.go 0xFFF)) ∧
    (∃ (s : State) (c seg : Nat), c < 32 ∧ s.streaming c = true ∧ (s.stream c).starving = false ∧ s.nextIdx c = s.runLen c ∧ (s.stream c).decided = some (.go seg) ∧ seg ≠ 0xFFF ∧ s.segValid c seg = false) ∧
    (∃ (s : State) (c : Nat) (samples : List Halves), c < 32 ∧ s.streaming c = true ∧ (s.stream c).starving = false ∧ (s.stream c).resumeAt = none ∧ s.nextIdx c < s.runLen c ∧ s.vecCorrupt c = false ∧ (s.stream c).wild = none) ∧
    (∃ (s : State) (c : Nat) (samples : List Halves), c < 32 ∧ s.streaming c = true ∧ (s.stream c).starving = false ∧ (s.stream c).resumeAt = none ∧ s.nextIdx c < s.runLen c ∧ s.vecCorrupt c = true) :=
  ⟨⟨on { s0 with pat := { desc := [(4096 * 31, [0, 0, 0, 0, 8, 0, 0, 0, 0, 0, 0, 0, 255, 15, 255, 15, 1] ++ List.replicate 15 0)], st := [(31, { started := true })] } } [(F.TMG_STATUS_streaming, 31, 0, 1), (F.PAT_STATUS_cur_seg, 31, 0, 0), (F.PAT_VIDX_vidx, 31, 0, 255)], 31, (by decide), (by decide)⟩,
   ⟨on { s0 with pat := { desc := [(4096 * 31, [0, 0, 0, 0, 8, 0, 0, 0, 0, 0, 0, 0, 255, 15, 255, 15, 1] ++ List.replicate 15 0)], st := [(31, { started := true, decided := some .again })] } } [(F.TMG_STATUS_streaming, 31, 0, 1), (F.TMG_STATUS_streaming, 31, 0, 1), (F.PAT_STATUS_cur_seg, 31, 0, 0), (F.PAT_VIDX_vidx, 31, 0, 511)], 31, (by decide), (by decide), (by decide), rfl, (by decide), (by decide)⟩,
   ⟨on { s0 with pat := { desc := [(4096 * 31, [0, 0, 0, 0, 8, 0, 0, 0, 0, 0, 0, 0, 255, 15, 255, 15, 1] ++ List.replicate 15 0)], st := [(31, { started := true, decided := some (.go 0) })] } } [(F.TMG_STATUS_streaming, 31, 0, 1), (F.TMG_STATUS_streaming, 31, 0, 1), (F.PAT_STATUS_cur_seg, 31, 0, 0), (F.PAT_VIDX_vidx, 31, 0, 511)], 31, 0, (by decide), (by decide), (by decide), rfl, (by decide), (by decide)⟩,
   ⟨on { s0 with pat := { desc := [(4096 * 31, [0, 0, 0, 0, 8, 0, 0, 0, 0, 0, 0, 0, 255, 15, 255, 15, 1] ++ List.replicate 15 0)], st := [(31, { started := true, decided := some (.go 0xFFF) })] } } [(F.TMG_STATUS_streaming, 31, 0, 1), (F.TMG_STATUS_streaming, 31, 0, 1), (F.PAT_STATUS_cur_seg, 31, 0, 0), (F.PAT_VIDX_vidx, 31, 0, 511)], 31, (by decide), (by decide), (by decide), rfl, (by decide)⟩,
   ⟨on { s0 with pat := { desc := [(4096 * 31, [0, 0, 0, 0, 8, 0, 0, 0, 0, 0, 0, 0, 255, 15, 255, 15, 1] ++ List.replicate 15 0)], st := [(31, { started := true, decided := some (.go 4094) })] } } [(F.TMG_STATUS_streaming, 31, 0, 1), (F.TMG_STATUS_streaming, 31, 0, 1), (F.PAT_STATUS_cur_seg, 31, 0, 0), (F.PAT_VIDX_vidx, 31, 0, 511)], 31, 4094, (by decide), (by decide), (by decide), rfl, (by decide), (by decide), (by decide)⟩,
   ⟨on { s0 with pat := { desc := [(4096 * 31, [0, 0, 0, 0, 8, 0, 0, 0, 0, 0, 0, 0, 255, 15, 255, 15, 1] ++ List.replicate 15 0)], st := [(31, {  })] } } [(F.TMG_STATUS_streaming, 31, 0, 1), (F.TMG_STATUS_streaming, 31, 0, 1), (F.PAT_STATUS_cur_seg, 31, 0, 0)], 31, [], (by decide), (by decide), (by decide), (by decide), (by decide), (by decide), (by decide)⟩,
   ⟨on { s0 with pat := { desc := [(4096 * 31, [0, 0, 0, 0, 8, 0, 0, 0, 0, 0, 0, 0, 255, 15, 255, 15, 1] ++ List.replicate 15 0)], st := [(31, {  })] }, bist := { corrupt := [(0, 1)] } } [(F.TMG_STATUS_streaming, 31, 0, 1), (F.TMG_STATUS_streaming, 31, 0, 1), (F.PAT_STATUS_cur_seg, 31, 0, 0)], 31, [], (by decide), (by decide), (by decide), (by decide), (by decide), (by decide)⟩⟩

theorem wit_PatternGenerators :
    (∃ (s : State) (c : Nat), c < 32 ∧ s.apgRuns c = true ∧ (s.apgCore c).left = 0 ∧ ((∀ q ∈ s.chain c, s.streaming q = true → (s.apgCore c).idx ≤ s.pair F.PAT_VCNT_LO_vcnt F.PAT_VCNT_HI_vcnt q)) ∧ bitsAt (s.apgWord c) 63 62 = 3) ∧
    (∃ (s : State) (c : Nat), c < 32 ∧ s.apgRuns c = true ∧ (s.apgCore c).left = 0 ∧ ((∀ q ∈ s.chain c, s.streaming q = true → (s.apgCore c).idx ≤ s.pair F.PAT_VCNT_LO_vcnt F.PAT_VCNT_HI_vcnt q)) ∧ bitsAt (s.apgWord c) 63 62 = 0) ∧
    (∃ (s : State) (c : Nat) (on : Bool), c < 32) ∧
    (∃ (s : State) (h : Hdr) (d : Sys2Proof.Data) (c : Nat) (on : Bool), c < 32 ∧ Ready s h ∧ dataFits d tBool) ∧
    (∃ (s : State) (c : Nat), c < 32) ∧
    (∃ (s : State) (c n : Nat), c < 32 ∧ n < 8) ∧
    (∃ (s : State) (h : Hdr) (d : Sys2Proof.Data) (c n : Nat), c < 32 ∧ n < 8 ∧ Ready s h ∧ dTrue d) ∧
    (∃ (s : State) (h : Hdr) (d : Sys2Proof.Data) (c : Nat), c < 32 ∧ Ready s h ∧ d.ty = tBlob ∧ d.bytes.length = 16) :=
  ⟨⟨on { s0 with apg := [(31, { live := true })] } [(F.APG_CTRL_en, 31, 0, 1), (F.APG_PROG_HI_instr, 31, 0, 3221225472)], 31, (by decide), (by decide), (by decide), (by decide), rfl⟩,
   ⟨on { s0 with apg := [(31, { live := true })] } [(F.APG_CTRL_en, 31, 0, 1)], 31, (by decide), (by decide), (by decide), (by decide), rfl⟩,
   ⟨s0, 31, true, (by decide)⟩,
   ⟨s0, h0, ⟨tBool, List.replicate 1 255⟩, 31, true, (by decide), (rdy rfl rfl rfl rfl rfl (by decide)), (fit rfl rfl)⟩,
   ⟨s0, 31, (by decide)⟩,
   ⟨s0, 31, 7, (by decide), (by decide)⟩,
   ⟨s0, h0, ⟨tBool, [1]⟩, 31, 7, (by decide), (by decide), (rdy rfl rfl rfl rfl rfl (by decide)), ⟨fit rfl rfl, by decide⟩⟩,
   ⟨s0, h0, ⟨tBlob, List.replicate 16 0⟩, 31, (by decide), (rdy rfl rfl rfl rfl rfl (by decide)), rfl, rfl⟩⟩

theorem wit_StepInstructions :
    (∃ (s : State) (k : Nat), VendorReady s k 0x00) ∧
    (∃ (s : State) (k : Nat), k < 256 ∧ s.running k = true ∧ (s.thr k).dec = true ∧ s.isHome k = true ∧ (s.thr k).tmask.testBit (k % 8) = false ∧ (s.thr k).pcSet = false) ∧
    (∃ (s : State) (k : Nat), VendorReady s k 0x10 ∧ ((bitsAt (s.thr k).opr 32 27 < 16 ∨ 47 < bitsAt (s.thr k).opr 32 27 ∨ s.condComplete k = true)) ∧ ((s.cond k (bitsAt (s.thr k).opr 32 27) = (s.thr k).opr.testBit 26 ∨ ¬(s.thr k).standing))) ∧
    (∃ (s : State) (k : Nat) (a : Step), VendorReady s k 0x10 ∧ bitsAt (s.thr k).opr 32 27 = 0 ∧ (s.thr k).opr.testBit 26 = false ∧ (s.thr k).nxt = [] ∧ (s.thr k).step = some a ∧ a.st = .launched ∧ s.siteOf k ∉ s.fc.parking) ∧
    (∃ (s : State) (k n v : Nat), VendorReady s k 0x11 ∧ n = bitsAt (s.thr k).opr 32 31 ∧ v = (if ((s.thr k).lc.drop n).headD 0 = 0 then max 1 (bitsAt (s.thr k).opr 30 0) else ((s.thr k).lc.drop n).headD 0) - 1 ∧ ((v = 0 ∨ ¬(s.thr k).standing))) ∧
    (∃ (s : State) (k : Nat), VendorReady s k 0x12 ∧ (s.thr k).sstack.length < 4 ∧ ¬(s.thr k).standing) ∧
    (∃ (s : State) (k : Nat), VendorReady s k 0x12 ∧ 4 ≤ (s.thr k).sstack.length) ∧
    (∃ (s : State) (k a : Nat) (rest : List Nat), VendorReady s k 0x13 ∧ (s.thr k).sstack = a :: rest) ∧
    (∃ (s : State) (k : Nat), VendorReady s k 0x13 ∧ (s.thr k).sstack = []) ∧
    (∃ (s : State) (k : Nat), VendorReady s k 0x03) ∧
    (∃ (s : State) (k : Nat), VendorReady s k 0x30) ∧
    (∃ (s : State) (k : Nat), VendorReady s k 0x18) ∧
    (∃ (s : State) (k : Nat), VendorReady s k 0x19) ∧
    (∃ (s : State) (k : Nat), VendorReady s k 0x20 ∧ (s.thr k).opr.testBit 31 = false) ∧
    (∃ (s : State) (k : Nat), VendorReady s k 0x21 ∧ (s.thr k).posts < 32) ∧
    (∃ (s : State) (k : Nat), VendorReady s k 0x02) ∧
    (∃ (s : State) (k : Nat), VendorReady s k 0x01 ∧ s.fc.parking.contains (s.siteOf k) = false ∧ (s.thr k).posts < 32) :=
  ⟨⟨ven 0 {  }, 255, ⟨by decide, by decide, by decide, by decide, by decide, by decide, by decide, by decide, by decide⟩⟩,
   ⟨thr { dec := true, tmask := 0x7F }, 255, (by decide), (by decide), (by decide), (by decide), (by decide), (by decide)⟩,
   ⟨ven 16 {  }, 255, ⟨by decide, by decide, by decide, by decide, by decide, by decide, by decide, by decide, by decide⟩, (.inl (by decide)), (.inr (nst rfl))⟩,
   ⟨ven 16 { step := some (stp .launched) }, 255, stp .launched, ⟨by decide, by decide, by decide, by decide, by decide, by decide, by decide, by decide, by decide⟩, rfl, (by decide), (by decide), (by decide), rfl, (by decide)⟩,
   ⟨ven 17 {  }, 255, 0, 0, ⟨by decide, by decide, by decide, by decide, by decide, by decide, by decide, by decide, by decide⟩, rfl, rfl, (.inl (by decide))⟩,
   ⟨ven 18 { sstack := [1, 2, 3] }, 255, ⟨by decide, by decide, by decide, by decide, by decide, by decide, by decide, by decide, by decide⟩, (by decide), (nst rfl)⟩,
   ⟨ven 18 { sstack := [1, 2, 3, 4] }, 255, ⟨by decide, by decide, by decide, by decide, by decide, by decide, by decide, by decide, by decide⟩, (by decide)⟩,
   ⟨ven 19 { sstack := [9] }, 255, 9, [], ⟨by decide, by decide, by decide, by decide, by decide, by decide, by decide, by decide, by decide⟩, (by decide)⟩,
   ⟨ven 19 {  }, 255, ⟨by decide, by decide, by decide, by decide, by decide, by decide, by decide, by decide, by decide⟩, (by decide)⟩,
   ⟨ven 3 {  }, 255, ⟨by decide, by decide, by decide, by decide, by decide, by decide, by decide, by decide, by decide⟩⟩,
   ⟨ven 48 {  }, 255, ⟨by decide, by decide, by decide, by decide, by decide, by decide, by decide, by decide, by decide⟩⟩,
   ⟨ven 24 {  }, 255, ⟨by decide, by decide, by decide, by decide, by decide, by decide, by decide, by decide, by decide⟩⟩,
   ⟨ven 25 {  }, 255, ⟨by decide, by decide, by decide, by decide, by decide, by decide, by decide, by decide, by decide⟩⟩,
   ⟨ven 32 { posts := 31 }, 255, ⟨by decide, by decide, by decide, by decide, by decide, by decide, by decide, by decide, by decide⟩, (by decide)⟩,
   ⟨ven 33 {  }, 255, ⟨by decide, by decide, by decide, by decide, by decide, by decide, by decide, by decide, by decide⟩, (by decide)⟩,
   ⟨ven 2 { posts := 31 }, 255, ⟨by decide, by decide, by decide, by decide, by decide, by decide, by decide, by decide, by decide⟩⟩,
   ⟨ven 1 {  }, 255, ⟨by decide, by decide, by decide, by decide, by decide, by decide, by decide, by decide, by decide⟩, (by decide), (by decide)⟩⟩

theorem wit_StepRequests :
    (∃ (s : State) (k : Nat), VendorReady s k 0x08 ∧ (s.thr k).asking = false ∧ (s.thr k).ctxf.isSome = true ∧ s.ctxReady k = true ∧ ((s.tstate k = stRunning ∨ s.tstate k = stWaiting))) ∧
    (∃ (s : State) (k : Nat), VendorReady s k 0x09 ∧ (s.thr k).asking = false ∧ (s.thr k).ctxf.isSome = true ∧ s.ctxReady k = true ∧ ((s.tstate k = stRunning ∨ s.tstate k = stWaiting))) ∧
    (∃ (s : State) (k : Nat), VendorReady s k 0x0A ∧ (s.thr k).asking = false ∧ (s.thr k).ctxf.isSome = true ∧ s.ctxReady k = true ∧ ((s.tstate k = stRunning ∨ s.tstate k = stWaiting))) ∧
    (∃ (s : State) (k : Nat), VendorReady s k 0x28 ∧ (s.thr k).asking = false ∧ (s.thr k).waitUntil = none ∧ ((s.tstate k = stRunning ∨ s.tstate k = stWaiting))) ∧
    (∃ (s : State) (k : Nat), s.inRoutine k = true ∧ (s.thr k).service = some 0 ∧ s.isHome k = true ∧ (s.thr k).asking = false ∧ (s.thr k).ctxf.isSome = true ∧ s.ctxReady k = true) ∧
    (∃ (s : State) (k n : Nat) (rest : List Nat), s.inRoutine k = true ∧ (s.thr k).service = some 0 ∧ s.isHome k = false ∧ (s.thr k).issued = n :: rest ∧ oprCount (s.thr k).opr = 0) ∧
    (∃ (s : State) (k n : Nat) (rest : List Nat), s.inRoutine k = true ∧ (s.thr k).service = some 0 ∧ s.isHome k = false ∧ (s.thr k).issued = n :: rest ∧ ((∀ (a : Step), a.kind = .issue → a.ctx = oprCtx (s.thr k).opr → a.count = oprCount (s.thr k).opr → s.roomFor (s.stepRecs k a) = true))) :=
  ⟨⟨on (ven 8 { ctxf := some (0, 0) }) [(F.SEQ_TSTAT_state, 31, 7, 1)], 255, ⟨by decide, by decide, by decide, by decide, by decide, by decide, by decide, by decide, by decide⟩, (by decide), (by decide), (by decide), (by decide)⟩,
   ⟨on (ven 9 { ctxf := some (0, 0) }) [(F.SEQ_TSTAT_state, 31, 7, 1)], 255, ⟨by decide, by decide, by decide, by decide, by decide, by decide, by decide, by decide, by decide⟩, (by decide), (by decide), (by decide), (by decide)⟩,
   ⟨on (ven 10 { ctxf := some (0, 0) }) [(F.SEQ_TSTAT_state, 31, 7, 1)], 255, ⟨by decide, by decide, by decide, by decide, by decide, by decide, by decide, by decide, by decide⟩, (by decide), (by decide), (by decide), (by decide)⟩,
   ⟨on (ven 40 {  }) [(F.SEQ_TSTAT_state, 31, 7, 2)], 255, ⟨by decide, by decide, by decide, by decide, by decide, by decide, by decide, by decide, by decide⟩, (by decide), (by decide), (by decide)⟩,
   ⟨thr { dec := true, service := some 0, ctxf := some (0, 0) }, 255, (by decide), (by decide), (by decide), (by decide), (by decide), (by decide)⟩,
   ⟨on (thr { dec := true, service := some 0, issued := [5] }) [(F.SEQ_TCFG_home, 31, 7, 0)], 255, 5, [], (by decide), (by decide), (by decide), (by decide), rfl⟩,
   ⟨on (thr { dec := true, service := some 0, issued := [5] }) [(F.SEQ_TCFG_home, 31, 7, 0)], 255, 5, [], (by decide), (by decide), (by decide), (by decide), (room0 (by decide) rfl (by decide +kernel))⟩⟩

theorem wit_StepBoundaries :
    (∃ (s : State) (k : Nat), k < 256 ∧ s.running k = true ∧ (s.thr k).dec = false ∧ s.tstate k ≠ stWaiting ∧ s.noneDue ∧ s.noOpen k ∧ (s.thr k).stopReq = true ∧ s.fc.parking.contains (s.siteOf k) = false) ∧
    (∃ (s : State) (k : Nat), k < 256 ∧ s.running k = true ∧ (s.thr k).dec = false ∧ s.tstate k ≠ stWaiting ∧ s.noneDue ∧ s.noOpen k ∧ (s.thr k).stopReq = false ∧ s.siteParked (s.siteOf k) = false ∧ s.siteOf k ∉ s.rk.stopAsked ∧ s.bit F.SEQ_STATUS_mc (k / 8) = true) ∧
    (∃ (s : State) (k : Nat), k < 256 ∧ s.running k = true ∧ (s.thr k).dec = false ∧ s.tstate k ≠ stWaiting ∧ s.noneDue ∧ s.noOpen k ∧ (s.thr k).stopReq = false ∧ s.siteParked (s.siteOf k) = false ∧ s.siteOf k ∉ s.rk.stopAsked ∧ s.bit F.SEQ_STATUS_mc (k / 8) = false ∧ s.bitOf F.SEQ_TCTRL_hold (k / 8) 0 (k % 8) = true) ∧
    (∃ (s : State) (k : Nat), k < 256 ∧ s.running k = true ∧ (s.thr k).dec = false ∧ s.tstate k ≠ stWaiting ∧ s.noneDue ∧ s.noOpen k ∧ (s.thr k).stopReq = false ∧ s.siteParked (s.siteOf k) = false ∧ s.siteOf k ∉ s.rk.stopAsked ∧ s.bit F.SEQ_STATUS_mc (k / 8) = false ∧ s.bitOf F.SEQ_TCTRL_hold (k / 8) 0 (k % 8) = false ∧ s.ringFull = false ∧ s.postQ k = [] ∧ (s.thr k).holds = [] ∧ s.isHome k = true ∧ (s.thr k).pastEnd = false ∧ s.regOff k (s.spc k) < s.regLen k ∧ reservedOp (opOf ((s.fetchSteps k).nextWord k)) = false ∧ ((opOf ((s.fetchSteps k).nextWord k) < 0xC0 ∨ s.bit F.SEQ_STATUS_cust_block (k / 8) = false))) ∧
    (∃ (s : State) (k : Nat), k < 256 ∧ s.running k = true ∧ (s.thr k).dec = false ∧ s.tstate k ≠ stWaiting ∧ s.noneDue ∧ s.noOpen k ∧ (s.thr k).stopReq = false ∧ s.siteParked (s.siteOf k) = false ∧ s.siteOf k ∉ s.rk.stopAsked ∧ s.bit F.SEQ_STATUS_mc (k / 8) = false ∧ s.bitOf F.SEQ_TCTRL_hold (k / 8) 0 (k % 8) = false ∧ s.ringFull = false ∧ s.postQ k = [] ∧ (s.thr k).holds = [] ∧ s.isHome k = true ∧ (s.thr k).pastEnd = false ∧ s.regOff k (s.spc k) < s.regLen k ∧ (maskField ((s.fetchSteps k).nextWord k)).testBit (k % 8) = true ∧ reservedOp (opOf ((s.fetchSteps k).nextWord k)) = true) ∧
    (∃ (s : State) (k : Nat) (a : Step), k < 256 ∧ s.running k = true ∧ (s.thr k).dec = false ∧ s.tstate k ≠ stWaiting ∧ s.noneDue ∧ (s.thr k).step = some a ∧ a.st = .launched ∧ a.d = none ∧ (s.thr k).nxt = [] ∧ (s.thr k).stopReq = true ∧ s.siteOf k ∉ s.fc.parking) ∧
    (∃ (s : State) (k w : Nat) (rest : List LinkMsg), k < 256 ∧ s.running k = true ∧ (s.thr k).dec = false ∧ s.tstate k = stRunning ∧ s.noneDue ∧ s.noOpen k ∧ (s.thr k).stopReq = false ∧ s.siteParked (s.siteOf k) = false ∧ s.bit F.SEQ_STATUS_mc (k / 8) = false ∧ s.bitOf F.SEQ_TCTRL_hold (k / 8) 0 (k % 8) = false ∧ s.ringFull = false ∧ s.postQ k = [] ∧ (s.thr k).holds = [] ∧ s.isHome k = false ∧ (s.thr k).link = .instr w :: rest ∧ s.bit F.SEQ_STATUS_cust_block (k / 8) = false) ∧
    (∃ (s : State) (k : Nat) (a : Step) (rest : List LinkMsg), k < 256 ∧ s.running k = true ∧ (s.thr k).dec = false ∧ s.tstate k = stRunning ∧ s.noneDue ∧ s.noOpen k ∧ (s.thr k).stopReq = false ∧ s.siteParked (s.siteOf k) = false ∧ s.bit F.SEQ_STATUS_mc (k / 8) = false ∧ s.bitOf F.SEQ_TCTRL_hold (k / 8) 0 (k % 8) = false ∧ s.ringFull = false ∧ s.postQ k = [] ∧ (s.thr k).holds = [] ∧ s.isHome k = false ∧ (s.thr k).link = .step a :: rest ∧ a.count = 0 ∧ a.kind = .level) ∧
    (∃ (s : State) (k : Nat), k < 256 ∧ s.running k = true ∧ s.bit F.CTX_CTRL_pf_en (k / 8) = true ∧ (s.cache (k / 8)).missing = [] ∧ (s.cache (k / 8)).waiting = []) :=
  ⟨⟨thr { stopReq := true }, 255, (by decide), (by decide), (by decide), (by decide), (nd (by decide)), (no (by decide)), (by decide), (by decide)⟩,
   ⟨on (thr {}) [(F.SEQ_STATUS_mc, 31, 0, 1)], 255, (by decide), (by decide), (by decide), (by decide), (nd (by decide)), (no (by decide)), (by decide), (by decide), (by decide), (by decide)⟩,
   ⟨on (thr {}) [(F.SEQ_STATUS_mc, 31, 0, 0), (F.SEQ_TCTRL_hold, 31, 0, 128)], 255, (by decide), (by decide), (by decide), (by decide), (nd (by decide)), (no (by decide)), (by decide), (by decide), (by decide), (by decide), (by decide)⟩,
   ⟨on (thr {}) [(F.SEQ_STATUS_mc, 31, 0, 0), (F.SEQ_TREGION_base, 31, 7, 0)], 255, (by decide), (by decide), (by decide), (by decide), (nd (by decide)), (no (by decide)), (by decide), (by decide), (by decide), (by decide), (by decide), (by decide), rfl, (by decide), (by decide), (by decide), (by decide), (by decide), (by decide)⟩,
   ⟨on { thr {} with seq := { (thr {}).seq with stepMem := [(32768 * 31, 0x7FFF000000000000)] } } [(F.SEQ_STATUS_mc, 31, 0, 0), (F.SEQ_TREGION_base, 31, 7, 0)], 255, (by decide), (by decide), (by decide), (by decide), (nd (by decide)), (no (by decide)), (by decide), (by decide), (by decide), (by decide), (by decide), (by decide), rfl, (by decide), (by decide), (by decide), (by decide), (by decide), (by decide)⟩,
   ⟨thr { step := some { stp .launched with d := none }, stopReq := true }, 255, { stp .launched with d := none }, (by decide), (by decide), (by decide), (by decide), (nd (by decide)), (by decide), rfl, rfl, (by decide), (by decide), (by decide)⟩,
   ⟨on (thr { link := [.instr 0] }) [(F.SEQ_STATUS_mc, 31, 0, 0), (F.SEQ_STATUS_cust_block, 31, 0, 0), (F.SEQ_TCFG_home, 31, 7, 0), (F.SEQ_TSTAT_state, 31, 7, 1)], 255, 0, [], (by decide), (by decide), (by decide), rfl, (nd (by decide)), (no (by decide)), (by decide), (by decide), (by decide), (by decide), (by decide), rfl, (by decide), (by decide), (by decide), (by decide)⟩,
   ⟨on (thr { link := [.step { stp .launched with kind := .level }] }) [(F.SEQ_STATUS_mc, 31, 0, 0), (F.SEQ_TCFG_home, 31, 7, 0), (F.SEQ_TSTAT_state, 31, 7, 1)], 255, { stp .launched with kind := .level }, [], (by decide), (by decide), (by decide), rfl, (nd (by decide)), (no (by decide)), (by decide), (by decide), (by decide), (by decide), (by decide), rfl, (by decide), (by decide), (by decide), rfl, rfl⟩,
   ⟨on (thr {}) [(F.CTX_CTRL_pf_en, 31, 0, 1)], 255, (by decide), (by decide), (by decide), (by decide), (by decide)⟩⟩

theorem wit_ThreadCommands :
    (∃ (s : State) (k : Nat), k < 256 ∧ (k / 8) ∉ s.fc.derated ∧ s.running k = false ∧ s.bit F.SEQ_CTRL_en (k / 8) = true ∧ s.autonomous k = true) ∧
    (∃ (s : State) (k : Nat), k < 256 ∧ (k / 8) ∉ s.fc.derated ∧ s.running k = false ∧ s.bit F.SEQ_CTRL_en (k / 8) = true ∧ s.autonomous k = false) ∧
    (∃ (s : State) (h : Hdr) (d : Sys2Proof.Data) (k : Nat), k < 256 ∧ Ready s h ∧ dTrue d ∧ (k / 8) ∉ s.fc.derated ∧ s.running k = false ∧ s.bit F.SEQ_CTRL_en (k / 8) = true ∧ s.autonomous k = false) ∧
    (∃ (s : State) (k : Nat), k < 256 ∧ s.running k = true ∧ s.tstate k ≠ stHeld) ∧
    (∃ (s : State) (h : Hdr) (d : Sys2Proof.Data) (k : Nat), k < 256 ∧ Ready s h ∧ dTrue d ∧ s.running k = true ∧ s.tstate k ≠ stHeld) ∧
    (∃ (s : State) (k : Nat), k < 256) ∧
    (∃ (s : State) (h : Hdr) (d : Sys2Proof.Data) (k : Nat), k < 256 ∧ Ready s h ∧ dTrue d) ∧
    (∃ (s : State) (k m : Nat), k < 256) ∧
    (∃ (s : State) (h : Hdr) (d : Sys2Proof.Data) (k m : Nat), k < 256 ∧ Ready s h ∧ dataFits d tU8) ∧
    (∃ (s : State) (c : Nat), c < 32 ∧ s.bit F.SEQ_STATUS_mc c = true ∧ c ∉ s.fc.derated) ∧
    (∃ (s : State) (h : Hdr) (d : Sys2Proof.Data) (c n : Nat), c < 32 ∧ Ready s h ∧ d.ty = tBlob ∧ d.bytes.length = 10 ∧ n = dSub d 0 2 % 32768) ∧
    (∃ (s : State) (h : Hdr) (d : Sys2Proof.Data) (k : Nat), k < 256 ∧ Ready s h ∧ d.ty = tBlob ∧ d.bytes.length = 9 ∧ s.running k = false) ∧
    (∃ (s : State) (h : Hdr) (d : Sys2Proof.Data) (k : Nat), k < 256 ∧ Ready s h ∧ d.ty = tBlob ∧ d.bytes.length = 9 ∧ s.running k = true) ∧
    (∃ (s : State) (h : Hdr) (d : Sys2Proof.Data) (k : Nat), k < 256 ∧ Ready s h ∧ d.ty = tBlob ∧ d.bytes.length = 18 ∧ s.running k = false) ∧
    (∃ (s : State) (h : Hdr) (d : Sys2Proof.Data) (c : Nat), c < 32 ∧ Ready s h ∧ dataFits d tU64) :=
  ⟨⟨on { s0 with seq := { s0.seq with stepMem := [(32768 * 31, 0x0180000000000000)] } } [(F.SEQ_CTRL_en, 31, 0, 1), (F.SEQ_TREGION_base, 31, 7, 0)], 255, (by decide), (by decide), (by decide), (by decide), (by decide +kernel)⟩,
   ⟨on s0 [(F.SEQ_CTRL_en, 31, 0, 1), (F.SEQ_TREGION_len, 31, 7, 1), (F.SEQ_TCFG_entry, 31, 7, 1)], 255, (by decide), (by decide), (by decide), (by decide), (by decide +kernel)⟩,
   ⟨on s0 [(F.SEQ_CTRL_en, 31, 0, 1), (F.SEQ_TREGION_len, 31, 7, 1), (F.SEQ_TCFG_entry, 31, 7, 1)], h0, ⟨tBool, [1]⟩, 255, (by decide), (rdy rfl rfl rfl rfl rfl (by decide)), ⟨fit rfl rfl, by decide⟩, (by decide), (by decide), (by decide), (by decide +kernel)⟩,
   ⟨thr {}, 255, (by decide), (by decide), (by decide)⟩,
   ⟨thr {}, h0, ⟨tBool, [1]⟩, 255, (by decide), (rdy rfl rfl rfl rfl rfl (by decide)), ⟨fit rfl rfl, by decide⟩, (by decide), (by decide)⟩,
   ⟨s0, 255, (by decide)⟩,
   ⟨s0, h0, ⟨tBool, [1]⟩, 255, (by decide), (rdy rfl rfl rfl rfl rfl (by decide)), ⟨fit rfl rfl, by decide⟩⟩,
   ⟨s0, 255, 0, (by decide)⟩,
   ⟨s0, h0, ⟨tU8, List.replicate 1 255⟩, 255, 0, (by decide), (rdy rfl rfl rfl rfl rfl (by decide)), (fit rfl rfl)⟩,
   ⟨on s0 [(F.SEQ_STATUS_mc, 31, 0, 1)], 31, (by decide), (by decide), (by decide)⟩,
   ⟨s0, h0, ⟨tBlob, List.replicate 10 0⟩, 31, 0, (by decide), (rdy rfl rfl rfl rfl rfl (by decide)), rfl, rfl, rfl⟩,
   ⟨s0, h0, ⟨tBlob, List.replicate 9 0⟩, 255, (by decide), (rdy rfl rfl rfl rfl rfl (by decide)), rfl, rfl, (by decide)⟩,
   ⟨thr {}, h0, ⟨tBlob, List.replicate 9 0⟩, 255, (by decide), (rdy rfl rfl rfl rfl rfl (by decide)), rfl, rfl, (by decide)⟩,
   ⟨s0, h0, ⟨tBlob, List.replicate 18 0⟩, 255, (by decide), (rdy rfl rfl rfl rfl rfl (by decide)), rfl, rfl, (by decide)⟩,
   ⟨s0, h0, ⟨tU64, List.replicate 8 255⟩, 31, (by decide), (rdy rfl rfl rfl rfl rfl (by decide)), (fit rfl rfl)⟩⟩

theorem wit_AluOperations :
    (∃ (s : State) (k : Nat), AluReady s k 0x01) ∧
    (∃ (s : State) (k : Nat), AluReady s k 0x02) ∧
    (∃ (s : State) (k : Nat), AluReady s k 0x03) ∧
    (∃ (s : State) (k : Nat), AluReady s k 0x0A) ∧
    (∃ (s : State) (k : Nat), AluReady s k 0x04) ∧
    (∃ (s : State) (k : Nat), AluReady s k 0x0B) ∧
    (∃ (s : State) (k : Nat), AluReady s k 0x05) ∧
    (∃ (s : State) (k : Nat), AluReady s k 0x06) ∧
    (∃ (s : State) (k : Nat), AluReady s k 0x07) ∧
    (∃ (s : State) (k : Nat), AluReady s k 0x08) ∧
    (∃ (s : State) (k : Nat), AluReady s k 0x09) ∧
    (∃ (s : State) (k : Nat), AluReady s k 0x0C) ∧
    (∃ (s : State) (k : Nat), AluReady s k 0x0D) ∧
    (∃ (s : State) (k : Nat), AluReady s k 0x0E) ∧
    (∃ (s : State) (k : Nat), AluReady s k 0x0F) ∧
    (∃ (s : State) (k w : Nat), AluReady s k 0x10 ∧ w = (s.aluB k).toNat / 64 % 64) ∧
    (∃ (s : State) (k : Nat), AluReady s k 0x11) ∧
    (∃ (s : State) (k : Nat), AluReady s k 0x12) ∧
    (∃ (s : State) (k : Nat), AluReady s k 0x13) :=
  ⟨⟨mic (1 * 2 ^ 99) { phase := .alu }, 255, ⟨by decide, by decide, by decide⟩⟩,
   ⟨mic (2 * 2 ^ 99) { phase := .alu }, 255, ⟨by decide, by decide, by decide⟩⟩,
   ⟨mic (3 * 2 ^ 99) { phase := .alu }, 255, ⟨by decide, by decide, by decide⟩⟩,
   ⟨mic (10 * 2 ^ 99) { phase := .alu }, 255, ⟨by decide, by decide, by decide⟩⟩,
   ⟨mic (4 * 2 ^ 99) { phase := .alu }, 255, ⟨by decide, by decide, by decide⟩⟩,
   ⟨mic (11 * 2 ^ 99) { phase := .alu }, 255, ⟨by decide, by decide, by decide⟩⟩,
   ⟨mic (5 * 2 ^ 99) { phase := .alu }, 255, ⟨by decide, by decide, by decide⟩⟩,
   ⟨mic (6 * 2 ^ 99) { phase := .alu }, 255, ⟨by decide, by decide, by decide⟩⟩,
   ⟨mic (7 * 2 ^ 99) { phase := .alu }, 255, ⟨by decide, by decide, by decide⟩⟩,
   ⟨mic (8 * 2 ^ 99) { phase := .alu }, 255, ⟨by decide, by decide, by decide⟩⟩,
   ⟨mic (9 * 2 ^ 99) { phase := .alu }, 255, ⟨by decide, by decide, by decide⟩⟩,
   ⟨mic (12 * 2 ^ 99) { phase := .alu }, 255, ⟨by decide, by decide, by decide⟩⟩,
   ⟨mic (13 * 2 ^ 99) { phase := .alu }, 255, ⟨by decide, by decide, by decide⟩⟩,
   ⟨mic (14 * 2 ^ 99) { phase := .alu }, 255, ⟨by decide, by decide, by decide⟩⟩,
   ⟨mic (15 * 2 ^ 99) { phase := .alu }, 255, ⟨by decide, by decide, by decide⟩⟩,
   ⟨mic (16 * 2 ^ 99) { phase := .alu }, 255, 0, ⟨by decide, by decide, by decide⟩, rfl⟩,
   ⟨mic (17 * 2 ^ 99) { phase := .alu }, 255, ⟨by decide, by decide, by decide⟩⟩,
   ⟨mic (18 * 2 ^ 99) { phase := .alu }, 255, ⟨by decide, by decide, by decide⟩⟩,
   ⟨mic (19 * 2 ^ 99) { phase := .alu }, 255, ⟨by decide, by decide, by decide⟩⟩⟩

theorem wit_UnitOperations :
    (∃ (s : State) (k : Nat), (s.thr k).outbox.length < 32) ∧
    (∃ (s : State) (k : Nat), s.isHome k = false ∧ UnitReady s k 0x0B) ∧
    (∃ (s : State) (k : Nat), s.isHome k = false ∧ UnitReady s k 0x08 ∧ (s.thr k).issued = []) ∧
    (∃ (s : State) (k n : Nat) (rest : List Nat), s.isHome k = false ∧ UnitReady s k 0x08 ∧ (s.thr k).issued = n :: rest) ∧
    (∃ (s : State) (k : Nat), s.isHome k = false ∧ UnitReady s k 0x07) ∧
    (∃ (s : State) (k : Nat), 32 ≤ (s.thr k).outbox.length ∧ UnitReady s k 0x0D) ∧
    (∃ (s : State) (k i : Nat), UnitReady s k 0x0A ∧ i = (wUarg (s.microword k) + (s.aluB k).toNat % 8192) % 8192) ∧
    (∃ (s : State) (k : Nat), UnitReady s k 0x01) ∧
    (∃ (s : State) (k : Nat), UnitReady s k 0x14 ∧ wUarg (s.microword k) = 4) ∧
    (∃ (s : State) (k : Nat) (e : RxEntry) (rest : List RxEntry), UnitReady s k 0x10 ∧ (s.thr k).outbox = [] ∧ (s.eng (k / 8)).rxq = e :: rest) ∧
    (∃ (s : State) (k n : Nat), UnitReady s k 0x07 ∧ s.isHome k = true ∧ n = ((s.thr k).ur (s.microword k)).toNat ∧ s.slotFrom k n < 2 ^ 64) ∧
    (∃ (s : State) (k : Nat), UnitReady s k 0x06 ∧ (s.aluB k).toNat % 256 = 0) ∧
    (∃ (s : State) (k : Nat), UnitReady s k 0x03 ∧ (s.aluB k).toNat % 256 = 0 ∧ (s.cache (k / 8)).waiting = [] ∧ ((s.cache (k / 8)).entries.filter (fun e => e.locked)).length ≤ 512 ∧ k < 256) :=
  ⟨⟨s0, 0, (by decide)⟩,
   ⟨on (mic (11 * 2 ^ 81) { phase := .unit }) [(F.SEQ_TCFG_home, 31, 7, 0)], 255, (by decide), ⟨by decide, by decide, by decide⟩⟩,
   ⟨on (mic (8 * 2 ^ 81) { phase := .unit }) [(F.SEQ_TCFG_home, 31, 7, 0)], 255, (by decide), ⟨by decide, by decide, by decide⟩, (by decide)⟩,
   ⟨on (mic (8 * 2 ^ 81) { phase := .unit, issued := [5] }) [(F.SEQ_TCFG_home, 31, 7, 0)], 255, 5, [], (by decide), ⟨by decide, by decide, by decide⟩, (by decide)⟩,
   ⟨on (mic (7 * 2 ^ 81) { phase := .unit }) [(F.SEQ_TCFG_home, 31, 7, 0)], 255, (by decide), ⟨by decide, by decide, by decide⟩⟩,
   ⟨mic (13 * 2 ^ 81) { phase := .unit, outbox := List.replicate 32 .post }, 255, (by decide), ⟨by decide, by decide, by decide⟩⟩,
   ⟨mic (10 * 2 ^ 81) { phase := .unit }, 255, 0, ⟨by decide, by decide, by decide⟩, rfl⟩,
   ⟨mic (1 * 2 ^ 81) { phase := .unit }, 255, ⟨by decide, by decide, by decide⟩⟩,
   ⟨mic (20 * 2 ^ 81 + 4 * 2 ^ 64) { phase := .unit }, 255, ⟨by decide, by decide, by decide⟩, rfl⟩,
   ⟨{ mic (16 * 2 ^ 81) { phase := .unit } with ser := [(31, { rxq := [{ data := 5, bits := 8, tpl := 0, phase := 0 }] })] }, 255, { data := 5, bits := 8, tpl := 0, phase := 0 }, [], ⟨by decide, by decide, by decide⟩, (by decide), (by decide)⟩,
   ⟨mic (7 * 2 ^ 81) { phase := .unit }, 255, 0, ⟨by decide, by decide, by decide⟩, (by decide), rfl, (by decide)⟩,
   ⟨mic (6 * 2 ^ 81) { phase := .unit }, 255, ⟨by decide, by decide, by decide⟩, (by decide)⟩,
   ⟨mic (3 * 2 ^ 81) { phase := .unit }, 255, ⟨by decide, by decide, by decide⟩, (by decide), (by decide), (by decide), (by decide)⟩⟩

theorem wit_MicroSequencing :
    (∃ (s : State) (k : Nat), SeqReady s k 0) ∧
    (∃ (s : State) (k : Nat), SeqReady s k 1) ∧
    (∃ (s : State) (k : Nat), SeqReady s k 2 ∧ (s.thr k).m.ustack.length < 4) ∧
    (∃ (s : State) (k : Nat), SeqReady s k 2 ∧ 4 ≤ (s.thr k).m.ustack.length) ∧
    (∃ (s : State) (k a : Nat) (rest : List Nat), SeqReady s k 3 ∧ (s.thr k).m.ustack = a :: rest) ∧
    (∃ (s : State) (k : Nat), SeqReady s k 3 ∧ (s.thr k).m.ustack = []) ∧
    (∃ (s : State) (k : Nat), SeqReady s k 4 ∧ (s.thr k).outbox = []) ∧
    (∃ (s : State) (k a : Nat), SeqReady s k 4 ∧ (s.thr k).outbox = [.timer a]) ∧
    (∃ (s : State) (k : Nat), SeqReady s k 5 ∧ (s.thr k).outbox = [] ∧ (s.thr k).pcSet = false) ∧
    (∃ (s : State) (k : Nat), SeqReady s k 6 ∧ (s.thr k).pcSet = false) ∧
    (∃ (s : State) (k op e : Nat), s.inRoutine k = true ∧ (s.thr k).phase = .idle ∧ op = s.fld F.SEQ_TSTAT_opcode (k / 8) (k % 8) ∧ 0xC0 ≤ op ∧ ((s.isHome k = true → (s.thr k).tmask.testBit (k % 8) = true)) ∧ e = (s.store (k / 8)).entry op ∧ e.testBit 13 = true ∧ s.entryBad k op false = false) ∧
    (∃ (s : State) (k op : Nat), s.inRoutine k = true ∧ (s.thr k).phase = .idle ∧ op = s.fld F.SEQ_TSTAT_opcode (k / 8) (k % 8) ∧ 0xC0 ≤ op ∧ ((s.isHome k = true → (s.thr k).tmask.testBit (k % 8) = true)) ∧ ((s.store (k / 8)).entry op).testBit 13 = false ∧ s.entryBad k op false = false) ∧
    (∃ (s : State) (k : Nat), UnitReady s k 0x17 ∧ (s.thr k).service = none ∧ custBase ≤ (s.thr k).upc ∧ (s.thr k).outbox = [] ∧ s.wordBad k false = false ∧ wUarg (s.microword k) < 3) ∧
    (∃ (s : State) (k : Nat), s.inRoutine k = true ∧ (s.thr k).service = some 1 ∧ s.condComplete k = true ∧ s.isHome k = false ∧ (s.thr k).pcSet = false) ∧
    (∃ (s : State) (k : Nat), s.inRoutine k = true ∧ (s.thr k).service = some 2 ∧ s.fld F.SEQ_CTRL_stream_owner (k / 8) ≠ k % 8) ∧
    (∃ (s : State) (k : Nat), s.inRoutine k = true ∧ (s.thr k).service = some 2 ∧ s.fld F.SEQ_CTRL_stream_owner (k / 8) = k % 8 ∧ s.bist.run = none ∧ 16 < s.credits (k / 8) ∧ s.md.pend = [] ∧ s.queue (k / 8) = []) ∧
    (∃ (s : State) (k : Nat), SeqReady s k 0 ∧ actPhase (s.microword k) = .seq ∧ (s.thr k).retried = false ∧ k < 256) :=
  ⟨⟨mic (0 * 2 ^ 112) { phase := .seq }, 255, ⟨by decide, by decide, by decide, by decide, by decide⟩⟩,
   ⟨mic (1 * 2 ^ 112) { phase := .seq }, 255, ⟨by decide, by decide, by decide, by decide, by decide⟩⟩,
   ⟨mic (2 * 2 ^ 112) { phase := .seq, m := { ustack := [1, 2, 3] } }, 255, ⟨by decide, by decide, by decide, by decide, by decide⟩, (by decide)⟩,
   ⟨mic (2 * 2 ^ 112) { phase := .seq, m := { ustack := [1, 2, 3, 4] } }, 255, ⟨by decide, by decide, by decide, by decide, by decide⟩, (by decide)⟩,
   ⟨mic (3 * 2 ^ 112) { phase := .seq, m := { ustack := [9] } }, 255, 9, [], ⟨by decide, by decide, by decide, by decide, by decide⟩, (by decide)⟩,
   ⟨mic (3 * 2 ^ 112) { phase := .seq }, 255, ⟨by decide, by decide, by decide, by decide, by decide⟩, (by decide)⟩,
   ⟨mic (4 * 2 ^ 112) { phase := .seq }, 255, ⟨by decide, by decide, by decide, by decide, by decide⟩, (by decide)⟩,
   ⟨mic (4 * 2 ^ 112) { phase := .seq, outbox := [.timer 9] }, 255, 9, ⟨by decide, by decide, by decide, by decide, by decide⟩, (by decide)⟩,
   ⟨mic (5 * 2 ^ 112) { phase := .seq }, 255, ⟨by decide, by decide, by decide, by decide, by decide⟩, (by decide), (by decide)⟩,
   ⟨mic (6 * 2 ^ 112) { phase := .seq }, 255, ⟨by decide, by decide, by decide, by decide, by decide⟩, (by decide)⟩,
   ⟨dsp 255 8192 {}, 255, 255, dispParity 8192, (by decide), (by decide), rfl, (by decide), (by decide), rfl, (by decide), (by decide)⟩,
   ⟨dsp 255 0 {}, 255, 255, (by decide), (by decide), rfl, (by decide), (by decide), (by decide), (by decide)⟩,
   ⟨mic (23 * 2 ^ 81 + 2 * 2 ^ 64) { phase := .unit, upc := 0x1FFF }, 255, ⟨by decide, by decide, by decide⟩, (by decide), (by decide), (by decide), (by decide), (by decide)⟩,
   ⟨on (thr { dec := true, service := some 1 }) [(F.SEQ_TCFG_home, 31, 7, 0)], 255, (by decide), (by decide), (by decide), (by decide), (by decide)⟩,
   ⟨thr { dec := true, service := some 2 }, 255, (by decide), (by decide), (by decide)⟩,
   ⟨on (thr { dec := true, service := some 2 }) [(F.SEQ_CTRL_stream_owner, 31, 0, 7)], 255, (by decide), (by decide), rfl, rfl, (by decide), rfl, rfl⟩,
   ⟨mic (0 * 2 ^ 112) { phase := .seq }, 255, ⟨by decide, by decide, by decide, by decide, by decide⟩, rfl, (by decide), (by decide)⟩⟩

theorem wit_WaitsAndReloads :
    (∃ (s : State) (k : Nat), s.inRoutine k = true ∧ (s.thr k).phase = .wait ∧ wCond (s.microword k) ≠ 19 ∧ wCond (s.microword k) ≠ 20 ∧ s.cond k (wCond (s.microword k)) = true) ∧
    (∃ (s : State) (k a : Nat), k < 256 ∧ s.inRoutine k = true ∧ (s.thr k).waitUntil = none ∧ (s.thr k).waitSince = some a ∧ s.noOpen k ∧ ((∀ b, (s.thr (s.homeThr k)).nxt.getLast? = some b → b.st ≠ .committed))) ∧
    (∃ (s : State) (k a : Nat), (s.thr k).timer = some a) ∧
    (∃ (s : State) (k a : Nat), k < 256 ∧ (s.thr k).stall = some a ∧ a < 8192) ∧
    (∃ (s : State) (k a : Nat), k < 256 ∧ (s.thr k).stall = some a ∧ (s.eng (k / 8)).run = none ∧ (s.eng (k / 8)).sel = false ∧ (s.eng (k / 8)).todo = 0) ∧
    (∃ (s : State) (a : Nat), a < 8192) ∧
    (∃ (s : State) (h : Hdr) (d : Sys2Proof.Data), Ready s h ∧ d.ty = tBlob ∧ s.imageSigned d.bytes = true ∧ imageOk d.bytes = true) ∧
    (∃ (s : State) (h : Hdr) (d : Sys2Proof.Data), Ready s h ∧ d.ty = tBlob ∧ s.imageSigned d.bytes = false) ∧
    (∃ (s : State) (h : Hdr) (d : Sys2Proof.Data), Ready s h ∧ d.ty = tBlob ∧ s.imageSigned d.bytes = true ∧ imageOk d.bytes = false) ∧
    (∃ (s : State) (c : Nat), c < 32 ∧ s.bit F.SEQ_STATUS_cust_block c = true ∧ ((∀ n, n < 8 → s.inCustomer (8 * c + n) = false))) :=
  ⟨⟨mic 0 { phase := .wait }, 255, (by decide), (by decide), (by decide), (by decide), (by decide)⟩,
   ⟨thr { dec := true, waitSince := some 3 }, 255, 3, (by decide), (by decide), (by decide), (by decide), (no (by decide)), (by decide)⟩,
   ⟨thr { timer := some 3 }, 255, 3, (by decide)⟩,
   ⟨thr { stall := some 8191 }, 255, 8191, (by decide), (by decide), (by decide)⟩,
   ⟨thr { stall := some 8191 }, 255, 8191, (by decide), (by decide), (by decide), (by decide), (by decide)⟩,
   ⟨s0, 8191, (by decide)⟩,
   ⟨s0, h0, ⟨tBlob, [0x31, 0x4D, 0x43, 0x44, 1, 0, 1, 0, 0, 0x18] ++ List.replicate 150 0⟩, (rdy rfl rfl rfl rfl rfl (by decide)), rfl, (by decide), (by decide +kernel)⟩,
   ⟨{ s0 with tr := { keys := [[1]] } }, h0, ⟨tBlob, [1]⟩, (rdy rfl rfl rfl rfl rfl (by decide)), rfl, (by decide)⟩,
   ⟨s0, h0, ⟨tBlob, [1]⟩, (rdy rfl rfl rfl rfl rfl (by decide)), rfl, (by decide), (by decide)⟩,
   ⟨on s0 [(F.SEQ_STATUS_cust_block, 31, 0, 1)], 31, (by decide), (by decide), (by decide)⟩⟩

theorem wit_ContextCaches :
    (∃ (s : State) (c : Nat) (w : CtxWait) (rest : List CtxWait), c < 32 ∧ (s.cache c).waiting = w :: rest ∧ (s.cache c).roomFor w.first w.count = true) ∧
    (∃ (s : State) (c : Nat), c < 32) ∧
    (∃ (s : State) (h : Hdr) (d : Sys2Proof.Data), Ready s h ∧ d.ty = tBlob ∧ d.bytes.length = 68 ∧ dSub d 0 4 < 1048576) ∧
    (∃ (s : State) (h : Hdr) (d : Sys2Proof.Data), Ready s h ∧ d.ty = tBlob ∧ d.bytes.length = 68 ∧ 1048576 ≤ dSub d 0 4) :=
  ⟨⟨{ s0 with rk := { caches := [(31, { waiting := [⟨7, 0, 1⟩] })] } }, 31, ⟨7, 0, 1⟩, [], (by decide), (by decide), (by decide)⟩,
   ⟨s0, 31, (by decide)⟩,
   ⟨s0, h0, ⟨tBlob, [0, 15, 255, 255] ++ List.replicate 64 0⟩, (rdy rfl rfl rfl rfl rfl (by decide)), rfl, rfl, (by decide)⟩,
   ⟨s0, h0, ⟨tBlob, [0, 16, 0, 0] ++ List.replicate 64 0⟩, (rdy rfl rfl rfl rfl rfl (by decide)), rfl, rfl, (by decide)⟩⟩

theorem wit_ReckonerResults :
    (∃ (s : State) (site : Nat) (a : Arrival) (r : Nat), nextArrival s.rk.inbox site = some a ∧ a.order ≠ 0 ∧ a.item = none ∧ a.slot = some r ∧ r < 256 ∧ s.item site (0x600 + r) = 0 ∧ s.seq.th = [] ∧ s.homeOf site = none ∧ a.clamp = false) ∧
    (∃ (s : State) (site : Nat) (a : Arrival), nextArrival s.rk.inbox site = some a) ∧
    (∃ (s : State) (k : Nat) (r : ResRec) (rest : List ResRec), s.postQ k = r :: rest ∧ s.ringUse < ringSize) ∧
    (∃ (s : State) (h : Hdr) (d : Sys2Proof.Data), Ready s h ∧ dataFits d tU64 ∧ s.aseq < dNat d ∧ dNat d ≤ s.wseq) ∧
    (∃ (s : State) (h : Hdr) (d : Sys2Proof.Data), Ready s h ∧ dataFits d tU64 ∧ s.wseq < dNat d ∧ s.aseq < dNat d) ∧
    (∃ (s : State) (site : Nat), site < 256) ∧
    (∃ (s : State) (h : Hdr) (d : Sys2Proof.Data) (site : Nat), site < 256 ∧ Ready s h ∧ dTrue d) :=
  ⟨⟨{ s0 with rk := { inbox := [{ site := 256, at_ := 0, order := 1, slot := some 255 }] } }, 256, { site := 256, at_ := 0, order := 1, slot := some 255 }, 255, rfl, (by decide), rfl, rfl, (by decide), rfl, rfl, (by decide +kernel), (by decide)⟩,
   ⟨{ s0 with rk := { inbox := [{ site := 255, at_ := 0, order := 1, slot := some 255 }] } }, 255, { site := 255, at_ := 0, order := 1, slot := some 255 }, rfl⟩,
   ⟨{ s0 with rk := { posts := [(255, [⟨1, 0, 0, 0, 0, 0, 0, 0, 0, 0, 0, 0, 0, 0⟩])] } }, 255, ⟨1, 0, 0, 0, 0, 0, 0, 0, 0, 0, 0, 0, 0, 0⟩, [], rfl, (by decide)⟩,
   ⟨on s0 [(F.RCK_WSEQ_LO_seq, 32, 0, 5)], h0, ⟨tU64, [0, 0, 0, 0, 0, 0, 0, 5]⟩, (rdy rfl rfl rfl rfl rfl (by decide)), (fit rfl rfl), (by decide), (by decide)⟩,
   ⟨s0, h0, ⟨tU64, List.replicate 8 255⟩, (rdy rfl rfl rfl rfl rfl (by decide)), (fit rfl rfl), (by decide), (by decide)⟩,
   ⟨s0, 255, (by decide)⟩,
   ⟨s0, h0, ⟨tBool, [1]⟩, 255, (by decide), (rdy rfl rfl rfl rfl rfl (by decide)), ⟨fit rfl rfl, by decide⟩⟩⟩

theorem wit_UnitForces :
    (∃ (s : State) (q : Nat) (r : LaunchRec) (rest : List LaunchRec), q < 4 ∧ s.queue (32 + q) = r :: rest ∧ r.action = 0x10) ∧
    (∃ (s : State) (q : Nat) (r : LaunchRec) (rest : List LaunchRec), q < 4 ∧ s.queue (32 + q) = r :: rest ∧ r.action = 0x11) ∧
    (∃ (s : State) (m w : Nat), (s.smuCh m).stepAt = some w) ∧
    (∃ (s : State) (m w : Nat), (s.smuCh m).pulseEnd = some w) ∧
    (∃ (s : State) (m : Nat) (v : Int) (a : SmuAper) (rest : List SmuAper), (s.smuCh m).aper = a :: rest) ∧
    (∃ (s : State) (h : Hdr) (d : Sys2Proof.Data) (q : Nat), Ready s h ∧ dTrue d ∧ q < 4 ∧ (s.queue (32 + q)).length + 32 ≤ 1024 ∧ (∀ r ∈ s.queue (32 + q), r.inst ≠ s.now + us 10)) :=
  ⟨⟨queued s0 35 0x10 0, 3, lrec 0x10 0, [], (by decide), rfl, rfl⟩,
   ⟨queued s0 35 0x11 0, 3, lrec 0x11 0, [], (by decide), rfl, rfl⟩,
   ⟨{ s0 with smu := { ch := [(131, { stepAt := some 7 })] } }, 131, 7, (by decide)⟩,
   ⟨{ s0 with smu := { ch := [(131, { pulseEnd := some 7 })] } }, 131, 7, (by decide)⟩,
   ⟨{ s0 with smu := { ch := [(131, { aper := [{ openAt := 0, closeAt := 0, site := 0, slot := none, alt := false, quiet := false }] })] } }, 131, 0, { openAt := 0, closeAt := 0, site := 0, slot := none, alt := false, quiet := false }, [], (by decide)⟩,
   ⟨s0, h0, ⟨tBool, [1]⟩, 3, (rdy rfl rfl rfl rfl rfl (by decide)), ⟨fit rfl rfl, by decide⟩, (by decide), (by decide), (by decide)⟩⟩

theorem wit_UnitMonitors :
    (∃ (s : State) (m : Nat), m < 128 ∧ s.smuAct F.SMU_CFG_mon_en m ≠ 0 ∧ s.smuConn m = true ∧ s.smuLatched m = false) ∧
    (∃ (s : State) (m : Nat), m < 128 ∧ s.smuLatched m = true ∧ s.heldBit F.SMU_TRIP_LATCH_latch (smuQ m) 0 (smuN m) = false) ∧
    (∃ (s : State) (m : Nat), m < 128 ∧ s.smuLatched m = true ∧ s.heldBit F.SMU_TRIP_LATCH_latch (smuQ m) 0 (smuN m) = false) ∧
    (∃ (s : State) (h : Hdr) (d : Sys2Proof.Data) (m : Nat), m < 128 ∧ Ready s h ∧ dTrue d ∧ s.smuLatched m = true ∧ s.heldBit F.SMU_TRIP_LATCH_latch (smuQ m) 0 (smuN m) = false) ∧
    (∃ (s : State) (m : Nat), m < 132 ∧ s.smuConn m = true) ∧
    (∃ (s : State) (m : Nat), m < 132 ∧ s.smuConn m = true) ∧
    (∃ (s : State) (m : Nat), m < 132 ∧ s.smuConn m = true ∧ s.smuAct F.SMU_CFG_fmode m ≠ 1 ∧ s.smuBit F.SMU_STATE_kelvin_open m = false) ∧
    (∃ (s : State) (m : Nat) (i v : Int), m < 132) :=
  ⟨⟨on (act s0 [(F.SMU_CFG_mon_en, 3, 31, 1)]) [(F.SMU_STATE_connected, 3, 31, 1)], 127, (by decide), (by decide), (by decide), (by decide)⟩,
   ⟨on s0 [(F.SMU_TRIP_LATCH_latch, 3, 0, 2147483648)], 127, (by decide), (by decide), (by decide)⟩,
   ⟨on s0 [(F.SMU_TRIP_LATCH_latch, 3, 0, 2147483648)], 127, (by decide), (by decide), (by decide)⟩,
   ⟨on s0 [(F.SMU_TRIP_LATCH_latch, 3, 0, 2147483648)], h0, ⟨tBool, [1]⟩, 127, (by decide), (rdy rfl rfl rfl rfl rfl (by decide)), ⟨fit rfl rfl, by decide⟩, (by decide), (by decide)⟩,
   ⟨on s0 [(F.SMU_STATE_connected, 3, 32, 1)], 131, (by decide), (by decide)⟩,
   ⟨on s0 [(F.SMU_STATE_connected, 3, 32, 1)], 131, (by decide), (by decide)⟩,
   ⟨on s0 [(F.SMU_STATE_connected, 3, 32, 1)], 131, (by decide), (by decide), (by decide), (by decide)⟩,
   ⟨s0, 131, 0, 0, (by decide)⟩⟩

theorem wit_UnitCorrectionsAndRepair :
    (∃ (s : State) (m : Nat), m < 132 ∧ s.azMay m = true) ∧
    (∃ (s : State) (m ir vr w : Nat) (i v : Int), (s.smuCh m).azRun = some w ∧ s.ks.outage = false ∧ m < 128 ∧ s.smuBit F.SMU_STATE_spare m = false ∧ (i - Config.factorySmu s.calData m ir).natAbs ≤ (4 * iOffTerm false ir).toNat ∧ (v - Config.factorySmu s.calData m (16 + vr)).natAbs ≤ (4 * vOffTerm vr).toNat ∧ (i - (Tbl.find (s.smuCh m).azI ir).getD (Config.factorySmu s.calData m ir)).natAbs ≤ (iOffTerm false ir).toNat ∧ (v - (Tbl.find (s.smuCh m).azV vr).getD (Config.factorySmu s.calData m (16 + vr))).natAbs ≤ (vOffTerm vr).toNat) ∧
    (∃ (s : State) (m ir vr w : Nat) (i v : Int), (s.smuCh m).azRun = some w ∧ s.ks.outage = false ∧ m < 128 ∧ s.smuBit F.SMU_STATE_spare m = false ∧ (4 * iOffTerm false ir).toNat < (i - Config.factorySmu s.calData m ir).natAbs) ∧
    (∃ (s : State) (h : Hdr) (d : Sys2Proof.Data) (q : Nat), q < 4 ∧ Ready s h ∧ dataFits d tU8 ∧ dNat d < 32 ∧ Tbl.find s.smu.repair q = none ∧ s.bit F.SMU_QSTATUS_spare_busy q = false) ∧
    (∃ (s : State) (q : Nat) (r : RepairRun), q < 4 ∧ r.pin < 32 ∧ Tbl.find s.smu.repair q = some r ∧ s.smuHeld (32 * q + r.pin) = true) ∧
    (∃ (s : State) (h : Hdr) (d : Sys2Proof.Data) (m : Nat), m < 132 ∧ Ready s h ∧ dTrue d ∧ s.smuBit F.SMU_STATE_derated m = true ∧ s.srcSet (44 + smuQ m) = false) ∧
    (∃ (s : State) (h : Hdr) (d : Sys2Proof.Data) (m : Nat), m < 132 ∧ Ready s h ∧ dTrue d ∧ s.smuBit F.SMU_STATE_derated m = true ∧ s.srcSet (44 + smuQ m) = true) ∧
    (∃ (s : State) (h : Hdr) (d : Sys2Proof.Data) (m : Nat), m < 128 ∧ Ready s h ∧ d.ty = tBlob ∧ d.bytes.length = 16) ∧
    (∃ (s : State) (h : Hdr) (d : Sys2Proof.Data) (m : Nat), m < 128 ∧ Ready s h ∧ dataFits d tI64) :=
  ⟨⟨on s0 [(F.SMU_STATE_active, 3, 32, 1)], 131, (by decide), (by decide)⟩,
   ⟨{ s0 with smu := { ch := [(127, { azRun := some 7 })] } }, 127, 0, 0, 7, Config.factorySmu [] 127 0, Config.factorySmu [] 127 16, (by decide), (by decide), (by decide), (by decide), (zle _ _), (zle _ _), (zle _ _), (zle _ _)⟩,
   ⟨{ s0 with smu := { ch := [(127, { azRun := some 7 })] } }, 127, 0, 0, 7, Config.factorySmu [] 127 0 + 1000000000000000000, 0, (by decide), (by decide), (by decide), (by decide), (zadd _ (by decide))⟩,
   ⟨on s0 [(F.SMU_QSTATUS_spare_busy, 3, 0, 0)], h0, ⟨tU8, [31]⟩, 3, (by decide), (rdy rfl rfl rfl rfl rfl (by decide)), (fit rfl rfl), (by decide), rfl, (by decide)⟩,
   ⟨{ s0 with smu := { repair := [(3, ⟨31, false, 0⟩)] } }, 3, ⟨31, false, 0⟩, (by decide), (by decide), rfl, (by decide)⟩,
   ⟨on s0 [(F.SMU_STATE_derated, 3, 32, 1)], h0, ⟨tBool, [1]⟩, 131, (by decide), (rdy rfl rfl rfl rfl rfl (by decide)), ⟨fit rfl rfl, by decide⟩, (by decide), (by decide)⟩,
   ⟨on s0 [(F.SMU_STATE_derated, 3, 32, 1), (F.FC_STATUS_HI_status, 0, 0, 32768)], h0, ⟨tBool, [1]⟩, 131, (by decide), (rdy rfl rfl rfl rfl rfl (by decide)), ⟨fit rfl rfl, by decide⟩, (by decide), (by decide)⟩,
   ⟨s0, h0, ⟨tBlob, List.replicate 16 0⟩, 127, (by decide), (rdy rfl rfl rfl rfl rfl (by decide)), rfl, rfl⟩,
   ⟨s0, h0, ⟨tI64, List.replicate 8 255⟩, 127, (by decide), (rdy rfl rfl rfl rfl rfl (by decide)), (fit rfl rfl)⟩⟩

theorem wit_WaveformSource :
    (∃ (s : State) (hf : Nat) (r : LaunchRec) (rest : List LaunchRec), hf < 2 ∧ s.queue (36 + hf) = r :: rest ∧ r.action = 0x20) ∧
    (∃ (s : State) (hf : Nat) (r : LaunchRec) (rest : List LaunchRec), hf < 2 ∧ s.queue (36 + hf) = r :: rest ∧ r.action = 0x21) ∧
    (∃ (s : State) (w : Nat), w < 64 ∧ s.wavBit F.WAV_STATE_connected w = true) ∧
    (∃ (s : State) (w : Nat), w < 64 ∧ s.wavBit F.WAV_STATE_playing w = true ∧ s.wavKind w = 0 ∧ s.wavAct F.WAV_CFG_buf_mode w = 1 ∧ (s.wavCh w).played = false ∧ (s.wavCh w).held = false) ∧
    (∃ (s : State) (w : Nat), w < 64 ∧ s.wavBit F.WAV_STATE_playing w = true ∧ s.wavKind w = 0 ∧ (s.wavCh w).played = false ∧ (s.wavCh w).held = false ∧ ((s.wavAct F.WAV_CFG_buf_mode w = 2 ∨ (s.wavCh w).lateHead = true ∨ s.corruptLine (s.srcLine w) = true))) ∧
    (∃ (s : State) (w : Nat), w < 64 ∧ s.wavBit F.WAV_STATE_connected w = true) ∧
    (∃ (s : State) (w : Nat), w < 64 ∧ s.wavBit F.WAV_STATE_connected w = true) :=
  ⟨⟨queued s0 37 0x20 0, 1, lrec 0x20 0, [], (by decide), rfl, rfl⟩,
   ⟨queued s0 37 0x21 0, 1, lrec 0x21 0, [], (by decide), rfl, rfl⟩,
   ⟨on s0 [(F.WAV_STATE_connected, 1, 31, 1)], 63, (by decide), (by decide)⟩,
   ⟨on (act s0 [(F.WAV_CFG_buf_mode, 1, 31, 1), (F.WAV_CFG_kind, 1, 31, 0)]) [(F.WAV_STATE_playing, 1, 31, 1)], 63, (by decide), (by decide), rfl, rfl, (by decide), (by decide)⟩,
   ⟨on (act s0 [(F.WAV_CFG_kind, 1, 31, 0), (F.WAV_CFG_buf_mode, 1, 31, 2)]) [(F.WAV_STATE_playing, 1, 31, 1)], 63, (by decide), (by decide), rfl, (by decide), (by decide), (.inl (by decide))⟩,
   ⟨on s0 [(F.WAV_STATE_connected, 1, 31, 1)], 63, (by decide), (by decide)⟩,
   ⟨on s0 [(F.WAV_STATE_connected, 1, 31, 1)], 63, (by decide), (by decide)⟩⟩

theorem wit_WaveformUpkeep :
    (∃ (s : State) (w : Nat) (codes : List Int) (c : Capture) (rest : List Capture), w < 64 ∧ (s.wavCh w).caps = c :: rest ∧ ¬(c.isOpen = true ∧ (s.unit (64 + w)).arm.isSome = true)) ∧
    (∃ (s : State) (w : Nat) (r : Reduction) (rest : List Reduction), (s.wavCh w).red = r :: rest) ∧
    (∃ (s : State) (w : Nat), w < 64 ∧ (s.wavCh w).flagAt = some s.tb.loc) ∧
    (∃ (s : State) (w : Nat), w < 64 ∧ (s.wavCh w).flagAt ≠ some s.tb.loc) ∧
    (∃ (s : State) (h : Hdr) (d : Sys2Proof.Data) (w : Nat), w < 64 ∧ Ready s h ∧ dTrue d ∧ (s.wavCh w).flagAt ≠ some s.tb.loc) ∧
    (∃ (s : State) (h : Hdr) (d : Sys2Proof.Data), Ready s h ∧ d.ty = tBlob ∧ d.bytes.length = 16 ∧ ({ s with wav := { s.wav with srcMask := dSub d 0 8, digMask := dSub d 8 8 } } : State).fits s.md.mode = true) ∧
    (∃ (s : State) (h : Hdr) (d : Sys2Proof.Data), Ready s h ∧ d.ty = tBlob ∧ d.bytes.length = 16 ∧ ({ s with wav := { s.wav with srcMask := dSub d 0 8, digMask := dSub d 8 8 } } : State).fits s.md.mode = false) ∧
    (∃ (s : State) (w : Nat), w < 64 ∧ s.wavCheckMay w = true) ∧
    (∃ (s : State) (w rng : Nat) (terms : List Int) (tol : List Nat), w < 64 ∧ s.ks.outage = false ∧ (s.wavCh w).plumbRun ≠ none ∧ terms.length = 4 ∧ rng = s.wavAct F.WAV_CFG_dig_range w ∧ tol = [20000, 50000, 20000, if rng = 1 then 5000 else 30000] ∧ ((∀ k, k < 4 → (terms[k]?.getD 0 - Config.factoryWav s.calData w rng k).natAbs ≤ 4 * tol[k]?.getD 0)) ∧ ((∀ k, k < 4 → (terms[k]?.getD 0 - (Tbl.find (s.wavCh w).plumbVals (4 * rng + k)).getD (Config.factoryWav s.calData w rng k)).natAbs ≤ tol[k]?.getD 0))) ∧
    (∃ (s : State) (w k : Nat) (terms : List Int), w < 64 ∧ s.ks.outage = false ∧ (s.wavCh w).plumbRun ≠ none ∧ k < 4 ∧ 200000 < (terms[k]?.getD 0 - Config.factoryWav s.calData w (s.wavAct F.WAV_CFG_dig_range w) k).natAbs) ∧
    (∃ (s : State) (h : Hdr) (d : Sys2Proof.Data) (w : Nat), w < 64 ∧ Ready s h ∧ dTrue d) ∧
    (∃ (s : State) (h : Hdr) (d : Sys2Proof.Data) (w : Nat), w < 64 ∧ Ready s h ∧ d.ty = tBlob ∧ d.bytes.length = 16) :=
  ⟨⟨{ s0 with wav := { ch := [(63, { caps := [{ start := 0, len := 1, fs := 0, site := 0, slot := none, quiet := false, armed := true, isOpen := false }] })] } }, 63, [], { start := 0, len := 1, fs := 0, site := 0, slot := none, quiet := false, armed := true, isOpen := false }, [], (by decide), (by decide), (by decide)⟩,
   ⟨{ s0 with wav := { ch := [(63, { red := [⟨0, none, 0, 0, false⟩] })] } }, 63, ⟨0, none, 0, 0, false⟩, [], (by decide)⟩,
   ⟨{ s0 with wav := { ch := [(63, { flagAt := some 0 })] } }, 63, (by decide), (by decide)⟩,
   ⟨s0, 63, (by decide), (by decide)⟩,
   ⟨s0, h0, ⟨tBool, [1]⟩, 63, (by decide), (rdy rfl rfl rfl rfl rfl (by decide)), ⟨fit rfl rfl, by decide⟩, (by decide)⟩,
   ⟨s0, h0, ⟨tBlob, List.replicate 16 0⟩, (rdy rfl rfl rfl rfl rfl (by decide)), rfl, rfl, (by decide +kernel)⟩,
   ⟨on { s0 with md := { mode := .stress } } [(F.ACQ_UCFG_en, 0, 31, 1)], h0, ⟨tBlob, List.replicate 16 0⟩, (rdy rfl rfl rfl rfl rfl (by decide)), rfl, rfl, (by decide +kernel)⟩,
   ⟨on s0 [(F.WAV_HCTRL_plumb_en, 1, 0, 1)], 63, (by decide), (by decide)⟩,
   ⟨{ s0 with wav := { ch := [(63, { plumbRun := some 7 })] } }, 63, 0, [Config.factoryWav [] 63 0 0, Config.factoryWav [] 63 0 1, Config.factoryWav [] 63 0 2, Config.factoryWav [] 63 0 3], [20000, 50000, 20000, 30000], (by decide), (by decide), (by decide), rfl, rfl, rfl, (four (zle _ _) (zle _ _) (zle _ _) (zle _ _)), (four (zle _ _) (zle _ _) (zle _ _) (zle _ _))⟩,
   ⟨{ s0 with wav := { ch := [(63, { plumbRun := some 7 })] } }, 63, 3, [0, 0, 0, Config.factoryWav [] 63 0 3 + 200001], (by decide), (by decide), (by decide), (by decide), (by show _ < (Config.factoryWav [] 63 0 3 + 200001 - Config.factoryWav [] 63 0 3).natAbs; omega)⟩,
   ⟨s0, h0, ⟨tBool, [1]⟩, 63, (by decide), (rdy rfl rfl rfl rfl rfl (by decide)), ⟨fit rfl rfl, by decide⟩⟩,
   ⟨s0, h0, ⟨tBlob, List.replicate 16 0⟩, 63, (by decide), (rdy rfl rfl rfl rfl rfl (by decide)), rfl, rfl⟩⟩

theorem wit_TriggersAndBalls :
    (∃ (s : State) (n a l : Nat), n < 16 ∧ outsideSrc (s.fld F.TRG_CFG_src 0 n) = true ∧ s.fld F.TRG_CFG_edge 0 n ≠ 0 ∧ s.bit F.TRG_CFG_en 0 n = true ∧ (s.trg n).lastEvent = some l ∧ a < l + ns 2) ∧
    (∃ (s : State) (n a : Nat), n < 16 ∧ outsideSrc (s.fld F.TRG_CFG_src 0 n) = true ∧ s.fld F.TRG_CFG_edge 0 n ≠ 0 ∧ s.bit F.TRG_CFG_en 0 n = true ∧ ((∀ (l : Nat), (s.trg n).lastEvent = some l → l + ns 2 ≤ a)) ∧ (s.trg n).events + 1 < max 1 (s.fld F.TRG_COUNT_count 0 n)) ∧
    (∃ (s : State) (n a : Nat), n < 16 ∧ outsideSrc (s.fld F.TRG_CFG_src 0 n) = true ∧ s.fld F.TRG_CFG_edge 0 n ≠ 0 ∧ s.bit F.TRG_CFG_en 0 n = true ∧ ((∀ (l : Nat), (s.trg n).lastEvent = some l → l + ns 2 ≤ a)) ∧ max 1 (s.fld F.TRG_COUNT_count 0 n) ≤ (s.trg n).events + 1) ∧
    (∃ (s : State) (h : Hdr) (d : Sys2Proof.Data) (n : Nat), n < 16 ∧ Ready s h ∧ dTrue d ∧ s.fld F.TRG_CFG_src 0 n = 0x0A ∧ s.bit F.TRG_CFG_en 0 n = true ∧ ((∀ (l : Nat), (s.trg n).lastEvent = some l → l + ns 2 ≤ s.now)) ∧ max 1 (s.fld F.TRG_COUNT_count 0 n) ≤ (s.trg n).events + 1) ∧
    (∃ (s : State) (r : LaunchRec) (rest : List LaunchRec), s.queue 39 = r :: rest ∧ r.action = 0x40 ∧ r.target < 4) ∧
    (∃ (s : State) (r : LaunchRec) (rest : List LaunchRec), s.queue 39 = r :: rest ∧ r.action = 0x41 ∧ r.target < 4) :=
  ⟨⟨on { s0 with acq := { trg := [(15, { lastEvent := some 5 })] } } [(F.TRG_CFG_en, 0, 15, 1), (F.TRG_CFG_edge, 0, 15, 1), (F.TRG_CFG_src, 0, 15, 66)], 15, 8196, 5, (by decide), (by decide), (by decide), (by decide), (by decide), (by decide)⟩,
   ⟨on { s0 with acq := { trg := [(15, { lastEvent := some 5, events := 1 })] } } [(F.TRG_CFG_en, 0, 15, 1), (F.TRG_CFG_edge, 0, 15, 1), (F.TRG_CFG_src, 0, 15, 66), (F.TRG_COUNT_count, 0, 15, 3)], 15, 8197, (by decide), (by decide), (by decide), (by decide), (by intro l h; have h : some 5 = some l := h; cases h; decide), (by decide)⟩,
   ⟨on { s0 with acq := { trg := [(15, { lastEvent := some 5, events := 2 })] } } [(F.TRG_CFG_en, 0, 15, 1), (F.TRG_CFG_edge, 0, 15, 1), (F.TRG_CFG_src, 0, 15, 66), (F.TRG_COUNT_count, 0, 15, 3)], 15, 8197, (by decide), (by decide), (by decide), (by decide), (by intro l h; have h : some 5 = some l := h; cases h; decide), (by decide)⟩,
   ⟨on { s0 with acq := { trg := [(15, { lastEvent := some 5 })] }, tb := { dom := 8197 } } [(F.TRG_CFG_src, 0, 15, 10), (F.TRG_CFG_en, 0, 15, 1)], h0, ⟨tBool, [1]⟩, 15, (by decide), (rdy rfl rfl rfl rfl rfl (by decide)), ⟨fit rfl rfl, by decide⟩, rfl, (by decide), (by intro l h; have h : some 5 = some l := h; cases h; decide), (by decide)⟩,
   ⟨queued s0 39 0x40 0, lrec 0x40 0, [], rfl, rfl, (by decide)⟩,
   ⟨queued s0 39 0x41 0, lrec 0x41 0, [], rfl, rfl, (by decide)⟩⟩

theorem wit_AcquisitionArms :
    (∃ (s : State) (r : LaunchRec) (rest : List LaunchRec) (u : Nat), s.queue 39 = r :: rest ∧ r.action = 0x48 ∧ u = bitsAt r.payload 46 38 ∧ u < 264 ∧ ((u < 32 ∨ 64 ≤ u))) ∧
    (∃ (s : State) (h : Hdr) (d : Sys2Proof.Data), Ready s h ∧ dataFits d tU64 ∧ s.md.pend = [] ∧ (s.queue 39).length < 1024 ∧ (∀ r ∈ s.queue 39, r.inst ≠ s.now + us 10)) ∧
    (∃ (s : State) (h : Hdr) (d : Sys2Proof.Data), Ready s h ∧ dTrue d) ∧
    (∃ (s : State) (u : Nat) (l : List Nat) (a : Arm), u < 264 ∧ ((u < 32 ∨ 64 ≤ u)) ∧ ((64 ≤ u → u < 136 → l = [])) ∧ (s.unit u).arm = some a ∧ (s.unit u).trig ≠ none ∧ s.fld F.ACQ_EPOST_count 0 u ≤ (s.unit u).post ∧ s.acq.queue.length < 512) ∧
    (∃ (s : State) (u d : Nat), u < 264 ∧ (s.unit u).deadFrom = some d ∧ (s.unit u).trig = none ∧ s.logFull = false) ∧
    (∃ (s : State) (u : Nat), 64 ≤ u ∧ u < 136 ∧ (s.unit u).arm ≠ none ∧ (s.unit u).deadFrom = none ∧ 0 < (s.unit u).holdTo) ∧
    (∃ (s : State) (n : Nat) (mean : Int) (a : Arm), n < 128 ∧ (s.unit (136 + n)).arm = some a ∧ s.bit F.ACQ_CTRL_en = true) :=
  ⟨⟨queued s0 39 0x48 (263 * 2 ^ 38), lrec 0x48 (263 * 2 ^ 38), [], 263, rfl, rfl, rfl, (by decide), (by decide)⟩,
   ⟨s0, h0, ⟨tU64, List.replicate 8 255⟩, (rdy rfl rfl rfl rfl rfl (by decide)), (fit rfl rfl), rfl, (by decide), (by decide)⟩,
   ⟨s0, h0, ⟨tBool, [1]⟩, (rdy rfl rfl rfl rfl rfl (by decide)), ⟨fit rfl rfl, by decide⟩⟩,
   ⟨{ s0 with acq := { un := [(263, { arm := some { at_ := 0, tunit := 0, imm := true, nseg := 1, evtEn := false, evt := 0, thread := none, site := 0, clampFlag := false }, trig := some 0 })] } }, 263, [], { at_ := 0, tunit := 0, imm := true, nseg := 1, evtEn := false, evt := 0, thread := none, site := 0, clampFlag := false }, (by decide), (by decide), (by decide), (by decide), (by decide), (by decide), (by decide)⟩,
   ⟨{ s0 with acq := { un := [(263, { deadFrom := some 5 })] } }, 263, 5, (by decide), (by decide), (by decide), (by decide)⟩,
   ⟨{ s0 with acq := { un := [(135, { arm := some { at_ := 0, tunit := 0, imm := true, nseg := 1, evtEn := false, evt := 0, thread := none, site := 0, clampFlag := false }, holdTo := 1 })] } }, 135, (by decide), (by decide), (by decide), (by decide), (by decide)⟩,
   ⟨on { s0 with acq := { un := [(263, { arm := some { at_ := 0, tunit := 0, imm := true, nseg := 1, evtEn := false, evt := 0, thread := none, site := 0, clampFlag := false } })] } } [(F.ACQ_CTRL_en, 0, 0, 1)], 127, 0, { at_ := 0, tunit := 0, imm := true, nseg := 1, evtEn := false, evt := 0, thread := none, site := 0, clampFlag := false }, (by decide), (by decide), (by decide)⟩⟩

theorem wit_AcquisitionSettings :
    (∃ (s : State) (u : Nat), u < 264) ∧
    (∃ (s : State) (u : Nat), u < 264 ∧ s.unitEn u = false ∧ s.bufPlaced u = true ∧ (s.setBit F.ACQ_UCFG_en 0 u true).fits s.md.mode = true) ∧
    (∃ (s : State) (u : Nat), u < 264 ∧ s.unitEn u = false ∧ s.bufPlaced u = true ∧ (s.setBit F.ACQ_UCFG_en 0 u true).fits s.md.mode = false) ∧
    (∃ (s : State) (u : Nat), u < 264 ∧ s.unitEn u = false ∧ s.bufPlaced u = false) ∧
    (∃ (s : State) (h : Hdr) (d : Sys2Proof.Data) (u : Nat) (on : Bool), u < 264 ∧ Ready s h ∧ dataFits d tU32 ∧ s.unitEn u = true) ∧
    (∃ (s : State) (h : Hdr) (d : Sys2Proof.Data) (u : Nat), u < 264 ∧ Ready s h ∧ dataFits d tU32 ∧ s.unitEn u = false ∧ (s.unit u).arm = none ∧ bitsAt (dNat d) 25 20 = 0 ∧ dNat d < 2 ^ 31) ∧
    (∃ (s : State) (h : Hdr) (d : Sys2Proof.Data) (u : Nat), u < 264 ∧ ((u < 32 ∨ 64 ≤ u)) ∧ Ready s h ∧ d.ty = tBlob ∧ d.bytes.length = 16 ∧ s.unitEn u = false ∧ dSub d 0 4 < 2 ^ 30 ∧ dSub d 4 4 < 2 ^ 30) ∧
    (∃ (s : State) (h : Hdr) (d : Sys2Proof.Data) (u : Nat), u < 264 ∧ Ready s h ∧ d.ty = tBlob ∧ d.bytes.length = 8) ∧
    (∃ (s : State) (h : Hdr) (d : Sys2Proof.Data) (u : Nat), u < 264 ∧ Ready s h ∧ d.ty = tBlob ∧ d.bytes.length = 9) ∧
    (∃ (s : State) (h : Hdr) (d : Sys2Proof.Data) (u fn : Nat), u < 264 ∧ Ready s h ∧ fn ≠ 1 ∧ fn ≠ 2 ∧ fn ≠ 3 ∧ fn ≠ 5) ∧
    (∃ (s : State) (u v : Nat), 32 ≤ u ∧ u < 64) ∧
    (∃ (s : State) (u v : Nat), u < 264 ∧ ((u < 32 ∨ 64 ≤ u))) ∧
    (∃ (s : State) (h : Hdr) (d : Sys2Proof.Data) (u v : Nat), u < 264 ∧ ((u < 32 ∨ 64 ≤ u)) ∧ Ready s h ∧ d.ty = tBlob ∧ d.bytes.length = 16 ∧ s.unitEn u = true) ∧
    (∃ (s : State) (h : Hdr) (d : Sys2Proof.Data), Ready s h ∧ dataFits d tU64 ∧ s.acq.aseq < dNat d ∧ dNat d ≤ s.acq.wseq) ∧
    (∃ (s : State) (h : Hdr) (d : Sys2Proof.Data), Ready s h ∧ dataFits d tU64 ∧ s.acq.wseq < dNat d ∧ s.acq.aseq < dNat d) :=
  ⟨⟨s0, 263, (by decide)⟩,
   ⟨on s0 [(F.ACQ_BUF_FIRST_lines, 0, 263, 805306368), (F.ACQ_BUF_LEN_lines, 0, 263, 1)], 263, (by decide), (by decide), (by decide), (by decide)⟩,
   ⟨on { s0 with md := { mode := .stress } } [(F.ACQ_BUF_FIRST_lines, 0, 31, 805306368), (F.ACQ_BUF_LEN_lines, 0, 31, 1)], 31, (by decide), (by decide), (by decide), (by decide +kernel)⟩,
   ⟨s0, 263, (by decide), (by decide), (by decide)⟩,
   ⟨on s0 [(F.ACQ_UCFG_en, 0, 263, 1)], h0, ⟨tU32, List.replicate 4 255⟩, 263, true, (by decide), (rdy rfl rfl rfl rfl rfl (by decide)), (fit rfl rfl), (by decide)⟩,
   ⟨s0, h0, ⟨tU32, [0x7C, 0x0F, 0xFF, 0xFF]⟩, 263, (by decide), (rdy rfl rfl rfl rfl rfl (by decide)), (fit rfl rfl), (by decide), (by decide), rfl, (by decide)⟩,
   ⟨s0, h0, ⟨tBlob, List.replicate 16 0⟩, 263, (by decide), (by decide), (rdy rfl rfl rfl rfl rfl (by decide)), rfl, rfl, (by decide), (by decide), (by decide)⟩,
   ⟨s0, h0, ⟨tBlob, List.replicate 8 0⟩, 263, (by decide), (rdy rfl rfl rfl rfl rfl (by decide)), rfl, rfl⟩,
   ⟨s0, h0, ⟨tBlob, List.replicate 9 0⟩, 263, (by decide), (rdy rfl rfl rfl rfl rfl (by decide)), rfl, rfl⟩,
   ⟨s0, h0, ⟨tBlob, []⟩, 263, 0, (by decide), (rdy rfl rfl rfl rfl rfl (by decide)), (by decide), (by decide), (by decide), (by decide)⟩,
   ⟨s0, 63, 0, (by decide), (by decide)⟩,
   ⟨on s0 [(F.ACQ_UCFG_en, 0, 263, 1)], 263, 0, (by decide), (by decide)⟩,
   ⟨on s0 [(F.ACQ_UCFG_en, 0, 263, 1)], h0, ⟨tBlob, List.replicate 16 0⟩, 263, 0, (by decide), (by decide), (rdy rfl rfl rfl rfl rfl (by decide)), rfl, rfl, (by decide)⟩,
   ⟨{ s0 with acq := { wseq := 5 } }, h0, ⟨tU64, [0, 0, 0, 0, 0, 0, 0, 5]⟩, (rdy rfl rfl rfl rfl rfl (by decide)), (fit rfl rfl), (by decide), (by decide)⟩,
   ⟨s0, h0, ⟨tU64, List.replicate 8 255⟩, (rdy rfl rfl rfl rfl rfl (by decide)), (fit rfl rfl), (by decide), (by decide)⟩⟩

theorem wit_LaneStartsAndGates :
    (∃ (s : State) (r : LaunchRec) (rest : List LaunchRec), s.queue 38 = r :: rest ∧ r.action = 0x30) ∧
    (∃ (s : State) (h : Hdr) (d : Sys2Proof.Data) (n : Nat), n < 8 ∧ Ready s h ∧ dTrue d) ∧
    (∃ (s : State) (n : Nat) (g : Gate) (rest : List Gate), n < 8 ∧ (s.lane n).waiting = g :: rest ∧ s.tb.loc ≤ g.openAt ∧ (∀ x ∈ rest, g.openAt < x.openAt) ∧ ((∀ (c : Nat), g.closeAt = some c → g.openAt < c))) ∧
    (∃ (s : State) (n w : Nat) (g : Gate), n < 8 ∧ (s.lane n).gate = some g ∧ g.closeAt = some w ∧ (∀ x ∈ (s.lane n).waiting, max s.tb.loc w < x.openAt)) :=
  ⟨⟨queued s0 38 0x30 0, lrec 0x30 0, [], rfl, rfl⟩,
   ⟨s0, h0, ⟨tBool, [1]⟩, 7, (by decide), (rdy rfl rfl rfl rfl rfl (by decide)), ⟨fit rfl rfl, by decide⟩⟩,
   ⟨{ s0 with fln := [(7, { waiting := [{ openAt := 0, closeAt := none, site := 0, slot := none }] })] }, 7, { openAt := 0, closeAt := none, site := 0, slot := none }, [], (by decide), (by decide), (by decide), (by decide), (by decide)⟩,
   ⟨{ s0 with fln := [(7, { gate := some { openAt := 0, closeAt := some 9, site := 0, slot := none } })] }, 7, 9, { openAt := 0, closeAt := some 9, site := 0, slot := none }, (by decide), (by decide), rfl, (by decide)⟩⟩

theorem wit_LaneReceivers :
    (∃ (s : State) (n w : Nat), n < 8 ∧ (s.lane n).adaptFrom = some w) ∧
    (∃ (s : State) (n : Nat), s.flnAct F.FLN_LCFG_manual_eq n = 1) ∧
    (∃ (s : State) (n w : Nat), n < 8 ∧ (s.lane n).adaptFrom = some w ∧ (s.lane n).adaptLate = false ∧ s.flnAct F.FLN_LCFG_manual_eq n ≠ 1) ∧
    (∃ (s : State) (n : Nat), n < 8 ∧ s.flnBit F.FLN_LSTAT_rx_active n = true ∧ s.flnBit F.FLN_LSTAT_locked n = false) ∧
    (∃ (s : State) (n : Nat), n < 8 ∧ s.flnBit F.FLN_LSTAT_locked n = true) ∧
    (∃ (s : State) (n : Nat) (g : Gate), n < 8 ∧ (s.lane n).gate = some g ∧ ((∀ (c : Nat), g.closeAt = some c → s.tb.loc < c)) ∧ (∀ x ∈ (s.lane n).waiting, s.tb.loc < x.openAt) ∧ s.flnBit F.FLN_LSTAT_adapted n = true ∧ s.flnBit F.FLN_LSTAT_locked n = true) ∧
    (∃ (s : State) (n : Nat), n < 8) ∧
    (∃ (s : State) (h : Hdr) (d : Sys2Proof.Data) (n : Nat), n < 8 ∧ Ready s h ∧ d.ty = tBlob ∧ d.bytes.length = 2) ∧
    (∃ (s : State) (n : Nat) (l : List Nat), n < 8 ∧ s.flnFld F.FLN_SCAN_STAT_state n = 2 ∧ 16575 ≤ l.length) ∧
    (∃ (s : State) (h : Hdr) (d : Sys2Proof.Data) (n : Nat), n < 8 ∧ Ready s h ∧ dTrue d) :=
  ⟨⟨{ s0 with fln := [(7, { adaptFrom := some 9 })] }, 7, 9, (by decide), (by decide)⟩,
   ⟨act s0 [(F.FLN_LCFG_manual_eq, 0, 7, 1)], 7, rfl⟩,
   ⟨{ s0 with fln := [(7, { adaptFrom := some 9 })] }, 7, 9, (by decide), (by decide), (by decide), (by decide)⟩,
   ⟨on s0 [(F.FLN_LSTAT_rx_active, 0, 7, 1)], 7, (by decide), (by decide), (by decide)⟩,
   ⟨on s0 [(F.FLN_LSTAT_locked, 0, 7, 1)], 7, (by decide), (by decide)⟩,
   ⟨on { s0 with fln := [(7, { gate := some { openAt := 0, closeAt := none, site := 0, slot := none } })] } [(F.FLN_LSTAT_locked, 0, 7, 1), (F.FLN_LSTAT_adapted, 0, 7, 1)], 7, { openAt := 0, closeAt := none, site := 0, slot := none }, (by decide), (by decide), (by intro c h; cases h), (by intro x h; cases h), (by decide), (by decide)⟩,
   ⟨s0, 7, (by decide)⟩,
   ⟨s0, h0, ⟨tBlob, List.replicate 2 0⟩, 7, (by decide), (rdy rfl rfl rfl rfl rfl (by decide)), rfl, rfl⟩,
   ⟨on s0 [(F.FLN_SCAN_STAT_state, 0, 7, 2)], 7, List.replicate 16575 0, (by decide), rfl, (Nat.le_of_eq List.length_replicate.symm)⟩,
   ⟨s0, h0, ⟨tBool, [1]⟩, 7, (by decide), (rdy rfl rfl rfl rfl rfl (by decide)), ⟨fit rfl rfl, by decide⟩⟩⟩

theorem wit_SerialEngines :
    (∃ (s : State) (h : Hdr) (d : Sys2Proof.Data) (c : Nat), c < 32 ∧ Ready s h ∧ d.ty = tBlob ∧ d.bytes.length = 10 ∧ dSub d 0 1 < 15 ∧ txUse (s.eng c).txq < 256) ∧
    (∃ (s : State) (h : Hdr) (d : Sys2Proof.Data) (c : Nat), c < 32 ∧ Ready s h ∧ d.ty = tBlob ∧ d.bytes.length = 10 ∧ dSub d 0 1 < 16 ∧ 256 ≤ txUse (s.eng c).txq) ∧
    (∃ (s : State) (h : Hdr) (d : Sys2Proof.Data) (c : Nat), c < 32 ∧ Ready s h ∧ d.ty = tBlob ∧ d.bytes.length = 10 ∧ 16 ≤ dSub d 0 1) ∧
    (∃ (s : State) (h : Hdr) (d : Sys2Proof.Data) (c : Nat), c < 32 ∧ Ready s h ∧ dataFits d tU16) ∧
    (∃ (s : State) (h : Hdr) (d : Sys2Proof.Data) (c : Nat), c < 32 ∧ Ready s h ∧ dataFits d tU8 ∧ (s.queue c).length < 4096 ∧ (∀ r ∈ s.queue c, r.inst ≠ s.now + us 10)) ∧
    (∃ (s : State) (h : Hdr) (d : Sys2Proof.Data) (c : Nat), c < 32 ∧ Ready s h ∧ dTrue d) ∧
    (∃ (s : State) (c : Nat) (r : LaunchRec) (rest : List LaunchRec), c < 32 ∧ s.queue c = r :: rest ∧ r.action = 0x38) ∧
    (∃ (s : State) (c : Nat) (e : TxEntry) (rest : List TxEntry), c < 32 ∧ (s.eng c).txq = e :: rest ∧ (s.eng c).todo ≠ 0 ∧ (s.eng c).run = none) ∧
    (∃ (s : State) (c : Nat) (rx : List Nat) (r : SerRun), c < 32 ∧ (s.eng c).run = some r) ∧
    (∃ (s : State) (c : Nat), c < 32 ∧ s.inSafe = false ∧ s.md.mode ≠ .survey ∧ s.bit F.SER_CTRL_en c = true ∧ s.bit F.SER_CTRL_role c = true ∧ (s.eng c).sel = false ∧ (s.eng c).selSeen = true) ∧
    (∃ (s : State) (c : Nat) (gs : List Nat), c < 32 ∧ (s.eng c).sel = false) ∧
    (∃ (s : State) (c : Nat) (gs : List Nat), c < 32 ∧ (s.eng c).sel = true) :=
  ⟨⟨s0, h0, ⟨tBlob, [14] ++ List.replicate 9 0⟩, 31, (by decide), (rdy rfl rfl rfl rfl rfl (by decide)), rfl, rfl, (by decide), (by decide)⟩,
   ⟨{ s0 with ser := [(31, { txq := [⟨0, false, List.replicate 256 0, 0⟩] })] }, h0, ⟨tBlob, List.replicate 10 0⟩, 31, (by decide), (rdy rfl rfl rfl rfl rfl (by decide)), rfl, rfl, (by decide), (by decide +kernel)⟩,
   ⟨s0, h0, ⟨tBlob, [16] ++ List.replicate 9 0⟩, 31, (by decide), (rdy rfl rfl rfl rfl rfl (by decide)), rfl, rfl, (by decide)⟩,
   ⟨s0, h0, ⟨tU16, List.replicate 2 255⟩, 31, (by decide), (rdy rfl rfl rfl rfl rfl (by decide)), (fit rfl rfl)⟩,
   ⟨s0, h0, ⟨tU8, List.replicate 1 255⟩, 31, (by decide), (rdy rfl rfl rfl rfl rfl (by decide)), (fit rfl rfl), (by decide), (by decide)⟩,
   ⟨s0, h0, ⟨tBool, [1]⟩, 31, (by decide), (rdy rfl rfl rfl rfl rfl (by decide)), ⟨fit rfl rfl, by decide⟩⟩,
   ⟨queued s0 31 0x38 0, 31, lrec 0x38 0, [], (by decide), rfl, rfl⟩,
   ⟨{ s0 with ser := [(31, { txq := [⟨0, false, [], 0⟩], todo := 1 })] }, 31, ⟨0, false, [], 0⟩, [], (by decide), (by decide), (by decide), (by decide)⟩,
   ⟨{ s0 with ser := [(31, { run := some ⟨⟨0, false, [], 0⟩, 0, 1, 0⟩ })] }, 31, [], ⟨⟨0, false, [], 0⟩, 0, 1, 0⟩, (by decide), (by decide)⟩,
   ⟨on { s0 with md := { mode := .throughput }, ser := [(31, { selSeen := true })] } [(F.SER_CTRL_en, 31, 0, 1), (F.SER_CTRL_role, 31, 0, 1)], 31, (by decide), (by decide), (by decide), (by decide), (by decide), (by decide), (by decide)⟩,
   ⟨s0, 31, [], (by decide), (by decide)⟩,
   ⟨{ s0 with ser := [(31, { sel := true })] }, 31, [], (by decide), (by decide)⟩⟩

theorem wit_Sessions :
    (∃ (s : State) (port seq tel bytes : Nat) (addr : List Byte), Serving s ∧ s.allowed addr = true ∧ s.owner = none) ∧
    (∃ (s : State) (port seq tel bytes : Nat) (addr : List Byte), Serving s ∧ s.allowed addr = true ∧ s.owner ≠ none) ∧
    (∃ (s : State) (port seq tel bytes : Nat) (addr : List Byte), Serving s ∧ (s.adp.sessions.filter (fun x => !x.owner)).length < 3) ∧
    (∃ (s : State) (port seq tel bytes : Nat) (addr : List Byte), Serving s ∧ 3 ≤ (s.adp.sessions.filter (fun x => !x.owner)).length) ∧
    (∃ (s : State) (h : Hdr), Served s h) ∧
    (∃ (s : State) (h : Hdr) (items : List Sys2Proof.DataItem) (x : Session) (c : Nat × Response), Serving s ∧ s.session h.session = some x ∧ x.cache.find? (fun c => c.1 == h.seq) = some c) ∧
    (∃ (s : State) (h : Hdr) (items : List Sys2Proof.DataItem) (x : Session) (hi : Nat), Serving s ∧ s.session h.session = some x ∧ x.cache.find? (fun c => c.1 == h.seq) = none ∧ x.high = some hi ∧ 64 ≤ (hi + 4294967296 - h.seq % 4294967296) % 4294967296 ∧ (hi + 4294967296 - h.seq % 4294967296) % 4294967296 ≤ 2147483648) ∧
    (∃ (s : State) (h : Hdr) (items : List Sys2Proof.DataItem), Serving s ∧ s.session h.session = none) ∧
    (∃ (s : State) (h : Hdr), s.ks.running = true ∧ s.ks.outage = true ∧ s.ks.serving = none ∧ (s.ks.buffered.filter (fun b => b.port == h.port)).foldl (fun a b => a + b.bytes) 0 + h.bytes ≤ 4194304) ∧
    (∃ (s : State) (h : Hdr), Served s h ∧ s.isOwner h.session = false) ∧
    (∃ (s : State) (h : Hdr) (o : Session), Served s h ∧ s.isOwner h.session = true ∧ s.owner = some o ∧ o.id = h.session) ∧
    (∃ (s : State) (o : Session), s.owner = some o ∧ s.judging = true) ∧
    (∃ (s : State) (id : Nat) (x : Session), s.session id = some x ∧ x.owner = false ∧ s.judging = true) ∧
    (∃ (s : State) (h : Hdr) (d : Sys2Proof.Data), Ready s h ∧ dTrue d) ∧
    (∃ (s : State) (h : Hdr) (d : Sys2Proof.Data), Ready s h ∧ dataFits d tBool) :=
  ⟨⟨{ s0 with adp := {} }, 0, 0, 0, 0, [], ⟨by decide, by decide, by decide, by decide, by decide⟩, (by decide), rfl⟩,
   ⟨s0, 0, 0, 0, 0, [], ⟨by decide, by decide, by decide, by decide, by decide⟩, (by decide), (by decide)⟩,
   ⟨s0, 0, 0, 0, 0, [], ⟨by decide, by decide, by decide, by decide, by decide⟩, (by decide)⟩,
   ⟨{ s0 with adp := { sessions := [own, obs, { obs with id := 9 }, { obs with id := 10 }] } }, 0, 0, 0, 0, [], ⟨by decide, by decide, by decide, by decide, by decide⟩, (by decide)⟩,
   ⟨s0, h0, (srv rfl rfl rfl rfl (by decide))⟩,
   ⟨{ s0 with adp := { sessions := [{ own with cache := [(100, { port := 0, session := 7, seq := 100, status := 0, items := 0 })] }] } }, h0, [], { own with cache := [(100, { port := 0, session := 7, seq := 100, status := 0, items := 0 })] }, (100, { port := 0, session := 7, seq := 100, status := 0, items := 0 }), ⟨by decide, by decide, by decide, by decide, by decide⟩, rfl, rfl⟩,
   ⟨{ s0 with adp := { sessions := [{ own with high := some 164 }] } }, h0, [], { own with high := some 164 }, 164, ⟨by decide, by decide, by decide, by decide, by decide⟩, rfl, rfl, rfl, (by decide), (by decide)⟩,
   ⟨s0, ⟨0, 9, 100, 32⟩, [], ⟨by decide, by decide, by decide, by decide, by decide⟩, rfl⟩,
   ⟨{ s0 with ks := { running := true, outage := true } }, h0, (by decide), (by decide), rfl, (by decide)⟩,
   ⟨s0, h1, (srv1 rfl rfl rfl rfl (by decide)), (by decide)⟩,
   ⟨s0, h0, own, (srv rfl rfl rfl rfl (by decide)), (by decide), rfl, rfl⟩,
   ⟨s0, own, rfl, (by decide)⟩,
   ⟨s0, 8, obs, rfl, (by decide), (by decide)⟩,
   ⟨s0, h0, ⟨tBool, [1]⟩, (rdy rfl rfl rfl rfl rfl (by decide)), ⟨fit rfl rfl, by decide⟩⟩,
   ⟨s0, h0, ⟨tBool, List.replicate 1 255⟩, (rdy rfl rfl rfl rfl rfl (by decide)), (fit rfl rfl)⟩⟩

theorem wit_ItemsAndRegisters :
    (∃ (s : State) (h : Hdr), Served s h) ∧
    (∃ (s : State) (h : Hdr) (i j : Sys2Proof.ReadItem) (e : Nat), Served s h ∧ odFind i.idx i.sub = .error e) ∧
    (∃ (s : State) (h : Hdr) (i j : Sys2Proof.DataItem) (e : Nat), Served s h ∧ odFind i.idx i.sub = .error e ∧ e ≠ eOk) ∧
    (∃ (s : State) (h : Hdr) (d : Sys2Proof.Data), Ready s h ∧ dataFits d tBool) ∧
    (∃ (s : State) (h : Hdr) (d : Sys2Proof.Data), Served s h ∧ s.isOwner h.session = false ∧ s.bist.run = none ∧ dataFits d tBool) ∧
    (∃ (s : State) (h : Hdr) (i : Sys2Proof.DataItem) (r : OdRow), Served s h ∧ odFind i.idx i.sub = .ok r ∧ r.acc = .ro ∧ dataFits i.val r.ty ∧ r.ty ≠ tBlob) ∧
    (∃ (s : State) (h : Hdr) (l : List Sys2Proof.TunnelItem), Served s h ∧ tunnelBad l = true) ∧
    (∃ (s : State) (h : Hdr) (i : Sys2Proof.TunnelItem), Served s h ∧ tunnelBad [i] = false ∧ blockLast (i.addr / 16777216 % 256) (i.addr / 65536 % 256) = none) ∧
    (∃ (s : State) (h : Hdr) (i : Sys2Proof.TunnelItem), Served s h ∧ tunnelBad [i] = false ∧ i.write = true ∧ blockLast (i.addr / 16777216 % 256) (i.addr / 65536 % 256) ≠ none ∧ s.isOwner h.session = false) ∧
    (∃ (s : State) (h : Hdr) (v : Nat), Ready s h ∧ v < 2 ^ 20) ∧
    (∃ (s : State) (a v : Nat), ((addrExists a = false ∨ addrBeyond a = true ∨ a % 4 ≠ 0))) ∧
    (∃ (s : State) (v : Nat), v < 2 ^ 20) ∧
    (∃ (s : State), s.heldBit F.ADP_STATUS_lapsed 0 0 0 = false) :=
  ⟨⟨s0, h0, (srv rfl rfl rfl rfl (by decide))⟩,
   ⟨s0, h0, ⟨0, 0⟩, ⟨0, 0⟩, eNoObject, (srv rfl rfl rfl rfl (by decide)), rfl⟩,
   ⟨s0, h0, ⟨0, 0, ⟨0, []⟩⟩, ⟨0, 0, ⟨0, []⟩⟩, eNoObject, (srv rfl rfl rfl rfl (by decide)), rfl, (by decide)⟩,
   ⟨s0, h0, ⟨tBool, List.replicate 1 255⟩, (rdy rfl rfl rfl rfl rfl (by decide)), (fit rfl rfl)⟩,
   ⟨s0, h1, ⟨tBool, List.replicate 1 255⟩, (srv1 rfl rfl rfl rfl (by decide)), (by decide), rfl, (fit rfl rfl)⟩,
   ⟨s0, h0, ⟨0x2208, 0, ⟨tU32, [0, 0, 0, 0]⟩⟩, _, (srv rfl rfl rfl rfl (by decide)), rfl, rfl, (fit rfl rfl), (by decide)⟩,
   ⟨s0, h0, [{ write := true, inc := false, width := 0, count := 0, addr := 0, words := [0] }], (srv rfl rfl rfl rfl (by decide)), (by decide)⟩,
   ⟨s0, h0, { write := true, inc := false, width := 0, count := 1, addr := 0, words := [0] }, (srv rfl rfl rfl rfl (by decide)), (by decide), rfl⟩,
   ⟨s0, h1, { write := true, inc := false, width := 0, count := 1, addr := 0x01000000, words := [0] }, (srv1 rfl rfl rfl rfl (by decide)), (by decide), (by decide), (by decide), (by decide)⟩,
   ⟨s0, h0, 1048575, (rdy rfl rfl rfl rfl rfl (by decide)), (by decide)⟩,
   ⟨s0, 0, 0, (by decide)⟩,
   ⟨s0, 1048575, (by decide)⟩,
   ⟨s0, (by decide)⟩⟩

theorem wit_BulkTransfers :
    (∃ (s : State) (h : Hdr) (len arg : Nat), Served s h ∧ s.isOwner h.session = true ∧ len % 64 = 0 ∧ arg + len / 64 ≤ s.patLines ∧ s.adp.transfers.length < 16) ∧
    (∃ (s : State) (h : Hdr) (len arg : Nat), Served s h ∧ s.isOwner h.session = false ∧ len % 64 = 0 ∧ arg + len / 64 ≤ s.patLines) ∧
    (∃ (s : State) (h : Hdr) (len arg : Nat), Served s h ∧ s.isOwner h.session = true ∧ len % 64 = 0 ∧ arg + len / 64 ≤ s.patLines ∧ 16 ≤ s.adp.transfers.length) ∧
    (∃ (s : State) (h : Hdr) (len arg : Nat), Served s h ∧ len % 64 = 0 ∧ arg + len / 64 ≤ 1064370176 ∧ s.adp.transfers.length < 16) ∧
    (∃ (s : State) (h : Hdr) (id : Nat), Served s h) ∧
    (∃ (s : State) (port id frame : Nat) (x : Transfer) (data : List Byte), s.bulkRuns = true ∧ s.transfer id = some x ∧ x.dir = 0 ∧ x.idx = 0xFFFF ∧ frame < x.frames ∧ x.next ≤ frame ∧ frame < x.next + 1024 ∧ x.got.contains frame = false ∧ data.length = x.frameLen frame) ∧
    (∃ (s : State) (port session id frame offset : Nat) (x : Transfer) (last : Bool) (data : List Byte), s.transfer id = some x ∧ ((s.bulkRuns = false ∨ x.session ≠ session ∨ x.dir ≠ 0 ∨ x.frames ≤ frame ∨ x.next + 1024 ≤ frame ∨ offset ≠ 8192 * frame ∨ data.length ≠ x.frameLen frame ∨ last ≠ (frame + 1 == x.frames)))) ∧
    (∃ (s : State) (id : Nat) (x : Transfer), s.bulkRuns = true ∧ s.transfer id = some x ∧ 0 < x.sinceAck) ∧
    (∃ (s : State) (port id next : Nat) (x : Transfer) (bitmap : List Nat), s.bulkRuns = true ∧ s.transfer id = some x ∧ x.dir = 1 ∧ next ≤ x.sent) ∧
    (∃ (s : State) (id : Nat) (x : Transfer), s.bulkRuns = true ∧ s.transfer id = some x ∧ x.dir = 1 ∧ x.next < x.sent) ∧
    (∃ (s : State) (id : Nat) (x : Transfer), s.bulkRuns = true ∧ s.transfer id = some x ∧ ((x.dir = 1 ∨ x.idx = 0xFFFF)) ∧ x.next = x.frames ∧ x.sinceAck = 0) ∧
    (∃ (s : State) (id : Nat) (x : Transfer), s.bulkRuns = true ∧ s.transfer id = some x) ∧
    (∃ (s : State), s.ks.running = true) :=
  ⟨⟨s0, h0, 0, 0, (srv rfl rfl rfl rfl (by decide)), (by decide), rfl, (by decide), (by decide)⟩,
   ⟨s0, h1, 0, 0, (srv1 rfl rfl rfl rfl (by decide)), (by decide), rfl, (by decide)⟩,
   ⟨{ s0 with adp := { sessions := [own, obs], transfers := List.replicate 16 { id := 5, session := 7, idx := 0xFFFF, sub := 0, dir := 0, len := 64, arg := 0 } } }, h0, 0, 0, (srv rfl rfl rfl rfl (by decide)), (by decide), rfl, (by decide), (by decide)⟩,
   ⟨s0, h0, 0, 0, (srv rfl rfl rfl rfl (by decide)), rfl, (by decide), (by decide)⟩,
   ⟨s0, h0, 0, (srv rfl rfl rfl rfl (by decide))⟩,
   ⟨{ s0 with adp := { sessions := [own, obs], transfers := [{ id := 5, session := 7, idx := 0xFFFF, sub := 0, dir := 0, len := 64, arg := 0 }] } }, 0, 5, 0, { id := 5, session := 7, idx := 0xFFFF, sub := 0, dir := 0, len := 64, arg := 0 }, List.replicate 64 0, (by decide), rfl, rfl, rfl, (by decide), (by decide), (by decide), (by decide), rfl⟩,
   ⟨{ s0 with adp := { sessions := [own, obs], transfers := [{ id := 5, session := 7, idx := 0xFFFF, sub := 0, dir := 0, len := 64, arg := 0 }] } }, 0, 0, 5, 0, 0, { id := 5, session := 7, idx := 0xFFFF, sub := 0, dir := 0, len := 64, arg := 0 }, true, [], rfl, (by decide)⟩,
   ⟨{ s0 with adp := { sessions := [own, obs], transfers := [{ id := 5, session := 7, idx := 0xFFFF, sub := 0, dir := 0, len := 64, arg := 0, sinceAck := 1 }] } }, 5, { id := 5, session := 7, idx := 0xFFFF, sub := 0, dir := 0, len := 64, arg := 0, sinceAck := 1 }, (by decide), rfl, (by decide)⟩,
   ⟨{ s0 with adp := { sessions := [own, obs], transfers := [{ id := 5, session := 7, idx := 0xFFFF, sub := 0, dir := 1, len := 64, arg := 0 }] } }, 0, 5, 0, { id := 5, session := 7, idx := 0xFFFF, sub := 0, dir := 1, len := 64, arg := 0 }, [], (by decide), rfl, rfl, (by decide)⟩,
   ⟨{ s0 with adp := { sessions := [own, obs], transfers := [{ id := 5, session := 7, idx := 0xFFFF, sub := 0, dir := 1, len := 64, arg := 0, sent := 1 }] } }, 5, { id := 5, session := 7, idx := 0xFFFF, sub := 0, dir := 1, len := 64, arg := 0, sent := 1 }, (by decide), rfl, rfl, (by decide)⟩,
   ⟨{ s0 with adp := { sessions := [own, obs], transfers := [{ id := 5, session := 7, idx := 0xFFFF, sub := 0, dir := 0, len := 64, arg := 0, next := 1 }] } }, 5, { id := 5, session := 7, idx := 0xFFFF, sub := 0, dir := 0, len := 64, arg := 0, next := 1 }, (by decide), rfl, (by decide), rfl, rfl⟩,
   ⟨{ s0 with adp := { sessions := [own, obs], transfers := [{ id := 5, session := 7, idx := 0xFFFF, sub := 0, dir := 0, len := 64, arg := 0 }] } }, 5, { id := 5, session := 7, idx := 0xFFFF, sub := 0, dir := 0, len := 64, arg := 0 }, (by decide), rfl⟩,
   ⟨s0, (by decide)⟩⟩

theorem wit_LinksAndStoredValues :
    (∃ (s : State) (h : Hdr) (d : Sys2Proof.Data), Ready s h ∧ d.ty = tBlob ∧ d.bytes.length = 1 + 17 * dSub d 0 1 ∧ dSub d 0 1 ≤ 8) ∧
    (∃ (s : State) (h : Hdr) (d : Sys2Proof.Data) (idx p len ty : Nat), Ready s h ∧ netShape idx = some (ty, len) ∧ netSub idx p = true ∧ d.ty = ty ∧ d.bytes.length = len ∧ netOk idx d.bytes = true ∧ idx ≠ 0x8009) ∧
    (∃ (s : State) (h : Hdr) (d : Sys2Proof.Data), Ready s h ∧ dataFits d tU8 ∧ dNat d ≤ 3 ∧ s.eth.p0.tx ≠ none ∧ s.eth.p0.rx ≠ none) ∧
    (∃ (s : State) (h : Hdr) (d : Sys2Proof.Data) (idx p : Nat), Ready s h ∧ netShape idx = none) ∧
    (∃ (s : State) (h : Hdr) (d : Sys2Proof.Data) (p : Nat), Ready s h ∧ p < 2 ∧ d.ty = tBlob ∧ d.bytes.length = 50 ∧ dSub d 49 1 < 2) ∧
    (∃ (s : State) (h : Hdr) (d : Sys2Proof.Data), Ready s h ∧ dataFits d tBool) ∧
    (∃ (s : State) (j : JournalRec) (rest : List JournalRec) (r : Response), s.ks.outage = false ∧ s.eth.jrn = j :: rest ∧ j.resp = some r ∧ j.told = none) ∧
    (∃ (s : State) (j : JournalRec) (rest : List JournalRec), s.ks.outage = false ∧ s.eth.jrn = j :: rest) ∧
    (∃ (s : State) (b e : Nat) (bad : Bool), s.ks.running = true ∧ s.ks.outage = false ∧ s.inQuiet = false ∧ s.nvm.eraseOf = some e) ∧
    (∃ (s : State) (b : Nat) (bad : Bool), s.ks.running = true ∧ s.ks.outage = false ∧ s.inQuiet = false ∧ s.nvm.eraseOf = none ∧ s.mayErase b = true) ∧
    (∃ (s : State) (p : Nat), p < 2 ∧ s.linkUp p = true ∧ s.macsec p = true) ∧
    (∃ (s : State) (p : Nat), p < 2 ∧ s.linkUp p = true) ∧
    (∃ (s : State) (p : Nat), p < 2 ∧ s.portsOn = true ∧ s.linkUp p = false) ∧
    (∃ (s : State), s.portsOn = true ∧ s.ks.outage = false) ∧
    (∃ (s : State) (p ttl : Nat) (chassis portId : List Byte), p < 2 ∧ s.linkUp p = true) ∧
    (∃ (s : State), s.ks.running = true ∧ s.ks.outage = false ∧ s.switchState ≠ swProbation) ∧
    (∃ (s : State), s.ks.running = true ∧ s.ks.outage = false ∧ s.switchState = swProbation) ∧
    (∃ (s : State) (dt : Nat), s.ks.changing = true) ∧
    (∃ (s : State) (dt : Nat), s.ks.changing = false ∧ s.tr.buffering = false ∧ s.ks.outage = true ∧ s.ks.buffered = [] ∧ s.switchState ≠ swSwitching) ∧
    (∃ (s : State) (dt at_ bytes : Nat) (h : Hdr) (x : Session), s.ks.running = true ∧ s.tr.recovery = false ∧ s.ks.changing = false ∧ s.tr.buffering = false ∧ s.ks.outage = true ∧ s.ks.buffered = [⟨at_, h.port, bytes, .adpRenew h⟩] ∧ s.switchState ≠ swSwitching ∧ s.session h.session = some x ∧ x.fresh h.seq ∧ (∀ y ∈ s.adp.sessions, at_ ≤ y.renewed + leaseTicks)) :=
  ⟨⟨s0, h0, ⟨tBlob, [8] ++ List.replicate 136 0⟩, (rdy rfl rfl rfl rfl rfl (by decide)), rfl, (by decide +kernel), (by decide)⟩,
   ⟨s0, h0, ⟨tBlob, [15, 254, 7]⟩, 0x8001, 1, 3, tBlob, (rdy rfl rfl rfl rfl rfl (by decide)), rfl, (by decide), rfl, rfl, (by decide), (by decide)⟩,
   ⟨{ s0 with eth := { p0 := { tx := some ⟨0, [], 0, []⟩, rx := some ⟨0, [], 0, []⟩ } } }, h0, ⟨tU8, [3]⟩, (rdy rfl rfl rfl rfl rfl (by decide)), (fit rfl rfl), (by decide), (by decide), (by decide)⟩,
   ⟨s0, h0, ⟨tBlob, []⟩, 0, 0, (rdy rfl rfl rfl rfl rfl (by decide)), rfl⟩,
   ⟨s0, h0, ⟨tBlob, List.replicate 50 0⟩, 1, (rdy rfl rfl rfl rfl rfl (by decide)), (by decide), rfl, rfl, (by decide)⟩,
   ⟨s0, h0, ⟨tBool, List.replicate 1 255⟩, (rdy rfl rfl rfl rfl rfl (by decide)), (fit rfl rfl)⟩,
   ⟨{ s0 with eth := { jrn := [{ key := 0, val := [], resp := some { port := 0, session := 7, seq := 100, status := 0, items := 0 } }] } }, { key := 0, val := [], resp := some { port := 0, session := 7, seq := 100, status := 0, items := 0 } }, [], { port := 0, session := 7, seq := 100, status := 0, items := 0 }, (by decide), rfl, rfl, rfl⟩,
   ⟨{ s0 with eth := { jrn := [{ key := 0, val := [], resp := some { port := 0, session := 7, seq := 100, status := 0, items := 0 } }] } }, { key := 0, val := [], resp := some { port := 0, session := 7, seq := 100, status := 0, items := 0 } }, [], (by decide), rfl⟩,
   ⟨{ s0 with nvm := { eraseOf := some 3 } }, 0, 3, true, (by decide), (by decide), (by decide), rfl⟩,
   ⟨{ s0 with nvm := { blocks := [(0, { erases := 2001 })] } }, 3071, true, (by decide), (by decide), (by decide), rfl, (by decide +kernel)⟩,
   ⟨on s0 [(F.ETH_STATUS_e1_up, 0, 0, 1), (F.ETH_STATUS_e1_macsec, 0, 0, 1)], 1, (by decide), (by decide), (by decide)⟩,
   ⟨on s0 [(F.ETH_STATUS_e1_up, 0, 0, 1)], 1, (by decide), (by decide)⟩,
   ⟨{ s0 with pw := { powered := true, startStep := 10 } }, 1, (by decide), (by decide), (by decide)⟩,
   ⟨{ s0 with pw := { powered := true, startStep := 10 } }, (by decide), (by decide)⟩,
   ⟨on s0 [(F.ETH_STATUS_e1_up, 0, 0, 1)], 1, 0, [], [], (by decide), (by decide)⟩,
   ⟨s0, (by decide), (by decide), (by decide)⟩,
   ⟨on s0 [(F.KEY_STATUS_switch_state, 0, 0, 4)], (by decide), (by decide), rfl⟩,
   ⟨{ s0 with ks := { changing := true } }, 0, (by decide)⟩,
   ⟨{ s0 with ks := { running := true, outage := true } }, 0, (by decide), (by decide), (by decide), rfl, (by decide)⟩,
   ⟨{ s0 with ks := { running := true, outage := true, buffered := [⟨5, 0, 32, .adpRenew h0⟩] } }, 0, 5, 32, h0, own, (by decide), (by decide), (by decide), (by decide), (by decide), rfl, (by decide), rfl, ⟨rfl, by simp [own]⟩, (by decide)⟩⟩

theorem wit_FaultReports :
    (∃ (s : State) (src sev det row : Nat), src < 63 ∧ sev ≤ 3 ∧ ((sev = 2 → det / 4096 % 16 = clsSite)) ∧ s.hears src) ∧
    (∃ (s : State), s.fld F.FC_INJ_src < 63 ∧ s.hears (s.fld F.FC_INJ_src)) ∧
    (∃ (s : State) (h : Hdr) (d : Sys2Proof.Data), Ready s h ∧ d.ty = tBlob ∧ d.bytes.length = 5 ∧ dSub d 0 1 < 63 ∧ dSub d 1 1 ≤ 3 ∧ s.hears (dSub d 0 1)) ∧
    (∃ (s : State) (w : Nat) (c : Cand) (cs : List Cand), s.fc.winAt = some w ∧ s.fc.cands = c :: cs) ∧
    (∃ (s : State) (r : LogRec) (rest : List LogRec), s.ks.running = true ∧ s.ks.outage = false ∧ s.fc.queued = r :: rest) :=
  ⟨⟨s0, 62, 3, 0, 0, (by decide), (by decide), (by decide), (show ¬ (_ ∧ _) from by decide)⟩,
   ⟨on s0 [(F.FC_INJ_src, 0, 0, 62)], (by decide), (show ¬ (_ ∧ _) from by decide)⟩,
   ⟨s0, h0, ⟨tBlob, [62, 3, 0, 0, 0]⟩, (rdy rfl rfl rfl rfl rfl (by decide)), rfl, rfl, (by decide), (by decide), (show ¬ (_ ∧ _) from by decide)⟩,
   ⟨{ s0 with fc := { winAt := some 5, cands := [{ src := 62, sev := 3, detail := 0, inj := false }] } }, 5, { src := 62, sev := 3, detail := 0, inj := false }, [], rfl, rfl⟩,
   ⟨{ s0 with fc := { queued := [⟨0, 0, 0, 0, 0, 0, 0, []⟩] } }, ⟨0, 0, 0, 0, 0, 0, 0, []⟩, [], (by decide), (by decide), rfl⟩⟩

theorem wit_FaultClears :
    (∃ (s : State) (h : Hdr) (d : Sys2Proof.Data) (m : Nat), Ready s h ∧ dataFits d tU64) ∧
    (∃ (s : State), s.heldBit F.FC_FIRST_valid 0 0 0 = false) ∧
    (∃ (s : State) (h : Hdr) (d : Sys2Proof.Data), Ready s h ∧ dTrue d ∧ s.heldBit F.FC_FIRST_valid 0 0 0 = false) ∧
    (∃ (s : State), s.heldBit F.FC_OVF_ovf 0 0 0 = false) ∧
    (∃ (s : State) (h : Hdr) (d : Sys2Proof.Data), Ready s h ∧ dataFits d tU64) ∧
    (∃ (s : State) (e : EscEntry), nextEsc s.fc.esc = some e ∧ s.srcSet e.src = false) ∧
    (∃ (s : State) (e : EscEntry), nextEsc s.fc.esc = some e ∧ s.srcSet e.src = true ∧ e.src < 63 ∧ s.thm.halted = true) ∧
    (∃ (s : State) (e : EscEntry), nextEsc s.fc.esc = some e ∧ s.srcSet e.src = true ∧ e.src < 63 ∧ e.sev = 3 ∧ s.thm.halted = false) ∧
    (∃ (s : State) (e : EscEntry), nextEsc s.fc.esc = some e ∧ s.srcSet e.src = true ∧ e.src < 63 ∧ e.sev = 2 ∧ e.detail / 4096 = clsSite ∧ e.detail % 4096 < 256 ∧ s.thm.halted = false) ∧
    (∃ (s : State) (h : Hdr) (d : Sys2Proof.Data) (site : Nat), Ready s h ∧ dTrue d ∧ site < 256 ∧ site ∈ s.fc.parked ∧ s.srcSet ((s.homeCourse site).getD (site / 8)) = false) ∧
    (∃ (s : State) (h : Hdr) (d : Sys2Proof.Data) (site : Nat), Ready s h ∧ dTrue d ∧ site < 256 ∧ site ∈ s.fc.parked ∧ s.srcSet ((s.homeCourse site).getD (site / 8)) = true) ∧
    (∃ (s : State) (h : Hdr) (d : Sys2Proof.Data) (c : Nat), Ready s h ∧ dTrue d ∧ c < 32 ∧ c ∈ s.fc.derated ∧ s.srcSet c = false) ∧
    (∃ (s : State) (h : Hdr) (d : Sys2Proof.Data) (c : Nat), Ready s h ∧ dTrue d ∧ c < 32 ∧ c ∈ s.fc.derated ∧ s.srcSet c = true) :=
  ⟨⟨s0, h0, ⟨tU64, List.replicate 8 255⟩, 0, (rdy rfl rfl rfl rfl rfl (by decide)), (fit rfl rfl)⟩,
   ⟨s0, (by decide)⟩,
   ⟨s0, h0, ⟨tBool, [1]⟩, (rdy rfl rfl rfl rfl rfl (by decide)), ⟨fit rfl rfl, by decide⟩, (by decide)⟩,
   ⟨s0, (by decide)⟩,
   ⟨s0, h0, ⟨tU64, List.replicate 8 255⟩, (rdy rfl rfl rfl rfl rfl (by decide)), (fit rfl rfl)⟩,
   ⟨{ s0 with fc := { esc := [{ src := 62, sev := 2, detail := 0, inj := false, expiry := 5 }] } }, { src := 62, sev := 2, detail := 0, inj := false, expiry := 5 }, rfl, (by decide)⟩,
   ⟨on { s0 with thm := { halted := true }, fc := { esc := [{ src := 31, sev := 3, detail := 0, inj := false, expiry := 5 }] } } [(F.FC_STATUS_LO_status, 0, 0, 2147483648)], { src := 31, sev := 3, detail := 0, inj := false, expiry := 5 }, rfl, (by decide), (by decide), (by decide)⟩,
   ⟨on { s0 with fc := { esc := [{ src := 31, sev := 3, detail := 0, inj := false, expiry := 5 }] } } [(F.FC_STATUS_LO_status, 0, 0, 2147483648)], { src := 31, sev := 3, detail := 0, inj := false, expiry := 5 }, rfl, (by decide), (by decide), rfl, (by decide)⟩,
   ⟨on { s0 with fc := { esc := [{ src := 31, sev := 2, detail := 8192, inj := false, expiry := 5 }] } } [(F.FC_STATUS_LO_status, 0, 0, 2147483648)], { src := 31, sev := 2, detail := 8192, inj := false, expiry := 5 }, rfl, (by decide), (by decide), rfl, rfl, (by decide), (by decide)⟩,
   ⟨{ s0 with fc := { parked := [255] } }, h0, ⟨tBool, [1]⟩, 255, (rdy rfl rfl rfl rfl rfl (by decide)), ⟨fit rfl rfl, by decide⟩, (by decide), (by decide), (by decide)⟩,
   ⟨on { s0 with fc := { parked := [255] } } [(F.FC_STATUS_LO_status, 0, 0, 2147483648)], h0, ⟨tBool, [1]⟩, 255, (rdy rfl rfl rfl rfl rfl (by decide)), ⟨fit rfl rfl, by decide⟩, (by decide), (by decide), (by decide)⟩,
   ⟨{ s0 with fc := { derated := [31] } }, h0, ⟨tBool, [1]⟩, 31, (rdy rfl rfl rfl rfl rfl (by decide)), ⟨fit rfl rfl, by decide⟩, (by decide), (by decide), (by decide)⟩,
   ⟨on { s0 with fc := { derated := [31] } } [(F.FC_STATUS_LO_status, 0, 0, 2147483648)], h0, ⟨tBool, [1]⟩, 31, (rdy rfl rfl rfl rfl rfl (by decide)), ⟨fit rfl rfl, by decide⟩, (by decide), (by decide), (by decide)⟩⟩

theorem wit_SelfTestAndDram :
    (∃ (s : State), s.bist.run = none ∧ bistAllows (s.fld F.BST_CFG_kind) (s.fld F.BST_CFG_target) = true ∧ ((2 ≤ s.fld F.BST_CFG_kind ∨ s.md.mode = .safe ∨ s.md.mode = .survey))) ∧
    (∃ (s : State), s.bist.run ≠ none) ∧
    (∃ (s : State) (h : Hdr) (d : Sys2Proof.Data), Served s h ∧ d.ty = tBlob ∧ d.bytes.length = 3 ∧ bistAllows (dSub d 0 1) (dSub d 1 1) = true ∧ s.bist.run = none ∧ ((2 ≤ dSub d 0 1 ∨ s.isOwner h.session = true ∧ (s.md.mode = .safe ∨ s.md.mode = .survey)))) ∧
    (∃ (s : State) (h : Hdr) (d : Sys2Proof.Data), Served s h ∧ d.ty = tBlob ∧ d.bytes.length = 3 ∧ bistAllows (dSub d 0 1) (dSub d 1 1) = true ∧ s.bist.run ≠ none ∧ ((2 ≤ dSub d 0 1 ∨ s.isOwner h.session = true))) ∧
    (∃ (s : State) (r : BistRun), s.bist.run = some r) ∧
    (∃ (s : State) (h : Hdr) (d : Sys2Proof.Data) (r : BistRun), Served s h ∧ dTrue d ∧ s.bist.run = some r ∧ ((2 ≤ r.kind ∨ s.isOwner h.session = true))) ∧
    (∃ (s : State) (r : BistRun), s.bist.run = some r ∧ s.sliceMay r = true) ∧
    (∃ (s : State) (r : BistRun), s.bist.run = some r ∧ r.slice = true) ∧
    (∃ (s : State) (r : BistRun) (sig src det : Nat) (repairs : List Nat), s.bist.run = some r ∧ ((r.kind < 2 ∨ s.fld F.BST_DONE_count = s.fld F.BST_PROG_count))) ∧
    (∃ (s : State) (r : BistRun) (sig exp_ src det : Nat) (repairs : List Nat), s.bist.run = some r ∧ ((r.kind < 2 ∨ s.fld F.BST_DONE_count = s.fld F.BST_PROG_count)) ∧ sig % 2 ^ 64 ≠ exp_ % 2 ^ 64) ∧
    (∃ (s : State) (r : BistRun), s.bist.run = some r) ∧
    (∃ (s : State) (h : Hdr) (d : Sys2Proof.Data) (bad : List Nat), Ready s h ∧ dTrue d ∧ s.md.mode = .safe ∧ s.bist.fuseField.length + s.bist.softMap.length ≤ 512) ∧
    (∃ (s : State) (h : Hdr) (d : Sys2Proof.Data) (bad : List Nat), Ready s h ∧ dataFits d tBool ∧ s.md.mode ≠ .safe) ∧
    (∃ (s : State) (h : Hdr) (d : Sys2Proof.Data) (n : Nat), Ready s h ∧ n < 4 ∧ dTrue d ∧ s.md.mode = .safe) ∧
    (∃ (s : State) (h : Hdr) (d : Sys2Proof.Data) (n : Nat), Ready s h ∧ n < 4 ∧ dataFits d tBool ∧ s.md.mode ≠ .safe) ∧
    (∃ (s : State) (n pc bank row line tries : Nat), n < 4) ∧
    (∃ (s : State) (n : Nat) (rows : List Nat), n < 4 ∧ s.inQuiet = false ∧ s.ks.running = true ∧ s.thm.halted = false) :=
  ⟨⟨s0, rfl, (by decide), (by decide)⟩,
   ⟨{ s0 with bist := { run := some ⟨2, 0, 0, false, 0, true⟩ } }, (by decide)⟩,
   ⟨s0, h0, ⟨tBlob, [1, 58, 0]⟩, (srv rfl rfl rfl rfl (by decide)), rfl, rfl, (by decide), rfl, (by decide)⟩,
   ⟨{ s0 with bist := { run := some ⟨2, 0, 0, false, 0, true⟩ } }, h0, ⟨tBlob, [2, 0, 0]⟩, (srv rfl rfl rfl rfl (by decide)), rfl, rfl, (by decide), (by decide), (by decide)⟩,
   ⟨{ s0 with bist := { run := some ⟨3, 0, 0, false, 0, true⟩ } }, ⟨3, 0, 0, false, 0, true⟩, rfl⟩,
   ⟨{ s0 with bist := { run := some ⟨2, 0, 0, false, 0, true⟩ } }, h0, ⟨tBool, [1]⟩, ⟨2, 0, 0, false, 0, true⟩, (srv rfl rfl rfl rfl (by decide)), ⟨fit rfl rfl, by decide⟩, rfl, (by decide)⟩,
   ⟨on { s0 with bist := { run := some ⟨2, 0, 0, false, 0, true⟩ } } [(F.BST_PROG_count, 0, 0, 1)], ⟨2, 0, 0, false, 0, true⟩, rfl, (by decide)⟩,
   ⟨{ s0 with bist := { run := some ⟨2, 0, 0, true, 0, true⟩ } }, ⟨2, 0, 0, true, 0, true⟩, rfl, (by decide)⟩,
   ⟨{ s0 with bist := { run := some ⟨0, 0, 0, false, 0, true⟩ } }, ⟨0, 0, 0, false, 0, true⟩, 0, 0, 0, [], rfl, (by decide)⟩,
   ⟨{ s0 with bist := { run := some ⟨1, 0, 0, false, 0, true⟩ } }, ⟨1, 0, 0, false, 0, true⟩, 1, 0, 0, 0, [], rfl, (by decide), (by decide)⟩,
   ⟨{ s0 with bist := { run := some ⟨3, 0, 0, false, 0, true⟩ } }, ⟨3, 0, 0, false, 0, true⟩, rfl⟩,
   ⟨s0, h0, ⟨tBool, [1]⟩, [], (rdy rfl rfl rfl rfl rfl (by decide)), ⟨fit rfl rfl, by decide⟩, rfl, (by decide)⟩,
   ⟨{ s0 with md := { mode := .survey } }, h0, ⟨tBool, List.replicate 1 255⟩, [], (rdy rfl rfl rfl rfl rfl (by decide)), (fit rfl rfl), (by decide)⟩,
   ⟨s0, h0, ⟨tBool, [1]⟩, 3, (rdy rfl rfl rfl rfl rfl (by decide)), (by decide), ⟨fit rfl rfl, by decide⟩, rfl⟩,
   ⟨{ s0 with md := { mode := .survey } }, h0, ⟨tBool, List.replicate 1 255⟩, 3, (rdy rfl rfl rfl rfl rfl (by decide)), (by decide), (fit rfl rfl), (by decide)⟩,
   ⟨s0, 3, 0, 0, 0, 0, 0, (by decide)⟩,
   ⟨s0, 3, [], (by decide), (by decide), (by decide), (by decide)⟩⟩

theorem wit_CalibrationSets :
    (∃ (s : State) (h : Hdr) (d : Sys2Proof.Data), Ready s h ∧ dTrue d) ∧
    (∃ (s : State) (h : Hdr) (d : Sys2Proof.Data), Ready s h ∧ d.ty = tBlob ∧ d.bytes.length = 196608) ∧
    (∃ (s : State) (h : Hdr) (d : Sys2Proof.Data), Ready s h ∧ d.ty = tBlob ∧ d.bytes.length ≠ 196608) ∧
    (∃ (s : State) (h : Hdr) (d : Sys2Proof.Data), Ready s h ∧ dTrue d ∧ (s.md.mode = .safe ∨ s.md.mode = .survey) ∧ s.cal.run = none ∧ s.cal.commit = none) ∧
    (∃ (s : State) (h : Hdr) (d : Sys2Proof.Data), Ready s h ∧ dTrue d ∧ ((s.md.mode ≠ .safe ∧ s.md.mode ≠ .survey ∨ s.cal.run ≠ none ∨ s.cal.commit ≠ none))) ∧
    (∃ (s : State) (c : CalCommitState) (bad : Nat), s.cal.commit = some c ∧ s.cal.force ≠ none ∧ c.set.data = s.calData) ∧
    (∃ (s : State) (c : CalCommitState), s.cal.commit = some c ∧ c.set.data ≠ s.calData) ∧
    (∃ (s : State) (h : Hdr) (d : Sys2Proof.Data), Ready s h ∧ d.ty = tBlob ∧ d.bytes.length = 9 ∧ dSub d 0 1 < 4) ∧
    (∃ (s : State) (h : Hdr) (d : Sys2Proof.Data), Ready s h ∧ dataFits d tI64) ∧
    (∃ (s : State) (h : Hdr) (d : Sys2Proof.Data), Ready s h ∧ dataFits d tU8 ∧ dNat d < 8 ∧ s.md.mode = .survey) ∧
    (∃ (s : State) (h : Hdr) (d : Sys2Proof.Data), Ready s h ∧ dataFits d tU8 ∧ s.md.mode ≠ .survey) ∧
    (∃ (s : State) (r : CalRunState) (reading : Int), s.cal.run = some r) :=
  ⟨⟨s0, h0, ⟨tBool, [1]⟩, (rdy rfl rfl rfl rfl rfl (by decide)), ⟨fit rfl rfl, by decide⟩⟩,
   ⟨s0, h0, ⟨tBlob, List.replicate 196608 0⟩, (rdy rfl rfl rfl rfl rfl (by decide)), rfl, List.length_replicate⟩,
   ⟨s0, h0, ⟨tBlob, []⟩, (rdy rfl rfl rfl rfl rfl (by decide)), rfl, (by decide)⟩,
   ⟨s0, h0, ⟨tBool, [1]⟩, (rdy rfl rfl rfl rfl rfl (by decide)), ⟨fit rfl rfl, by decide⟩, (by decide), rfl, rfl⟩,
   ⟨{ s0 with md := { mode := .precision } }, h0, ⟨tBool, [1]⟩, (rdy rfl rfl rfl rfl rfl (by decide)), ⟨fit rfl rfl, by decide⟩, (by decide)⟩,
   ⟨{ s0 with cal := { commit := some ⟨⟨1, []⟩, 0, []⟩, force := some ⟨1, []⟩ } }, ⟨⟨1, []⟩, 0, []⟩, 0, rfl, (by decide), rfl⟩,
   ⟨{ s0 with cal := { commit := some ⟨⟨1, [(0, 1)]⟩, 0, []⟩ } }, ⟨⟨1, [(0, 1)]⟩, 0, []⟩, rfl, (by decide)⟩,
   ⟨s0, h0, ⟨tBlob, [3] ++ List.replicate 8 0⟩, (rdy rfl rfl rfl rfl rfl (by decide)), rfl, rfl, (by decide)⟩,
   ⟨s0, h0, ⟨tI64, List.replicate 8 255⟩, (rdy rfl rfl rfl rfl rfl (by decide)), (fit rfl rfl)⟩,
   ⟨{ s0 with md := { mode := .survey } }, h0, ⟨tU8, [7]⟩, (rdy rfl rfl rfl rfl rfl (by decide)), (fit rfl rfl), (by decide), rfl⟩,
   ⟨s0, h0, ⟨tU8, List.replicate 1 255⟩, (rdy rfl rfl rfl rfl rfl (by decide)), (fit rfl rfl), (by decide)⟩,
   ⟨{ s0 with cal := { run := some ⟨7, 0⟩ } }, ⟨7, 0⟩, 0, rfl⟩⟩

theorem wit_FirmwareTrust :
    (∃ (s : State) (h : Hdr) (d : Sys2Proof.Data), Ready s h ∧ dTrue d) ∧
    (∃ (s : State) (h : Hdr) (d : Sys2Proof.Data), Ready s h ∧ d.ty = tBlob ∧ d.bytes.length = 512 ∧ s.md.mode = .safe ∧ s.tr.keys = []) ∧
    (∃ (s : State) (h : Hdr) (d : Sys2Proof.Data) (k : List Byte), Ready s h ∧ d.ty = tBlob ∧ d.bytes.length = 1024 ∧ s.md.mode = .safe ∧ s.tr.keys = [k]) ∧
    (∃ (s : State) (h : Hdr) (d : Sys2Proof.Data) (k : List Byte), Ready s h ∧ d.ty = tBlob ∧ d.bytes.length = 512 ∧ s.md.mode = .safe ∧ s.tr.keys = [k]) ∧
    (∃ (s : State) (h : Hdr) (d : Sys2Proof.Data) (j k : List Byte) (l : List (List Byte)), Ready s h ∧ d.ty = tBlob ∧ ((d.bytes.length = 512 ∨ d.bytes.length = 1024)) ∧ s.md.mode = .safe ∧ s.tr.keys = j :: k :: l) ∧
    (∃ (s : State) (h : Hdr) (d : Sys2Proof.Data), Ready s h ∧ d.ty = tBlob ∧ s.tr.banks.length = 2) ∧
    (∃ (s : State) (h : Hdr) (d : Sys2Proof.Data), Ready s h ∧ dTrue d ∧ (s.switchState = swIdle ∨ s.switchState = swFailed ∨ s.switchState = swReverted)) ∧
    (∃ (s : State) (h : Hdr) (d : Sys2Proof.Data), Ready s h ∧ dTrue d ∧ s.switchState ≠ swIdle ∧ s.switchState ≠ swFailed ∧ s.switchState ≠ swReverted) ∧
    (∃ (s : State), s.switchState = swLoading ∧ s.ks.running = true ∧ s.ks.outage = false ∧ (s.fwBank (1 - s.tr.bank)).loaded = true ∧ s.tr.rollback ≤ (s.fwBank (1 - s.tr.bank)).rollback) ∧
    (∃ (s : State), s.switchState = swLoading ∧ s.ks.running = true ∧ s.ks.outage = false) ∧
    (∃ (s : State) (t0 : Nat), s.tr.stagedAt = some t0 ∧ s.switchState = swStaged ∧ s.ks.outage = false ∧ s.nvmBusy = false ∧ s.nvm.eraseOf = none) ∧
    (∃ (s : State) (t0 : Nat), s.tr.stagedAt = some t0 ∧ s.switchState = swStaged ∧ s.ks.outage = false ∧ ((s.nvmBusy = true ∨ s.nvm.eraseOf ≠ none))) ∧
    (∃ (s : State) (e : Nat), s.tr.probationEnd = some e ∧ s.switchState = swProbation ∧ s.ks.outage = false) ∧
    (∃ (s : State), (s.switchState = swProbation ∨ s.switchState = swSwitching)) ∧
    (∃ (s : State), s.switchState ≠ swProbation ∧ s.switchState ≠ swSwitching) ∧
    (∃ (s : State) (h : Hdr) (d : Sys2Proof.Data), Ready s h ∧ d.ty = tBlob ∧ d.bytes.length = 32) ∧
    (∃ (s : State) (h : Hdr), Served s h) :=
  ⟨⟨s0, h0, ⟨tBool, [1]⟩, (rdy rfl rfl rfl rfl rfl (by decide)), ⟨fit rfl rfl, by decide⟩⟩,
   ⟨s0, h0, ⟨tBlob, List.replicate 512 0⟩, (rdy rfl rfl rfl rfl rfl (by decide)), rfl, List.length_replicate, rfl, rfl⟩,
   ⟨{ s0 with tr := { keys := [[1, 1, 1]] } }, h0, ⟨tBlob, List.replicate 1024 0⟩, [1, 1, 1], (rdy rfl rfl rfl rfl rfl (by decide)), rfl, List.length_replicate, rfl, rfl⟩,
   ⟨{ s0 with tr := { keys := [[1, 1, 1]] } }, h0, ⟨tBlob, List.replicate 512 0⟩, [1, 1, 1], (rdy rfl rfl rfl rfl rfl (by decide)), rfl, List.length_replicate, rfl, rfl⟩,
   ⟨{ s0 with tr := { keys := [[1, 1, 1], [1, 1, 1]] } }, h0, ⟨tBlob, List.replicate 1024 0⟩, [1, 1, 1], [1, 1, 1], [], (rdy rfl rfl rfl rfl rfl (by decide)), rfl, (.inr List.length_replicate), rfl, rfl⟩,
   ⟨s0, h0, ⟨tBlob, []⟩, (rdy rfl rfl rfl rfl rfl (by decide)), rfl, rfl⟩,
   ⟨s0, h0, ⟨tBool, [1]⟩, (rdy rfl rfl rfl rfl rfl (by decide)), ⟨fit rfl rfl, by decide⟩, (by decide)⟩,
   ⟨on s0 [(F.KEY_STATUS_switch_state, 0, 0, 1)], h0, ⟨tBool, [1]⟩, (rdy rfl rfl rfl rfl rfl (by decide)), ⟨fit rfl rfl, by decide⟩, (by decide), (by decide), (by decide)⟩,
   ⟨on { s0 with tr := { banks := [{}, { loaded := true }] } } [(F.KEY_STATUS_switch_state, 0, 0, 1)], rfl, (by decide), (by decide), (by decide), (by decide)⟩,
   ⟨on s0 [(F.KEY_STATUS_switch_state, 0, 0, 1)], rfl, (by decide), (by decide)⟩,
   ⟨on { s0 with tr := { stagedAt := some 5 } } [(F.KEY_STATUS_switch_state, 0, 0, 2)], 5, rfl, rfl, (by decide), (by decide), rfl⟩,
   ⟨on { s0 with tr := { stagedAt := some 5 }, nvm := { eraseOf := some 3 } } [(F.KEY_STATUS_switch_state, 0, 0, 2)], 5, rfl, rfl, (by decide), (by decide)⟩,
   ⟨on { s0 with tr := { probationEnd := some 5 } } [(F.KEY_STATUS_switch_state, 0, 0, 4)], 5, rfl, rfl, (by decide)⟩,
   ⟨on s0 [(F.KEY_STATUS_switch_state, 0, 0, 3)], (by decide)⟩,
   ⟨s0, (by decide), (by decide)⟩,
   ⟨s0, h0, ⟨tBlob, List.replicate 32 0⟩, (rdy rfl rfl rfl rfl rfl (by decide)), rfl, rfl⟩,
   ⟨s0, h0, (srv rfl rfl rfl rfl (by decide))⟩⟩

theorem wit_ResetsAndTap :
    (∃ (s : State) (r : Nat) (mv : Int), r < 11 ∧ railGood r mv = false) ∧
    (∃ (s : State) (r : Nat) (mv : Int), ((11 ≤ r ∨ railGood r mv = true))) ∧
    (∃ (s : State) (t0 : Nat), s.thm.belowSince = some t0 ∧ s.thm.halted = true) ∧
    (∃ (s : State) (pos : Nat) (rails : List (Int × Nat)), s.pw.powered = false ∧ s.pw.resetLow = false ∧ ((∀ r, r < 11 → railGood r (Tbl.get (s.readRails 0 (rails.take 11)).pw.rails {} r).mv = true))) ∧
    (∃ (s : State) (pos : Nat) (rails : List (Int × Nat)), s.pw.powered = false ∧ s.pw.resetLow = true ∧ ((∀ r, r < 11 → railGood r (Tbl.get (s.readRails 0 (rails.take 11)).pw.rails {} r).mv = true))) ∧
    (∃ (s : State) (pos : Nat) (rails : List (Int × Nat)), s.pw.powered = true ∧ s.pw.resetLow = true) ∧
    (∃ (s : State) (pos : Nat) (rails : List (Int × Nat)), s.pw.powered = false ∧ s.pw.resetLow = true) ∧
    (∃ (s : State) (dt n : Nat) (bad repairs : List Nat), s.pw.powered = true ∧ s.pw.resetLow = false ∧ s.tr.recovery = false ∧ s.pw.startStep = n ∧ ((n = 1 ∨ n = 2 ∧ s.bit F.THM_STATUS_first_set = true ∨ n = 5 ∧ s.bit F.THM_STATUS_shutdown = false))) ∧
    (∃ (s : State) (dt n : Nat) (bad repairs : List Nat), s.pw.powered = true ∧ s.pw.resetLow = false ∧ s.tr.recovery = false ∧ s.pw.startStep = n ∧ ((n = 4 ∨ 6 ≤ n ∧ n ≤ 9))) ∧
    (∃ (s : State) (dt : Nat) (repairs : List Nat), s.pw.powered = true ∧ s.pw.resetLow = false ∧ s.tr.recovery = false ∧ s.pw.startStep = 3 ∧ s.tr.preferred < s.tr.banks.length ∧ (s.fwBank s.tr.preferred).loaded = true ∧ s.tr.rollback ≤ (s.fwBank s.tr.preferred).rollback) ∧
    (∃ (s : State) (dt : Nat) (repairs : List Nat), s.pw.powered = true ∧ s.pw.resetLow = false ∧ s.tr.recovery = false ∧ s.pw.startStep = 3 ∧ s.tr.preferred < 2) ∧
    (∃ (s : State) (dt : Nat) (repairs : List Nat), s.pw.powered = true ∧ s.pw.resetLow = false ∧ s.tr.recovery = false ∧ s.pw.startStep = 10) ∧
    (∃ (s : State) (r t0 : Nat), r < 11 ∧ s.pw.powered = true ∧ s.pw.resetLow = false ∧ (Tbl.get s.pw.rails {} r).outSince = some t0 ∧ (Tbl.get s.pw.rails {} r).outTold = false) ∧
    (∃ (s : State), s.ks.running = true ∧ s.ks.outage = false ∧ s.thm.halted = false) ∧
    (∃ (s : State), s.tapOn = true ∧ s.pw.resetLow = true) ∧
    (∃ (s : State) (cells : List Nat), s.tapOn = true) ∧
    (∃ (s : State) (cells : List Nat), s.tapOn = false) :=
  ⟨⟨s0, 10, 0, (by decide), (by decide)⟩,
   ⟨s0, 11, 0, (by decide)⟩,
   ⟨{ s0 with thm := { belowSince := some 5, halted := true } }, 5, rfl, (by decide)⟩,
   ⟨s0, 0, [(727, 0), (873, 0), (1140, 0), (1067, 0), (1746, 0), (7760, 0), (-2910, 0), (14700, 0), (-14700, 0), (1710, 0), (1746, 0)], (by decide), (by decide), (by decide)⟩,
   ⟨{ s0 with pw := { resetLow := true } }, 0, [(727, 0), (873, 0), (1140, 0), (1067, 0), (1746, 0), (7760, 0), (-2910, 0), (14700, 0), (-14700, 0), (1710, 0), (1746, 0)], (by decide), (by decide), (by decide)⟩,
   ⟨{ s0 with pw := { powered := true, resetLow := true } }, 0, [], (by decide), (by decide)⟩,
   ⟨{ s0 with pw := { resetLow := true } }, 0, [], (by decide), (by decide)⟩,
   ⟨on { s0 with pw := { powered := true, startStep := 5 } } [(F.THM_STATUS_shutdown, 0, 0, 0)], 0, 5, [], [], (by decide), (by decide), (by decide), rfl, (by decide)⟩,
   ⟨{ s0 with pw := { powered := true, startStep := 9 } }, 0, 9, [], [], (by decide), (by decide), (by decide), rfl, (by decide)⟩,
   ⟨{ s0 with pw := { powered := true, startStep := 3 } }, 0, [], (by decide), (by decide), (by decide), rfl, (by decide), (by decide), (by decide)⟩,
   ⟨{ s0 with pw := { powered := true, startStep := 3 } }, 0, [], (by decide), (by decide), (by decide), rfl, (by decide)⟩,
   ⟨{ s0 with pw := { powered := true, startStep := 10 } }, 0, [], (by decide), (by decide), (by decide), rfl⟩,
   ⟨{ s0 with pw := { powered := true, rails := [(10, { outSince := some 5 })] } }, 10, 5, (by decide), (by decide), (by decide), (by decide), (by decide)⟩,
   ⟨s0, (by decide), (by decide), (by decide)⟩,
   ⟨{ s0 with pw := { powered := true, resetLow := true, rails := [(0, { mv := 680 }), (2, { mv := 1080 })] } }, (by decide), (by decide)⟩,
   ⟨{ s0 with pw := { powered := true, rails := [(0, { mv := 680 }), (2, { mv := 1080 })] } }, [], (by decide)⟩,
   ⟨s0, [], (by decide)⟩⟩

theorem wit_BudgetClamp :
    (∃ (s : State) (v : Nat), v < 2 ^ 18) ∧
    (∃ (s : State) (h : Hdr), Served s h) :=
  ⟨⟨s0, 262143, (by decide)⟩,
   ⟨s0, h0, (srv rfl rfl rfl rfl (by decide))⟩⟩

theorem wit_OwnerAllowlist :
    (∃ (s : State) (port seq tel bytes n : Nat) (addr l : List Byte), Serving s ∧ l = s.od 0x8013 0 [0] ∧ n = beNat (l.take 1) ∧ n ≠ 0 ∧ ((∀ k, k < n → beNat ((l.drop (1 + 17 * k)).take 16) / 2 ^ (128 - beNat ((l.drop (17 + 17 * k)).take 1)) ≠ beNat addr / 2 ^ (128 - beNat ((l.drop (17 + 17 * k)).take 1))))) ∧
    (∃ (s : State) (port seq tel bytes n k : Nat) (addr l : List Byte), Serving s ∧ l = s.od 0x8013 0 [0] ∧ n = beNat (l.take 1) ∧ k < n ∧ beNat ((l.drop (1 + 17 * k)).take 16) / 2 ^ (128 - beNat ((l.drop (17 + 17 * k)).take 1)) = beNat addr / 2 ^ (128 - beNat ((l.drop (17 + 17 * k)).take 1)) ∧ s.owner = none) ∧
    (∃ (s : State) (port seq tel bytes : Nat) (addr : List Byte), Serving s ∧ (s.adp.sessions.filter (fun x => !x.owner)).length < 3) :=
  ⟨⟨{ s0 with dict := [(0x801300, [1] ++ List.replicate 16 0 ++ [128])] }, 0, 0, 0, 0, 1, [1], [1] ++ List.replicate 16 0 ++ [128], ⟨by decide, by decide, by decide, by decide, by decide⟩, rfl, rfl, (by decide), (by decide)⟩,
   ⟨{ s0 with dict := [(0x801300, [1] ++ List.replicate 16 0 ++ [128])], adp := {} }, 0, 0, 0, 0, 1, 0, [], [1] ++ List.replicate 16 0 ++ [128], ⟨by decide, by decide, by decide, by decide, by decide⟩, rfl, rfl, (by decide), rfl, rfl⟩,
   ⟨s0, 0, 0, 0, 0, [], ⟨by decide, by decide, by decide, by decide, by decide⟩, (by decide)⟩⟩

theorem wit_BadFrames :
    (∃ (s : State) (i : Instr) (bad : Nat), s.linesUp = true ∧ ((∃ (c p m x : Nat) (u y : Bool), i = .presence c p m x u y bad ∧ bad % 4096 ≠ (Frame.presence c p m x u y).check) ∨ (∃ (n : Nat) (u h : Bool), i = .timeFrame n u h bad ∧ bad % 4096 ≠ (Frame.time n u h).check) ∨ (∃ (p f : Nat), i = .alignFrame p f bad ∧ bad % 4096 ≠ (Frame.align (p * 4096 + f % 4096)).check) ∨ (∃ (r : Int), i = .trimFrame r bad ∧ bad % 4096 ≠ (Frame.trim r).check) ∨ (∃ (p : Nat) (m x : Int), i = .calFrame p m x bad ∧ bad % 4096 ≠ (Frame.calReport p m).check) ∨ (∃ (b c x : Nat) (y : Bool), i = .join .lines b c x y bad ∧ bad % 4096 ≠ (Frame.join b c x y 0).check) ∨ (∃ (b t : Nat), i = .ready .lines b t bad ∧ bad % 4096 ≠ (Frame.ready b t).check) ∨ (∃ (b t : Nat), i = .beat .lines b t bad ∧ bad % 4096 ≠ (Frame.beat b t).check) ∨ (∃ (b c : Nat), i = .memberBeat .lines b c bad ∧ bad % 4096 ≠ (Frame.memberBeat b c).check) ∨ (∃ (b t : Nat), i = .defer .lines b t bad ∧ bad % 4096 ≠ (Frame.defer b t).check) ∨ (∃ (b t : Nat), i = .split .lines b t bad ∧ bad % 4096 ≠ (Frame.split b t).check))) ∧
    (∃ (s : State) (h : Hdr), Served s h) :=
  ⟨⟨{ s0 with pw := { startStep := 10 } }, .split .lines 0 0 0, 0, (by decide), .inr (.inr (.inr (.inr (.inr (.inr (.inr (.inr (.inr (.inr ⟨_, _, rfl, by decide +kernel⟩)))))))))⟩,
   ⟨s0, h0, (srv rfl rfl rfl rfl (by decide))⟩⟩


end Sys2Proof.Tests
end

section
/-! SUPPORT. Proofs: which register fields an update leaves alone, and what a fault report does. -/

namespace Sys2Proof.Machine

/-! ### Which fields stay -/

/-- Where a field stands in its block: the part of its key that is the same for every one of its registers. -/
def Fld.place (f : Fld) : Nat × Nat × Nat := (f.blk, f.off, f.lo)

/-- A field at another place reads as before. -/
theorem State.fld_setFld_place (s : State) {f g : Fld} {i n j m : Nat} (v : Nat) (h : g.place ≠ f.place) (hf : f.off < 65536 ∧ f.lo < 32)
    (hg : g.off < 65536 ∧ g.lo < 32) (hi : i < 64) (hn : n < 1048576) (hj : j < 64) (hm : m < 1048576) :
    (s.setFld f i n v).fld g j m = s.fld g j m := by
  refine State.fld_setFld_other s f i n v g j m (fun hk => h ?_)
  obtain ⟨hb, ho, hl, -⟩ := fkey_inj hg hf hj hi hm hn hk
  simp [Fld.place, hb, ho, hl]

theorem sameBut.trans {a b : List Nat} {s t u : State} (h : sameBut a s t) (g : sameBut b t u) : sameBut (a ++ b) s u := by
  intro f i n ho hl hi hn hb
  simp only [List.mem_append, not_or] at hb
  rw [g f i n ho hl hi hn hb.2, h f i n ho hl hi hn hb.1]

theorem sameBut.mono {a b : List Nat} {s t : State} (h : sameBut a s t) (hab : ∀ x ∈ a, x ∈ b) : sameBut b s t :=
  fun f i n ho hl hi hn hb => h f i n ho hl hi hn (fun ha => hb (hab _ ha))

theorem sameBut_of_regs {s t : State} (h : t.regs = s.regs) (l : List Nat) : sameBut l s t :=
  fun _ _ _ _ _ _ _ _ => by simp [State.fld, h]

theorem sameBut_setFld (s : State) {f : Fld} {i n : Nat} (v : Nat) (hf : f.off < 65536 ∧ f.lo < 32) (hi : i < 64) (hn : n < 1048576) :
    sameBut [f.blk] s (s.setFld f i n v) := by
  intro g j m ho hl hj hm hb
  refine State.fld_setFld_place s v (fun h => hb ?_) hf ⟨ho, hl⟩ hi hn hj hm
  exact List.mem_singleton.2 (congrArg Prod.fst h)

theorem sameBut_setBit (s : State) {f : Fld} {i n : Nat} (b : Bool) (hf : f.off < 65536 ∧ f.lo < 32) (hi : i < 64) (hn : n < 1048576) :
    sameBut [f.blk] s (s.setBit f i n b) := sameBut_setFld s b.toNat hf hi hn

/-! ### What a report leaves alone -/

theorem onlyFaults.keeps {s t : State} (h : onlyFaults s t) : t.tb = s.tb ∧ t.tmg = s.tmg ∧ t.ks = s.ks := by
  rw [h.1]
  exact ⟨rfl, rfl, rfl⟩

/-- A report sets its source's bit when the collector, as it stood before, hears it at that instant. -/
theorem State.report_srcSet_of {s u : State} {src : Nat} (sev det : Nat) (hs : src < 63) (hfc : u.fc = s.fc)
    (h : s.hearsAt src (u.report src sev det).tb.loc) : (u.report src sev det).srcSet src = true := by
  rw [(u.report_frame src sev det).keeps.1] at h
  refine State.report_srcSet sev det hs ?_
  unfold State.hears State.hearsAt
  rw [hfc]
  exact h

theorem State.bit_setBit_same (s : State) {f : Fld} (i n : Nat) (hw : f.wid = 1) : (s.setBit f i n true).bit f i n = true := by
  simp [State.bit, hw]

/-- A bit outside the collector's block, once set, is set after a report. -/
theorem State.bit_setBit_report (s : State) {f : Fld} {i n : Nat} (src sev det : Nat) (hw : f.wid = 1) (hf : f.off < 65536 ∧ f.lo < 32)
    (hi : i < 64) (hn : n < 1048576) (hb : f.blk ∉ [0x15]) : ((s.setBit f i n true).report src sev det).bit f i n = true := by
  have same := (State.report_frame (s.setBit f i n true) src sev det).2 f i n hf.1 hf.2 hi hn hb
  unfold State.bit at *
  rw [same]
  exact s.bit_setBit_same i n hw

end Sys2Proof.Machine
end

section
/-! SUPPORT. Proofs: launch queues (R14, R28, R50 to R56), and what LAUNCH_RECORD_ENTRY does. -/

namespace Sys2Proof.Machine

/-! ### Abandoned background checks (R28, R531) -/

/-- Only what abandoning a background check or drawing a free value may touch differs: no queue, no time, no DRAM. -/
def onlyChecks (s t : State) : Prop :=
  t = { s with regs := t.regs, freeCtr := t.freeCtr, ks := t.ks, smu := t.smu, wav := t.wav, bist := t.bist }

theorem onlyChecks.refl (s : State) : onlyChecks s s := rfl

theorem onlyChecks.trans {s t u : State} (h : onlyChecks s t) (g : onlyChecks t u) : onlyChecks s u := by
  unfold onlyChecks at *
  rw [g, h]

theorem onlyChecks.draw (s : State) (m : Nat) : onlyChecks s (s.draw m).2 := rfl

theorem State.noteGap_eq (s : State) (c : Nat) : ∃ g, s.noteGap c = { s with ks := { s.ks with gapAt := g } } := by
  unfold State.noteGap
  split
  · split
    · exact ⟨_, rfl⟩
    · exact ⟨s.ks.gapAt, rfl⟩
  · exact ⟨_, rfl⟩

theorem State.modeEntry_idle {s : State} (h : s.md.pend = []) : s.modeEntry = s := by
  simp only [State.modeEntry, h, State.enterModes]
  rw [← h]

theorem State.abandonCheck_frame (s : State) (c p : Nat) : onlyChecks s (s.abandonCheck c p).1 := by
  unfold State.abandonCheck
  split
  · rfl
  · split
    · rfl
    · dsimp only
      split <;> rfl

theorem State.abandonAz_frame (s : State) (m : Nat) : onlyChecks s (s.abandonAz m).1 := by
  unfold State.abandonAz
  dsimp only
  split <;> rfl

theorem State.abandonWavCheck_frame (s : State) (w : Nat) : onlyChecks s (s.abandonWavCheck w).1 := by
  unfold State.abandonWavCheck
  dsimp only
  split <;> rfl

theorem State.abandonSlice_frame (s : State) (target : Nat) : onlyChecks s (s.abandonSlice target).1 := by
  unfold State.abandonSlice
  split
  · split <;> rfl
  · rfl

theorem State.abandonFor_frame (s : State) (q target action payload : Nat) :
    onlyChecks s (s.abandonFor q target action payload).1 := by
  unfold State.abandonFor
  refine onlyChecks.trans ?_ (State.abandonSlice_frame _ _)
  split
  · exact List.foldlRecOn (motive := fun (a : State × Option Nat) => onlyChecks s a.1) _ _ (onlyChecks.refl s)
      (fun a ha p _ => ha.trans (State.abandonCheck_frame a.1 q p))
  · split
    · exact State.abandonAz_frame _ _
    · split
      · exact State.abandonWavCheck_frame _ _
      · rfl

/-- No background check is under way, and no instrument is being restored from one. -/
structure State.undisturbed (s : State) : Prop where
  pins : s.ks.checks = []
  smus : ∀ m, (s.smuCh m).azRun = none ∧ (s.smuCh m).restore ≤ s.tb.loc
  wavs : ∀ w, (Tbl.get s.wav.ch {} w).plumbRun = none ∧ (Tbl.get s.wav.ch {} w).restore ≤ s.tb.loc
  blocks : s.bist.run = none

theorem State.abandonCheck_undisturbed {s : State} (h : s.ks.checks = []) (c p : Nat) : s.abandonCheck c p = (s, none) := by
  simp [State.abandonCheck, h, Tbl.find]

theorem State.stillRestoring_past {s : State} {r : Nat} (h : r ≤ s.tb.loc) : s.stillRestoring r = none :=
  if_neg (Nat.not_lt.2 h)

theorem State.abandonAz_undisturbed {s : State} {m : Nat} (h : (s.smuCh m).azRun = none ∧ (s.smuCh m).restore ≤ s.tb.loc) :
    s.abandonAz m = (s, none) := by
  obtain ⟨hrun, hpast⟩ := h
  unfold State.smuCh at hrun hpast
  simp [State.abandonAz, hrun, State.stillRestoring_past hpast]

theorem State.abandonWavCheck_undisturbed {s : State} {w : Nat}
    (h : (Tbl.get s.wav.ch {} w).plumbRun = none ∧ (Tbl.get s.wav.ch {} w).restore ≤ s.tb.loc) :
    s.abandonWavCheck w = (s, none) := by
  obtain ⟨hrun, hpast⟩ := h
  simp [State.abandonWavCheck, hrun, State.stillRestoring_past hpast]

theorem State.abandonSlice_undisturbed {s : State} (h : s.bist.run = none) (target : Nat) : s.abandonSlice target = (s, none) := by
  simp [State.abandonSlice, h]

/-- A fold whose every step leaves its start as it is. -/
theorem foldl_fixed {σ α : Type} {f : σ → α → σ} {a : σ} (h : ∀ x, f a x = a) (l : List α) : l.foldl f a = a :=
  List.foldlRecOn (motive := fun b => b = a) l f rfl (fun _ hb x _ => hb ▸ h x)

/-- With no check under way a record waits for no restore. -/
theorem State.abandonFor_undisturbed {s : State} (h : s.undisturbed) (q target action payload : Nat) :
    s.abandonFor q target action payload = (s, none) := by
  unfold State.abandonFor
  rw [foldl_fixed]
  · simp only [State.abandonAz_undisturbed (h.smus _), State.abandonWavCheck_undisturbed (h.wavs _), ite_self,
      State.abandonSlice_undisturbed h.blocks, laterOf]
  · intro p
    simp only [State.abandonCheck_undisturbed h.pins, laterOf]

/-! ### Placing a record (R53, R55, R56) -/

theorem le_cycleUp (t : Nat) : t ≤ cycleUp t := by
  unfold cycleUp ceilDiv cycle
  omega

/-- Less than 64 ns ahead a record is LATE, and the dispatch takes its 64 ns. -/
theorem State.place_late {s : State} {q inst at_ : Nat} {restore : Option Nat} (h : inst < at_ + ns 64) :
    (s.place q inst at_ restore).late = true ∧ at_ + ns 64 ≤ (s.place q inst at_ restore).exec ∧
      (s.place q inst at_ restore).leadShort = false := by
  have up := le_cycleUp (at_ + ns 64)
  refine ⟨by simp [State.place, h], ?_, by simp [State.place, h]⟩
  have room : ∀ (b : Bool) (x : Nat), at_ + ns 64 ≤ if b then max (cycleUp (at_ + ns 64)) x else cycleUp (at_ + ns 64) := by
    intro b x
    split <;> omega
  simp only [State.place, h, decide_true, if_true]
  split
  · dsimp only
    split <;> exact Nat.le_trans (room _ _) (Nat.le_max_left _ _)
  · exact room _ _

/-- A record that follows none, 64 ns ahead or more, with nothing to restore, executes at its instant. -/
theorem State.place_first {s : State} {q inst at_ : Nat} (h : at_ + ns 64 ≤ inst) (hq : s.queue q = [])
    (hl : Tbl.find s.lqLast q = none) :
    s.place q inst at_ none = ⟨inst, false, 0, decide (inst < at_ + us 2)⟩ := by
  simp [State.place, hq, hl, Nat.not_lt.2 h]

/-! ### Payloads of clashing records (R14) -/

/-- Only the clashing records change, and only their payloads. -/
structure repaid (p : LaunchRec → Bool) (old new : List LaunchRec) : Prop where
  length : new.length = old.length
  payload : ∀ x ∈ new, ∃ y ∈ old, x = { y with payload := x.payload }
  kept : ∀ y ∈ old, p y = false → y ∈ new

theorem repaid.cons {p : LaunchRec → Bool} {old new : List LaunchRec} (h : repaid p old new) {x y : LaunchRec}
    (hx : x = { y with payload := x.payload }) (hk : p y = false → y = x) : repaid p (y :: old) (x :: new) := by
  refine ⟨by simp [h.length], ?_, ?_⟩
  · intro z hz
    rcases List.mem_cons.1 hz with rfl | hz
    · exact ⟨y, by simp, hx⟩
    · obtain ⟨w, hw, hzw⟩ := h.payload z hz
      exact ⟨w, by simp [hw], hzw⟩
  · intro z hz hp
    rcases List.mem_cons.1 hz with rfl | hz
    · simp [hk hp]
    · simp [h.kept z hz hp]

theorem State.clashed_frame (p : LaunchRec → Bool) (l : List LaunchRec) (s : State) : onlyChecks s (s.clashed p l).2 := by
  induction l generalizing s with
  | nil => rfl
  | cons e t ih =>
    unfold State.clashed
    split
    · exact onlyChecks.trans (onlyChecks.draw s _) (ih (s.draw (2 ^ 47)).2)
    · exact ih s

theorem State.clashed_repaid (p : LaunchRec → Bool) (l : List LaunchRec) (s : State) : repaid p l (s.clashed p l).1 := by
  induction l generalizing s with
  | nil => exact ⟨rfl, by simp [State.clashed], by simp⟩
  | cons e t ih =>
    unfold State.clashed
    split
    · next hp => exact (ih (s.draw (2 ^ 47)).2).cons rfl (by simp [hp])
    · exact (ih s).cons rfl (fun _ => rfl)

theorem State.clashed_none {p : LaunchRec → Bool} {l : List LaunchRec} (h : ∀ e ∈ l, p e = false) (s : State) :
    s.clashed p l = (l, s) := by
  induction l generalizing s with
  | nil => rfl
  | cons e t ih => simp [State.clashed, h e (by simp), ih (fun x hx => h x (by simp [hx]))]

/-! ### Entering a queue (R50 to R56) -/

/-- The queue's records are `l` now, the last of them placed as `e` says; every other queue, DRAM, local time and the count of LATE records
are as before, and the record is counted if it is lead-short. -/
structure enteredAs (s t : State) (q : Nat) (l : List LaunchRec) (e : Placing) : Prop where
  queue : t.queue q = l
  others : ∀ j, j ≠ q → t.queue j = s.queue j
  mem : t.mem = s.mem
  loc : t.tb.loc = s.tb.loc
  late : t.tb.lateCount = s.tb.lateCount
  uncounted : e.leadShort = false → t.tb.leadShort = s.tb.leadShort
  counted : e.leadShort = true → t.tb.leadShort = s.tb.leadShort + 1 ∧ t.bit F.TB_STATUS_lead_short = true

theorem enteredAs.of_onlyChecks {s u t : State} {q : Nat} {l : List LaunchRec} {e : Placing} (h : onlyChecks s u) (g : enteredAs u t q l e) :
    enteredAs s t q l e := by
  unfold onlyChecks at h
  rw [h] at g
  exact ⟨g.queue, g.others, g.mem, g.loc, g.late, g.uncounted, g.counted⟩

theorem State.queue_setQueue_same (s : State) (q : Nat) (l : List LaunchRec) : (s.setQueue q l).queue q = l :=
  Tbl.get_set_same _ _ _ _

theorem State.queue_setQueue_other (s : State) {q j : Nat} (l : List LaunchRec) (h : j ≠ q) : (s.setQueue q l).queue j = s.queue j :=
  Tbl.get_set_other _ _ _ h _

theorem State.noteLead_entered (s : State) (q : Nat) (l : List LaunchRec) (e : Placing) : enteredAs s ((s.setQueue q l).noteLead e) q l e := by
  have same := s.queue_setQueue_same q l
  have other := fun j (hj : j ≠ q) => s.queue_setQueue_other l hj
  unfold State.noteLead
  split
  · next h => exact ⟨same, other, rfl, rfl, rfl, by simp [h], fun _ => ⟨rfl, by simp [State.bit, F.TB_STATUS_lead_short]⟩⟩
  · next h => exact ⟨same, other, rfl, rfl, rfl, fun _ => rfl, fun g => absurd g h⟩

/-- How a record that enters now is placed, once it has ended the checks that it disturbs. -/
def State.entryPlacing (s : State) (q inst target action payload : Nat) : Placing :=
  let a := s.abandonFor q target action payload
  a.1.place q inst a.1.now (a.2.map a.1.domAt)

/-- Less than 64 ns ahead a record is LATE, whatever it disturbs. -/
theorem State.entryPlacing_late {s : State} {q inst target action payload : Nat} (h : inst < s.now + ns 64) :
    (s.entryPlacing q inst target action payload).late = true ∧ s.now + ns 64 ≤ (s.entryPlacing q inst target action payload).exec ∧
      (s.entryPlacing q inst target action payload).leadShort = false := by
  have hnow : (s.abandonFor q target action payload).1.now = s.now := by
    rw [s.abandonFor_frame q target action payload]
    rfl
  unfold State.entryPlacing
  dsimp only
  rw [hnow]
  exact State.place_late h

/-- A record that follows none and disturbs nothing executes at its instant, 64 ns ahead or more. -/
theorem State.entryPlacing_first {s : State} {q inst : Nat} (target action payload : Nat) (hu : s.undisturbed) (h : s.now + ns 64 ≤ inst)
    (hq : s.queue q = []) (hl : Tbl.find s.lqLast q = none) :
    s.entryPlacing q inst target action payload = ⟨inst, false, 0, decide (inst < s.now + us 2)⟩ := by
  unfold State.entryPlacing
  rw [State.abandonFor_undisturbed hu]
  exact State.place_first h hq hl

/-- What a record finds in its queue: the payloads of those that it clashes with are open, and so is its own then. -/
def State.settleClash (s : State) (q : Nat) (clash : LaunchRec → Bool) (payload : Nat) : List LaunchRec × Nat × State :=
  let o := s.clashed clash (s.queue q)
  let d := if (o.2.queue q).any clash then o.2.draw (2 ^ 47) else (payload, o.2)
  (o.1, d.1, d.2)

theorem State.settleClash_frame (s : State) (q : Nat) (clash : LaunchRec → Bool) (payload : Nat) :
    onlyChecks s (s.settleClash q clash payload).2.2 := by
  refine (s.clashed_frame clash (s.queue q)).trans ?_
  unfold State.settleClash
  dsimp only
  split <;> rfl

theorem State.settleClash_repaid (s : State) (q : Nat) (clash : LaunchRec → Bool) (payload : Nat) :
    repaid clash (s.queue q) (s.settleClash q clash payload).1 := s.clashed_repaid clash (s.queue q)

theorem State.settleClash_clear {s : State} {q : Nat} {clash : LaunchRec → Bool} (h : ∀ e ∈ s.queue q, clash e = false) (payload : Nat) :
    s.settleClash q clash payload = (s.queue q, payload, s) := by
  have none : (s.queue q).any clash = false := List.any_eq_false.2 (fun e he => by simp [h e he])
  simp [State.settleClash, State.clashed_none h, none]

/-- A record that clashes has an open payload, of 47 bits. -/
theorem State.settleClash_clashing {s : State} {q : Nat} {clash : LaunchRec → Bool} (h : ∃ e ∈ s.queue q, clash e = true) (payload : Nat) :
    (s.settleClash q clash payload).2.1 < 2 ^ 47 := by
  have same : (s.clashed clash (s.queue q)).2.queue q = s.queue q := by
    rw [s.clashed_frame clash (s.queue q)]
    rfl
  unfold State.settleClash
  dsimp only
  rw [same, if_pos (List.any_eq_true.2 h)]
  exact Nat.mod_lt _ (by decide)

/-- The entry of a record whose action is known, in a queue that has a place for it. -/
def State.enterKnown (s : State) (q inst target action : Nat) (chipWide : Bool) (site payload thread : Nat) : State :=
  let e := s.entryPlacing q inst target action payload
  let c := (s.abandonFor q target action payload).1.settleClash q (clashes q inst target chipWide site) payload
  let step := if thread < 256 then ((c.2.2.thr (c.2.2.homeThr thread)).cur).map (fun a => a.t0) else none
  (c.2.2.setQueue q (c.1 ++ [⟨inst, target, action, chipWide, site, c.2.1, c.2.2.now, e.exec, e.late, e.lateness, thread, step⟩])).noteLead e

/-- The queue holds what it held, payloads of records that clash being open, and then the record, placed as it is to be. -/
theorem State.enterKnown_entered (s : State) (q inst target action : Nat) (chipWide : Bool) (site payload thread : Nat)
    {e : Placing} {clash : LaunchRec → Bool} (he : e = s.entryPlacing q inst target action payload)
    (hc : clash = clashes q inst target chipWide site) :
    ∃ l p step, enteredAs s (s.enterKnown q inst target action chipWide site payload thread) q
        (l ++ [⟨inst, target, action, chipWide, site, p, s.now, e.exec, e.late, e.lateness, thread, step⟩]) e ∧
      repaid clash (s.queue q) l ∧
      ((∀ x ∈ s.queue q, clash x = false) → l = s.queue q ∧ p = payload) ∧
      ((∃ x ∈ s.queue q, clash x = true) → p < 2 ^ 47) := by
  subst he hc
  have ha := s.abandonFor_frame q target action payload
  unfold State.enterKnown
  generalize (s.abandonFor q target action payload).1 = a at ha ⊢
  have hq : a.queue q = s.queue q := by rw [ha]; rfl
  have hf := ha.trans (a.settleClash_frame q (clashes q inst target chipWide site) payload)
  have hr := a.settleClash_repaid q (clashes q inst target chipWide site) payload
  have hnow : (a.settleClash q (clashes q inst target chipWide site) payload).2.2.now = s.now := by rw [hf]; rfl
  rw [← hq, ← hnow]
  refine ⟨_, _, _, (State.noteLead_entered _ q _ _).of_onlyChecks hf, hr, fun h => ?_, fun h => State.settleClash_clashing h payload⟩
  rw [State.settleClash_clear h]
  exact ⟨rfl, rfl⟩

/-- Notes gaps of the Courses' queues. -/
def State.withGaps (s : State) (g : Tbl Nat) : State := { s with ks := { s.ks with gapAt := g } }

/-- What comes before a record's entry leaves at most a gap noted, while no mode change is pending for the Keystone's queue. -/
theorem State.beforeEntry_eq {s : State} {q : Nat} (hp : q = 39 → s.md.pend = []) :
    ∃ g, (if q = 39 then s.modeEntry else if q < 32 then s.noteGap q else s) = s.withGaps g := by
  split
  · next h => exact ⟨s.ks.gapAt, State.modeEntry_idle (hp h)⟩
  · split
    · exact s.noteGap_eq q
    · exact ⟨s.ks.gapAt, rfl⟩

/-- A record enters as its settled action says, or not at all, when its queue has a place and no self-test runs. -/
theorem State.enterRecord_settled {s : State} {q : Nat} (inst target action : Nat) (chipWide : Bool) (site payload thread : Nat)
    (hp : q = 39 → s.md.pend = []) (hb : s.bist.run = none) (hl : (s.queue q).length < lqDepth q) :
    ∃ g, (∀ v, (s.withGaps g).settleAction q action payload = (none, v) →
        s.enterRecord q inst target action chipWide site payload thread = v) ∧
      ∀ a p v, (s.withGaps g).settleAction q action payload = (some (a, p), v) →
        s.enterRecord q inst target action chipWide site payload thread =
          v.enterKnown q (v.resolve40 (inst / 4096) (inst % 4096)) target a chipWide site p thread := by
  obtain ⟨g, hg⟩ := State.beforeEntry_eq hp
  have free : ¬ (s.withGaps g).bistExcl (queueTarget q) = true := by
    simp [State.bistExcl, show (s.withGaps g).bist.run = none from hb]
  have room : ¬ (s.withGaps g).credits q = 0 := Nat.sub_ne_zero_of_lt hl
  unfold State.enterRecord
  rw [hg]
  dsimp only
  rw [if_neg free, if_neg room]
  refine ⟨g, fun v hv => ?_, fun a p v hv => ?_⟩
  · rw [hv]
  · rw [hv]
    rfl

theorem State.settleAction_known {q action : Nat} (h : action ∈ queueActions q) (s : State) (payload : Nat) :
    s.settleAction q action payload = (some (action, payload), s) := by
  simp [State.settleAction, h]

/-- A reserved action is settled as one of the queue's own, or as none; free values are drawn, and nothing else changes. -/
theorem State.settleAction_reserved {q action : Nat} (h : action ∉ queueActions q) (s : State) (payload : Nat) :
    ∃ n, s.settleAction q action payload = (none, { s with freeCtr := n }) ∨
      ∃ a p, a ∈ queueActions q ∧ s.settleAction q action payload = (some (a, p), { s with freeCtr := n }) := by
  unfold State.settleAction
  simp only [List.contains_iff_mem, h, if_false]
  split
  · exact ⟨_, .inl rfl⟩
  · next a ha => exact ⟨_, .inr ⟨a, _, List.mem_of_getElem? ha, rfl⟩⟩

theorem State.resolve40_cut (s : State) (n40 frac : Nat) :
    s.resolve40 ((n40 % 2 ^ 40 * 4096 + frac % 4096) / 4096) ((n40 % 2 ^ 40 * 4096 + frac % 4096) % 4096) = s.resolve40 n40 frac := by
  have hn : (n40 % 2 ^ 40 * 4096 + frac % 4096) / 4096 = n40 % 2 ^ 40 := by omega
  have hf : (n40 % 2 ^ 40 * 4096 + frac % 4096) % 4096 = frac % 4096 := by omega
  rw [hn, hf]
  unfold State.resolve40
  rw [show (2 : Nat) ^ 40 = 1099511627776 from rfl, Nat.mod_mod, Nat.mod_mod]

/-! ### LAUNCH_RECORD_ENTRY -/

/-- The producer's thread of a record: the site's home thread. -/
def State.producer (s : State) (site : Nat) : Nat := (s.homeOf (site % 256)).getD (site % 256)

theorem exec_launchRecordEntry {s : State} {q action : Nat} (target : Nat) (cw : Bool) (site payload n40 frac : Nat) (hq : q < 40)
    (ha : action ≠ 4) (hh : s.thm.halted = false) :
    exec (.launchRecordEntry q target action cw site payload n40 frac) s =
      .next (s.enterRecord q (n40 % 2 ^ 40 * 4096 + frac % 4096) (target % 64) action cw (site % 256) (payload % 2 ^ 47)
        (s.producer site)) := by
  show execLaunchRecordEntry q target action cw site payload n40 frac s = _
  unfold execLaunchRecordEntry
  rw [if_neg (by simp [hh, ha]; omega)]
  rfl

theorem four_not_mem_queueActions (q : Nat) : 4 ∉ queueActions q := by
  unfold queueActions
  repeat' split
  all_goals decide

/-- LAUNCH_RECORD_ENTRY of an action that the queue knows. -/
theorem exec_launchRecordEntry_known {s : State} {q action : Nat} (target : Nat) (cw : Bool) (site payload n40 frac : Nat) (hq : q < 40)
    (ha : action ∈ queueActions q) (hp : q = 39 → s.md.pend = []) (hh : s.thm.halted = false) (hb : s.bist.run = none)
    (hl : (s.queue q).length < lqDepth q) :
    ∃ g, exec (.launchRecordEntry q target action cw site payload n40 frac) s =
      .next ((s.withGaps g).enterKnown q (s.resolve40 n40 frac) (target % 64) action cw (site % 256) (payload % 2 ^ 47)
        (s.producer site)) := by
  obtain ⟨g, -, hg⟩ := State.enterRecord_settled (n40 % 2 ^ 40 * 4096 + frac % 4096) (target % 64) action cw (site % 256)
    (payload % 2 ^ 47) (s.producer site) hp hb hl
  refine ⟨g, ?_⟩
  rw [exec_launchRecordEntry target cw site payload n40 frac hq (fun h => four_not_mem_queueActions q (h ▸ ha)) hh,
    hg _ _ _ (State.settleAction_known ha _ _), State.resolve40_cut]
  rfl

/-- LAUNCH_RECORD_ENTRY of a reserved action: nothing enters, or a record of an action that the queue knows. -/
theorem exec_launchRecordEntry_reserved {s : State} {q action : Nat} (target : Nat) (cw : Bool) (site payload n40 frac : Nat) (hq : q < 40)
    (h4 : action ≠ 4) (ha : action ∉ queueActions q) (hp : q = 39 → s.md.pend = []) (hh : s.thm.halted = false)
    (hb : s.bist.run = none) (hl : (s.queue q).length < lqDepth q) :
    ∃ v, onlyChecks s v ∧
      (exec (.launchRecordEntry q target action cw site payload n40 frac) s = .next v ∨
        ∃ inst a p thread, a ∈ queueActions q ∧ exec (.launchRecordEntry q target action cw site payload n40 frac) s =
          .next (v.enterKnown q inst (target % 64) a cw (site % 256) p thread)) := by
  obtain ⟨g, hnone, hsome⟩ := State.enterRecord_settled (n40 % 2 ^ 40 * 4096 + frac % 4096) (target % 64) action cw (site % 256)
    (payload % 2 ^ 47) (s.producer site) hp hb hl
  obtain ⟨n, h | ⟨a, p, hmem, h⟩⟩ := State.settleAction_reserved ha (s.withGaps g) (payload % 2 ^ 47) <;>
    refine ⟨{ s.withGaps g with freeCtr := n }, rfl, ?_⟩ <;>
    rw [exec_launchRecordEntry target cw site payload n40 frac hq h4 hh]
  · exact .inl (by rw [hnone _ h])
  · exact .inr ⟨_, a, p, _, hmem, by rw [hsome _ _ _ h]⟩

end Sys2Proof.Machine
end

section
open Sys2Proof Sys2Proof.Machine

/-- Settles O19: the record enters as State.enterKnown has it, placed as State.entryPlacing says; records that clash get open payloads. -/
theorem launchRecords : Obligations.LaunchRecords := by
  unfold Obligations.LaunchRecords
  refine ⟨?_, ?_, ?_⟩
  · intro s q target action site payload n40 frac cw hq ha hp hh hb hl hc
    obtain ⟨g, hexec⟩ := exec_launchRecordEntry_known target cw site payload n40 frac hq ha hp hh hb hl
    obtain ⟨l, p, step, hin, -, clear, -⟩ := (s.withGaps g).enterKnown_entered q (s.resolve40 n40 frac) (target % 64) action cw (site % 256)
      (payload % 2 ^ 47) (s.producer site) rfl rfl
    obtain ⟨rfl, rfl⟩ := clear hc
    refine ⟨_, _, hexec, hin.queue, rfl, rfl, rfl, rfl, rfl, rfl, rfl, hin.others, hin.mem, hin.loc, hin.late, fun hshort => ?_,
      fun hfar hempty hlast hchecks hsmu hwav => ?_⟩
    · obtain ⟨late, exec, short⟩ := State.entryPlacing_late (s := s.withGaps g) hshort
      exact ⟨late, exec, hin.uncounted short⟩
    · have first := State.entryPlacing_first (s := s.withGaps g) (target % 64) action (payload % 2 ^ 47) ⟨hchecks, hsmu, hwav, hb⟩ hfar
        hempty hlast
      refine ⟨congrArg Placing.late first, congrArg Placing.exec first, fun hnear => hin.counted ?_⟩
      rw [first]
      exact decide_eq_true hnear
  · intro s q target action site payload n40 frac e hq ha hh hb hl he hc
    obtain ⟨g, hexec⟩ := exec_launchRecordEntry_known target false site payload n40 frac (by omega) ha (by omega) hh hb hl
    obtain ⟨l, p, step, hin, ⟨length, same, kept⟩, -, openPay⟩ := (s.withGaps g).enterKnown_entered q (s.resolve40 n40 frac) (target % 64)
      action false (site % 256) (payload % 2 ^ 47) (s.producer site) rfl rfl
    exact ⟨_, l, _, hexec, hin.queue, length, rfl, rfl, rfl, rfl, openPay ⟨e, he, hc⟩, same, kept, hin.others, hin.mem, hin.loc⟩
  · intro s q target action site payload n40 frac cw hq h4 ha hp hh hb hl
    obtain ⟨v, hv, hexec | ⟨inst, a, p, thread, hmem, hexec⟩⟩ :=
      exec_launchRecordEntry_reserved target cw site payload n40 frac hq h4 ha hp hh hb hl
    · refine ⟨v, hexec, ?_, ?_, .inl ?_⟩ <;> rw [hv] <;> intros <;> rfl
    · obtain ⟨l, p', step, hin, -⟩ := v.enterKnown_entered q inst (target % 64) a cw (site % 256) p thread rfl rfl
      have hin := hin.of_onlyChecks hv
      exact ⟨_, hexec, hin.others, hin.mem, .inr ⟨_, by rw [hin.queue, List.getLast?_concat], hmem⟩⟩
end

section
/-! SUPPORT. Proofs: Plumb, corrections in force and the comparator self-check (R28, R30, R195 to R200). -/

namespace Sys2Proof.Machine

/-! ### Plumb takes a channel (R28, R195) -/

/-- Only drivers, the edges placed for them and the serial engines' wishes differ. -/
def onlyDrivers (s t : State) : Prop := t = { s with tmg := t.tmg, pin := t.pin, ser := t.ser }

theorem onlyDrivers.trans {s t u : State} (h : onlyDrivers s t) (g : onlyDrivers t u) : onlyDrivers s u := by
  unfold onlyDrivers at *
  rw [g, h]

theorem State.modEng_frame (s : State) (c : Nat) (f : SerEngine → SerEngine) : onlyDrivers s (s.modEng c f) := rfl

theorem State.serDrive_frame (s : State) (c p : Nat) : onlyDrivers s (s.serDrive c p) := by
  unfold State.serDrive
  split <;> rfl

theorem State.driveEdge_frame (s : State) (c : Nat) (e : PlacedEdge) : onlyDrivers s (s.driveEdge c e) := by
  unfold State.driveEdge
  dsimp only
  split
  · exact (s.modEng_frame c _).trans (State.serDrive_frame _ c e.pin)
  · split
    · rfl
    · split
      · rfl
      · rfl
      · split <;> rfl

theorem State.settleEdges_frame (s : State) (c : Nat) : onlyDrivers s (s.settleEdges c) := by
  unfold State.settleEdges State.settleTo
  dsimp only
  split
  · exact List.foldlRecOn (motive := onlyDrivers s) _ _ rfl (fun a ha e _ => ha.trans (a.driveEdge_frame c e))
  · rfl

theorem State.find_beginCheck (s : State) (c p kind : Nat) :
    Tbl.find (s.beginCheck c p kind).ks.checks (33 * c + p) = some ⟨kind, s.tb.loc, none⟩ := Tbl.find_put_same _ _ _

theorem State.find_endCheck (s : State) (c p : Nat) : Tbl.find (s.endCheck c p).ks.checks (33 * c + p) = none := Tbl.find_drop_same _ _

/-- PLUMB_CHECK_START takes a channel that may be taken. -/
theorem exec_plumbCheckStart {s : State} {c p : Nat} (hc : c < 32) (hp : p < 32) (hm : (s.settleEdges c).plumbMay c p = true) :
    exec (.plumbCheckStart c p) s = .next ((s.settleEdges c).beginCheck c p 0) := by
  show execPlumbCheckStart c p s = _
  simp [execPlumbCheckStart, hc, hp, hm]

theorem State.chTim_modChTim_same (s : State) (k : Nat) (f : ChanTim → ChanTim) : (s.modChTim k f).chTim k = f (s.chTim k) :=
  Tbl.get_set_same _ _ _ _

theorem State.chTim_modChTim_other (s : State) {k j : Nat} (f : ChanTim → ChanTim) (h : j ≠ k) : (s.modChTim k f).chTim j = s.chTim j :=
  Tbl.get_set_other _ _ _ h _

theorem State.chTim_setFld (s : State) (f : Fld) (i n v k : Nat) : (s.setFld f i n v).chTim k = s.chTim k := rfl

theorem State.chTim_setBit (s : State) (f : Fld) (i n : Nat) (b : Bool) (k : Nat) : (s.setBit f i n b).chTim k = s.chTim k := rfl

/-- PLUMB_CHECK_COMPLETE of a check that nothing has abandoned. -/
theorem exec_plumbCheckComplete {s : State} {c p : Nat} (r f m : Int) {k : ChanCheck} (hp : p < 32)
    (hk : Tbl.find s.ks.checks (33 * c + p) = some k) (h0 : k.kind = 0) (hr : k.restore = none) :
    exec (.plumbCheckComplete c p r f m) s =
      .next ((s.endCheck c p).modChTim (32 * c + p) (fun t => { t with cand := some ⟨r, f, m⟩ })) := by
  show execPlumbCheckComplete c p r f m s = _
  unfold execPlumbCheckComplete
  simp only [hk]
  rw [if_neg (by omega), hr]
  rfl

/-! ### Corrections in force -/

theorem toSigned_ofSigned {x : Int} (hlo : -32768 ≤ x) (hhi : x < 32768) : toSigned 16 (ofSigned 16 x % 2 ^ 16) = x := by
  unfold toSigned ofSigned
  split <;> omega

/-- What every correction part of 16 bits satisfies. -/
def Corr.fits16 (x : Corr) : Prop :=
  (-32768 ≤ x.rise ∧ x.rise < 32768) ∧ (-32768 ≤ x.fall ∧ x.fall < 32768) ∧ (-32768 ≤ x.cmp ∧ x.cmp < 32768)

/-- The places of a correction in force. -/
def corrPlaces : List (Nat × Nat × Nat) :=
  [F.TMG_CORR_DRV_rise.place, F.TMG_CORR_DRV_fall_delta.place, F.TMG_CORR_CMP_cmp.place]

/-- A correction is read from its three fields alone. -/
theorem State.corrOf_congr {s t : State} {c p : Nat}
    (h : ∀ f : Fld, f.place ∈ corrPlaces → f.off < 65536 ∧ f.lo < 32 → t.fld f c p = s.fld f c p) :
    t.corrOf c p = s.corrOf c p := by
  unfold State.corrOf
  rw [h _ (by decide) (by decide), h _ (by decide) (by decide), h _ (by decide) (by decide)]

/-- Fields of other registers stay when a correction is put in force. -/
theorem State.fld_setCorr_place (s : State) {c p i n : Nat} (x : Corr) {g : Fld} (h : g.place ∉ corrPlaces) (hg : g.off < 65536 ∧ g.lo < 32)
    (hc : c < 64) (hp : p < 1048576) (hi : i < 64) (hn : n < 1048576) : (s.setCorr c p x).fld g i n = s.fld g i n := by
  simp only [corrPlaces, List.mem_cons, List.not_mem_nil, or_false, not_or] at h
  obtain ⟨hr, hf, hm⟩ := h
  unfold State.setCorr
  dsimp only
  rw [State.fld_setFld_place _ _ hm (by decide) hg hc hp hi hn, State.fld_setFld_place _ _ hf (by decide) hg hc hp hi hn,
    State.fld_setFld_place _ _ hr (by decide) hg hc hp hi hn]

/-- Another pin's fields stay. -/
theorem State.fld_setCorr_other (s : State) {c p j : Nat} (x : Corr) {g : Fld} (hg : g.off < 65536 ∧ g.lo < 32) (hc : c < 64)
    (hp : p < 1048576) (hj : j < 1048576) (h : j ≠ p) : (s.setCorr c p x).fld g c j = s.fld g c j := by
  have key : ∀ f : Fld, f.off < 65536 ∧ f.lo < 32 → fkey g c j ≠ fkey f c p := fun f hf hk => h (fkey_inj hg hf hc hc hj hp hk).2.2.2.2
  unfold State.setCorr
  dsimp only
  rw [State.fld_setFld_other _ _ _ _ _ _ _ _ (key _ (by decide)), State.fld_setFld_other _ _ _ _ _ _ _ _ (key _ (by decide)),
    State.fld_setFld_other _ _ _ _ _ _ _ _ (key _ (by decide))]

theorem State.corrOf_setCorr_same (s : State) {c p : Nat} {x : Corr} (hc : c < 64) (hp : p < 1048576) (hx : x.fits16) :
    (s.setCorr c p x).corrOf c p = x := by
  obtain ⟨⟨hr, hr'⟩, ⟨hf, hf'⟩, hm, hm'⟩ := hx
  have other : ∀ (s : State) (f g : Fld) (v : Nat), g.place ≠ f.place → f.off < 65536 ∧ f.lo < 32 → g.off < 65536 ∧ g.lo < 32 →
      (s.setFld f c p v).fld g c p = s.fld g c p := fun s f g v h hf hg => State.fld_setFld_place s v h hf hg hc hp hc hp
  have rise : (s.setCorr c p x).fld F.TMG_CORR_DRV_rise c p = ofSigned 16 x.rise % 2 ^ 16 := by
    unfold State.setCorr
    dsimp only
    rw [other _ _ _ _ (by decide) (by decide) (by decide), other _ _ _ _ (by decide) (by decide) (by decide), State.fld_setFld_same]
    rfl
  have fall : (s.setCorr c p x).fld F.TMG_CORR_DRV_fall_delta c p = ofSigned 16 x.fall % 2 ^ 16 := by
    unfold State.setCorr
    dsimp only
    rw [other _ _ _ _ (by decide) (by decide) (by decide), State.fld_setFld_same]
    rfl
  have cmp : (s.setCorr c p x).fld F.TMG_CORR_CMP_cmp c p = ofSigned 16 x.cmp % 2 ^ 16 := State.fld_setFld_same _ _ _ _ _
  unfold State.corrOf
  rw [rise, fall, cmp, toSigned_ofSigned hr hr', toSigned_ofSigned hf hf', toSigned_ofSigned hm hm']

theorem State.corrOf_setCorr_other (s : State) {c p j : Nat} (x : Corr) (hc : c < 64) (hp : p < 1048576) (hj : j < 1048576) (h : j ≠ p) :
    (s.setCorr c p x).corrOf c j = s.corrOf c j :=
  State.corrOf_congr (fun _ _ hf => State.fld_setCorr_other s x hf hc hp hj h)

/-! ### What an apply boundary leaves alone (R199) -/

/-- The places that putting timing values in force may write: the corrections, and TMG_STATUS.applied and edge_dropped. -/
def applyPlaces : List (Nat × Nat × Nat) := F.TMG_STATUS_applied.place :: F.TMG_STATUS_edge_dropped.place :: corrPlaces

/-- Putting timing values in force has changed no more than it may, and no Plumb candidate or acceptance. -/
structure appliedOnly (s t : State) : Prop where
  rest : t = { s with regs := t.regs, hw := t.hw, act := t.act, tmg := t.tmg }
  flds : ∀ (f : Fld) (i n : Nat), f.off < 65536 ∧ f.lo < 32 → i < 64 → n < 1048576 → f.place ∉ applyPlaces → t.fld f i n = s.fld f i n
  judged : ∀ k, (t.chTim k).cand = (s.chTim k).cand ∧ (t.chTim k).acceptedAt = (s.chTim k).acceptedAt

theorem appliedOnly.refl (s : State) : appliedOnly s s := ⟨rfl, fun _ _ _ _ _ _ _ => rfl, fun _ => ⟨rfl, rfl⟩⟩

theorem appliedOnly.trans {s t u : State} (h : appliedOnly s t) (g : appliedOnly t u) : appliedOnly s u := by
  refine ⟨by rw [g.rest, h.rest], fun f i n hf hi hn hp => ?_, fun k => ?_⟩
  · rw [g.flds f i n hf hi hn hp, h.flds f i n hf hi hn hp]
  · rw [(g.judged k).1, (g.judged k).2]
    exact h.judged k

/-- The frame from a state before, when what came between them keeps it too. -/
theorem appliedOnly.rest_of {s u t : State} (h : appliedOnly u t) (hu : u = { s with regs := u.regs, hw := u.hw, act := u.act, tmg := u.tmg }) :
    t = { s with regs := t.regs, hw := t.hw, act := t.act, tmg := t.tmg } := by
  rw [h.rest, hu]

theorem appliedOnly.sameBut {s t : State} (h : appliedOnly s t) : sameBut [0x07] s t := by
  intro f i n ho hl hi hn hb
  refine h.flds f i n ⟨ho, hl⟩ hi hn (fun hp => hb ?_)
  have blocks : ∀ x ∈ applyPlaces, x.1 = 0x07 := by decide
  exact List.mem_singleton.2 (blocks _ hp)

theorem appliedOnly_modCoTim (s : State) (c : Nat) (f : CourseTim → CourseTim) : appliedOnly s (s.modCoTim c f) :=
  ⟨rfl, fun _ _ _ _ _ _ _ => rfl, fun _ => ⟨rfl, rfl⟩⟩

theorem appliedOnly_modChTim (s : State) (k : Nat) {f : ChanTim → ChanTim} (hf : ∀ t, (f t).cand = t.cand ∧ (f t).acceptedAt = t.acceptedAt) :
    appliedOnly s (s.modChTim k f) := by
  refine ⟨rfl, fun _ _ _ _ _ _ _ => rfl, fun j => ?_⟩
  by_cases h : j = k
  · subst h
    rw [State.chTim_modChTim_same]
    exact hf _
  · rw [State.chTim_modChTim_other s f h]
    exact ⟨rfl, rfl⟩

theorem appliedOnly_setCorr (s : State) {c p : Nat} (x : Corr) (hc : c < 64) (hp : p < 1048576) : appliedOnly s (s.setCorr c p x) :=
  ⟨rfl, fun _ _ _ hf hi hn h => State.fld_setCorr_place s x (fun hm => h (by simp [applyPlaces, hm])) hf hc hp hi hn, fun _ => ⟨rfl, rfl⟩⟩

theorem appliedOnly_setBit (s : State) {f : Fld} {i n : Nat} (b : Bool) (hf : f.place ∈ applyPlaces) (ho : f.off < 65536 ∧ f.lo < 32)
    (hi : i < 64) (hn : n < 1048576) : appliedOnly s (s.setBit f i n b) :=
  ⟨rfl, fun _ _ _ hg hj hm h => State.fld_setFld_place s b.toNat (fun he => h (he ▸ hf)) ho hg hi hn hj hm, fun _ => ⟨rfl, rfl⟩⟩

theorem State.preSnap_frame (s : State) (c : Nat) : appliedOnly s (s.preSnap c) := by
  unfold State.preSnap
  split
  · exact appliedOnly.refl s
  · refine List.foldlRecOn (motive := appliedOnly s) _ _ (appliedOnly.refl s) (fun a ha r _ => ?_)
    split
    · exact ha.trans (appliedOnly_modCoTim _ _ _)
    · exact ha

theorem State.takeTimCorr_frame (s : State) {c p : Nat} (hc : c < 64) (hp : p < 1048576) : appliedOnly s (s.takeTimCorr c p) := by
  unfold State.takeTimCorr
  split
  · split
    · exact appliedOnly.refl s
    · exact (appliedOnly_setCorr s _ hc hp).trans (appliedOnly_modChTim _ _ (fun _ => ⟨rfl, rfl⟩))
  · exact appliedOnly.refl s

theorem State.pendCorr_frame (s : State) {c p : Nat} (hc : c < 64) (hp : p < 1048576) : appliedOnly s (s.pendCorr c p) := by
  unfold State.pendCorr
  refine ((s.preSnap_frame c).trans (appliedOnly_modChTim _ _ ?_)).trans (State.takeTimCorr_frame _ hc hp)
  exact fun _ => ⟨rfl, rfl⟩

/-- A snapshot's part in one channel (R200): its pending correction is latched. -/
def State.latchPend (s : State) (c p : Nat) : State :=
  match (s.chTim (32 * c + p)).pend with
  | some x => s.modChTim (32 * c + p) (fun t => { t with pend := none, latched := some x })
  | none => s

theorem State.latchPend_some {s : State} {c p : Nat} {x : Corr} (h : (s.chTim (32 * c + p)).pend = some x) :
    s.latchPend c p = s.modChTim (32 * c + p) (fun t => { t with pend := none, latched := some x }) := by
  simp only [State.latchPend, h]

theorem State.latchPend_none {s : State} {c p : Nat} (h : (s.chTim (32 * c + p)).pend = none) : s.latchPend c p = s := by
  simp only [State.latchPend, h]

theorem State.snapshot_eq (s : State) (c : Nat) :
    s.snapshot c = (List.range 32).foldl (fun s p => s.latchPend c p) (s.modCoTim c (fun x => { x with snap := some (s.staged c) })) := by
  unfold State.snapshot
  dsimp only
  refine congrArg (fun f => List.foldl f _ _) (funext fun s => funext fun p => ?_)
  split
  · next x hx => rw [State.latchPend_some hx]
  · next hx => rw [State.latchPend_none hx]

theorem State.latchPend_frame (s : State) (c p : Nat) : appliedOnly s (s.latchPend c p) := by
  unfold State.latchPend
  split
  · exact appliedOnly_modChTim _ _ (fun _ => ⟨rfl, rfl⟩)
  · exact appliedOnly.refl s

theorem State.snapshot_frame (s : State) (c : Nat) : appliedOnly s (s.snapshot c) := by
  rw [State.snapshot_eq]
  exact List.foldlRecOn (motive := appliedOnly s) _ _ (appliedOnly_modCoTim s c _) (fun a ha p _ => ha.trans (a.latchPend_frame c p))

/-- Making a staged copy active touches the active values, and TMG_STATUS.edge_dropped. -/
theorem State.activate'_eq (s : State) (c : Nat) (copy : Tbl Nat) : ∃ a, (s.activate' c copy).1 = { s with act := a } ∨
    (s.activate' c copy).1 = State.setBit { s with act := a } F.TMG_STATUS_edge_dropped c 0 true := by
  unfold State.activate'
  split
  · exact ⟨s.act, .inl rfl⟩
  · dsimp only
    split
    · exact ⟨_, .inr rfl⟩
    · exact ⟨_, .inl rfl⟩

theorem State.activate'_frame (s : State) {c : Nat} (copy : Tbl Nat) (hc : c < 64) : appliedOnly s (s.activate' c copy).1 := by
  obtain ⟨a, h | h⟩ := s.activate'_eq c copy <;> rw [h]
  · exact ⟨rfl, fun _ _ _ _ _ _ _ => rfl, fun _ => ⟨rfl, rfl⟩⟩
  · exact appliedOnly.trans (t := { s with act := a }) ⟨rfl, fun _ _ _ _ _ _ _ => rfl, fun _ => ⟨rfl, rfl⟩⟩
      (appliedOnly_setBit _ true (by decide) (by decide) hc (by decide))

theorem State.chTim_activate' (s : State) (c : Nat) (copy : Tbl Nat) (k : Nat) : (s.activate' c copy).1.chTim k = s.chTim k := by
  obtain ⟨a, h | h⟩ := s.activate'_eq c copy <;> rw [h] <;> rfl

/-- An apply boundary's part in one channel (R199): its latched correction is put in force. -/
def State.takeLatched (s : State) (c p : Nat) : State :=
  match (s.chTim (32 * c + p)).latched with
  | some x => (s.setCorr c p x).modChTim (32 * c + p) (fun t => { t with latched := none })
  | none => s

theorem State.takeLatched_some {s : State} {c p : Nat} {x : Corr} (h : (s.chTim (32 * c + p)).latched = some x) :
    s.takeLatched c p = (s.setCorr c p x).modChTim (32 * c + p) (fun t => { t with latched := none }) := by
  simp only [State.takeLatched, h]

theorem State.takeLatched_none {s : State} {c p : Nat} (h : (s.chTim (32 * c + p)).latched = none) : s.takeLatched c p = s := by
  simp only [State.takeLatched, h]

theorem State.takeLatched_frame (s : State) {c p : Nat} (hc : c < 64) (hp : p < 1048576) : appliedOnly s (s.takeLatched c p) := by
  unfold State.takeLatched
  split
  · exact (appliedOnly_setCorr s _ hc hp).trans (appliedOnly_modChTim _ _ (fun _ => ⟨rfl, rfl⟩))
  · exact appliedOnly.refl s

/-- An apply boundary's part in the staged sets, and whether it changed active values. -/
def State.takeSnap (s : State) (c : Nat) : State × Bool :=
  match (s.coTim c).snap with
  | some t => (s.modCoTim c (fun x => { x with snap := none })).activate' c t
  | none => (s, false)

theorem State.takeSnap_frame (s : State) {c : Nat} (hc : c < 64) : appliedOnly s (s.takeSnap c).1 := by
  unfold State.takeSnap
  split
  · exact (appliedOnly_modCoTim s c _).trans (State.activate'_frame _ _ hc)
  · exact appliedOnly.refl s

theorem State.chTim_takeSnap (s : State) (c k : Nat) : (s.takeSnap c).1.chTim k = s.chTim k := by
  unfold State.takeSnap
  split
  · exact State.chTim_activate' _ c _ k
  · rfl

/-- A fold over a pair whose first part goes its own way. -/
theorem foldl_fst {σ β α : Type} {f : σ × β → α → σ × β} {g : σ → α → σ} (h : ∀ a x, (f a x).1 = g a.1 x) (a : σ × β) (l : List α) :
    (l.foldl f a).1 = l.foldl g a.1 := (List.foldl_hom Prod.fst (fun a x => (h a x).symm)).symm

/-- An apply boundary takes the snapshot, then each latched correction; TMG_STATUS.applied may be set. -/
theorem State.applyBoundary_eq (s : State) (c : Nat) :
    ∃ b, s.applyBoundary c =
      if b = true then ((List.range 32).foldl (fun s p => s.takeLatched c p) (s.takeSnap c).1).setBit F.TMG_STATUS_applied c 0 true
      else (List.range 32).foldl (fun s p => s.takeLatched c p) (s.takeSnap c).1 := by
  unfold State.applyBoundary
  split
  next t a ht =>
  split
  next u b hu =>
  have ht : s.takeSnap c = (t, a) := ht
  have hu : u = (List.range 32).foldl (fun s p => s.takeLatched c p) t := by
    refine (congrArg Prod.fst hu).symm.trans (foldl_fst (fun a p => ?_) _ _)
    split
    · next x hx => rw [State.takeLatched_some hx]
    · next hx => rw [State.takeLatched_none hx]
  rw [ht, hu]
  exact ⟨_, rfl⟩

theorem State.applyBoundary_frame (s : State) {c : Nat} (hc : c < 64) : appliedOnly s (s.applyBoundary c) := by
  have fold := List.foldlRecOn (motive := appliedOnly s) (List.range 32) (fun s p => s.takeLatched c p) (s.takeSnap_frame hc)
    (fun a ha p hp => ha.trans (a.takeLatched_frame hc (by have := List.mem_range.1 hp; omega)))
  obtain ⟨b, h⟩ := s.applyBoundary_eq c
  rw [h]
  split
  · exact fold.trans (appliedOnly_setBit _ true (by decide) (by decide) hc (by decide))
  · exact fold

theorem State.tmgTouch_frame (s : State) {c : Nat} (hc : c < 64) : appliedOnly s (s.tmgTouch c) := by
  unfold State.tmgTouch
  split
  · exact appliedOnly.refl s
  · exact (s.snapshot_frame c).trans (State.applyBoundary_frame _ hc)

/-! ### The correction in force after a boundary (R198, R199) -/

/-- The correction that a channel has after the next apply boundary. -/
def State.dueCorr (s : State) (c p : Nat) : Corr :=
  ((s.chTim (32 * c + p)).pend.orElse (fun _ => (s.chTim (32 * c + p)).latched)).getD (s.corrOf c p)

theorem State.dueCorr_congr {s t : State} {c p : Nat} (ht : t.chTim (32 * c + p) = s.chTim (32 * c + p)) (hc : t.corrOf c p = s.corrOf c p) :
    t.dueCorr c p = s.dueCorr c p := by
  simp [State.dueCorr, ht, hc]

theorem State.dueCorr_pend {s : State} {c p : Nat} {x : Corr} (h : (s.chTim (32 * c + p)).pend = some x) : s.dueCorr c p = x := by
  simp [State.dueCorr, h]

theorem State.dueCorr_latched {s : State} {c p : Nat} {x : Corr} (hp : (s.chTim (32 * c + p)).pend = none)
    (hl : (s.chTim (32 * c + p)).latched = some x) : s.dueCorr c p = x := by
  simp [State.dueCorr, hp, hl]

theorem State.dueCorr_corrOf {s : State} {c p : Nat} (hp : (s.chTim (32 * c + p)).pend = none)
    (hl : (s.chTim (32 * c + p)).latched = none) : s.dueCorr c p = s.corrOf c p := by
  simp [State.dueCorr, hp, hl]

/-- A fold keeps what every step keeps, and has what the step of one element brings and every step keeps. -/
theorem foldl_establishes {σ α : Type} {f : σ → α → σ} {I Q : σ → Prop} {l : List α} {a : α} (ha : a ∈ l)
    (hI : ∀ s, ∀ b ∈ l, I s → I (f s b)) (hQ : ∀ s, ∀ b ∈ l, I s → Q s → Q (f s b)) (hset : ∀ s, I s → Q (f s a)) {s : σ} (hs : I s) :
    I (l.foldl f s) ∧ Q (l.foldl f s) := by
  obtain ⟨l₁, l₂, rfl⟩ := List.append_of_mem ha
  rw [List.foldl_append, List.foldl_cons]
  have before : I (l₁.foldl f s) := List.foldlRecOn (motive := I) l₁ f hs (fun s h b hb => hI s b (by simp [hb]) h)
  exact List.foldlRecOn (motive := fun s => I s ∧ Q s) l₂ f ⟨hI _ a ha before, hset _ before⟩
    (fun s h b hb => ⟨hI s b (by simp [hb]) h.1, hQ s b (by simp [hb]) h.1 h.2⟩)

theorem State.dueCorr_latchPend (s : State) (c p j : Nat) : (s.latchPend c p).dueCorr c j = s.dueCorr c j := by
  cases hx : (s.chTim (32 * c + p)).pend with
  | none => rw [State.latchPend_none hx]
  | some x =>
    rw [State.latchPend_some hx]
    by_cases h : j = p
    · subst h
      rw [State.dueCorr_pend hx]
      exact State.dueCorr_latched (by rw [State.chTim_modChTim_same]) (by rw [State.chTim_modChTim_same])
    · exact State.dueCorr_congr (State.chTim_modChTim_other _ _ (by omega)) rfl

theorem State.pend_latchPend_same (s : State) (c p : Nat) : ((s.latchPend c p).chTim (32 * c + p)).pend = none := by
  cases hx : (s.chTim (32 * c + p)).pend with
  | none => rw [State.latchPend_none hx, hx]
  | some x => rw [State.latchPend_some hx, State.chTim_modChTim_same]

theorem State.pend_latchPend_keeps {s : State} {k : Nat} (h : (s.chTim k).pend = none) (c p : Nat) :
    ((s.latchPend c p).chTim k).pend = none := by
  by_cases hk : k = 32 * c + p
  · rw [hk, State.pend_latchPend_same]
  · cases hx : (s.chTim (32 * c + p)).pend with
    | none => rw [State.latchPend_none hx, h]
    | some x => rw [State.latchPend_some hx, State.chTim_modChTim_other _ _ hk, h]

/-- A snapshot leaves no correction of its Course pending, and each channel's due correction as it was. -/
theorem State.snapshot_latches (s : State) (c : Nat) {p : Nat} (hp : p < 32) :
    (s.snapshot c).dueCorr c p = s.dueCorr c p ∧ ((s.snapshot c).chTim (32 * c + p)).pend = none := by
  rw [State.snapshot_eq]
  exact foldl_establishes (I := fun t : State => t.dueCorr c p = s.dueCorr c p)
    (Q := fun t : State => (t.chTim (32 * c + p)).pend = none)
    (List.mem_range.2 hp) (fun t b _ h => (t.dueCorr_latchPend c b p).trans h) (fun t b _ _ h => State.pend_latchPend_keeps h c b)
    (fun t _ => t.pend_latchPend_same c p) rfl

theorem State.chTim_takeLatched_other (s : State) {c p k : Nat} (h : k ≠ 32 * c + p) : (s.takeLatched c p).chTim k = s.chTim k := by
  cases hx : (s.chTim (32 * c + p)).latched with
  | none => rw [State.takeLatched_none hx]
  | some x => rw [State.takeLatched_some hx, State.chTim_modChTim_other _ _ h]; rfl

theorem State.corrOf_takeLatched_other (s : State) {c p j : Nat} (hc : c < 64) (hp : p < 1048576) (hj : j < 1048576) (h : j ≠ p) :
    (s.takeLatched c p).corrOf c j = s.corrOf c j := by
  cases hx : (s.chTim (32 * c + p)).latched with
  | none => rw [State.takeLatched_none hx]
  | some x =>
    rw [State.takeLatched_some hx]
    exact s.corrOf_setCorr_other x hc hp hj h

/-- A channel whose due correction is `x`, and waits for a boundary only. -/
structure State.corrWaits (s : State) (c p : Nat) (x : Corr) : Prop where
  pend : (s.chTim (32 * c + p)).pend = none
  due : s.dueCorr c p = x

theorem State.takeLatched_same {s : State} {c p : Nat} {x : Corr} (h : s.corrWaits c p x) (hc : c < 64) (hp : p < 1048576) (hx : x.fits16) :
    (s.takeLatched c p).corrWaits c p x ∧ ((s.takeLatched c p).chTim (32 * c + p)).latched = none := by
  obtain ⟨hpend, hdue⟩ := h
  cases hl : (s.chTim (32 * c + p)).latched with
  | none => rw [State.takeLatched_none hl]; exact ⟨⟨hpend, hdue⟩, hl⟩
  | some y =>
    obtain rfl : y = x := (State.dueCorr_latched hpend hl).symm.trans hdue
    rw [State.takeLatched_some hl]
    have pend : (((s.setCorr c p y).modChTim (32 * c + p) (fun t => { t with latched := none })).chTim (32 * c + p)).pend = none := by
      rw [State.chTim_modChTim_same]
      exact hpend
    have latched : (((s.setCorr c p y).modChTim (32 * c + p) (fun t => { t with latched := none })).chTim (32 * c + p)).latched = none := by
      rw [State.chTim_modChTim_same]
    exact ⟨⟨pend, (State.dueCorr_corrOf pend latched).trans (s.corrOf_setCorr_same hc hp hx)⟩, latched⟩

theorem State.takeLatched_other {s : State} {c p j : Nat} {x : Corr} (h : s.corrWaits c j x) (hc : c < 64) (hp : p < 1048576)
    (hj : j < 1048576) (hne : j ≠ p) : (s.takeLatched c p).corrWaits c j x := by
  have same := s.chTim_takeLatched_other (c := c) (p := p) (k := 32 * c + j) (by omega)
  exact ⟨by rw [same, h.pend], (State.dueCorr_congr same (s.corrOf_takeLatched_other hc hp hj hne)).trans h.due⟩

theorem State.corrOf_setBit (s : State) {f : Fld} {c p i n : Nat} (b : Bool) (hf : f.place ∉ corrPlaces) (ho : f.off < 65536 ∧ f.lo < 32)
    (hi : i < 64) (hn : n < 1048576) (hc : c < 64) (hp : p < 1048576) : (s.setBit f i n b).corrOf c p = s.corrOf c p :=
  State.corrOf_congr (fun _ hg hgo => State.fld_setFld_place s b.toNat (fun h => hf (h ▸ hg)) ho hgo hi hn hc hp)

theorem State.corrOf_takeSnap (s : State) {c p : Nat} (hc : c < 64) (hp : p < 1048576) : (s.takeSnap c).1.corrOf c p = s.corrOf c p := by
  unfold State.takeSnap
  split
  · next copy _ =>
    obtain ⟨a, h | h⟩ := (s.modCoTim c (fun x => { x with snap := none })).activate'_eq c copy <;> rw [h]
    · rfl
    · exact State.corrOf_setBit _ true (by decide) (by decide) hc (by decide) hc hp
  · rfl

/-- An apply boundary puts a channel's due correction in force. -/
theorem State.applyBoundary_corrOf {s : State} {c p : Nat} {x : Corr} (h : s.corrWaits c p x) (hc : c < 64) (hp : p < 32) (hx : x.fits16) :
    (s.applyBoundary c).corrOf c p = x := by
  have start : (s.takeSnap c).1.corrWaits c p x :=
    ⟨by rw [State.chTim_takeSnap, h.pend],
      (State.dueCorr_congr (s.chTim_takeSnap c _) (s.corrOf_takeSnap hc (by omega))).trans h.due⟩
  have step : ∀ t : State, ∀ j ∈ List.range 32, t.corrWaits c p x → (t.takeLatched c j).corrWaits c p x := by
    intro t j hj ht
    by_cases hjp : p = j
    · subst hjp
      exact (State.takeLatched_same ht hc (by omega) hx).1
    · exact State.takeLatched_other ht hc (by have := List.mem_range.1 hj; omega) (by omega) hjp
  have keep : ∀ t : State, ∀ j ∈ List.range 32, t.corrWaits c p x → (t.chTim (32 * c + p)).latched = none →
      ((t.takeLatched c j).chTim (32 * c + p)).latched = none := by
    intro t j _ ht hl
    by_cases hjp : p = j
    · subst hjp
      exact (State.takeLatched_same ht hc (by omega) hx).2
    · rw [State.chTim_takeLatched_other _ (by omega), hl]
  obtain ⟨⟨pend, due⟩, latched⟩ := foldl_establishes (f := fun (s : State) p => s.takeLatched c p) (List.mem_range.2 hp) step keep
    (fun t ht => (State.takeLatched_same ht hc (by omega) hx).2) start
  have done := (State.dueCorr_corrOf pend latched).symm.trans due
  obtain ⟨b, hb⟩ := s.applyBoundary_eq c
  rw [hb]
  split
  · exact (State.corrOf_setBit _ true (by decide) (by decide) hc (by decide) hc (by omega)).trans done
  · exact done

/-- On a Course that streams nothing every instant is an apply boundary. -/
theorem State.tmgTouch_corrOf {s : State} {c p : Nat} (h : s.streaming c = false) (hc : c < 64) (hp : p < 32)
    (hx : (s.dueCorr c p).fits16) : (s.tmgTouch c).corrOf c p = s.dueCorr c p := by
  obtain ⟨due, pend⟩ := s.snapshot_latches c hp
  unfold State.tmgTouch
  rw [h, if_neg (by decide)]
  exact State.applyBoundary_corrOf ⟨pend, due⟩ hc hp hx

theorem State.dueCorr_takeTimCorr {s : State} {c p : Nat} {x : Corr} (h : (s.chTim (32 * c + p)).pend = some x) (hc : c < 64)
    (hp : p < 1048576) (hx : x.fits16) : (s.takeTimCorr c p).dueCorr c p = x := by
  simp only [State.takeTimCorr, h]
  split
  · exact State.dueCorr_pend h
  · refine (State.dueCorr_corrOf ?_ ?_).trans (s.corrOf_setCorr_same hc hp hx) <;> rw [State.chTim_modChTim_same]

/-- On a Course that streams nothing a complete correction set is due at the next boundary. -/
theorem State.dueCorr_pendCorr {s : State} {c p : Nat} {x : Corr} (hs : s.streaming c = false)
    (h : ((s.factory c p).add (s.chTim (32 * c + p)).plumb).add (s.chTim (32 * c + p)).temp = x) (hc : c < 64) (hp : p < 1048576)
    (hx : x.fits16) : (s.pendCorr c p).dueCorr c p = x := by
  have snap : s.preSnap c = s := by simp [State.preSnap, hs]
  unfold State.pendCorr
  rw [snap]
  refine State.dueCorr_takeTimCorr ?_ hc hp hx
  rw [State.chTim_modChTim_same, ← h]

/-! ### The Keystone judges a candidate (R197) -/

/-- An accepted candidate, noted. -/
def State.acceptPlumb (s : State) (c p : Nat) (x : Corr) : State :=
  (s.modChTim (32 * c + p) (fun t => { t with
    cand := none, plumb := (x.sub (s.factory c p)).sub t.temp, acceptedAt := some s.now, acceptedLoc := some s.tb.loc })).setFld
      F.TMG_PLUMB_last_result c p 1

/-- A rejected candidate, noted and counted. -/
def State.rejectPlumb (s : State) (c p : Nat) : State :=
  ((s.modChTim (32 * c + p) (fun t => { t with cand := none, rejects := t.rejects + 1 })).setFld F.TMG_PLUMB_last_result c p 2).setBit
    F.TMG_STATUS_plumb_reject c 0 true

/-- PLUMB_CANDIDATE_CHECK of a candidate within both windows. -/
theorem exec_plumbCandidateCheck_accepted {s : State} {c p : Nat} {x : Corr} (hc : c < 32) (hp : p < 32) (hr : s.ks.running = true)
    (ho : s.ks.outage = false) (hx : (s.chTim (32 * c + p)).cand = some x) (hf : x.near (s.factory c p) 204 = true)
    (hi : x.near (s.corrOf c p) 33 = true) :
    exec (.plumbCandidateCheck c p) s = .next (((s.acceptPlumb c p x).pendCorr c p).tmgTouch c) := by
  show execPlumbCandidateCheck c p s = _
  unfold execPlumbCandidateCheck
  rw [if_neg (by simp [hr, ho, hc, hp])]
  simp only [hx, hf, hi]
  rfl

/-- PLUMB_CANDIDATE_CHECK of a candidate outside one window. -/
theorem exec_plumbCandidateCheck_rejected {s : State} {c p : Nat} {x : Corr} (hc : c < 32) (hp : p < 32) (hr : s.ks.running = true)
    (ho : s.ks.outage = false) (hx : (s.chTim (32 * c + p)).cand = some x)
    (hout : x.near (s.factory c p) 204 = false ∨ x.near (s.corrOf c p) 33 = false) :
    exec (.plumbCandidateCheck c p) s = .next ((s.rejectPlumb c p).report 55 sevAdvisory (detail clsPin (32 * c + p))) := by
  show execPlumbCandidateCheck c p s = _
  unfold execPlumbCandidateCheck
  rw [if_neg (by simp [hr, ho, hc, hp])]
  simp only [hx]
  rw [Bool.and_eq_false_iff.2 hout]
  rfl

theorem State.acceptPlumb_chTim (s : State) (c p : Nat) (x : Corr) :
    (s.acceptPlumb c p x).chTim (32 * c + p) = { s.chTim (32 * c + p) with
      cand := none, plumb := (x.sub (s.factory c p)).sub (s.chTim (32 * c + p)).temp, acceptedAt := some s.now
      acceptedLoc := some s.tb.loc } := by
  rw [State.acceptPlumb, State.chTim_setFld, State.chTim_modChTim_same]

theorem State.acceptPlumb_fld (s : State) {c p i n : Nat} (x : Corr) {g : Fld} (h : g.place ≠ F.TMG_PLUMB_last_result.place)
    (hg : g.off < 65536 ∧ g.lo < 32) (hc : c < 64) (hp : p < 1048576) (hi : i < 64) (hn : n < 1048576) :
    (s.acceptPlumb c p x).fld g i n = s.fld g i n :=
  State.fld_setFld_place _ _ h (by decide) hg hc hp hi hn

theorem State.acceptPlumb_sameBut (s : State) {c p : Nat} (x : Corr) (hc : c < 64) (hp : p < 1048576) :
    sameBut [0x07] s (s.acceptPlumb c p x) :=
  sameBut_setFld (f := F.TMG_PLUMB_last_result) _ _ (by decide) hc hp

theorem State.acceptPlumb_factory (s : State) {c p : Nat} (x : Corr) (hc : c < 64) (hp : p < 1048576) :
    (s.acceptPlumb c p x).factory c p = s.factory c p := by
  have spare : (s.acceptPlumb c p x).spareAt c p = s.spareAt c p := by
    unfold State.spareAt State.bit
    rw [s.acceptPlumb_fld x (by decide) (by decide) hc hp hc (by decide), s.acceptPlumb_fld x (by decide) (by decide) hc hp hc (by decide)]
  unfold State.factory State.path
  rw [spare]
  rfl

/-- Factory values, Plumb part and temperature part of an accepted candidate add up to the candidate. -/
theorem Corr.parts_add (f x t : Corr) : (f.add ((x.sub f).sub t)).add t = x := by
  cases x
  simp only [Corr.add, Corr.sub, Corr.mk.injEq]
  omega

/-- On a Course that streams nothing an accepted candidate is the correction in force. -/
theorem State.acceptPlumb_corrOf {s : State} {c p : Nat} {x : Corr} (hs : s.streaming c = false) (hc : c < 64) (hp : p < 32)
    (hx : x.fits16) : (((s.acceptPlumb c p x).pendCorr c p).tmgTouch c).corrOf c p = x := by
  have still : (s.acceptPlumb c p x).streaming c = false := by
    unfold State.streaming State.bit at *
    rw [s.acceptPlumb_fld x (by decide) (by decide) hc (by omega) hc (by decide), hs]
  have still' : ((s.acceptPlumb c p x).pendCorr c p).streaming c = false := by
    unfold State.streaming State.bit at *
    rw [(State.pendCorr_frame _ hc (by omega)).flds _ _ _ (by decide) hc (by decide) (by decide), still]
  have due : ((s.acceptPlumb c p x).pendCorr c p).dueCorr c p = x := by
    refine State.dueCorr_pendCorr still ?_ hc (by omega) hx
    rw [s.acceptPlumb_factory x hc (by omega), s.acceptPlumb_chTim]
    exact Corr.parts_add _ _ _
  rw [State.tmgTouch_corrOf still' hc hp (due.symm ▸ hx), due]

theorem State.rejectPlumb_sameBut (s : State) {c p : Nat} (hc : c < 64) (hp : p < 1048576) : sameBut [0x07] s (s.rejectPlumb c p) :=
  ((sameBut_setFld (f := F.TMG_PLUMB_last_result) (s.modChTim _ _) _ (by decide) hc hp).trans
    (sameBut_setBit (f := F.TMG_STATUS_plumb_reject) _ true (by decide) hc (by decide))).mono (by decide)

theorem State.rejectPlumb_chTim (s : State) (c p : Nat) :
    (s.rejectPlumb c p).chTim (32 * c + p) =
      { s.chTim (32 * c + p) with cand := none, rejects := (s.chTim (32 * c + p)).rejects + 1 } := by
  rw [State.rejectPlumb, State.chTim_setBit, State.chTim_setFld, State.chTim_modChTim_same]

theorem State.rejectPlumb_last (s : State) {c p : Nat} (hc : c < 64) (hp : p < 1048576) :
    (s.rejectPlumb c p).fld F.TMG_PLUMB_last_result c p = 2 := by
  unfold State.rejectPlumb
  rw [State.fld_setBit, State.fld_setFld_place _ _ (by decide) (by decide) (by decide) hc (by decide) hc hp, State.fld_setFld_same]
  rfl

/-- A rejection leaves the correction in force as it is. -/
theorem State.rejectPlumb_corrOf (s : State) {c p : Nat} (hc : c < 64) (hp : p < 1048576) :
    (s.rejectPlumb c p).corrOf c p = s.corrOf c p := by
  refine State.corrOf_congr (fun f hf ho => ?_)
  unfold State.rejectPlumb
  have apart : ∀ g : Fld, g.place ∉ corrPlaces → f.place ≠ g.place := fun g hg h => hg (h ▸ hf)
  rw [State.fld_setBit, State.fld_setFld_place _ _ (apart _ (by decide)) (by decide) ho hc (by decide) hc hp,
    State.fld_setFld_place _ _ (apart _ (by decide)) (by decide) ho hc hp hc hp]
  rfl

/-! ### Gaps and self-checks (R28, R30) -/

/-- A wait for a local instant changes the time base alone. -/
theorem State.reachLoc_frame (s : State) (t : Nat) : s.reachLoc t = { s with tb := (s.reachLoc t).tb } := rfl

/-- PLUMB_GAP_TIMEOUT with no record due. -/
theorem exec_plumbGapTimeout_none {s m : State} {c p : Nat} (hc : c < 32) (hp : p ≤ 32)
    (hm : m = s.reachLoc (max (Tbl.get s.ks.gapAt 0 c) (Tbl.get s.ks.lastGap 0 (33 * c + p)) + ms 60000)) (hd : m.dueSoon c = false) :
    exec (.plumbGapTimeout c p) s = .next (m.noteGap c) := by
  show execPlumbGapTimeout c p s = _
  unfold execPlumbGapTimeout
  rw [if_neg (by omega), ← hm]
  simp [hd]

/-- A report of a channel's missing gap, noted. -/
def State.toldGap (s : State) (c p : Nat) : State :=
  { s with ks := { s.ks with lastGap := Tbl.put s.ks.lastGap (33 * c + p) s.tb.loc } }

/-- PLUMB_GAP_TIMEOUT while a record is due. -/
theorem exec_plumbGapTimeout_due {s m : State} {c p : Nat} (hc : c < 32) (hp : p ≤ 32)
    (hm : m = s.reachLoc (max (Tbl.get s.ks.gapAt 0 c) (Tbl.get s.ks.lastGap 0 (33 * c + p)) + ms 60000)) (hd : m.dueSoon c = true) :
    exec (.plumbGapTimeout c p) s = .next ((m.toldGap c p).report 55 sevAdvisory (detail clsPin (if p < 32 then 32 * c + p else 1024 + c))) := by
  show execPlumbGapTimeout c p s = _
  unfold execPlumbGapTimeout
  rw [if_neg (by omega), ← hm]
  simp only [hd]
  rfl

/-- COMPARATOR_SELF_CHECK takes a channel that is free. -/
theorem exec_comparatorSelfCheck_start {s : State} {c p : Nat} (hc : c < 32) (hp : p ≤ 32) (hg : s.gapFree c p = true)
    (he : s.bit F.PCH_CTRL_selfchk_en c = true) (hs : s.streaming c = false) :
    exec (.comparatorSelfCheck c p none) s = .next (s.beginCheck c p 1) := by
  show execComparatorSelfCheck c p none s = _
  unfold execComparatorSelfCheck
  rw [if_neg (by omega)]
  simp [hg, he, hs]

/-- A self-check that nothing has abandoned, over. -/
def State.endSelf (s : State) (c p : Nat) : State :=
  let s := s.endCheck c p
  { s with ks := { s.ks with lastSelf := Tbl.put s.ks.lastSelf (33 * c + p) s.tb.loc } }

/-- COMPARATOR_SELF_CHECK ends a check with its result. -/
theorem exec_comparatorSelfCheck_end {s : State} {c p : Nat} {k : ChanCheck} (fail : Bool) (hc : c < 32) (hp : p ≤ 32)
    (hk : Tbl.find s.ks.checks (33 * c + p) = some k) (h1 : k.kind = 1) (hr : k.restore = none) :
    exec (.comparatorSelfCheck c p (some fail)) s = .next (if fail = true then
      ((s.endSelf c p).setBit F.PCH_STATUS_selfchk_fail c 0 true).report c sevDegraded
        (detail clsPin (if p < 32 then 32 * c + p else 1024 + c))
      else s.endSelf c p) := by
  show execComparatorSelfCheck c p (some fail) s = _
  unfold execComparatorSelfCheck
  rw [if_neg (by omega)]
  simp only [hk, h1, hr]
  cases fail <;> rfl

end Sys2Proof.Machine
end

section
open Sys2Proof Sys2Proof.Machine

/-- Settles O23: each command is one of the `exec_` lemmas above, and what it leaves alone is the frame of its operations. -/
theorem plumbAndSelfChecks : Obligations.PlumbAndSelfChecks := by
  unfold Obligations.PlumbAndSelfChecks
  refine ⟨?_, ?_, ?_, ?_, ?_, ?_, ?_, ?_⟩
  · intro s c p hc hp hm
    have frame := s.settleEdges_frame c
    refine ⟨_, exec_plumbCheckStart hc hp hm, (State.find_beginCheck _ c p 0).trans ?_, ?_⟩
    · rw [frame]
    · rw [frame]
      rfl
  · intro s c p r f m k hp hk h0 hr
    exact ⟨_, exec_plumbCheckComplete r f m hp hk h0 hr, s.find_endCheck c p, State.chTim_modChTim_same _ _ _, rfl⟩
  · intro s c p x hc hp hrun hout hx hf hi
    have hc' : c < 64 := by omega
    have hp' : p < 1048576 := by omega
    have frame := (State.pendCorr_frame (s.acceptPlumb c p x) hc' hp').trans (State.tmgTouch_frame _ hc')
    obtain ⟨cand, accepted⟩ := frame.judged (32 * c + p)
    refine ⟨_, exec_plumbCandidateCheck_accepted hc hp hrun hout hx hf hi, ?_, ?_, ?_, ?_, frame.rest_of rfl, ?_⟩
    · rw [cand, s.acceptPlumb_chTim]
    · rw [accepted, s.acceptPlumb_chTim]
    · rw [frame.flds F.TMG_PLUMB_last_result c p (by decide) hc' hp' (by decide)]
      exact State.fld_setFld_same _ _ _ _ _
    · intro hs hr hr' hf hf' hm hm'
      exact State.acceptPlumb_corrOf hs hc' hp ⟨⟨hr, hr'⟩, ⟨hf, hf'⟩, hm, hm'⟩
    · exact ((s.acceptPlumb_sameBut x hc' hp').trans frame.sameBut).mono (by decide)
  · intro s c p x hc hp hrun hout hx hfar
    have hc' : c < 64 := by omega
    have hp' : p < 1048576 := by omega
    have told := (s.rejectPlumb c p).report_frame 55 sevAdvisory (detail clsPin (32 * c + p))
    obtain ⟨-, tmg, -⟩ := told.keeps
    have last := told.2 F.TMG_PLUMB_last_result c p (by decide) (by decide) hc' hp' (by decide)
    refine ⟨_, exec_plumbCandidateCheck_rejected hc hp hrun hout hx hfar, ?_, last.trans (s.rejectPlumb_last hc' hp'),
      State.bit_setBit_report _ _ _ _ rfl (by decide) hc' (by decide) (by decide), State.report_srcSet_of _ _ (by decide) rfl, ?_, ?_,
      (s.rejectPlumb_sameBut hc' hp').trans told.2⟩
    · rw [State.chTim, tmg]
      exact s.rejectPlumb_chTim c p
    · refine (State.corrOf_congr (fun f hf ho => ?_)).trans (s.rejectPlumb_corrOf hc' hp')
      have blocks : ∀ x ∈ corrPlaces, x.1 ∉ [0x15] := by decide
      exact told.2 f c p ho.1 ho.2 hc' hp' (blocks _ hf)
    · rw [told.1]
      rfl
  · intro s m c p hc hp hm hd
    have waited : m = { s with tb := m.tb } := hm ▸ s.reachLoc_frame _
    obtain ⟨g, hg⟩ := m.noteGap_eq c
    refine ⟨_, exec_plumbGapTimeout_none hc hp hm hd, ?_, ?_, ?_, ?_⟩ <;> rw [hg, waited]
  · intro s m c p hc hp hm hd
    have waited : m = { s with tb := m.tb } := hm ▸ s.reachLoc_frame _
    have told := (m.toldGap c p).report_frame 55 sevAdvisory (detail clsPin (if p < 32 then 32 * c + p else 1024 + c))
    obtain ⟨tb, -, ks⟩ := told.keeps
    have before : m.toldGap c p = { s with ks := (m.toldGap c p).ks, tb := m.tb } := by
      rw [State.toldGap, waited]
    refine ⟨_, exec_plumbGapTimeout_due hc hp hm hd, tb, ?_, State.report_srcSet_of _ _ (by decide) (by rw [before]), ?_,
      (sameBut_of_regs (by rw [before]) []).trans told.2⟩
    · rw [ks, tb]
      exact Tbl.get_put_same _ _ _ _
    · rw [told.1, before]
  · intro s c p hc hp hg he hs
    exact ⟨_, exec_comparatorSelfCheck_start hc hp hg he hs, s.find_beginCheck c p 1, rfl⟩
  · intro s c p fail k hc hp hk h1 hr
    refine ⟨_, exec_comparatorSelfCheck_end fail hc hp hk h1 hr, ?_⟩
    cases fail with
    | false =>
      exact ⟨s.find_endCheck c p, Tbl.get_put_same _ _ _ _, fun _ => rfl, fun h => absurd h (by decide), rfl, sameBut_of_regs rfl _⟩
    | true =>
      have told := State.report_frame ((s.endSelf c p).setBit F.PCH_STATUS_selfchk_fail c 0 true) c sevDegraded
        (detail clsPin (if p < 32 then 32 * c + p else 1024 + c))
      obtain ⟨-, -, ks⟩ := told.keeps
      have noted : sameBut [0x06] s ((s.endSelf c p).setBit F.PCH_STATUS_selfchk_fail c 0 true) :=
        sameBut_setBit (f := F.PCH_STATUS_selfchk_fail) (s.endSelf c p) true (by decide) (by omega) (by decide)
      refine ⟨?_, ?_, fun h => absurd h (by decide), fun _ => ⟨?_, State.report_srcSet_of _ _ (by omega) rfl⟩, ?_, noted.trans told.2⟩
      · rw [if_pos rfl, ks]
        exact s.find_endCheck c p
      · rw [if_pos rfl, ks]
        exact Tbl.get_put_same _ _ _ _
      · exact State.bit_setBit_report _ _ _ _ rfl (by decide) (by omega) (by decide) (by decide)
      · rw [if_pos rfl, told.1]
        rfl
end

section
/-! SUPPORT. Proofs: what registers read right after reset (R498), and why ResetState fails over every Fld. -/

namespace Sys2Proof.Machine

/-! ### Reads right after reset -/

/-- Nothing is listed in the register table, so the Reset value shows, cut to the field's width. -/
@[simp] theorem State.fld_reset (f : Fld) (i n : Nat) : State.reset.fld f i n = rstVal f i n % 2 ^ f.wid := rfl

/-- The active set lists nothing either. -/
@[simp] theorem State.actFld_reset (f : Fld) (i n : Nat) : State.reset.actFld f i n = rstVal f i n % 2 ^ f.wid := rfl

/-- A field reads its Reset value right after reset exactly where that value fits the field. -/
theorem State.fld_reset_eq_rstVal_iff (f : Fld) (i n : Nat) : State.reset.fld f i n = rstVal f i n ↔ rstVal f i n < 2 ^ f.wid := by
  rw [State.fld_reset]
  exact ⟨fun h => h ▸ Nat.mod_lt _ (Nat.two_pow_pos _), Nat.mod_eq_of_lt⟩

/-! ### The registers of the maps: every Reset value fits its field -/

/-- The greatest Reset value a field takes anywhere in its row; `8c + t` and `0x1000 × t` are bounded only where
no selection field chooses the element. -/
def RegRow.rstMax (r : RegRow) (f : Fld) : Option Nat :=
  match f.rst with
  | .k v => some v
  | .course => some r.iHi
  | .site => if r.win = .none then some (8 * r.iHi + (r.cnt - 1)) else none
  | .region => if r.win = .none then some (0x1000 * (r.cnt - 1)) else none
  | .chan => some 31
  | .edge => some 3072

/-- Every field of the row is wide enough for its greatest Reset value. -/
def RegRow.resetFits (r : RegRow) : Bool := r.fields.all (fun f => (r.rstMax f).any (fun m => decide (m < 2 ^ f.wid)))

theorem blockRows_resetFits (blk : Nat) : (blockRows blk).all RegRow.resetFits = true := by
  unfold blockRows
  split <;> decide

/-- What an address finds lies in the row: its block and its element. -/
theorem RegRow.elementAt_bounds {r : RegRow} {i off e : Nat} (h : r.elementAt i off = some e) : i ≤ r.iHi ∧ e ≤ r.cnt - 1 := by
  unfold RegRow.elementAt at h
  split at h
  · cases h
  next hi =>
    simp only [Bool.or_eq_true, decide_eq_true_eq, not_or, Nat.not_lt] at hi
    obtain ⟨⟨-, last⟩, -⟩ := hi
    refine ⟨last, ?_⟩
    split at h
    · split at h
      next => cases h; exact Nat.zero_le _
      next => cases h
    · split at h
      next hc =>
        simp only [Bool.and_eq_true, decide_eq_true_eq] at hc
        cases h
        exact Nat.le_sub_one_of_lt hc.2
      next => cases h

theorem findReg_bounds {blk i off e : Nat} {r : RegRow} (h : findReg blk i off = some (r, e)) :
    r ∈ blockRows blk ∧ i ≤ r.iHi ∧ e ≤ r.cnt - 1 := by
  obtain ⟨r', hr, h⟩ := List.exists_of_findSome?_eq_some h
  obtain ⟨e', he, hp⟩ := Option.map_eq_some_iff.1 h
  cases hp
  exact ⟨hr, RegRow.elementAt_bounds he⟩

/-- The greatest Reset value bounds that of the element shown, whatever the selection fields hold. -/
theorem rstVal_le_rstMax {r : RegRow} {f : Fld} {i e m : Nat} (hm : r.rstMax f = some m) (hi : i ≤ r.iHi) (he : e ≤ r.cnt - 1) (s : State) :
    rstVal f i (s.shown r.win i e) ≤ m := by
  unfold RegRow.rstMax at hm
  unfold rstVal
  cases hv : f.rst with simp only [hv] at hm ⊢
  | k v => exact Nat.le_of_eq (Option.some.inj hm)
  | course => exact Option.some.inj hm ▸ hi
  | site =>
    obtain ⟨hw, hm⟩ := Option.ite_none_right_eq_some.1 hm
    cases hm
    simp only [hw, State.shown]
    omega
  | region =>
    obtain ⟨hw, hm⟩ := Option.ite_none_right_eq_some.1 hm
    cases hm
    simp only [hw, State.shown]
    omega
  | chan =>
    cases hm
    omega
  | edge =>
    cases hm
    split <;> omega

/-- What reset leaves, over the registers of the maps (R498): every field of a register that an address finds holds its Reset value right
after reset and has it active, in whatever element the selection fields show. -/
theorem State.reset_registers {blk i off e : Nat} {r : RegRow} (h : findReg blk i off = some (r, e)) {f : Fld} (hf : f ∈ r.fields) (s : State) :
    State.reset.fld f i (s.shown r.win i e) = rstVal f i (s.shown r.win i e) ∧
      State.reset.actFld f i (s.shown r.win i e) = rstVal f i (s.shown r.win i e) := by
  obtain ⟨hr, hi, he⟩ := findReg_bounds h
  have fits := List.all_eq_true.1 (List.all_eq_true.1 (blockRows_resetFits blk) r hr) f hf
  obtain ⟨m, hm, hlt⟩ := (Option.any_eq_true _ _).1 fits
  have below := Nat.lt_of_le_of_lt (rstVal_le_rstMax hm hi he s) (of_decide_eq_true hlt)
  have held := (State.fld_reset_eq_rstVal_iff f i _).2 below
  exact ⟨held, held⟩

/-- The rest of what reset leaves: Safe (R139), nothing waiting, sent, listed or reported (log entries 4 and 33). -/
theorem State.reset_quiet :
    State.reset.md.mode = .safe ∧ State.reset.pending = [] ∧ State.reset.out = [] ∧ State.reset.mem = [] ∧
      State.reset.adp.sessions = [] ∧ State.reset.bonds = [] ∧ State.reset.faultMask = 0 :=
  ⟨rfl, rfl, rfl, rfl, rfl, rfl, rfl⟩

/-- The register maps end at Course 31: the five bits of a thread's home Course read 0 for a Course 32, whose Reset value would be 32. -/
theorem State.fld_reset_homeCourse_32 :
    State.reset.fld F.SEQ_TCFG_home_course 32 0 = 0 ∧ rstVal F.SEQ_TCFG_home_course 32 0 = 32 := by
  decide

end Sys2Proof.Machine
end

section
open Sys2Proof Sys2Proof.Machine

/-- Refutes O2: it takes in every Fld at any numbers, and a Reset value that does not fit its field is read cut to the width, as the
home Course of a Course 32 shows. For the registers that the maps hold, the words are State.reset_registers;
the other parts stand (State.reset_quiet). -/
theorem not_resetState : ¬ Obligations.ResetState := by
  unfold Obligations.ResetState
  rintro ⟨fields, -⟩
  obtain ⟨read, reset⟩ := State.fld_reset_homeCourse_32
  have held := (fields F.SEQ_TCFG_home_course 32 0).1
  rw [read, reset] at held
  omega
end
